-- ==== Sys2Proof/Word.lean ====
section
/-!
DEFINITION. Words, bit fields of numbers, and sparse tables.

A register field is a number below two to its width; a table is a list of (key, value) pairs with keys
strictly rising, so equal tables are equal data.
-/

namespace Sys2Proof

/-- A 32-bit register word on the bus (R9). -/
abbrev Word := BitVec 32

/-- A sparse table: keys strictly rising, one entry a key. -/
abbrev Tbl (α : Type) := List (Nat × α)

namespace Tbl

variable {α : Type}

/-- The value at key `k`, if one is listed. -/
def get? : Tbl α → Nat → Option α
  | [], _ => none
  | (k', v) :: r, k => if k' = k then some v else get? r k

/-- The value at key `k`, or `d` where none is listed. -/
def getD (t : Tbl α) (k : Nat) (d : α) : α := (t.get? k).getD d

/-- `t` with `v` at key `k`, in key order. -/
def set : Tbl α → Nat → α → Tbl α
  | [], k, v => [(k, v)]
  | (k', v') :: r, k, v =>
    if k < k' then (k, v) :: (k', v') :: r
    else if k = k' then (k, v) :: r
    else (k', v') :: set r k v

/-- `t` without key `k`. -/
def erase (t : Tbl α) (k : Nat) : Tbl α := t.filter (fun p => p.1 ≠ k)

/-- `t` with `v` at `k`, where an unlisted key reads as `d`: a value equal to `d` is not listed. -/
def put [DecidableEq α] (d : α) (t : Tbl α) (k : Nat) (v : α) : Tbl α :=
  if v = d then t.erase k else t.set k v

/-- `t` with the entry at `k`, if there is one, changed by `f`. -/
def modify (t : Tbl α) (k : Nat) (f : α → α) : Tbl α :=
  match t.get? k with
  | some v => t.set k (f v)
  | none => t

/-- Write an optional value: `none` removes the key. -/
def setOpt (t : Tbl α) (k : Nat) : Option α → Tbl α
  | some v => t.set k v
  | none => t.erase k

/-- The keys listed. -/
def keys (t : Tbl α) : List Nat := t.map (·.1)

/-- The values listed, in key order. -/
def vals (t : Tbl α) : List α := t.map (·.2)

/-- The canonical form: keys strictly rising. -/
def Sorted (t : Tbl α) : Prop := t.Pairwise (fun a b => a.1 < b.1)

end Tbl

/-- Bits `[lo + w - 1 : lo]` of `x`. -/
def bits (x lo w : Nat) : Nat := (x >>> lo) % 2 ^ w

/-- Bit `i` of `x`. -/
def bit (x i : Nat) : Bool := x.testBit i

/-- 1 for true, 0 for false. -/
def b2n (b : Bool) : Nat := if b then 1 else 0

/-- The signed value of a `w`-bit two's complement number. -/
def signed (w x : Nat) : Int := if x % 2 ^ w < 2 ^ (w - 1) then (x % 2 ^ w : Nat) else (x % 2 ^ w : Nat) - (2 ^ w : Nat)

/-- The `w`-bit two's complement pattern of `x`. -/
def unsign (w : Nat) (x : Int) : Nat := (x % (2 ^ w : Nat)).toNat

/-- An integer cut off at 0. -/
def clampNat (x : Int) : Nat := x.toNat

/-- Round a non-negative division up. -/
def ceilDiv (a b : Nat) : Nat := (a + b - 1) / b

/-- `x` held between `lo` and `hi`. -/
def clampInt (lo hi x : Int) : Int := max lo (min hi x)

/-- The number the little-endian 32-bit words spell (first word least significant). -/
def ofWords : List Nat → Nat
  | [] => 0
  | w :: r => w % 2 ^ 32 + 2 ^ 32 * ofWords r

/-- The number the bytes spell, first byte most significant (network order). -/
def ofBytesBE (bs : List Nat) : Nat := bs.foldl (fun a b => a * 256 + b % 256) 0

/-- `n` bytes of `x`, most significant first. -/
def toBytesBE (n x : Nat) : List Nat := (List.range n).map (fun i => bits x (8 * (n - 1 - i)) 8)

/-- `n` bytes of `x`, least significant first. -/
def toBytesLE (n x : Nat) : List Nat := (List.range n).map (fun i => bits x (8 * i) 8)

/-- `n` 32-bit words of `x`, least significant first. -/
def toWords (n x : Nat) : List Nat := (List.range n).map (fun i => bits x (32 * i) 32)

/-- Word `i` of a list of words, 0 beyond its end. -/
def wordAt (ws : List Nat) (i : Nat) : Nat := ws.getD i 0

/-- Whether a list of numbers holds no number twice. -/
def distinct (l : List Nat) : Bool := decide (l.eraseDups.length = l.length)

end Sys2Proof
end

