-- ==== Sys2Proof/Types.lean ====
section
/-!
DEFINITION. The plain data the commands carry and the state holds: one structure for each kind of thing the spec
names, with the spec's names for its parts. A field's default is its value in an entry that nothing has set.
-/

namespace Sys2Proof

/-- The access classes of R16 that say how a field behaves. -/
inductive Cls | D | S | L | C | H
  deriving DecidableEq, Repr

/-- The restrictions of R16 that say who may access a field. -/
inductive Key | open | k1 | k2
  deriving DecidableEq, Repr

/-- A register field: where it stands, how it behaves and its reset value (R15). -/
structure Fld where
  page : Nat
  off : Nat
  lo : Nat
  width : Nat
  cls : Cls
  rstr : Key
  reset : Nat
  deriving DecidableEq, Repr

/-- Who accesses a page (R86): the keeper core, a normal core of the Ulubry cluster, PF0 or PF1. -/
inductive Master
  | keeper
  | core (n : Fin 9)
  | pf0
  | pf1
  deriving DecidableEq, Repr

/-- One 32-bit word of a host write (R67): its value, whether all its byte enables are set, the bits of the register that hardware updates in the same
handshake window, and the increments of a counting field or counter in that window (R79, R80). -/
structure BusWord where
  v : Word
  full : Bool := true
  hw : Word := 0
  inc : Nat := 0
  deriving DecidableEq, Repr

/-- What the write of some fields needs beside its value: whether every rail is inside its range (TRIP_RELEASE, R285), the level the debug token asks
for (DEBUG_GO, R585), the partner's device time where it answers (TIME_RUN, R492), and the tags of the inject descriptors that wait (IC_EN, R320). -/
structure Aside where
  railOk : Bool := true
  level : Fin 4 := 0
  partner : Option Nat := none
  tags : List (Fin 65536) := []
  deriving DecidableEq, Repr

/-- An object kind of R19. -/
inductive Kind | terminal | allocation | channel | queue | key | pool | shaper | gateList
  deriving DecidableEq, Repr

/-! ### Tree ports and courses (chapter 03) -/

/-- A downstream PLOAM message (R100, R241): one the host wrote, or one the firmware makes. The bits of the
firmware's own messages are G.9804's. -/
inductive Ploam
  | raw (words : List Nat)
  | assignOnuId (term : Nat)
  | rangingTime (term eqd : Nat) (signedDelta : Int)
  | deactivate (term : Nat)
  | disableSerial (term : Nat)
  | enableSerial (term : Nat)
  | disableDenied (serial : Nat)
  | burstProfile (index preamble delimLo delimHi : Nat)
  | timeOfDay (term : Nat) (superframe : Nat) (ptpNs : Nat)
  | changePower (term : Nat)
  deriving DecidableEq, Repr

/-- Word 0 of a course table entry (R128), with the sequences of word 1. -/
structure Course where
  members : Nat := 0
  home : Nat := 0
  ext : Bool := false
  valid : Bool := false
  dsNext : Nat := 0
  usExpected : Nat := 0
  deriving DecidableEq, Repr

/-- An upstream XGEM frame held by the receive group (R113). -/
structure HeldXgem where
  seq : Nat
  stamp : Nat
  bytes : Nat
  deriving DecidableEq, Repr

/-- What the receive group holds for one course terminal (R113, R114). `skips` lists the gaps
skipped by their deadlines, first number, count and deadline: a missing frame stamped at or before the deadline still counts as in time. -/
structure Reorder where
  held : List HeldXgem := []
  gap : Option Nat := none
  skips : List (Nat × Nat × Nat) := []
  deriving DecidableEq, Repr

/-- A downstream XGEM frame as the CPE leaves it (R101, R102): its terminal, XGEM port and key index, its Options field (R110), and its payload
bytes. -/
structure DsXgem where
  term : Nat
  port : Nat
  keyIndex : Nat
  options : Nat
  bytes : List Nat
  deriving DecidableEq, Repr

/-- A downstream frame being assembled (R97): its tree frame, whether its sealed map was missed, the bytes of its XGEM
region, the bytes placed, and the frames placed, in order. -/
structure DsFrame where
  frame : Nat
  missed : Bool
  space : Nat
  fill : Nat := 0
  xgems : List DsXgem := []
  deriving DecidableEq, Repr

/-- One channel framer. `offered` lists the XGEM frames the TPE offers it, oldest first (R97). `skipNext` tells that it sends electrical idle for
its next tree frame (R600), and `enabledAt` when CH_EN was last set (R647). -/
structure Cfr where
  ploamQ : List Ploam := []
  fwQ : List Ploam := []
  offered : List DsXgem := []
  copied : Nat := 0
  asm : Option DsFrame := none
  sending : Bool := false
  fenceIdle : Bool := false
  skipNext : Bool := false
  enabledAt : Option Nat := none
  deriving DecidableEq, Repr

/-! ### The Fretboard (chapter 04) -/

/-- The fields of an allocation that a window write sets (R187). -/
structure AllocSet where
  cls : Nat
  reportEvery : Nat
  rate : Nat
  weight : Nat
  reportMax : Nat
  deriving DecidableEq, Repr

/-- One allocation (R187): its D fields, its estimate and credit, its terminal, the tree frame it was created in
(R151), and whether a destroy waits for the next build start (R150). `was` holds the instant of the last window write and the fields before it,
which a build that starts at that instant still uses (R178). -/
structure Alloc where
  handle : Nat
  cls : Nat := 3
  reportEvery : Nat := 0
  allocId : Nat
  rate : Nat := 16
  weight : Nat := 1
  reportMax : Nat := 0xFFFFFF
  estimate : Nat := 0
  credit : Nat := 0
  term : Nat
  bornFrame : Nat := 0
  leaving : Bool := false
  was : Option (Nat × AllocSet) := none
  deriving DecidableEq, Repr

/-- A channel timing entry (R188). -/
structure Timing where
  guard : Nat := 32
  delim : Nat := 2
  short : Nat := 96
  long : Nat := 1024
  deriving DecidableEq, Repr

/-- What a map entry is (R147, R245, R247). -/
inductive ItemKind
  | grant
  | discovery (opens closes : Nat)
  | ranging (rhoLo rhoHi : Nat)
  deriving DecidableEq, Repr

/-- A completion record of R36; the code is that of R190. -/
inductive RecKind | received | damaged | noShow | late | collided | unmapped
  deriving DecidableEq, Repr

/-- An accepted delimiter (R199): its stamp, the terminal its burst header names, whether the header was clean, and
whether the burst held a clean Serial_Number_ONU message (R245). -/
structure Delim where
  stamp : Nat
  term : Nat
  clean : Bool
  sn : Bool
  deriving DecidableEq, Repr

/-- One item of a map (R36): the grant as sealed, and what the burst receiver has seen of it. `start` is the
StartTime of the burst's first grant, `own` the word at which its own interval begins, `line` its line length. -/
structure Item where
  kind : ItemKind := .grant
  handle : Nat
  alloc : Nat
  term : Nat
  cls : Nat
  words : Nat
  start : Nat
  own : Nat
  line : Nat
  profile : Nat
  preamble : Nat
  dbru : Bool := false
  ploam : Bool := false
  charged : List Nat := []
  delims : List Delim := []
  shift : Int := 0
  decoded : Bool := false
  uncorrected : Nat := 0
  report : Option Nat := none
  done : Option RecKind := none
  deriving DecidableEq, Repr

/-- The states of a slot (R33). -/
inductive SlotSt | opened | sealed | inFlight | closed
  deriving DecidableEq, Repr

/-- A dark span of a map, in device nanoseconds (R155, R243, R247, R223). -/
structure Dark where
  opens : Nat
  closes : Nat
  quiet : Bool := false
  deriving DecidableEq, Repr

/-- One frame slot of a channel's ring (R32). `mapped` tells whether a map was sealed into it. -/
structure Slot where
  st : SlotSt := .opened
  frame : Nat := 0
  mapped : Bool := false
  items : List Item := []
  dark : List Dark := []
  sealedAt : Nat := 0
  upfDelay : Nat := 625000
  rate : Nat := 0
  deriving DecidableEq, Repr

/-- A map built from a snapshot and waiting for its seal (R139, R140), with the GEN staged set of its build start: ARRIVAL_TOL_NS, WORK_BYTES and
MIN_PIECE_WORDS. -/
structure Plan where
  frame : Nat
  items : List Item
  dark : List Dark
  upfDelay : Nat
  rate : Nat
  tol : Nat
  workBytes : Nat
  minPiece : Nat
  deriving DecidableEq, Repr

/-- A course grant waiting for the maps of its members (R180, R181). -/
structure CourseGrant where
  frame : Nat
  alloc : Nat
  handle : Nat
  term : Nat
  cls : Nat
  allocId : Nat
  words : Nat
  dbru : Bool
  deriving DecidableEq, Repr

/-- One device frame of the work ledger (R165, R189): the envelope, the forecast, and for each class code its
demand, its quota and the work committed. -/
structure Ledger where
  env : Nat := 0
  forecast : Nat := 0
  demand : List Nat := [0, 0, 0, 0]
  quota : List Nat := [0, 0, 0, 0]
  committed : List Nat := [0, 0, 0, 0]
  deriving DecidableEq, Repr

/-- A completion record in the ring (R190). -/
structure Rec where
  handle : Nat
  kind : RecKind
  forced : Bool
  report : Option Nat
  chan : Nat
  frame : Nat
  offset : Option Int
  uncorrected : Nat
  deriving DecidableEq, Repr

/-! ### Burst reception (chapter 05) -/

/-- A peg store entry (R208, R234); `w0` and `w1` hold the taps, CTLE and gain as laid out there. -/
structure Peg where
  w0 : Nat := 0
  w1 : Nat := 0
  phase : Nat := 0
  captured : Bool := false
  forceStale : Bool := false
  frame : Nat := 0
  temp : Int := 0
  residual : Nat := 0
  deriving DecidableEq, Repr

/-- The outcome of a header check with a 13-bit HEC (R199, R204). -/
inductive Hec | clean | corrected | bad
  deriving DecidableEq, Repr

/-- One codeword as the LDPC decoder meets it (R201): the iterations after which its syndrome is zero, 0 for a clean one, none where no number of
them suffices, and its bits in error. -/
structure Codeword where
  iters : Option Nat
  bits : Nat
  deriving DecidableEq, Repr

/-- What a 4-byte word boundary of an allocation interval reads as an XGEM header (R204, R205): the data word it begins at, its HEC check, its PLI in
bytes, its XGEM port (none for an idle frame), and whether the crossing has room for its frame (R228). -/
structure XgemHdr where
  at_ : Nat
  hec : Hec
  pli : Nat
  port : Option Nat
  room : Bool
  deriving DecidableEq, Repr

/-- What comes in one grant's line length (R201, R203): its codewords in order, its report where one is carried with a good CRC, the data word at
which its XGEM frames begin, and the headers to be met from there, in order. -/
structure GrantDecode where
  words : List Codeword := []
  report : Option Nat := none
  first : Nat := 0
  hdrs : List XgemHdr := []
  deriving DecidableEq, Repr

/-- What the burst receiver finds in one burst by its end (R201 to R211): the delimiter's stamp and the terminal its
header names, the tree frame of its map and what comes in each of its items (item number in the map), the codewords of a burst without a map and the
words they fill, its upstream PLOAM message with the result of its checks, the trailer's BIP check, and the receiver's converged state. -/
structure BurstRx where
  stamp : Option Nat
  term : Nat
  frame : Nat
  grants : List (Nat × GrantDecode)
  loose : List Codeword
  looseLine : Nat
  ploam : Option Bool
  bip : Bool
  w0 : Nat
  w1 : Nat
  phase : Nat
  deriving DecidableEq, Repr

/-- One step of a rogue isolation (R223): what the next quiet window decides. -/
inductive IsoStep | first | half (tested : List Nat) | last (suspect : Nat)
  deriving DecidableEq, Repr

/-- A running rogue isolation on a channel (R223, R225). -/
structure Isolation where
  suspects : List Nat
  step : IsoStep
  enabled : List Nat := []
  deriving DecidableEq, Repr

/-- One burst receiver. `lane` tells that light is on the lane, `light` that the receiver sees it (R191). `quietAsk` asks for an isolation's quiet
window, `checkAsk` for one of R226; `qw` is the window fixed, and whether it is one of R226. `extraFor` names the terminals an isolation enabled that
have not been heard since (R225). -/
structure Brx where
  lane : Bool := false
  light : Bool := false
  lightSince : Nat := 0
  identified : Bool := false
  lastTerm : Option Nat := none
  spans : List (Nat × Nat) := []
  outside : Nat := 0
  unsolRun : Nat := 0
  losRun : Nat := 0
  outSince : Nat := 0
  suspend : Option (Nat × Nat) := none
  suspendDark : Bool := false
  loaded : Option Nat := none
  preset : Nat × Nat × Nat := (0, 0, 0)
  iso : Option Isolation := none
  unresolved : Bool := false
  checkUnresolved : Option Nat := none
  quietAsk : Option Nat := none
  checkAsk : Option Nat := none
  qw : Option (Nat × Nat × Bool) := none
  extraFor : List Nat := []
  extraWindows : Nat := 0
  extraNext : Nat := 0
  profileFrom : Option Nat := none
  enableLater : List Nat := []
  profileDone : Bool := false
  isoDue : Bool := false
  deriving DecidableEq, Repr

/-- A burst a standby received (R526): its channel and delimiter, and once it ended its data words and uncorrectable codewords. -/
structure Kept where
  chan : Nat
  x : Delim
  ended : Bool := false
  words : Nat := 0
  unc : Nat := 0
  deriving DecidableEq, Repr

/-- A partner violation log entry (R236). -/
structure VEntry where
  frame : Nat
  offset : Nat
  code : Nat
  source : Nat
  port : Nat
  kind : Nat
  answer : Nat
  repeats : Nat := 0
  era : Nat
  deriving DecidableEq, Repr

/-! ### Ranging and terminals (chapter 06) -/

/-- The ranging state of one channel of a terminal (R247 to R250). `sufi` tells that its ranging failed RANGE_RETRIES times in a row (R260), `due`
is a correction deferred to the end of the quiet time (R262). -/
structure TermWc where
  eqd : Nat := 0
  samples : List Int := []
  cum : Int := 0
  quietUntil : Nat := 0
  acked : Bool := false
  awaiting : Bool := false
  stopped : Bool := false
  fails : Nat := 0
  sufi : Bool := false
  due : Option Int := none
  deriving DecidableEq, Repr

/-- A terminal (R240, R267). `defects` holds the conditions of R260 before suppression. -/
structure Term where
  handle : Nat
  state : Nat
  homeWc : Nat := 0
  homeSet : Bool := false
  defects : Nat := 0
  rangeFails : Nat := 0
  vendor : Nat
  serial : Nat
  wc : List TermWc := [{}, {}, {}, {}]
  rho : Nat := 0
  lobRun : Nat := 0
  lobFrame : Nat := 0
  lobSince : Nat := 0
  deriving DecidableEq, Repr

/-- A discovery-list entry (R268), with the tree frame of its hearing (R257). -/
structure DiscEntry where
  vendor : Nat
  serial : Nat
  frame : Nat
  chan : Nat
  q : Nat
  seen : Nat := 0
  treeFrame : Nat
  deriving DecidableEq, Repr

/-- A ranging grant the RGU wants (R247): the terminal, the channel and the interval in which ρ may lie. -/
structure RangeReq where
  term : Nat
  chan : Nat
  lo : Nat
  hi : Nat
  deriving DecidableEq, Repr

/-- A window the RGU has fixed (R244, R247): its channel, the tree frame of the map that carries its grant, the
grant's StartTime, and its dark span in device time. -/
structure Window where
  chan : Nat
  frame : Nat
  start : Nat
  opens : Nat
  closes : Nat
  ranging : Option RangeReq
  deriving DecidableEq, Repr

/-! ### Power and heat (chapter 07) -/

/-- What a publication took its envelopes from (R277): its frame, PACE_SUM, the reference throughput at the voltage held, and the rise of T_CORE over
two publications, in quarter degrees. -/
structure PubBase where
  frame : Nat := 0
  pace : Nat := 0
  ref : Nat := 0
  rise : Nat := 0
  deriving DecidableEq, Repr

/-- One row of the voltage plan (R275, R294). -/
structure PlanRow where
  frame : Nat := 0
  mv : Nat := 0
  floor : Nat := 0
  tPred : Int := 0
  env : Nat := 0
  deriving DecidableEq, Repr

/-! ### Packets and the classifier (chapter 09) -/

/-- Where a packet enters the core (R335): its kind (0 PON, 1 network, 2 inject) and the port or channel number. -/
structure PktSrc where
  kind : Nat
  port : Nat
  term : Nat := 0
  chan : Nat := 0
  xgem : Nat := 0
  deriving DecidableEq, Repr

/-- How far a packet has come: it waits at the crossing, in a slice's FIFO, for its cells, or it is pushed. A punted
packet waits in the HIF for its final status (R370). -/
inductive PktStage
  | crossing
  | slice (s : Nat)
  | handed
  | pushed
  | punted (ch reason : Nat)
  deriving DecidableEq, Repr

/-- A packet between its crossing and its final status. `set` is the PCL set of its first byte (R347). `tag` is the
tag result an upstream encrypted packet waits for (R370): `tagGood` is what the CPE finds, `erased` that its key was
erased under it (R374). `first`, `last` and `cells` are its buffer, once it has one. `after` is the instant before
which it may not start at a moved spread entry (R327). -/
structure Pkt where
  src : PktSrc
  bytes : List Nat
  stamp : Nat
  stage : PktStage := .crossing
  hash : Nat := 0
  entry : Nat := 0
  set : Tbl Nat := []
  tagged : Option Nat := none
  deep : Bool := false
  lenFlag : Bool := false
  queue : Nat := 0
  chan : Nat := 0
  dsTerm : Option Nat := none
  needTag : Bool := false
  keySlot : Option Nat := none
  tagGood : Bool := true
  slot : Option Nat := none
  tag : Option Bool := none
  erased : Bool := false
  voidAt : Bool := false
  ended : Bool := false
  first : Option Nat := none
  last : Nat := 0
  cells : Nat := 0
  pool : Nat := 0
  order : Nat := 0
  after : Nat := 0
  deriving DecidableEq, Repr

/-- What the parser finds of one IP header and the header behind it (R330, R335): kind 1 IPv4 or 2 IPv6, addresses as
numbers, protocol or last next header, traffic class, and the L4 kind and ports. `ends` is where its payload ends. -/
structure IpRec where
  kind : Nat
  src : Nat
  dst : Nat
  proto : Nat
  tclass : Nat
  ends : Nat
  l4 : Nat := 0
  sport : Nat := 0
  dport : Nat := 0
  deriving DecidableEq, Repr

/-- What the parser finds in a packet (R330 to R335): the headers counted, how it stopped, the tags with their
offsets and values, and the fields of the key. -/
structure Parsed where
  count : Nat := 0
  deep : Bool := false
  bad : Bool := false
  tags : List (Nat × Nat) := []
  ethertype : Nat := 0
  tunnel : Bool := false
  tunnelKind : Nat := 0
  tunnelId : Nat := 0
  label : Option (Nat × Nat) := none
  frag : Bool := false
  ips : List IpRec := []
  deriving DecidableEq, Repr

/-! ### Cells, pools and queues (chapter 11) -/

/-- A pool of cells (R395): `dram` is PLACE, `wait` MODE, the three limits in units of 64 cells, `held` in cells. -/
structure Pool where
  handle : Nat
  dram : Bool
  wait : Bool
  waitNs : Nat
  minU : Nat
  maxU : Nat
  bpU : Nat
  held : Nat := 0
  deriving DecidableEq, Repr

/-- A cell request that waits (R398): its requester, its pool, its stamp, and the packet it is for, if any. -/
structure Waiter where
  req : Nat
  pool : Nat
  stamp : Nat
  pkt : Option Nat
  deriving DecidableEq, Repr

/-- One free chain (R402): the cells freed onto its head, and how many of its cells were taken in the ascending order
of reset. -/
structure FreeChain where
  stack : List Nat := []
  taken : Nat := 0
  deriving DecidableEq, Repr

/-- A free fault log entry (R403, R417). -/
structure FEntry where
  frame : Nat
  offset : Nat
  kind : Nat
  req : Nat
  ptr : Nat
  gen : Nat
  owner : Nat
  foundGen : Nat
  foundOwner : Nat
  deriving DecidableEq, Repr

/-- What a coded read of a 64-bit word finds (R387, R388): no error, one or two bit errors, three detected, or an
undetected or miscorrected error that delivers `v`. -/
inductive CodeRead
  | clean
  | corrected
  | uncorrectable
  | wrong (v : Nat)
  deriving DecidableEq, Repr

/-- What a scrub read reads (R390): a word of cell memory by its address, or a word of a table memory bank, which may
hold a queue's entry. -/
inductive ScrubAt
  | cell (a : Nat)
  | table (bank : Nat) (queue : Option Nat)
  deriving DecidableEq, Repr

/-- A queue: its entry (R420), its scheduling fields and samples (R427, R440), and its destroy in progress. Weights,
ranks and LAG group as created or written. `probe` is the push stamp and the packets left before it. -/
structure Queue where
  handle : Nat
  pool : Nat
  flush : Bool := false
  closed : Bool := false
  cut : Bool := false
  head : Nat := 0
  tail : Nat := 0
  pkts : Nat := 0
  cells : Nat := 0
  maxCells : Nat
  level : Nat
  parent : Nat
  rank : Nat := 0
  weight : Nat := 1
  lag : Nat := 0
  rtPool : Nat := 0
  sample : Nat := 0
  delayLast : Nat := 0
  delayMax : Nat := 0
  delayRun : Nat := 0
  pushes : Nat := 0
  probe : Option (Nat × Nat) := none
  deriving DecidableEq, Repr

/-! ### Traffic management (chapter 12) -/

/-- A scheduler node (R423, R424): its node table entry. -/
structure TNode where
  enable : Bool := false
  parent : Nat := 0
  plevel : Nat := 0
  weight : Nat := 1
  rank : Nat := 0
  comp : Bool := false
  rate : Nat := 0
  burst : Nat := 0xFFFF
  adj : Nat := 32
  deriving DecidableEq, Repr

/-- The round of a node (R430, R431): the children that had their turn, the rank it has reached, the child whose turn
it is, for each rank the child served last, and the QUANTUM_UNIT of this round (R450). -/
structure Round where
  served : List Nat := []
  rank : Nat := 0
  turn : Option Nat := none
  last : Tbl Nat := []
  unit : Nat := 0
  deriving DecidableEq, Repr

/-- A bucket (R437), in eight-millionths of a byte, at the instant `at_`; `parked` is its wheel instant (R438). -/
structure Bucket where
  level : Int
  at_ : Nat
  parked : Option Nat := none
  deriving DecidableEq, Repr

/-- A shaper (R436): `target` is a queue handle or node reference. -/
structure Shaper where
  handle : Nat
  rate : Nat
  burst : Nat
  adj : Nat
  target : Nat
  bucket : Bucket
  deriving DecidableEq, Repr

/-- The states of a gate list (R445). -/
inductive GateSt | scheduled | inForce | idle
  deriving DecidableEq, Repr

/-- A gate list (R441 to R445): durations and open ranks of its entries, the start used, the entry running. -/
structure GateList where
  handle : Nat
  node : Nat
  st : GateSt := .scheduled
  cur : Nat := 0
  start : Nat
  cycle : Nat
  guard : Bool
  entries : List (Nat × Nat)
  deriving DecidableEq, Repr

/-- A packet that left its queue for its port (R410): its bytes, its service channel and terminal, its trace
number, and the frame after the one in which its nonce last had to wait. -/
structure Egress where
  bytes : List Nat
  chan : Nat := 0
  term : Nat := 0
  tagged : Option Nat := none
  omci : Bool := false
  deferred : Nat := 0
  deriving DecidableEq, Repr

/-! ### Service channels and commands (chapter 08), key slots (chapter 10) -/

/-- A service channel (R309, R311, R357): its handle, terminal, XGEM port, directions, queues and allocation, the key
slots in its two positions, and which is active. `lastSeg` holds the last accepted upstream segment by tree frame of the map (R366). -/
structure SvcChan where
  handle : Nat
  term : Nat
  port : Nat
  ds : Bool
  us : Bool
  dsQueue : Nat
  usQueue : Nat
  alloc : Nat
  keys : List (Option Nat) := [none, none]
  active : Option Nat := none
  closed : Bool := false
  lastSeg : Tbl Nat := []
  deriving DecidableEq, Repr

/-- The states of a key slot in use (R382); a slot not listed is FREE. -/
inductive KeySt | unbound | active | inactive | erased
  deriving DecidableEq, Repr

/-- A key slot (R356, R382): its key as bytes, its binding, its usage and nonce state. `crossed` tells that it crossed the soft limit
once (R368), `waiting` that it waits for its activation frame. -/
structure KeySlot where
  handle : Nat
  st : KeySt := .unbound
  key : List Nat
  pos : Nat := 0
  rekey : Bool := false
  crossed : Bool := false
  hard : Bool := false
  everBound : Bool := false
  chan : Nat := 0
  activateAt : Nat := 0
  waiting : Bool := false
  use_ : Nat := 0
  highFrame : Option Nat := none
  segNext : Nat := 0
  deriving DecidableEq, Repr

/-- How far an accepted command has come (R299, R303): waiting, under way (a destroy, or an allocation waiting for a
build start), or done with its status, stamp, effect and details. -/
inductive CmdSt
  | waiting
  | working
  | done (status stamp : Nat) (effect : Bool) (handle a b : Nat)
  deriving DecidableEq, Repr

/-- The payload of a command (R300, R624): none asked for, being read, read, or failed. -/
inductive Payload
  | absent
  | reading
  | failed
  | bytes (l : List Nat)
  deriving DecidableEq, Repr

/-- An outstanding DMA read (R621, R624): its number, the command whose payload it reads, and its stamp. -/
structure DmaRead where
  id : Nat
  cmd : Nat
  stamp : Nat
  deriving DecidableEq, Repr

/-- A completion on its way to its slot (R301, R625): the words of the completion. -/
structure Cpl where
  cq : Nat
  slot : Nat
  words : List Nat
  deriving DecidableEq, Repr

/-- An accepted command (R296, R300): its number in acceptance order, its stamp, ring, ring slot, completion ring and
reserved completion slot, and its descriptor. Of a destroy, `closer` tells that its acceptance closed the object and `sent` counts the packets sent
since (R315). -/
structure Cmd where
  seq : Nat
  stamp : Nat
  ring : Nat
  slot : Nat
  cq : Nat
  cqSlot : Nat
  words : List Nat
  pay : Payload := .absent
  st : CmdSt := .waiting
  closer : Bool := false
  sent : Nat := 0
  deriving DecidableEq, Repr

/-! ### Network ports and FlexE (chapter 13) -/

/-- What a network port holds beside its registers: the defect conditions, when the last of them cleared, the
training try and whether it is at the full rate, the pause in force and its times. -/
structure NetPort where
  conds : Nat := 0
  clearAt : Nat := 0
  tries : Nat := 0
  tryAt : Nat := 0
  fullAgreed : Bool := false
  atFull : Bool := false
  pauseUntil : Nat := 0
  pauseSince : Nat := 0
  genSince : Nat := 0
  genQuiet : Nat := 0
  genNext : Nat := 0
  deriving DecidableEq, Repr

/-- One 100G instance of a FlexE group (R475 to R478): whether it is aligned, the expected positions missed in a row, the
candidate block waiting to be judged, and the failed CRCs in a row. -/
structure FlxInst where
  aligned : Bool := false
  missing : Nat := 0
  cand : Option Nat := none
  badCrc : Nat := 0
  deriving DecidableEq, Repr

/-- A FlexE group (R480, R490). `conds` are its defect conditions before suppression; `crFrames` counts overhead
frames sent with CR = 1. -/
structure FlxGroup where
  number : Nat := 0
  en : Bool := false
  mask : Nat := 0
  chiplet : Nat := 0
  txCal : Nat := 0
  rxCal : Nat := 0
  calReq : Bool := false
  crSent : Bool := false
  caSeen : Bool := false
  conds : Nat := 0
  switchFrame : Nat := 0
  switchAt : Option Nat := none
  crFrames : Nat := 0
  peerCr : Bool := false
  insts : Tbl FlxInst := []
  deriving DecidableEq, Repr

/-- A FlexE client (R490). -/
structure FlxClient where
  id : Nat := 0
  group : Nat := 0
  en : Bool := false
  deriving DecidableEq, Repr

/-- The fields of an overhead frame the partner sends (R476): C, CR, CA, RPF, the group number and the PHY map. -/
structure FlxOh where
  c : Nat
  cr : Bool
  ca : Bool
  rpf : Bool
  number : Nat
  map : Nat
  deriving DecidableEq, Repr

/-! ### Tracing (chapter 16) -/

/-- A tagged packet's stamps so far (R565, R572). -/
structure Trace where
  stamp : Nat
  slice : Nat := 0
  port : Nat
  kind : Nat
  length : Nat := 0
  queue : Nat := 0
  dClass : Option Nat := none
  dPush : Option Nat := none
  dFinal : Option Nat := none
  deriving DecidableEq, Repr

/-! ### The mirror (chapter 15) -/

/-- The generation of an index and the takeover it was last issued after (R20, R545). -/
structure Gen where
  gen : Nat
  era : Nat
  deriving DecidableEq, Repr

/-- The mirrored tables (R519). -/
structure Tables where
  courses : Tbl Course := []
  allocs : Tbl Alloc := []
  terms : Tbl Term := []
  slots : Tbl Slot := []
  keys : Tbl KeySlot := []
  exact : Tbl (List Nat) := []
  ternary : Tbl (List Nat) := []
  actions : Tbl (List Nat) := []
  domains : Tbl Nat := []
  nodes : Tbl TNode := []
  queues : Tbl Queue := []
  shapers : Tbl Shaper := []
  gates : Tbl GateList := []
  lag : Tbl Nat := []
  pools : Tbl Pool := []
  chans : Tbl SvcChan := []
  gens : Tbl Gen := []
  deriving DecidableEq, Repr

/-- The changed entries of a table: a new value, or none where the entry went (R518). -/
abbrev Delta (α : Type) := Tbl (Option α)

/-- An epoch (R520): its header, the maps sealed and records posted in its frame, the changed entries of each mirrored
table, and the swept counters and depths. A record names its channel, tree frame and item. -/
structure Epoch where
  num : Nat
  logEpochs : Nat := 256
  posted : Nat := 0
  compat : Bool := false
  zeroize : Bool := false
  genCtrs : Tbl Nat := []
  maps : List (Nat × Slot) := []
  recs : List (Nat × Nat × Nat × RecKind) := []
  courses : Delta Course := []
  allocs : Delta Alloc := []
  terms : Delta Term := []
  keys : Delta KeySlot := []
  exact : Delta (List Nat) := []
  ternary : Delta (List Nat) := []
  actions : Delta (List Nat) := []
  domains : Delta Nat := []
  nodes : Delta TNode := []
  queues : Delta Queue := []
  shapers : Delta Shaper := []
  gates : Delta GateList := []
  lag : Delta Nat := []
  pools : Delta Pool := []
  chans : Delta SvcChan := []
  gens : Delta Gen := []
  ctrs : Tbl Nat := []
  depths : Tbl Nat := []
  cpls : List Cpl := []
  cmds : List Cmd := []
  crIdx : Tbl Nat := []
  bytes : Nat := 0
  deriving DecidableEq, Repr

/-- A message of the lease (R516), as it travels on the pins or on Soundpost. -/
structure PairMsg where
  kind : Nat
  side : Bool
  release : Bool := false
  lease : Nat := 4
  margin : Nat := 1
  ready : Bool := false
  unacked : Bool := false
  frame : Nat := 0
  deriving DecidableEq, Repr

/-! ### Trust and spares (chapters 17, 18) -/

/-- A fuse burn that waits or runs (R573); `again` tells that it read back 0 once. -/
inductive Burn
  | leaf (b : Nat) (again : Bool)
  | revoke (slot : Nat) (again : Bool)
  | svn (goal : Nat) (again : Bool)
  | repair (entry : Nat) (again : Bool)
  deriving DecidableEq, Repr

/-- An image slot as the boot ROM reads it (R575): whether it can be read, the words of its header and signature, and
the digest of each section's bytes as loaded. -/
structure Image where
  readable : Bool := true
  words : List Nat := []
  found : List (List Nat) := []
  deriving DecidableEq, Repr

/-- A loaded section (R575): its load address, bytes and digest. -/
structure Section where
  addr : Nat
  length : Nat
  digest : List Nat
  deriving DecidableEq, Repr

/-- A copy of a region to its spare (R598), and when it ended. -/
structure Copy where
  kind : Nat
  unit : Nat
  spare : Nat
  ended : Option Nat := none
  deriving DecidableEq, Repr

/-- A slice exchange that waits for its frame (R596). -/
structure Exch where
  slice : Nat
  spare : Nat
  frame : Nat
  deriving DecidableEq, Repr

/-- What the device shows the outside world during one command: messages, packets, pulses and burns. The list is
emptied at the next command. -/
inductive Out
  | dsFrame (chan frame : Nat) (mapItems : Nat) (missed : Bool) (ploam : List Ploam) (xgems : List DsXgem)
  | xgemUp (term seq : Nat)
  | i2c (group : Nat) (read : Bool) (addr reg data : Nat)
  | strobe (chan at_ width : Nat) (low : Bool)
  | voltage (mv : Nat)
  | completion (cq slot : Nat) (words : List Nat)
  | punt (chan slot : Nat) (words : List Nat) (data : List Nat)
  | injectDone (chan slot : Nat) (words : List Nat)
  | msix (vector : Nat)
  | cell (req ptr : Nat)
  | netFrame (port : Nat) (bytes : List Nat) (fcs : Nat)
  | xgemDown (f : DsXgem)
  | plaintext (bytes : List Nat)
  | pulse (output at_ width : Nat) (low : Bool)
  | pause (port quanta : Nat)
  | lease (pins : Option Nat) (soundpost : Option PairMsg)
  | soundpost (kind epoch : Nat)
  | flexeOh (group : Nat) (cr ca rpf : Bool) (page : Nat)
  | bitFlip (lane : Nat)
  | burn (fuse : Nat)
  | report (bytes : List Nat)
  deriving DecidableEq, Repr

end Sys2Proof
end

