-- ==== Sys2Proof/Syntax.lean ====
section
/-!
DEFINITION. The commands: one constructor for each row of spec/opcode_table.json. Every command carries the device time `t` at which it
comes, in ns; the other operands are what the row's rule says comes from outside, the outcome of what outside standards decide among
it (log entries 2 and 7).
-/

namespace Sys2Proof

/-- A channel number, 4 x tree + wavelength channel (R57, R90). -/
abbrev Chan := Fin 256
/-- A terminal index, 512 x tree + ONU-ID (R256). -/
abbrev TermIx := Fin 32768
/-- A tree number. -/
abbrev Tree := Fin 64
/-- A page number of BAR0's register region (R61, R64). -/
abbrev PageIx := Fin 16384
/-- A 32-bit word on the bus. -/
abbrev Word32 := BitVec 32
/-- A byte. -/
abbrev Byte := BitVec 8

/-- The commands of the block. -/
inductive Instr
  /-- REGISTER_WRITE (R68): A software write to a register field that has no row of its own, judged by class, privilege, lock state and
  same-window collision. -/
  | registerWrite (t : Nat) (m : Master) (p : PageIx) (w : Fin 1024) (lo : BusWord) (hi : Option BusWord) (x : Aside)
  /-- BIT_ALIAS_WRITE (R63): A write to a bit alias word sets or clears exactly one bit of a page register. -/
  | bitAliasWrite (t : Nat) (m : Master) (p : PageIx) (w : Fin 256) (b : Fin 32) (v full hw : Bool) (x : Aside)
  /-- COUNTER_LOW_READ (R69): A read of the low word of a 64-bit counter captures the high word for the reading master. -/
  | counterLowRead (t : Nat) (m : Master) (p : PageIx) (w : Fin 1024)
  /-- COUNTER_HIGH_READ (R69): A read of the high word of a 64-bit counter returns the captured value, or the live high word if none was captured. -/
  | counterHighRead (t : Nat) (m : Master) (p : PageIx) (w : Fin 1024)
  /-- COUNTER_LOW_WRITE (R70): A write to the low word of a 64-bit counter is held for the writing master. -/
  | counterLowWrite (t : Nat) (m : Master) (p : PageIx) (w : Fin 1024) (v : Word32)
  /-- COUNTER_HIGH_WRITE (R70): A write to the high word of a 64-bit counter loads all 64 bits with the held low word, or only the high word
  if none is held. -/
  | counterHighWrite (t : Nat) (m : Master) (p : PageIx) (w : Fin 1024) (v : Word32) (inc : Nat)
  /-- WATCH_THRESHOLD_WRITE (R82): A write of THRESH_HI applies both words of a counter watch threshold in one step. -/
  | watchThresholdWrite (t : Nat) (m : Master) (p : PageIx) (n : Fin 4) (hi : Word32)
  /-- ARM (R73): A write of ARM requests application of the page's staged set at the next boundary and locks the shadows, or unlocks them
  when written 0. -/
  | arm (t : Nat) (m : Master) (p : PageIx) (v overlap : Bool)
  /-- BOUNDARY_WINDOW (R72): At each boundary of a page the block samples ARM and HOLD, applies the staged set if armed, and advances the
  boundary counts. -/
  | boundaryWindow (t : Nat) (p : PageIx)
  /-- WINDOW_READ (R84): WIN_CTRL GO with OP 0 starts a read of the window entry at WIN_ADDR. -/
  | windowRead (t : Nat) (m : Master) (p : PageIx) (win : Fin 4) (words : Fin 32)
  /-- WINDOW_WRITE (R85): WIN_CTRL GO with OP 1 starts a write of up to 32 words to the window entry at WIN_ADDR. -/
  | windowWrite (t : Nat) (m : Master) (p : PageIx) (win : Fin 4) (words : Fin 32)
  /-- WINDOW_READ_CLEAR_VALID (R85): WIN_CTRL GO with OP 2 reads an entry and clears its VALID field, or is refused on a window without VALID. -/
  | windowReadClearValid (t : Nat) (m : Master) (p : PageIx) (win : Fin 4) (words : Fin 32)
  /-- WINDOW_OPERATION_COMPLETE (R85): A window operation completes: the entry is updated or read in one step, or refused, and hardware clears GO. -/
  | windowOperationComplete (t : Nat) (p : PageIx) (win : Fin 4) (clash hw : Bool) (errs : Tbl CodeRead)
  /-- FRAME_BOUNDARY (R12): Device time reaches the start of a device frame, the common beat for staged sets, epochs and plans. -/
  | frameBoundary (t : Nat) (sweepCtr sweepQ : List Nat) (ack : Option Nat)
  /-- TREE_FRAME_BOUNDARY (R94): Device time reaches a tree frame start of a tree, at which its channels begin downstream frames and lanes
  enter or leave electrical idle. -/
  | treeFrameBoundary (t : Nat) (tree : Tree)
  /-- FRAME_ASSEMBLY (R97): Seven microseconds before a tree frame start the CFR takes the sealed map, PLOAM messages and XGEM frames and
  encodes the frame, or sends an empty map on a missed map. -/
  | frameAssembly (t : Nat) (c : Chan) (k : Nat) (crossed : Bool)
  /-- COURSE_XGEM_PLACE (R112): The TPE places a downstream XGEM frame of a course terminal on the member with the lowest fill that has room. -/
  | courseXgemPlace (t : Nat) (x : TermIx)
  /-- REORDER_ARRIVAL (R113): An upstream XGEM frame of a course terminal arrives at the receive group and is passed, held or dropped by
  sequence number. -/
  | reorderArrival (t : Nat) (c : Chan) (x : TermIx) (options : Fin 262144) (stamp n : Nat)
  /-- REORDER_GAP_DEADLINE (R113): Device time passes a course terminal's gap deadline, skipping the gap and passing on held frames. -/
  | reorderGapDeadline (t : Nat) (x : TermIx)
  /-- I2C_GO (R124): A write of I2C_GO = 1 starts one single-byte I2C transaction on the transmit group's bus. -/
  | i2cGo (t : Nat) (m : Master) (g : Fin 16) (v hw : Bool)
  /-- I2C_TRANSACTION_END (R124): An I2C transaction ends, storing read data or NACK, and hardware clears I2C_GO. -/
  | i2cTransactionEnd (t : Nat) (g : Fin 16) (nack : Bool) (data : Fin 256) (clash : Bool)
  /-- MAP_BUILD_START (R139): At tree frame k + 100 us GEN snapshots a channel's state and envelope and builds the map for tree frame k + 1. -/
  | mapBuildStart (t : Nat) (c : Chan)
  /-- MAP_SEAL (R140): At tree frame k + 110 us GEN reclaims the old slot and seals the built map, which joins the current epoch. -/
  | mapSeal (t : Nat) (c : Chan)
  /-- GRANT_RECORD_POST (R168): At a grant's settle point GEN decides and posts its completion record and applies reports, estimates and
  ranging data. -/
  | grantRecordPost (t : Nat) (c : Chan) (k ix : Nat) (g : GrantDecode)
  /-- RING_CONSUMED (R190): A write of RING_CONSUMED releases records of the GEN record ring or is refused. -/
  | ringConsumed (t : Nat) (m : Master) (v : Fin 131072)
  /-- PEG_LOAD (R193): The BRX loads a burst's terminal peg preset into the receiver at its load instant. -/
  | pegLoad (t : Nat) (c : Chan) (k ix : Nat)
  /-- STROBE_PULSE (R194): The BRX fires the burst-reset strobe before a burst's preamble, clamped to the previous burst's end. -/
  | strobePulse (t : Nat) (c : Chan) (k : Nat) (ix : Option Nat)
  /-- DELIMITER_ACCEPT (R199): A delimiter candidate whose burst header checks is accepted, stamped and matched to a grant, or rejected as false. -/
  | delimiterAccept (t : Nat) (c : Chan) (errs : Nat) (hec : Hec) (n : Fin 512) (dg sn : Bool)
  /-- BURST_END (R211): At a burst's end the BRX finishes decoding, computes the residual and updates the terminal's peg entry. -/
  | burstEnd (t : Nat) (c : Chan) (r : BurstRx)
  /-- SIGNAL_DETECT_CHANGE (R215): Light appears or ends on a burst-receive lane and is measured against expected spans and quiet windows. -/
  | signalDetectChange (t : Nat) (c : Chan) (on : Bool)
  /-- CONTINUOUS_LIGHT (R216): Light with no break for 125 us is detected as continuous light and starts rogue isolation. -/
  | continuousLight (t : Nat) (c : Chan)
  /-- UPSTREAM_FRAME_END (R216): At the end of an upstream frame the BRX judges unsolicited light and loss of signal for the frame. -/
  | upstreamFrameEnd (t : Nat) (c : Chan) (k : Nat)
  /-- VLOG_CONSUMED (R235): A write of VLOG_CONSUMED releases entries of the violation log or is refused. -/
  | vlogConsumed (t : Nat) (m : Master) (v : Fin 8192)
  /-- ROGUE_ISOLATION_START (R222): The Ulubry cluster starts rogue isolation on a channel after continuous or repeated unsolicited light. -/
  | rogueIsolationStart (t : Nat) (c : Chan)
  /-- QUIET_WINDOW_RESULT (R223): A quiet window's measured light decides the next halving step of a rogue isolation, or its end. -/
  | quietWindowResult (t : Nat) (c : Chan)
  /-- ROGUE_UNRESOLVED_CHECK (R226): After an unresolved isolation a quiet window every 1,000 tree frames updates ROGUE_UNRESOLVED. -/
  | rogueUnresolvedCheck (t : Nat) (c : Chan)
  /-- BURST_PROFILE_QUEUE (R196): The PLOAM firmware queues the Burst_Profile messages of both profiles when the tree and receiver are
  enabled and every 1,000 frames. -/
  | burstProfileQueue (t : Nat) (c : Chan)
  /-- SERIAL_NUMBER_RECEIVED (R246): A clean serial number heard in a discovery window moves a terminal to RANGING or enters the discovery list. -/
  | serialNumberReceived (t : Nat) (c : Chan) (k : Nat) (vendor serial : Word32)
  /-- RANGING_TIME_ACK (R247): A terminal acknowledges Ranging_Time on a channel, moving it to OPERATING or adding the member to grant sizing. -/
  | rangingTimeAck (t : Nat) (x : TermIx) (c : Chan)
  /-- LOST_TIMEOUT (R241): LOBi held for LOST_FRAMES tree frames returns the terminal to AWAITING_SN with Deactivate_ONU-ID. -/
  | lostTimeout (t : Nat) (x : TermIx)
  /-- TERMINAL_FREE (R241): A LEAVING terminal with no outstanding item reaches FREE and its entry is cleared. -/
  | terminalFree (t : Nat) (x : TermIx)
  /-- DISC_CONSUMED (R268): A write of DISC_CONSUMED releases discovery-list entries or is refused. -/
  | discConsumed (t : Nat) (m : Master) (v : Fin 1024)
  /-- PTM_SAMPLE (R269): Every 10 us the PTM reads all temperature and pace sensors and checks thresholds and pace shortfall. -/
  | ptmSample (t : Nat) (temps : List Int) (pace : List Nat)
  /-- RAIL_ALARM (R272): A rail stays outside its range, or VCORE below its command, long enough to raise an alarm that trips and erases keys. -/
  | railAlarm (t : Nat) (rail : Fin 7)
  /-- ENVELOPE_PUBLICATION (R277): At frame k + 100 us the PTM computes the work envelope and voltage plan for the next 8 frames and GEN
  divides class quotas. -/
  | envelopePublication (t : Nat) (watts : Fin 1024) (pace : Nat)
  /-- VOLTAGE_WRITE_RESULT (R274): An AVSBus voltage write is acknowledged or fails and is retried, setting REG_FAULT after three failures. -/
  | voltageWriteResult (t : Nat) (ok status : Bool)
  /-- TRIP_RELEASE (R285): A write of TRIP_RELEASE = 1 releases a trip fence or is refused. -/
  | tripRelease (t : Nat) (m : Master) (v railOk hw : Bool)
  /-- QUIET_CH (R286): A write of QUIET_CH quiets or restores channels, sealing their later builds empty. -/
  | quietCh (t : Nat) (m : Master) (ix : Fin 8) (v : Word32)
  /-- QUIET_TREE (R288): A write of QUIET_TREE powers a tree's lanes down or up, or is refused. -/
  | quietTree (t : Nat) (m : Master) (ix : Fin 2) (v : Word32)
  /-- COMMAND_ACCEPT (R296): The HIF takes a descriptor from a command ring in rotating order, stamps it and reserves a completion slot. -/
  | commandAccept (t : Nat) (ring : Fin 16) (desc : List Word32) (ok : Bool)
  /-- NOP (R309): Command 0x01 does nothing and completes. -/
  | nop (t n : Nat)
  /-- QUERY (R309): Command 0x02 returns the state and count of a named object. -/
  | query (t n : Nat)
  /-- KEY_ZEROIZE_ALL (R373): Command 0x03 erases every key slot. -/
  | keyZeroizeAll (t n : Nat)
  /-- TERMINAL_CREATE (R256): Command 0x10 creates a terminal with its default allocation in AWAITING_SN or RANGING. -/
  | terminalCreate (t n : Nat)
  /-- TERMINAL_DESTROY (R258): Command 0x11 moves a terminal to LEAVING, committing when it reaches FREE. -/
  | terminalDestroy (t n : Nat)
  /-- TERMINAL_DISABLE (R241): Command 0x12 sends Disable_Serial_Number and moves the terminal to DISABLED. -/
  | terminalDisable (t n : Nat)
  /-- TERMINAL_ENABLE (R241): Command 0x13 returns a DISABLED terminal to AWAITING_SN. -/
  | terminalEnable (t n : Nat)
  /-- ALLOC_CREATE (R149): Command 0x20 creates an allocation that commits at the next build start of the terminal's home channel. -/
  | allocCreate (t n : Nat)
  /-- ALLOC_DESTROY (R150): Command 0x21 destroys an allocation from the next build start. -/
  | allocDestroy (t n : Nat)
  /-- CHANNEL_CREATE (R311): Command 0x30 creates a service channel binding an XGEM port to queues, key and allocation. -/
  | channelCreate (t n : Nat)
  /-- CHANNEL_DESTROY (R315): Command 0x31 closes a service channel at once and commits after the drain or flush. -/
  | channelDestroy (t n : Nat)
  /-- QUEUE_CREATE (R427): Command 0x40 creates a queue under a pool and a parent node. -/
  | queueCreate (t n : Nat)
  /-- QUEUE_DESTROY (R315): Command 0x41 closes a queue at once and commits after the drain or flush. -/
  | queueDestroy (t n : Nat)
  /-- QUEUE_FLUSH (R412): Command 0x42 sets the flush bit of a queue and commits when its tail is final. -/
  | queueFlush (t n : Nat)
  /-- KEY_CREATE (R358): Command 0x50 stores a key, unbound or in a channel's free position with an activation frame. -/
  | keyCreate (t n : Nat)
  /-- KEY_DESTROY (R359): Command 0x51 erases and frees a key slot. -/
  | keyDestroy (t n : Nat)
  /-- POOL_CREATE (R396): Command 0x60 creates a cell pool with reserved minimum, maximum and mode. -/
  | poolCreate (t n : Nat)
  /-- POOL_DESTROY (R314): Command 0x61 removes a pool that nothing names. -/
  | poolDestroy (t n : Nat)
  /-- SHAPER_CREATE (R436): Command 0x70 attaches a shaper to a queue or node. -/
  | shaperCreate (t n : Nat)
  /-- SHAPER_DESTROY (R309): Command 0x71 stops and removes a shaper. -/
  | shaperDestroy (t n : Nat)
  /-- GATE_LIST_INSTALL (R444): Command 0x80 reads a gate list, computes its start and schedules it on a node. -/
  | gateListInstall (t n : Nat)
  /-- GATE_LIST_DESTROY (R309): Command 0x81 removes a gate list that is not in force. -/
  | gateListDestroy (t n : Nat)
  /-- OMCI_SEND (R309): Command 0x90 places an OMCI message on the terminal's OMCI queue. -/
  | omciSend (t n : Nat)
  /-- DESTROY_COMMIT (R315): A closed channel or queue commits its destroy when it is empty or its drain frames have passed. -/
  | destroyCommit (t n : Nat)
  /-- COMMAND_TIMEOUT (R304): A command's deadline passes without its commit point and it completes as TIMEOUT. -/
  | commandTimeout (t n : Nat)
  /-- COMPLETION_POST (R305): The HIF writes a command's completion into its reserved slot and advances CQ_PI. -/
  | completionPost (t n : Nat)
  /-- PUNT_CHANNEL_DISABLE (R318): A write of PC_EN = 0 returns every unused free buffer in a RETURNED record. -/
  | puntChannelDisable (t : Nat) (m : Master) (p : Fin 4)
  /-- INJECT_DESCRIPTOR (R319): The HIF takes an inject descriptor, reads the packet and enqueues or refuses it. -/
  | injectDescriptor (t : Nat) (ix : Fin 4) (desc : List Word32) (descOk bytesOk : Bool) (data : List Byte)
  /-- INJECT_CHANNEL_DISABLE (R320): A write of IC_EN = 0 completes waiting inject descriptors as FLUSHED. -/
  | injectChannelDisable (t : Nat) (m : Master) (ix : Fin 4) (tags : List (Fin 65536))
  /-- PACKET_INGRESS (R323): A packet crosses into the core, is pre-parsed and hashed, tagged or not, and sent to a slice's input FIFO. -/
  | packetIngress (t n : Nat)
  /-- PACKET_CLASSIFY (R337): A slice parses and classifies a packet, checks separation, applies the edit and hands it on. -/
  | packetClassify (t : Nat) (sl : Fin 36)
  /-- XGEM_ENCRYPT (R364): The CPE encrypts a downstream XGEM frame under the channel's active key with a fresh nonce. -/
  | xgemEncrypt (t : Nat) (tree : Tree)
  /-- XGEM_DECRYPT (R366): The CPE checks an upstream frame's nonce and key index and decrypts it cut-through. -/
  | xgemDecrypt (t : Nat) (c : Chan) (k : Nat) (x : TermIx) (port : Fin 65536) (ki : Fin 4) (options : Fin 262144) (word : Word32) (body : List Nat)
  /-- TAG_RESULT (R370): The CPE gives an upstream frame's tag result and the QMG writes FINAL or VOID into its header slot. -/
  | tagResult (t n : Nat)
  /-- KEY_ACTIVATION (R360): At frame A the new key of a channel becomes active for downstream and the old key inactive. -/
  | keyActivation (t : Nat) (slot : Fin 65536)
  /-- CLOCK_ALARM (R373): The time base or control cluster clock stays more than 5 % from nominal and every key slot is erased. -/
  | clockAlarm (t : Nat)
  /-- GLITCH_ALARM (R373): VCORE falls below 0.55 V at a detector and every key slot is erased. -/
  | glitchAlarm (t : Nat)
  /-- TEMPERATURE_ALARM (R373): A sensor reads above +130 C or below -45 C and every key slot is erased. -/
  | temperatureAlarm (t : Nat) (q : Int)
  /-- CELL_REQUEST (R397): A requester asks the BPM for a cell of a pool, which is granted, refused or made to wait. -/
  | cellRequest (t win : Nat) (r : Fin 41) (pool : Fin 256) (pkt : Option Nat) (cut : Option Bool)
  /-- WAIT_TIMEOUT (R398): A waiting cell request reaches its stamp plus WAIT_LIMIT_NS unserved and fails. -/
  | waitTimeout (t : Nat) (r : Fin 41)
  /-- BUFFER_FREE (R402): A free of a buffer is checked for range, first cell, owner and generation and spliced onto its free chain or refused. -/
  | bufferFree (t : Nat) (r : Fin 41) (p : Nat) (owner : Fin 2097152) (gen : Fin 64) (errs : Tbl CodeRead)
  /-- FLOG_CONSUMED (R403): A write of FLOG_CONSUMED releases free fault log entries or is refused. -/
  | flogConsumed (t : Nat) (m : Master) (v : Fin 2048)
  /-- CELL_ADDR (R386): A write of CELL_ADDR_HI applies a new cell address or is refused. -/
  | cellAddr (t : Nat) (m : Master) (v : Fin 4096)
  /-- PACKET_PUSH (R407): A writer pushes a packet with a PENDING header slot onto its queue, or the push is refused. -/
  | packetPush (t n : Nat) (pop : Bool) (errs : Tbl CodeRead)
  /-- PACKET_END (R407): At a packet's end the slice writes its length, cells, last cell and FINAL, or VOID if abandoned. -/
  | packetEnd (t n : Nat) (whole : Bool)
  /-- PACKET_POP (R410): A pop takes a FINAL or VOID head packet, reads, forwards or frees it, or returns nothing. -/
  | packetPop (t : Nat) (q : Fin 1048576) (errs : Tbl CodeRead)
  /-- FLUSH_COMMIT (R412): Once a flushed queue's tail is final its chain is spliced back and its depths set to 0. -/
  | flushCommit (t : Nat) (q : Fin 1048576)
  /-- SCRUB_READ (R390): A scrub read checks a memory word and corrects or poisons it. -/
  | scrubRead (t : Nat) (at_ : ScrubAt) (e : CodeRead) (last : Bool)
  /-- DRAM_REFRESH (R393): The SKC refreshes a bank at the interval set by its stack temperature. -/
  | dramRefresh (t : Nat) (stack : Fin 8)
  /-- SKC_READY (R394): An SKC finishes training and initializing its stack and sets READY. -/
  | skcReady (t : Nat) (stack : Fin 8)
  /-- EGRESS_REQUEST (R431): A port asks for its next packet and the TMG walks the scheduler tree by rounds and deficits to one queue. -/
  | egressRequest (t : Nat) (root : Fin 320)
  /-- SHAPER_WHEEL_EXPIRY (R438): Device time reaches a parked object's wheel instant and it becomes eligible again or is parked again. -/
  | shaperWheelExpiry (t : Nat) (terminal : Bool) (ix : Fin 1048576)
  /-- GATE_ENTRY_CHANGE (R443): A gate list in force moves to its next entry and the open ranks change. -/
  | gateEntryChange (t : Nat) (g : Fin 1024)
  /-- GATE_LIST_START (R445): At its start S a scheduled gate list goes into force and the list it replaces becomes IDLE. -/
  | gateListStart (t : Nat) (g : Fin 1024)
  /-- PORT_BRINGUP (R460): A write of PORT_EN = 1 starts auto-negotiation and training of a network port. -/
  | portBringup (t : Nat) (m : Master) (p : Fin 64)
  /-- AUTONEG_COMPLETE (R460): Clause 73 auto-negotiation ends with or without a common technology. -/
  | autonegComplete (t : Nat) (p : Fin 64) (common full : Bool)
  /-- LINK_TRAINING_COMPLETE (R460): Link training at the current step succeeds or fails, leading to lock, step-up, UP_LOW or renegotiation. -/
  | linkTrainingComplete (t : Nat) (p : Fin 64) (failed : Fin 16) (lock : Bool) (taps : List (Fin 64))
  /-- PORT_DEFECT_CHANGE (R479): A port defect is raised or cleared, taking the port down or starting its up hold time. -/
  | portDefectChange (t : Nat) (p : Fin 64) (b : Fin 7) (lane : Fin 4) (on : Bool)
  /-- UP_HOLD_EXPIRY (R461): No port-down defect has held for UP_HOLD_US and UP becomes 1. -/
  | upHoldExpiry (t : Nat) (p : Fin 64)
  /-- NETWORK_FRAME_RECEIVE (R458): A received network frame is checked for FCS and size, rate-matched, stamped and passed to the crossing
  or dropped. -/
  | networkFrameReceive (t : Nat) (p : Fin 256) (frame : List Byte) (whole room : Bool) (del ins fecCor fecUnc fecSym : Nat)
  /-- NETWORK_FRAME_TRANSMIT (R458): The NPC pads, appends FCS and sends a packet, stamping PTP event messages. -/
  | networkFrameTransmit (t : Nat) (p : Fin 256) (ins del : Nat)
  /-- PAUSE_RECEIVE (R467): A received PAUSE frame stops the port's transmission for its quanta or is dropped. -/
  | pauseReceive (t : Nat) (p : Fin 64) (quanta : Fin 65536)
  /-- PAUSE_HOLD_LIMIT (R468): Pause held for PAUSE_MAX_FRAMES makes the port ignore pause and log violation 0x40. A PAUSE of
  quanta 0 at that instant, `released`, is in time (R37). -/
  | pauseHoldLimit (t : Nat) (p : Fin 64) (released : Bool)
  /-- PAUSE_GENERATE (R469): While the named pool is in back-pressure the port sends PAUSE and resends it at half the quanta. -/
  | pauseGenerate (t : Nat) (p : Fin 64)
  /-- EYE_MEASURE (R463): Once per millisecond a lane measures and reports its eye margin. -/
  | eyeMeasure (t : Nat) (lane : Fin 64) (v h : Fin 256)
  /-- INJECT_ONE (R465): A write of INJECT_ONE = 1 inverts one generated pattern bit and hardware clears it. -/
  | injectOne (t : Nat) (m : Master) (lane : Fin 64) (hw : Bool)
  /-- FLEXE_OH_FRAME_RECEIVE (R476): A FlexE overhead frame is taken at its eighth block when its CRC checks, updating alignment, CR, CA and
  calendar. -/
  | flexeOhFrameReceive (t : Nat) (g : Fin 32) (inst : Nat) (crc : Bool) (oh : FlxOh) (skew : Bool)
  /-- FLEXE_OH_CANDIDATE (R475): A candidate first overhead block is accepted or rejected for alignment. -/
  | flexeOhCandidate (t : Nat) (g : Fin 32) (inst : Nat) (ok : Bool)
  /-- CAL_REQ (R477): A write of CAL_REQ = 1 requests a transmit calendar switch, or withdraws it when written 0. -/
  | calReq (t : Nat) (m : Master) (g : Fin 32) (v : Bool)
  /-- TX_OH_FRAME_BOUNDARY (R477): At a transmit overhead frame boundary the group switches calendar on a taken CA, or times out the request. -/
  | txOhFrameBoundary (t : Nat) (g : Fin 32)
  /-- TIME_RUN (R492): A write of TIME_RUN = 1 starts device time from the partner, the next EV0 edge or TIME_LOAD. -/
  | timeRun (t : Nat) (m : Master) (partner : Option Nat)
  /-- EVENT_EDGE (R506): A filtered edge on an event input is stamped into window 0 and feeds the 1PPS servo. -/
  | eventEdge (t : Nat) (ix : Fin 8) (falling : Bool) (held : Nat)
  /-- EVT_CONSUMED (R512): A write of EVT_CONSUMED releases event stamp entries or is refused. -/
  | evtConsumed (t : Nat) (m : Master) (v : Fin 512)
  /-- TXS_CONSUMED (R512): A write of TXS_CONSUMED releases transmit stamp entries or is refused. -/
  | txsConsumed (t : Nat) (m : Master) (v : Fin 512)
  /-- PULSE_OUTPUT (R507): A pulse output drives a pulse at START + n x PERIOD_NS. -/
  | pulseOutput (t : Nat) (o : Fin 4)
  /-- PO_EN (R507): A write of PO_EN = 1 enables a pulse output from its first instant at least 1 us later, or is refused. -/
  | poEn (t : Nat) (m : Master) (o : Fin 4) (v : Bool)
  /-- PHASE_ADJ (R497): A write of PHASE_ADJ_NS sets a phase correction that hardware slews toward 0. -/
  | phaseAdj (t : Nat) (m : Master) (v : Word32) (hw : Bool)
  /-- FREQ_ADJ (R497): A write of FREQ_ADJ sets the frequency correction of device time, or is refused. -/
  | freqAdj (t : Nat) (m : Master) (v : Word32)
  /-- TIME_OFFSET (R501): A write of TIME_OFFSET_HI applies both words of the PTP offset in one step. -/
  | timeOffset (t : Nat) (m : Master) (v : Word32)
  /-- HOLDOVER_ENTRY (R498): Loss of the time source puts the TMU into holdover on its averaged frequency. -/
  | holdoverEntry (t : Nat)
  /-- TIME_EXCHANGE (R500): The pair's two-way time exchange over Soundpost steers a following device to its partner's time. -/
  | timeExchange (t : Nat) (diff : Int)
  /-- EPOCH_MARKER_SEND (R523): The active device closes an epoch's stream with its commit marker. -/
  | epochMarkerSend (t : Nat) (bytes : Fin 16777216) (n : Nat) (base : Option Word32)
  /-- SOUNDPOST_RECORD_RECEIVE (R514): A Soundpost record is received whole and checked by CRC. -/
  | soundpostRecordReceive (t : Nat) (good required : Bool) (x : Option PairMsg)
  /-- EPOCH_COMMIT (R523): The standby receives a good commit marker, commits and applies the epoch and sends ACK. -/
  | epochCommit (t : Nat) (e : Epoch) (whole replay : Bool)
  /-- EPOCH_DEADLINE (R525): An epoch not committed by its deadline is discarded whole and a REWIND is sent. -/
  | epochDeadline (t k : Nat)
  /-- EPOCH_ACK_RECEIVE (R528): The active device receives an ACK, advancing the rewind mark and, in compatibility mode, posting completions. -/
  | epochAckReceive (t k : Nat)
  /-- REWIND (R529): A rewind request makes the active device replay epochs from its log. -/
  | rewind (t e : Nat)
  /-- RESYNC_REQUEST (R530): A resync request makes the active device start a bulk resync base. -/
  | resyncRequest (t : Nat)
  /-- BASE_MARKER_RECEIVE (R530): The standby receives a good base marker, replaces its mirrored tables and requests the replay. -/
  | baseMarkerReceive (t b : Nat) (x : Tables) (good : Bool)
  /-- CAPO_RENEWAL (R532): At frame k + 5 us the holder sends a renewal on the available paths, or misses it and fences. -/
  | capoRenewal (t : Nat) (bad : Bool)
  /-- PIN_MESSAGE_RECEIVE (R515): A lease pin message is received and checked, delivering a renewal, beacon or claim. -/
  | pinMessageReceive (t : Nat) (w : BitVec 64)
  /-- RENEWAL_RECEIVE (R533): A good renewal received on either path sets the lease end, or fences a dual-active holder. -/
  | renewalReceive (t : Nat) (pins : Bool) (x : PairMsg)
  /-- BEACON (R517): At frame k + 65 us a standby, fenced or idle device sends a beacon on both paths. -/
  | beacon (t : Nat) (bad : Bool)
  /-- PARTNER_ABSENT (R52): No good partner message for a lease length makes the partner absent. -/
  | partnerAbsent (t : Nat)
  /-- CAPO_TAKEOVER (R535): At T = E + M a ready standby takes the Capo and acts in the given order, or counts a blocked takeover. A renewal `renewed`
  at that instant moves T (R37). -/
  | capoTakeover (t : Nat) (ds : List (Nat × List Nat)) (renewed : Bool)
  /-- CLAIM (R537): A write of CLAIM = 1 starts a claim of the Capo, or is refused. -/
  | claim (t : Nat) (m : Master) (v hw : Bool)
  /-- CLAIM_END (R537): A claim's frames run out and the Capo is taken at the next frame boundary. -/
  | claimEnd (t : Nat)
  /-- COLD_START (R539): A write of COLD_START = 1 returns every mirrored table to reset and sets ROLE to IDLE, or is refused. -/
  | coldStart (t : Nat) (m : Master) (v hw : Bool)
  /-- RELEASE (R540): A write of RELEASE = 1 makes the next renewal the last, or is refused. -/
  | release (t : Nat) (m : Master) (v hw : Bool)
  /-- FORCE_FENCE (R540): A write of FORCE_FENCE = 1 stops renewal at the next renewal instant. -/
  | forceFence (t : Nat) (m : Master) (v : Bool)
  /-- MIRROR_EN (R527): A write of MIRROR_EN = 1 takes the replay log's cells and starts Soundpost training, or is refused. -/
  | mirrorEn (t : Nat) (m : Master) (v : Bool)
  /-- SOUNDPOST_TRAINING_COMPLETE (R513): Soundpost lanes finish training and SP_UP becomes 1. -/
  | soundpostTrainingComplete (t : Nat)
  /-- TAG_EN (R564): A write of TAG_EN = 1 loads each crossing's LFSR and starts tagging packets. -/
  | tagEn (t : Nat) (m : Master) (v : Bool)
  /-- TRACE_CONSUMED (R570): A write of TRACE_CONSUMED releases trace ring entries or is refused. -/
  | traceConsumed (t : Nat) (m : Master) (v : Fin 8192)
  /-- BOOT (R576): After reset the keeper core verifies, loads and measures an image slot and releases the normal cores, or fails. -/
  | boot (t : Nat) (a b : Image)
  /-- ATTEST_GO (R583): A write of ATTEST_GO starts an attestation report, reserving a leaf block if needed. -/
  | attestGo (t : Nat) (m : Master) (v hw : Bool)
  /-- ATTEST_REPORT_READY (R583): The keeper core finishes signing a report and sets its status. -/
  | attestReportReady (t : Nat)
  /-- DEBUG_GO (R585): A write of DEBUG_GO verifies a debug token and opens debug access with its erasures, or refuses it. -/
  | debugGo (t : Nat) (m : Master) (v : Bool) (level : Fin 4) (hw : Bool)
  /-- REVOKE_GO (R578): A write of REVOKE_GO burns a root slot to revoked, or is refused. -/
  | revokeGo (t : Nat) (m : Master) (v hw : Bool)
  /-- SVN_GO (R577): A write of SVN_GO burns the fused SVN up to SVN_RAISE_TO, or is refused. -/
  | svnGo (t : Nat) (m : Master) (v hw : Bool)
  /-- FUSE_BURN_COMPLETE (R573): A fuse burn ends and its read-back decides whether it counts as done. -/
  | fuseBurnComplete (t : Nat) (ok : Bool)
  /-- UNIT_FAILURE (R595): A unit meets its failure condition and is exchanged at once. -/
  | unitFailure (t : Nat) (kind : Fin 10) (u lost : Nat) (queues : List Nat)
  /-- SLICE_EXCHANGE (R596): At frame F the spare slice takes over the worn slice's spread entries. -/
  | sliceExchange (t : Nat) (sl : Fin 36)
  /-- AES_LANE_EXCHANGE (R597): The LANE_MAP entries of a worn lane are rewritten to a spare at a packet boundary. -/
  | aesLaneExchange (t : Nat) (l : Fin 34)
  /-- REGION_COPY_START (R598): A worn DRAM channel or SRAM bank begins copying to its spare. -/
  | regionCopyStart (t : Nat) (kind : Fin 10) (u : Nat)
  /-- REGION_REMAP (R598): At the frame boundary after the copy ends the logical region maps to the spare. -/
  | regionRemap (t : Nat) (kind : Fin 10) (u : Nat)
  /-- ROW_REPAIR (R599): A DRAM row with `reads` corrected reads within an hour is repaired with a spare row from ROW_CE_LIMIT reads on. -/
  | rowRepair (t : Nat) (n : Fin 8) (reads : Nat) (left : Bool)
  /-- APPROVE (R600): A write of APPROVE = 1 lets a pending worn PLL be exchanged. -/
  | approve (t : Nat) (m : Master) (v hw : Bool)
  /-- DFE_SWAP (R601): A worn DFE slice is swapped for a spare within one codeword or between bursts. -/
  | dfeSwap (t : Nat) (lane : Fin 320) (sl : Fin 16) (unc : Fin 3)
  /-- USB4_LINK_CHANGE (R614): The USB4 link or its PCIe tunnel comes up or goes down. -/
  | usb4LinkChange (t : Nat) (link tunnel : Bool) (gen : Fin 8)
  /-- HOST_LOSS_TIMEOUT (R627): A host loss lasting HOST_LOSS_MS writes RELEASE on the MRU page. -/
  | hostLossTimeout (t : Nat)
  /-- FUNCTION_LEVEL_RESET (R618): An FLR of PF0 resets the HIF ring fields and MSI-X table and discards held completions. -/
  | functionLevelReset (t : Nat) (pf1 : Bool)
  /-- MSIX_SEND (R620): A vector becomes live and one MSI-X message is sent, or held pending while masked. -/
  | msixSend (t : Nat) (v : Fin 2048)
  /-- MSIX_REPEAT (R620): IRQ_REPEAT_US passes with the vector still live and the message is sent again. -/
  | msixRepeat (t : Nat) (v : Fin 2048)
  /-- MSIX_UNMASK (R620): A live vector is unmasked and one message is sent. -/
  | msixUnmask (t : Nat) (v : Fin 2048) (mask : Bool)
  /-- DMA_READ_COMPLETE (R624): A DMA read completes with data, or fails with an error. -/
  | dmaReadComplete (t id : Nat) (ok : Bool) (bs : List Byte)
  /-- DMA_TIMEOUT (R624): A DMA read not answered within 50 us fails. -/
  | dmaTimeout (t id : Nat)
  /-- PORST_ASSERT (R642): PORST_N falls and the whole device resets, erasing every key slot. -/
  | porstAssert (t low : Nat) (took : Bool)
  /-- PORST_RELEASE (R643): PORST_N rises, the straps are sampled and fuses and the repair map are applied. -/
  | porstRelease (t : Nat) (side test : Bool)
  /-- SOUNDPOST_LINK_DOWN (R513): A Soundpost lane loses training or alignment, so the link is down and SP_UP falls to 0. -/
  | soundpostLinkDown (t : Nat)
  /-- PAUSE_QUANTA_EXPIRY (R467): The quanta of the last received PAUSE run out, so PAUSED falls, the port root becomes eligible again and
  an ignored pause ends. -/
  | pauseQuantaExpiry (t : Nat) (p : Fin 64)
  /-- FENCE_EGRESS_STOP (R534): At lease end minus margin minus 1 us, a holder that has missed its renewal stops network egress. -/
  | fenceEgressStop (t : Nat)
  /-- OWNER_CLEAR (R404): The BPM clears OWNER in one first cell of a spliced chain, counting BPM_CLEARED, and drops CLEARING once none remain. -/
  | ownerClear (t : Nat)
  /-- TIME_REFERENCE_CHANGE (R510): The time reference input moves outside or back inside plus or minus 200 ppm, changing REF_OK and
  counting TMU_REF_LOSS on a fall. -/
  | timeReferenceChange (t : Nat) (ok : Bool)
  /-- TREE_LANES_READY (R288): Within 200 us after a QUIET_TREE bit is cleared, the tree's lanes are ready and LANES_DOWN falls, so TREE_EN
  may again be written. -/
  | treeLanesReady (t : Nat) (tree : Tree)
  /-- REGION_COPY_COMPLETE (R598): The copy of a worn DRAM channel or SRAM bank to its spare ends, and COPYING falls to 0. -/
  | regionCopyComplete (t : Nat) (kind : Fin 10) (u : Nat)
  /-- PLL_WORN (R593): A PLL's control code comes within 5 % of its range end, so the PLL is worn and PENDING becomes 1 unless AUTO_PLL lets
  it be exchanged. -/
  | pllWorn (t : Nat) (u : Fin 96)
  /-- DMA_WRITE_REFUSED (R624): The host's PCIe tunnel refuses a DMA write, counting DMA_ERRORS and, for punt data, returning the buffer in
  a RETURNED record. -/
  | dmaWriteRefused (t : Nat) (punt : Option (Fin 4))
  /-- BUS_MASTER_ENABLE_CHANGE (R617): The host changes Bus Master Enable of PF0, which sets BUS_MASTER and starts or ends a host loss. -/
  | busMasterEnableChange (t : Nat) (v : Bool)
  /-- FLEXE_OH_MISSING (R475): An aligned FlexE instance finds no first overhead block at an expected position, and after 5 in a row loses
  alignment, counting FLX_OH_LOCK_LOST. -/
  | flexeOhMissing (t : Nat) (g : Fin 32) (inst : Nat)
  /-- PRBS_LOCK_CHANGE (R464): A lane's pattern checker gains or loses alignment with the received pattern, changing PRBS_LOCK. -/
  | prbsLockChange (t : Nat) (lane : Fin 64) (on : Bool) (n errs : Nat)
  deriving DecidableEq, Repr

end Sys2Proof
end

