-- ==== Sys2Proof/Decode.lean ====
section
/-!
DEFINITION. The commands spelled by words: none, since the opcode table gives no row any bits.
-/

namespace Sys2Proof

/-- The command a word spells by the table's bits. No row of the table gives bits, so no word spells a command. -/
def decodeTableWord (_nbits _w : Nat) : Option Instr := none

end Sys2Proof
end

