-- ==== Sys2Proof/Machine/Codes.lean ====
section
/-!
DEFINITION. The codes and ciphers the spec names and leaves to their standards: CRC-32C, CRC-8 and CRC-16, SHA-256, AES and GCM.
PRESUMED: the standards' own definitions (log entry 7).
-/

namespace Sys2Proof.Machine

/-! ### Cyclic redundancy checks -/

/-- One bit of a reflected CRC with polynomial `poly`. -/
def crcBit (poly c : Nat) : Nat := if c % 2 = 1 then (c / 2) ^^^ poly else c / 2

/-- One byte of a reflected CRC. -/
def crcByte (poly c b : Nat) : Nat :=
  crcBit poly (crcBit poly (crcBit poly (crcBit poly (crcBit poly (crcBit poly (crcBit poly (crcBit poly (c ^^^ (b % 256)))))))))

/-- CRC-32C over bytes with an initial value (R324, R338). -/
def crc32c (seed : Nat) (bs : List Nat) : Nat := (bs.foldl (crcByte 0x82F63B78) seed) ^^^ 0xFFFFFFFF

/-- The FCS of an Ethernet frame (R458): CRC-32 of IEEE 802.3. -/
def crc32 (bs : List Nat) : Nat := (bs.foldl (crcByte 0xEDB88320) 0xFFFFFFFF) ^^^ 0xFFFFFFFF

/-! ### SHA-256 -/

/-- The round constants of SHA-256. -/
def shaK : List Nat :=
  [1116352408, 1899447441, 3049323471, 3921009573, 961987163, 1508970993, 2453635748, 2870763221] ++
  [3624381080, 310598401, 607225278, 1426881987, 1925078388, 2162078206, 2614888103, 3248222580] ++
  [3835390401, 4022224774, 264347078, 604807628, 770255983, 1249150122, 1555081692, 1996064986] ++
  [2554220882, 2821834349, 2952996808, 3210313671, 3336571891, 3584528711, 113926993, 338241895] ++
  [666307205, 773529912, 1294757372, 1396182291, 1695183700, 1986661051, 2177026350, 2456956037] ++
  [2730485921, 2820302411, 3259730800, 3345764771, 3516065817, 3600352804, 4094571909, 275423344] ++
  [430227734, 506948616, 659060556, 883997877, 958139571, 1322822218, 1537002063, 1747873779] ++
  [1955562222, 2024104815, 2227730452, 2361852424, 2428436474, 2756734187, 3204031479, 3329325298]

/-- The initial hash value of SHA-256. -/
def shaH : List Nat :=
  [1779033703, 3144134277, 1013904242, 2773480762, 1359893119, 2600822924, 528734635, 1541459225]

/-- 32-bit helpers. -/
def add32 (a b : Nat) : Nat := (a + b) % 2 ^ 32
def rotr32 (x n : Nat) : Nat := (x / 2 ^ n + x * 2 ^ (32 - n)) % 2 ^ 32
def not32 (x : Nat) : Nat := 0xFFFFFFFF - x % 2 ^ 32

/-- The message schedule, latest word first, `n` more words. -/
def shaSchedule : Nat → List Nat → List Nat
  | 0, w => w
  | n + 1, w =>
    let a := w.getD 14 0
    let b := w.getD 1 0
    let s0 := rotr32 a 7 ^^^ rotr32 a 18 ^^^ (a / 8)
    let s1 := rotr32 b 17 ^^^ rotr32 b 19 ^^^ (b / 1024)
    shaSchedule n (add32 (add32 (w.getD 15 0) s0) (add32 (w.getD 6 0) s1) :: w)

/-- One round of SHA-256 on the eight working variables. -/
def shaRound (v : List Nat) (kw : Nat) : List Nat :=
  let e := v.getD 4 0
  let a := v.getD 0 0
  let s1 := rotr32 e 6 ^^^ rotr32 e 11 ^^^ rotr32 e 25
  let ch := (e &&& v.getD 5 0) ^^^ (not32 e &&& v.getD 6 0)
  let t1 := add32 (add32 (v.getD 7 0) s1) (add32 ch kw)
  let s0 := rotr32 a 2 ^^^ rotr32 a 13 ^^^ rotr32 a 22
  let mj := (a &&& v.getD 1 0) ^^^ (a &&& v.getD 2 0) ^^^ (v.getD 1 0 &&& v.getD 2 0)
  [add32 t1 (add32 s0 mj), a, v.getD 1 0, v.getD 2 0, add32 (v.getD 3 0) t1, e, v.getD 5 0, v.getD 6 0]

/-- One 64-byte block. -/
def shaBlock (h : List Nat) (block : List Nat) : List Nat :=
  let w := (List.range 16).map (fun i => ofBytesBE ((block.drop (4 * i)).take 4))
  let s := (shaSchedule 48 w.reverse).reverse
  let v := (List.zipWith (fun k w => add32 k w) shaK s).foldl shaRound h
  List.zipWith add32 h v

/-- Blocks of a padded message. -/
def shaBlocks : Nat → List Nat → List Nat → List Nat
  | 0, _, h => h
  | n + 1, m, h => shaBlocks n (m.drop 64) (shaBlock h (m.take 64))

/-- SHA-256 of a message of bytes: 32 bytes. -/
def sha256 (m : List Nat) : List Nat :=
  let z := (119 - m.length % 64) % 64
  let p := m ++ [0x80] ++ List.replicate z 0 ++ toBytesBE 8 (8 * m.length)
  (shaBlocks (p.length / 64) p shaH).flatMap (toBytesBE 4)

/-! ### AES -/

/-- The S-box of AES. -/
def sbox : List Nat :=
  [99, 124, 119, 123, 242, 107, 111, 197, 48, 1, 103, 43, 254, 215, 171, 118] ++
  [202, 130, 201, 125, 250, 89, 71, 240, 173, 212, 162, 175, 156, 164, 114, 192] ++
  [183, 253, 147, 38, 54, 63, 247, 204, 52, 165, 229, 241, 113, 216, 49, 21] ++
  [4, 199, 35, 195, 24, 150, 5, 154, 7, 18, 128, 226, 235, 39, 178, 117] ++
  [9, 131, 44, 26, 27, 110, 90, 160, 82, 59, 214, 179, 41, 227, 47, 132] ++
  [83, 209, 0, 237, 32, 252, 177, 91, 106, 203, 190, 57, 74, 76, 88, 207] ++
  [208, 239, 170, 251, 67, 77, 51, 133, 69, 249, 2, 127, 80, 60, 159, 168] ++
  [81, 163, 64, 143, 146, 157, 56, 245, 188, 182, 218, 33, 16, 255, 243, 210] ++
  [205, 12, 19, 236, 95, 151, 68, 23, 196, 167, 126, 61, 100, 93, 25, 115] ++
  [96, 129, 79, 220, 34, 42, 144, 136, 70, 238, 184, 20, 222, 94, 11, 219] ++
  [224, 50, 58, 10, 73, 6, 36, 92, 194, 211, 172, 98, 145, 149, 228, 121] ++
  [231, 200, 55, 109, 141, 213, 78, 169, 108, 86, 244, 234, 101, 122, 174, 8] ++
  [186, 120, 37, 46, 28, 166, 180, 198, 232, 221, 116, 31, 75, 189, 139, 138] ++
  [112, 62, 181, 102, 72, 3, 246, 14, 97, 53, 87, 185, 134, 193, 29, 158] ++
  [225, 248, 152, 17, 105, 217, 142, 148, 155, 30, 135, 233, 206, 85, 40, 223] ++
  [140, 161, 137, 13, 191, 230, 66, 104, 65, 153, 45, 15, 176, 84, 187, 22]

/-- A byte through the S-box. -/
def subByte (x : Nat) : Nat := sbox.getD x 0

/-- Doubling in the field of AES. -/
def xtime (x : Nat) : Nat := if x < 128 then 2 * x else (2 * x % 256) ^^^ 0x1B

/-- Add two lists of bytes. -/
def xorBytes (a b : List Nat) : List Nat := List.zipWith (· ^^^ ·) a b

/-- The key schedule: `n` more words after the first, latest word first; `i` is the number of the next word. -/
def aesExpand (nk : Nat) : Nat → Nat → Nat → List (List Nat) → List (List Nat)
  | 0, _, _, ws => ws
  | n + 1, i, rc, ws =>
    let t := ws.headD []
    let (t, rc') :=
      if i % nk = 0 then (xorBytes ((t.drop 1 ++ t.take 1).map subByte) [rc, 0, 0, 0], xtime rc)
      else if nk = 8 ∧ i % nk = 4 then (t.map subByte, rc)
      else (t, rc)
    aesExpand nk n (i + 1) rc' (xorBytes (ws.getD (nk - 1) []) t :: ws)

/-- The round keys of a key of 16 or 32 bytes. -/
def aesKeys (key : List Nat) : List (List Nat) :=
  let nk := key.length / 4
  let w := (List.range nk).map (fun i => (key.drop (4 * i)).take 4)
  let ws := (aesExpand nk (4 * (nk + 7) - nk) nk 1 w.reverse).reverse
  (List.range (nk + 7)).map (fun r => ((ws.drop (4 * r)).take 4).flatten)

/-- SubBytes and ShiftRows. -/
def aesShift (s : List Nat) : List Nat := (List.range 16).map (fun i => subByte (s.getD ((i + 4 * (i % 4)) % 16) 0))

/-- MixColumns on one column. -/
def aesMixCol (c : List Nat) : List Nat :=
  let a := c.getD 0 0
  let b := c.getD 1 0
  let e := c.getD 2 0
  let f := c.getD 3 0
  [xtime a ^^^ xtime b ^^^ b ^^^ e ^^^ f, a ^^^ xtime b ^^^ xtime e ^^^ e ^^^ f,
   a ^^^ b ^^^ xtime e ^^^ xtime f ^^^ f, xtime a ^^^ a ^^^ b ^^^ e ^^^ xtime f]
def aesMix (s : List Nat) : List Nat := (List.range 4).flatMap (fun c => aesMixCol ((s.drop (4 * c)).take 4))

/-- The rounds of AES after the first key addition. -/
def aesRounds : List (List Nat) → List Nat → List Nat
  | [], s => s
  | [k], s => xorBytes (aesShift s) k
  | k :: r, s => aesRounds r (xorBytes (aesMix (aesShift s)) k)

/-- AES of one block under round keys. -/
def aesBlock (keys : List (List Nat)) (b : List Nat) : List Nat :=
  match keys with
  | [] => b
  | k :: r => aesRounds r (xorBytes b k)

/-! ### GCM -/

/-- Multiplication in the field of GHASH: the bits of `x` from the most significant down, `v` the running multiple. -/
def ghashMul : Nat → Nat → Nat → Nat → Nat
  | 0, _, _, z => z
  | n + 1, x, v, z =>
    ghashMul n x (if v % 2 = 1 then (v / 2) ^^^ (0xE1 * 2 ^ 120) else v / 2) (if x.testBit n then z ^^^ v else z)

/-- Blocks of 16 bytes, the last filled with zeros. -/
def blocks16 : Nat → List Nat → List (List Nat)
  | 0, _ => []
  | n + 1, l => if l = [] then [] else ((l ++ List.replicate 15 0).take 16) :: blocks16 n (l.drop 16)

/-- GHASH under hash key `h`. -/
def ghash (h : Nat) (bs : List (List Nat)) : Nat := bs.foldl (fun y b => ghashMul 128 (y ^^^ ofBytesBE b) h 0) 0

/-- The counter blocks of a 12-byte IV from counter `c` on, encrypted, over the data. -/
def gctr (keys : List (List Nat)) (iv : List Nat) : Nat → List (List Nat) → List (List Nat)
  | _, [] => []
  | c, b :: r => xorBytes b (aesBlock keys (iv ++ toBytesBE 4 c)) :: gctr keys iv (c + 1) r

/-- The GCM transform of data under a key and a 12-byte IV: encryption and decryption alike. -/
def gcmCrypt (key iv data : List Nat) : List Nat :=
  ((gctr (aesKeys key) iv 2 (blocks16 (data.length + 1) data)).flatten).take data.length

/-- The GCM tag of a ciphertext and its additional data. -/
def gcmTag (key iv aad ct : List Nat) : List Nat :=
  let ks := aesKeys key
  let h := ofBytesBE (aesBlock ks (List.replicate 16 0))
  let l := toBytesBE 8 (8 * aad.length) ++ toBytesBE 8 (8 * ct.length)
  let s := ghash h (blocks16 (aad.length + 1) aad ++ blocks16 (ct.length + 1) ct ++ [l])
  xorBytes (toBytesBE 16 s) (aesBlock ks (iv ++ [0, 0, 0, 1]))

/-! ### Messages of the lease (R515, R516) -/

/-- One byte into a CRC-8 of polynomial 0x07, the highest bit first. -/
def crc8Byte (c b : Nat) : Nat := (List.range 8).foldl (fun x _ => if 128 ≤ x then (2 * x % 256) ^^^ 7 else 2 * x) (c ^^^ b % 256)
def crc8 (bs : List Nat) : Nat := bs.foldl crc8Byte 0

/-- Bits [55:8] of a pin message as bytes, the highest first. -/
def leaseBytes (w : Nat) : List Nat := (List.range 6).map (fun i => w / 2 ^ (48 - 8 * i) % 256)

/-- The 64-bit pin message of a message of the lease (R516). -/
def PairMsg.word (x : PairMsg) : Nat :=
  let b := (x.frame % 2 ^ 32) * 2 ^ 8 + b2n x.unacked * 2 ^ 41 + b2n x.ready * 2 ^ 42 + x.margin % 8 * 2 ^ 43 + x.lease % 16 * 2 ^ 46 + b2n x.release * 2 ^ 50
    + b2n x.side * 2 ^ 51 + x.kind % 16 * 2 ^ 52
  0xB4 * 2 ^ 56 + b + crc8 (leaseBytes b)

/-- Whether a pin message is good: its SYNC and its CRC-8 (R515, R516). -/
def leaseGood (w : Nat) : Bool := decide (w / 2 ^ 56 % 256 = 0xB4) && decide (crc8 (leaseBytes w) = w % 256)

/-- The fields of a pin message (R516). -/
def leaseFields (w : Nat) : PairMsg :=
  { kind := w / 2 ^ 52 % 16, side := w.testBit 51, release := w.testBit 50, lease := w / 2 ^ 46 % 16, margin := w / 2 ^ 43 % 8, ready := w.testBit 42,
    unacked := w.testBit 41, frame := w / 2 ^ 8 % 2 ^ 32 }

end Sys2Proof.Machine
end

