-- ==== Sys2Proof/Config.lean ====
section
/-!
DEFINITION. What the spec leaves open or to outside standards: free values without a body, and the values fused
into a part.
-/

namespace Sys2Proof.Config

/-- The bits of a PLOAM message that the firmware makes (G.9804.3): word `i` of the message. Free: the spec gives
none of them. -/
opaque ploamWord : Ploam → Nat → Nat

/-- The bytes of a downstream PHY frame that its map, PLOAM messages and XGEM frames share: what the header, the trailer and the code leave (R97, R98).
Free: G.9804.2's. -/
opaque framePayload : Nat

/-- The bytes of a bandwidth map of so many allocation structures (R97). Free: G.9804.2's. -/
opaque mapBytes : Nat → Nat

/-- A fresh open value, drawn by the count of values drawn so far. -/
opaque freeValue : Nat → Nat

/-- The bytes of the CHANGE class that a window write or a command's effect takes in an epoch (R520, R521), by the
opcode, or 256 + the page of the window, and the words. Free: the spec gives no sizes. -/
opaque changeBytes : Nat → List Nat → Nat

/-- The number of a crossing into the core (R564), by receive group, 16 + quad, or 32 + inject channel. Free: the spec
numbers none. -/
opaque crossingNumber : Nat → Nat

/-- A measurement the spec gives no value of, by the key of its field and device time: lock of a quad's reference and PLL, and the
read latency of a stack. Free. -/
opaque measured : Nat → Nat → Nat

/-- The verdict on a signature the spec leaves to its standards (LMS, HSS): over a key, a message and a signature. -/
opaque verify : List Nat → List Nat → List Nat → Bool

/-- Whether a debug token of these words verifies for a message under a key with this hash (R585). -/
opaque verifyToken : List Nat → List Nat → List Nat → Bool

/-- Word `i` of the challenge drawn as number `n` (R585). Free: the spec draws it. -/
opaque challengeWord : Nat → Nat → Nat

/-- The digest that extends M0, over the ROOT_STATE, SVN and DEBUG_POLICY fuse words (R581). Free: the spec gives neither the
boot ROM version word nor the layout. -/
opaque romDigest : List Nat → List Nat

/-- The digest of a debug level and token that extends M3 (R581). Free: the spec gives no layout. -/
opaque tokenDigest : Nat → List Nat → List Nat

/-- A signature under a leaf of the identity tree (R582). Free: the spec gives no bits. -/
opaque sign : List Nat → Nat → List Nat → List Nat

/-- The identity public key derived from the fused secret (R579). -/
opaque identityPub : List Nat → List Nat

/-- The rated throughput of a slice at a grid voltage and 85 degrees, in packets per microsecond (R329). -/
def ratedPace (mv : Nat) : Nat :=
  if mv = 600 then 780 else if mv = 625 then 860 else if mv = 650 then 950
  else if mv = 675 then 1030 else if mv = 700 then 1100 else if mv = 725 then 1180
  else if mv = 750 then 1250 else if mv = 775 then 1320 else if mv = 800 then 1390
  else if mv = 825 then 1450 else if mv = 850 then 1500 else 0

/-- The fused reference throughput of a slice at a grid voltage, in packets per microsecond (R271): the rated
figure of R329, which the spec gives as the least a part may hold. DESIGN CHOICE: log entry 1. -/
def paceRef (_slice mv : Nat) : Nat := ratedPace mv

end Sys2Proof.Config
end

