-- ==== Sys2Proof/Machine/State.lean ====
section
/-!
DEFINITION. The state of the device, as plain data, and the machine right after reset. Each structure groups what
one chapter of the spec gives the device; register fields and counters stand in two sparse tables whose unlisted
entries read as the field's reset value.
-/

namespace Sys2Proof.Machine

/-- Device time and what a command leaves on the device's edges. `free` counts the open values drawn so far (the
model's own counter, not the device's). -/
structure Core where
  time : Nat := 0
  free : Nat := 0
  out : List Out := []
  busData : Word := 0
  deriving DecidableEq, Repr

/-- A window operation in progress (R85): the operation, the entry, its words, who asked, and the CHANGE bytes it
takes in the epoch (R521). -/
structure WinOp where
  op : Nat
  addr : Nat
  words : List Nat
  master : Master
  deriving DecidableEq, Repr

/-- The register pages' own state beside the fields: high words captured and low words held for a master (R69, R70),
threshold low words held (R82), the pages whose last boundary applied a set (R74), and window operations. -/
structure Pages where
  captured : Tbl Nat := []
  held : Tbl Nat := []
  threshLo : Tbl Nat := []
  applied : List Nat := []
  winOps : Tbl WinOp := []
  deriving DecidableEq, Repr

/-- Tree ports, courses and channel framers (chapter 03). `courseQ` holds by terminal the frames of a course that wait for the distributor (R112). -/
structure Trees where
  courses : Tbl Course := []
  courseQ : Tbl (List DsXgem) := []
  reorder : Tbl Reorder := []
  cfr : Tbl Cfr := []
  deriving DecidableEq, Repr

/-- The Fretboard (chapter 04). `slots` is keyed by 8 x channel + slot. -/
structure Fret where
  allocs : Tbl Alloc := []
  timing : Tbl Timing := []
  slots : Tbl Slot := []
  plans : Tbl Plan := []
  courseWait : List CourseGrant := []
  ledger : Tbl Ledger := []
  ring : Tbl Rec := []
  took : Bool := false
  firstOwn : Tbl Nat := []
  deriving DecidableEq, Repr

/-- Burst receivers, pegs and the violation log (chapter 05). Pegs and charges are keyed by 512 x channel + n. `kept`
holds the bursts a standby received in the last 8 tree frames (R526). -/
structure Bursts where
  brx : Tbl Brx := []
  pegs : Tbl Peg := []
  charges : Tbl (Nat × Nat) := []
  vlog : Tbl VEntry := []
  kept : List Kept := []
  deriving DecidableEq, Repr

/-- Terminals and ranging (chapter 06). `shadow` holds a standby's samples as (stamp, offset). `ploamAsk` names the terminals whose next grant carries
the PLOAM flag, `ploamTries` counts how often a malformed reply was asked for again (R216). -/
structure Ranging where
  terms : Tbl Term := []
  shadow : Tbl (List (Nat × Int)) := []
  frozen : Tbl Int := []
  disc : Tbl DiscEntry := []
  windows : List Window := []
  wants : List RangeReq := []
  ploamAsk : List Nat := []
  ploamTries : Tbl Nat := []
  deriving DecidableEq, Repr

/-- Power and heat (chapter 07). `lastAck` is the voltage held: the last one the regulator acknowledged. `pub` is what the last publication took its
envelopes from. -/
structure Power where
  temps : List Int := []
  coreTemps : List Int := []
  pace : List Nat := []
  plan : List PlanRow := []
  pub : PubBase := {}
  lastAck : Nat := 750
  wanted : Nat := 750
  tries : Nat := 0
  raised : Option (Nat × Nat) := none
  coolRun : Nat := 0
  clearRun : Nat := 0
  handled : Tbl Nat := []
  railLow : Bool := false
  deriving DecidableEq, Repr


/-- Cells, pools and queues (chapter 11). `mem` is the cell memory by byte address (R386: bit 43 is the region);
`poison` lists the poisoned words' addresses, and `voided` the logical regions lost whole with the words rewritten since (R598); `bufPool` tells by a buffer's first cell which pool its cells count against; chains are
keyed 0 to 63 on-chip and 64 + k in DRAM. `win` and the four fields after it tell what the present handshake window
did (R400). `region` maps a logical region of R391 to the physical one that serves it, `addrLo` holds a low address word (R415).
`ceTimes` holds the corrected reads of a region in the last hour (R593). `flushed` names the indices of destroyed queues that keep FLUSH (R412). -/
structure Cells where
  mem : List Host.Cell := []
  region : Tbl Nat := []
  poison : List Nat := []
  voided : Tbl (List Nat) := []
  chains : Tbl FreeChain := []
  turnOn : Nat := 0
  turnDram : Nat := 0
  used : Nat × Nat := (0, 0)
  lost : Nat × Nat := (0, 0)
  pools : Tbl Pool := []
  bufPool : Tbl Nat := []
  waiters : List Waiter := []
  win : Nat := 0
  winFirst : Nat := 1
  winPos : Option Nat := none
  tookShared : List Bool := []
  tookMin : List Nat := []
  flog : Tbl FEntry := []
  addrLo : Nat := 0
  errs : Tbl (Nat × Nat) := []
  ceTimes : Tbl (List Nat) := []
  clearing : List Nat := []
  flushed : List Nat := []
  queues : Tbl Queue := []
  deriving DecidableEq, Repr

/-- Scheduling, shaping and gates (chapter 12). Nodes, rounds, deficits and buckets are keyed by 2^20 x level + index, and
a terminal's OMCI queue by 5 x 2^20 + index. `picked` names the queue chosen for each root. -/
structure Traffic where
  nodes : Tbl TNode := []
  rounds : Tbl Round := []
  deficits : Tbl Nat := []
  termBuckets : Tbl Bucket := []
  shapers : Tbl Shaper := []
  gates : Tbl GateList := []
  lag : Tbl Nat := []
  picked : Tbl Nat := []
  guardHeld : Tbl Nat := []
  egress : Tbl (List Egress) := []
  omci : Tbl (List (List Nat)) := []
  deriving DecidableEq, Repr

/-- Packets in the slices and the classifier's tables (chapter 09), as the entries' words. `tagDue` lists the packets dropped
before their tag result, with what it will be (R370). `entered` counts the packets that entered a FIFO, `moving`
lists the spread entries that moved: the entry, the instant and the slice it left. By slice, `slotAcc` is the part of a slot offered, in thousandths,
and `slotUsed` the slots that packets took ahead of it (R560). -/
structure Packets where
  pkts : Tbl Pkt := []
  next : Nat := 0
  tagDue : Tbl Bool := []
  exact : Tbl (List Nat) := []
  ternary : Tbl (List Nat) := []
  actions : Tbl (List Nat) := []
  domains : Tbl Nat := []
  entered : Nat := 0
  moving : List (Nat × Nat × Nat) := []
  slotAcc : Tbl Nat := []
  slotUsed : Tbl Nat := []
  puntMs : Tbl (Nat × Nat) := []
  deriving DecidableEq, Repr

/-- Service channels, key slots and commands (chapters 08, 10). `reserved` counts the completion slots reserved on
each completion ring, `passBase` the pass at its last enable. `erasingTo` is when the last erasure ends (R375). -/
structure Service where
  chans : Tbl SvcChan := []
  keys : Tbl KeySlot := []
  cmds : List Cmd := []
  seq : Nat := 0
  turn : Nat := 0
  erasingTo : Nat := 0
  reserved : Tbl Nat := []
  passBase : Tbl Nat := []
  cqFullFrame : Bool := false
  deriving DecidableEq, Repr

/-- The host interface (chapters 08, 19): DMA reads, held completions, the loss of the host, what was written of late,
and the MSI-X vectors. `turn` is the DMA class whose turn is next (R621). `irq` maps page interrupts by page; a vector not in `unmasked` is masked. -/
structure Hif where
  reads : List DmaRead := []
  nextRead : Nat := 0
  turn : Nat := 0
  held : List Cpl := []
  lossAt : Option Nat := none
  released : Bool := false
  recent : List (Nat × Out) := []
  irq : Tbl Nat := []
  unmasked : List Nat := []
  pendingMsix : List Nat := []
  told : Tbl Nat := []
  lastPunt : Tbl (Nat × Nat) := []
  deriving DecidableEq, Repr

/-- Network ports and FlexE (chapter 13). The connection memory is keyed by window address x 4 + k (R490). -/
structure Net where
  ports : Tbl NetPort := []
  groups : Tbl FlxGroup := []
  conn : Tbl Nat := []
  clients : Tbl FlxClient := []
  deriving DecidableEq, Repr

/-- The monitor (chapter 16): LFSRs by crossing, the traces of tagged packets in flight, which buffer carries which
trace, the trace ring as words, and the TAG_N of the last write of TAG_EN = 1 (R566). -/
structure Mon where
  lfsr : Tbl Nat := []
  traces : Tbl Trace := []
  next : Nat := 0
  byCell : Tbl Nat := []
  ring : Tbl (List Nat) := []
  tagN : Nat := 65536
  deriving DecidableEq, Repr


/-- Device time and its discipline (chapter 14): a held low offset word, the wait for an EV0 edge, the values FREQ_APPLIED had
with their starts, the fraction of the phase slewed (in 10^-12 ns), whether the slew was reduced in the present frame, the last servo write, the last edges, whether the
last EV0 edge was off its second, the last holdover entry, stamps and entries as words, and each output's next pulse. -/
structure Tmu where
  offsetLo : Option Nat := none
  waitEdge : Bool := false
  applied : List (Nat × Int) := []
  phaseAcc : Nat := 0
  clamped : Bool := false
  servoAt : Nat := 0
  lastEdge : Tbl Nat := []
  lastPps : Nat := 0
  goodEdges : Nat := 0
  badEdge : Bool := false
  following : Bool := false
  holdAt : Option Nat := none
  evt : Tbl (List Nat) := []
  txs : Tbl (List Nat) := []
  tod : Tbl (List Nat) := []
  pulseN : Tbl Nat := []
  deriving DecidableEq, Repr

/-- The mirror and the lease (chapter 15). `prev` holds the mirrored tables at the last frame boundary; `change` the bytes
of the CHANGE class so far (R521); `written` the epoch last written to the log, `toSend` the one whose marker waits, `sent` and
`acked` epochs in full. `end_`, `margin` are the terms of the last renewal sent or received, with the lease end in device
time; `fenceAt` is lease end minus margin once a renewal was missed. `heard` is when a good message of the partner last
came. `since`, `applied`, `judged` say what a standby took; its swept values, carried completions, the commands under way in the last applied epoch (`cutOff`) and ring indices
wait for a takeover. `early` is the last epoch whose completions were posted without an acknowledgement (R546). -/
structure Mru where
  prev : Tables := {}
  log : Tbl Epoch := []
  logCells : Nat := 0
  change : Nat := 0
  deferred : List Nat := []
  zeroized : Bool := false
  written : Nat := 0
  toSend : Option Nat := none
  acked : Nat := 0
  base : Option Nat := none
  baseAsked : Bool := false
  replay : Option Nat := none
  end_ : Option Nat := none
  margin : Nat := 1
  fenceAt : Option Nat := none
  releaseSeen : Bool := false
  releasing : Bool := false
  claimEnd : Option Nat := none
  takeAt : Option Nat := none
  heard : Nat := 0
  heardPins : Option Nat := none
  lastRenewal : Option (Nat × Nat) := none
  blocked : Bool := false
  pinFault : Bool := false
  since : Nat := 0
  applied : Option Nat := none
  judged : Nat := 0
  resynced : Bool := false
  overtaken : Bool := false
  followOk : Bool := false
  unacked : Bool := false
  hdrLog : Nat := 256
  hdrCompat : Bool := false
  hdrPosted : Nat := 0
  sweptCtrs : Tbl Nat := []
  sweptDepths : Tbl Nat := []
  genCtrs : Tbl Nat := []
  carried : List (Nat × Cpl) := []
  cutOff : List Cmd := []
  crIdx : Tbl Nat := []
  posted : Nat := 0
  early : Nat := 0
  records : Tbl (List Nat) := []
  deriving DecidableEq, Repr


/-- The fuses (R573, R604): the only state that survives power loss. Root hashes as bytes; `svn` counts burned bits; `leaf` lists the
reserved leaf blocks, `repair` the repair map in map order. -/
structure Fuses where
  rootHash : List (List Nat) :=
    [[93, 204, 27, 88, 114, 221, 159, 241, 194, 52, 80, 31, 31, 239, 218, 1, 246, 100, 22, 78, 21, 131, 195, 225, 187, 61, 190, 164,
      117, 136, 171, 49], List.replicate 32 0, List.replicate 32 0]
  rootState : List Nat := [1, 0, 0]
  svn : Nat := 0
  uds : List Nat := List.replicate 32 0
  serial : Nat := 0
  policy : Nat := 0
  leaf : List Nat := []
  repair : List Nat := []
  deriving DecidableEq, Repr

/-- The Security Module and the keeper core (chapter 17): measurements as bytes, the input window, the number of the challenge in
force, the report, the held leaf block and next leaf, the leaf a report is being signed with, burns in order, and the
sections loaded. -/
structure Sec where
  meas : List (List Nat) := List.replicate 8 (List.replicate 32 0)
  input : Tbl Nat := []
  challenge : Nat := 0
  report : List Nat := []
  held : Option Nat := none
  next : Nat := 0
  signing : Option Nat := none
  burns : List Burn := []
  sections : List Section := []
  deriving DecidableEq, Repr

/-- Spares and wear (chapter 18): units out of service and spares brought in (kind x 2^20 + unit), slice exchanges and copies under
way, worn PLLs, the frame of the last worn exchange of a kind, units whose wear found no spare, PLL domains that stay
down, the pace of past publications, and since when a lane's eye is too small. -/
structure Spm where
  retired : List Nat := []
  brought : List Nat := []
  exch : List Exch := []
  copies : List Copy := []
  wornPlls : List Nat := []
  lastExch : Tbl Nat := []
  seen : List Nat := []
  dead : List Nat := []
  paceHist : List (List Nat) := []
  eyeBad : Tbl Nat := []
  deriving DecidableEq, Repr

/-- The device. `regs` holds register fields and `ctrs` counters; both list only what differs from reset. `era` counts takeovers
(R545), `slices` names the packet slices in service. -/
structure Device where
  core : Core := {}
  regs : Tbl Nat := []
  ctrs : Tbl Nat := []
  pages : Pages := {}
  gens : Tbl Gen := []
  trees : Trees := {}
  fret : Fret := {}
  bursts : Bursts := {}
  rng : Ranging := {}
  pow : Power := {}
  cells : Cells := {}
  traffic : Traffic := {}
  pkt : Packets := {}
  svc : Service := {}
  hif : Hif := {}
  net : Net := {}
  mon : Mon := {}
  tmu : Tmu := {}
  mru : Mru := {}
  fuses : Fuses := {}
  sec : Sec := {}
  spm : Spm := {}
  era : Nat := 0
  slices : List Nat := List.range 32
  deriving DecidableEq, Repr

/-- The machine: the device, whether PORST_N holds it in reset (R642), and the commands that wait for it, first in, first out. -/
structure State where
  dev : Device := {}
  inReset : Bool := false
  pending : List Instr := []
  deriving DecidableEq, Repr

/-- Why the machine would stop with a fault: no command of this device stops it, so there is no reason. -/
inductive Fault
  deriving DecidableEq, Repr

/-- Why a command would be refused. -/
inductive Refusal
  /-- Raised by the dispatcher alone, for a command without a meaning; no command of this model is without one. Safe. -/
  | notModelled (mnemonic : String)
  deriving DecidableEq, Repr

/-- The machine right after reset (R642, R643): the device just released from reset, with fuses as log entry 1 says, and no command
waiting. -/
def State.reset : State := {}

end Sys2Proof.Machine
end

