-- ==== Sys2Proof/Machine/Memory.lean ====
section
/-!
DEFINITION. The cell memory: bytes by the byte address of R386, in canonical form. A byte that is not listed reads
0: R394 writes every word with zero data before any cell is used.
-/

namespace Sys2Proof.Machine

/-- The cell memory. -/
abbrev Memory := List Host.Cell

/-- Read one byte. -/
def Memory.read : Memory → Nat → BitVec 8
  | [], _ => 0
  | (k, v) :: r, a => if k = a then v else Memory.read r a

/-- Put a byte into its place. -/
def Memory.insert : Memory → Nat → BitVec 8 → Memory
  | [], a, v => [(a, v)]
  | (k, x) :: r, a, v =>
    if a < k then (a, v) :: (k, x) :: r
    else if a = k then (a, v) :: r
    else (k, x) :: Memory.insert r a v

/-- Write one byte; a byte of 0 is not listed. -/
def Memory.write (m : Memory) (a : Nat) (v : BitVec 8) : Memory :=
  if v = 0 then m.filter (fun c => c.1 ≠ a) else Memory.insert m a v

/-- The canonical form: addresses strictly rising, no byte of 0 listed. -/
def Memory.wf : Memory → Bool
  | [] => true
  | [(_, v)] => decide (v ≠ 0)
  | (a, v) :: (b, w) :: r => decide (v ≠ 0) && decide (a < b) && Memory.wf ((b, w) :: r)

/-- Write bytes from an address upward. -/
def Memory.writeBytes : Memory → Nat → List Nat → Memory
  | m, _, [] => m
  | m, a, b :: r => Memory.writeBytes (Memory.write m a (BitVec.ofNat 8 b)) (a + 1) r

/-- The `n` bytes from an address upward. -/
def Memory.readBytes (m : Memory) (a n : Nat) : List Nat := (List.range n).map (fun i => (Memory.read m (a + i)).toNat)

/-- A 64-bit word, its least significant byte first. -/
def Memory.readWord (m : Memory) (a : Nat) : Nat :=
  (Memory.readBytes m a 8).foldr (fun b x => b + 256 * x) 0

/-- Write a 64-bit word. -/
def Memory.writeWord (m : Memory) (a v : Nat) : Memory := Memory.writeBytes m a (toBytesLE 8 v)

end Sys2Proof.Machine
end

