-- ==== Sys2Proof/Machine/Fields.lean ====
section
/-!
DEFINITION. Every register field of the spec's field tables: page, offset, lowest bit, width, class, restriction
and reset value (R15, R16, R57, R58). An index `n` follows the table's `+ stride x n`. The word a page holds at
an offset is put together from the fields that stand there.
-/

namespace Sys2Proof.Machine

/-- Whether `off` is one of `cnt` word offsets from `base` in steps of `stride`. -/
def inRun (off base stride cnt : Nat) : Bool :=
  decide (base ≤ off) && decide ((off - base) % stride = 0) && decide ((off - base) / stride < cnt)

namespace TPE

/-- R125. -/
def TREE_EN (t : Nat) : Fld := ⟨0x40 + t, 0x20, 0, 1, .D, .k1, 0⟩
/-- R125. -/
def COURSE_EN (t : Nat) : Fld := ⟨0x40 + t, 0x20, 1, 1, .D, .k1, 0⟩
/-- R125. -/
def OFFSET_NS (t : Nat) : Fld := ⟨0x40 + t, 0x24, 0, 17, .D, .k1, 0⟩
/-- R125. -/
def RUNNING (t : Nat) : Fld := ⟨0x40 + t, 0x28, 0, 1, .L, .open, 0⟩
/-- R125. -/
def FENCED (t : Nat) : Fld := ⟨0x40 + t, 0x28, 1, 1, .L, .open, 0⟩
/-- R125. -/
def REORDER_HIGH (t : Nat) : Fld := ⟨0x40 + t, 0x28, 2, 1, .L, .open, 0⟩
/-- R125. -/
def I2C_GO (t : Nat) : Fld := ⟨0x40 + t, 0x30, 0, 1, .H, .k1, 0⟩
/-- R125. -/
def I2C_READ (t : Nat) : Fld := ⟨0x40 + t, 0x30, 1, 1, .D, .k1, 0⟩
/-- R125. -/
def I2C_ADDR (t : Nat) : Fld := ⟨0x40 + t, 0x30, 8, 7, .D, .k1, 0⟩
/-- R125. -/
def I2C_REG (t : Nat) : Fld := ⟨0x40 + t, 0x30, 16, 8, .D, .k1, 0⟩
/-- R125. -/
def I2C_WDATA (t : Nat) : Fld := ⟨0x40 + t, 0x30, 24, 8, .D, .k1, 0⟩
/-- R125. -/
def I2C_RDATA (t : Nat) : Fld := ⟨0x40 + t, 0x34, 0, 8, .L, .open, 0⟩
/-- R125. -/
def I2C_BUSY (t : Nat) : Fld := ⟨0x40 + t, 0x34, 8, 1, .L, .open, 0⟩
/-- R125. -/
def I2C_NACK (t : Nat) : Fld := ⟨0x40 + t, 0x34, 9, 1, .L, .open, 0⟩
/-- R125. -/
def I2C_SPEED (t : Nat) : Fld := ⟨0x40 + t, 0x34, 10, 2, .D, .k1, 0⟩
/-- R126. -/
def TIMEOUT_US (t : Nat) : Fld := ⟨0x40 + t, 0x400, 0, 10, .S, .k1, 250⟩
/-- R126. -/
def TERM_LIMIT (t : Nat) : Fld := ⟨0x40 + t, 0x400, 16, 8, .S, .k1, 64⟩

/-- The fields of the word at offset `off`. -/
def fieldsAt (t : Nat) (off : Nat) : List Fld :=
  if off = 0x20 then [TREE_EN t, COURSE_EN t]
  else if off = 0x24 then [OFFSET_NS t]
  else if off = 0x28 then [RUNNING t, FENCED t, REORDER_HIGH t]
  else if off = 0x30 then (if t % 4 = 0 then [I2C_GO t] else []) ++ [I2C_READ t, I2C_ADDR t, I2C_REG t, I2C_WDATA t]
  else if off = 0x34 then [I2C_RDATA t, I2C_BUSY t, I2C_NACK t, I2C_SPEED t]
  else if off = 0x400 then [TIMEOUT_US t, TERM_LIMIT t]
  else []

end TPE

namespace CH

/-- R130. -/
def CH_EN (c : Nat) : Fld := ⟨0x80 + c, 0x20, 0, 1, .D, .k1, 0⟩
/-- R130. -/
def TX_PAM4 (c : Nat) : Fld := ⟨0x80 + c, 0x20, 1, 1, .D, .k1, 0⟩
/-- R130. -/
def US_RATE (c : Nat) : Fld := ⟨0x80 + c, 0x20, 2, 2, .D, .k1, 0⟩
/-- R130. -/
def SQUELCH_FORCE (c : Nat) : Fld := ⟨0x80 + c, 0x20, 4, 1, .D, .k1, 0⟩
/-- R130. -/
def SENDING (c : Nat) : Fld := ⟨0x80 + c, 0x24, 0, 1, .L, .open, 0⟩
/-- R130. -/
def SQUELCHED (c : Nat) : Fld := ⟨0x80 + c, 0x24, 1, 1, .L, .open, 1⟩
/-- R130. -/
def FENCE_SQUELCH (c : Nat) : Fld := ⟨0x80 + c, 0x24, 2, 1, .L, .open, 0⟩
/-- R130. -/
def PLOAM_Q_FULL (c : Nat) : Fld := ⟨0x80 + c, 0x24, 3, 1, .L, .open, 0⟩
/-- R130. -/
def DRAINED (c : Nat) : Fld := ⟨0x80 + c, 0x24, 4, 1, .L, .open, 1⟩
/-- R130. -/
def LAST_XGEM_BYTES (c : Nat) : Fld := ⟨0x80 + c, 0x28, 0, 20, .L, .open, 0⟩
/-- R130. -/
def WIDTH_NS (c : Nat) : Fld := ⟨0x80 + c, 0x30, 0, 8, .D, .k1, 10⟩
/-- R130. -/
def ACTIVE_LOW (c : Nat) : Fld := ⟨0x80 + c, 0x30, 8, 1, .D, .k1, 0⟩
/-- R130. -/
def STROBE_EN (c : Nat) : Fld := ⟨0x80 + c, 0x30, 9, 1, .D, .k1, 0⟩
/-- R130. -/
def PLOAM_PER_FRAME (c : Nat) : Fld := ⟨0x80 + c, 0x400, 0, 3, .S, .k1, 1⟩
/-- R231. -/
def RX_EN (c : Nat) : Fld := ⟨0x80 + c, 0x100, 0, 1, .D, .k1, 0⟩
/-- R231. -/
def ROGUE_AUTO (c : Nat) : Fld := ⟨0x80 + c, 0x100, 1, 1, .D, .k1, 1⟩
/-- R231. -/
def LIGHT (c : Nat) : Fld := ⟨0x80 + c, 0x104, 0, 1, .L, .open, 0⟩
/-- R231. -/
def LOS (c : Nat) : Fld := ⟨0x80 + c, 0x104, 1, 1, .L, .open, 0⟩
/-- R231. -/
def ROGUE_ACTIVE (c : Nat) : Fld := ⟨0x80 + c, 0x104, 2, 1, .L, .open, 0⟩
/-- R231. -/
def ROGUE_UNRESOLVED (c : Nat) : Fld := ⟨0x80 + c, 0x104, 3, 1, .L, .open, 0⟩
/-- R231. -/
def DELIM_LO (c : Nat) : Fld := ⟨0x80 + c, 0x108, 0, 32, .D, .k1, 3039760611⟩
/-- R231. -/
def DELIM_HI (c : Nat) : Fld := ⟨0x80 + c, 0x10C, 0, 32, .D, .k1, 1285191377⟩
/-- R231. -/
def QW_LIGHT_NS (c : Nat) : Fld := ⟨0x80 + c, 0x110, 0, 17, .L, .open, 0⟩
/-- R232. -/
def PEG_MAX_AGE_FRAMES (c : Nat) : Fld := ⟨0x80 + c, 0x500, 0, 16, .S, .k1, 8000⟩
/-- R232. -/
def PEG_MAX_DRIFT (c : Nat) : Fld := ⟨0x80 + c, 0x500, 16, 8, .S, .k1, 12⟩
/-- R232. -/
def PEG_MAX_RESIDUAL (c : Nat) : Fld := ⟨0x80 + c, 0x504, 0, 16, .S, .k1, 1024⟩
/-- R232. -/
def PEG_LEAD_NS (c : Nat) : Fld := ⟨0x80 + c, 0x508, 0, 8, .S, .k1, 40⟩
/-- R232. -/
def STROBE_LEAD_NS (c : Nat) : Fld := ⟨0x80 + c, 0x508, 8, 8, .S, .k1, 16⟩
/-- R232. -/
def DELIM_MAX_ERR (c : Nat) : Fld := ⟨0x80 + c, 0x50C, 0, 3, .S, .k1, 4⟩
/-- R232. -/
def LDPC_MAX_ITER (c : Nat) : Fld := ⟨0x80 + c, 0x50C, 8, 5, .S, .k1, 12⟩
/-- R232. -/
def UNSOL_LIGHT_NS (c : Nat) : Fld := ⟨0x80 + c, 0x510, 0, 16, .S, .k1, 200⟩
/-- R232. -/
def ROGUE_CONFIRM_FRAMES (c : Nat) : Fld := ⟨0x80 + c, 0x510, 16, 8, .S, .k1, 4⟩
/-- R232. -/
def LOS_FRAMES (c : Nat) : Fld := ⟨0x80 + c, 0x510, 24, 8, .S, .k1, 8⟩
/-- R232. -/
def VIOL_DISABLE_LIMIT (c : Nat) : Fld := ⟨0x80 + c, 0x514, 0, 8, .S, .k1, 16⟩

/-- The fields of the word at offset `off`. -/
def fieldsAt (c : Nat) (off : Nat) : List Fld :=
  if off = 0x20 then [CH_EN c, TX_PAM4 c, US_RATE c, SQUELCH_FORCE c]
  else if off = 0x24 then [SENDING c, SQUELCHED c, FENCE_SQUELCH c, PLOAM_Q_FULL c, DRAINED c]
  else if off = 0x28 then [LAST_XGEM_BYTES c]
  else if off = 0x30 then [WIDTH_NS c, ACTIVE_LOW c, STROBE_EN c]
  else if off = 0x400 then [PLOAM_PER_FRAME c]
  else if off = 0x100 then [RX_EN c, ROGUE_AUTO c]
  else if off = 0x104 then [LIGHT c, LOS c, ROGUE_ACTIVE c, ROGUE_UNRESOLVED c]
  else if off = 0x108 then [DELIM_LO c]
  else if off = 0x10C then [DELIM_HI c]
  else if off = 0x110 then [QW_LIGHT_NS c]
  else if off = 0x500 then [PEG_MAX_AGE_FRAMES c, PEG_MAX_DRIFT c]
  else if off = 0x504 then [PEG_MAX_RESIDUAL c]
  else if off = 0x508 then [PEG_LEAD_NS c, STROBE_LEAD_NS c]
  else if off = 0x50C then [DELIM_MAX_ERR c, LDPC_MAX_ITER c]
  else if off = 0x510 then [UNSOL_LIGHT_NS c, ROGUE_CONFIRM_FRAMES c, LOS_FRAMES c]
  else if off = 0x514 then [VIOL_DISABLE_LIMIT c]
  else []

end CH

namespace GEN

/-- R184. -/
def GEN_EN : Fld := ⟨0x1B5, 0x20, 0, 1, .D, .k1, 0⟩
/-- R184. -/
def RING_ALL : Fld := ⟨0x1B5, 0x20, 1, 1, .D, .k1, 0⟩
/-- R184. -/
def SEALING : Fld := ⟨0x1B5, 0x24, 0, 1, .L, .open, 0⟩
/-- R184. -/
def EMERGENCY : Fld := ⟨0x1B5, 0x24, 1, 1, .L, .open, 0⟩
/-- R184. -/
def ENVELOPE_TIGHT : Fld := ⟨0x1B5, 0x24, 2, 1, .L, .open, 0⟩
/-- R184. -/
def RING_FULL : Fld := ⟨0x1B5, 0x24, 3, 1, .L, .open, 0⟩
/-- R184. -/
def RING_NONEMPTY : Fld := ⟨0x1B5, 0x24, 4, 1, .L, .open, 0⟩
/-- R184. -/
def OUTSTANDING : Fld := ⟨0x1B5, 0x28, 0, 20, .L, .open, 0⟩
/-- R184. -/
def RING_PRODUCED : Fld := ⟨0x1B5, 0x30, 0, 17, .L, .open, 0⟩
/-- R184. -/
def RING_CONSUMED : Fld := ⟨0x1B5, 0x34, 0, 17, .D, .k1, 0⟩
/-- R184. -/
def UPF_DELAY_NS (n : Nat) : Fld := ⟨0x1B5, 0x100 + 4 * n, 0, 20, .D, .k1, 625000⟩
/-- R184. -/
def HORIZON (n : Nat) : Fld := ⟨0x1B5, 0x100 + 4 * n, 20, 4, .L, .open, 6⟩
/-- R185. -/
def ARRIVAL_TOL_NS : Fld := ⟨0x1B5, 0x400, 0, 8, .S, .k1, 16⟩
/-- R185. -/
def LATE_SPAN_NS : Fld := ⟨0x1B5, 0x400, 8, 10, .S, .k1, 256⟩
/-- R185. -/
def WORK_BYTES : Fld := ⟨0x1B5, 0x404, 0, 8, .S, .k1, 72⟩
/-- R185. -/
def MIN_PIECE_WORDS : Fld := ⟨0x1B5, 0x408, 0, 16, .S, .k1, 1024⟩

/-- The fields of the word at offset `off`. -/
def fieldsAt (off : Nat) : List Fld :=
  if off = 0x20 then [GEN_EN, RING_ALL]
  else if off = 0x24 then [SEALING, EMERGENCY, ENVELOPE_TIGHT, RING_FULL, RING_NONEMPTY]
  else if off = 0x28 then [OUTSTANDING]
  else if off = 0x30 then [RING_PRODUCED]
  else if off = 0x34 then [RING_CONSUMED]
  else if off = 0x400 then [ARRIVAL_TOL_NS, LATE_SPAN_NS]
  else if off = 0x404 then [WORK_BYTES]
  else if off = 0x408 then [MIN_PIECE_WORDS]
  else if inRun off 0x100 4 64 then [UPF_DELAY_NS ((off - 0x100) / 4), HORIZON ((off - 0x100) / 4)]
  else []

end GEN

namespace DEV

/-- R235. -/
def VLOG_PRODUCED : Fld := ⟨0x0, 0x40, 0, 13, .L, .open, 0⟩
/-- R235. -/
def VLOG_CONSUMED : Fld := ⟨0x0, 0x44, 0, 13, .D, .k1, 0⟩

/-- The fields of the word at offset `off`. -/
def fieldsAt (off : Nat) : List Fld :=
  if off = 0x40 then [VLOG_PRODUCED]
  else if off = 0x44 then [VLOG_CONSUMED]
  else []

end DEV

namespace RGU

/-- R264. -/
def RGU_EN : Fld := ⟨0x1B6, 0x20, 0, 1, .D, .k1, 0⟩
/-- R264. -/
def DEFECT_ANY : Fld := ⟨0x1B6, 0x24, 0, 1, .L, .open, 0⟩
/-- R264. -/
def DISC_NONEMPTY : Fld := ⟨0x1B6, 0x24, 1, 1, .L, .open, 0⟩
/-- R264. -/
def DISC_FULL : Fld := ⟨0x1B6, 0x24, 2, 1, .L, .open, 0⟩
/-- R264. -/
def DISC_PRODUCED : Fld := ⟨0x1B6, 0x28, 0, 10, .L, .open, 0⟩
/-- R264. -/
def DISC_CONSUMED : Fld := ⟨0x1B6, 0x2C, 0, 10, .D, .k1, 0⟩
/-- R264. -/
def REACH_MIN_KM (n : Nat) : Fld := ⟨0x1B6, 0x100 + 4 * n, 0, 8, .D, .k1, 0⟩
/-- R264. -/
def REACH_MAX_KM (n : Nat) : Fld := ⟨0x1B6, 0x100 + 4 * n, 8, 8, .D, .k1, 20⟩
/-- R264. -/
def FEEDER_ADJ_NS (n : Nat) : Fld := ⟨0x1B6, 0x100 + 4 * n, 16, 16, .D, .k1, 0⟩
/-- R264. -/
def COMMON_OFFSET_NS (n : Nat) : Fld := ⟨0x1B6, 0x200 + 4 * n, 0, 20, .L, .open, 0⟩
/-- R264. -/
def COMMON_VALID (n : Nat) : Fld := ⟨0x1B6, 0x200 + 4 * n, 20, 1, .L, .open, 0⟩
/-- R264. -/
def APPLIED (n : Nat) : Fld := ⟨0x1B6, 0x200 + 4 * n, 21, 1, .L, .open, 0⟩
/-- R264. -/
def DISC_EN (n : Nat) : Fld := ⟨0x1B6, 0x300 + 4 * n, 0, 32, .D, .k1, 0⟩
/-- R265. -/
def DRIFT_THRESH_NS : Fld := ⟨0x1B6, 0x400, 0, 8, .S, .k1, 4⟩
/-- R265. -/
def DRIFT_AVG : Fld := ⟨0x1B6, 0x400, 8, 4, .S, .k1, 8⟩
/-- R265. -/
def DRIFT_LIMIT_NS : Fld := ⟨0x1B6, 0x404, 0, 16, .S, .k1, 2000⟩
/-- R265. -/
def RANGE_RETRIES : Fld := ⟨0x1B6, 0x404, 16, 4, .S, .k1, 3⟩
/-- R265. -/
def DISC_PERIOD_FRAMES : Fld := ⟨0x1B6, 0x408, 0, 16, .S, .k1, 8000⟩
/-- R265. -/
def RAND_SPAN_US : Fld := ⟨0x1B6, 0x408, 16, 8, .S, .k1, 48⟩
/-- R265. -/
def LOB_FRAMES : Fld := ⟨0x1B6, 0x40C, 0, 8, .S, .k1, 4⟩
/-- R265. -/
def LOST_FRAMES : Fld := ⟨0x1B6, 0x40C, 8, 16, .S, .k1, 8000⟩

/-- The fields of the word at offset `off`. -/
def fieldsAt (off : Nat) : List Fld :=
  if off = 0x20 then [RGU_EN]
  else if off = 0x24 then [DEFECT_ANY, DISC_NONEMPTY, DISC_FULL]
  else if off = 0x28 then [DISC_PRODUCED]
  else if off = 0x2C then [DISC_CONSUMED]
  else if off = 0x400 then [DRIFT_THRESH_NS, DRIFT_AVG]
  else if off = 0x404 then [DRIFT_LIMIT_NS, RANGE_RETRIES]
  else if off = 0x408 then [DISC_PERIOD_FRAMES, RAND_SPAN_US]
  else if off = 0x40C then [LOB_FRAMES, LOST_FRAMES]
  else if inRun off 0x100 4 64 then [REACH_MIN_KM ((off - 0x100) / 4), REACH_MAX_KM ((off - 0x100) / 4), FEEDER_ADJ_NS ((off - 0x100) / 4)]
  else if inRun off 0x200 4 64 then [COMMON_OFFSET_NS ((off - 0x200) / 4), COMMON_VALID ((off - 0x200) / 4), APPLIED ((off - 0x200) / 4)]
  else if inRun off 0x300 4 8 then [DISC_EN ((off - 0x300) / 4)]
  else []

end RGU

namespace PTM

/-- R291. -/
def PTM_EN : Fld := ⟨0x3, 0x20, 0, 1, .D, .k1, 0⟩
/-- R291. -/
def EMERG_FORCE : Fld := ⟨0x3, 0x20, 1, 1, .D, .k1, 0⟩
/-- R291. -/
def TRIP_RELEASE : Fld := ⟨0x3, 0x20, 2, 1, .H, .k1, 0⟩
/-- R291. -/
def WARN : Fld := ⟨0x3, 0x24, 0, 1, .L, .open, 0⟩
/-- R291. -/
def EMERGENCY : Fld := ⟨0x3, 0x24, 1, 1, .L, .open, 0⟩
/-- R291. -/
def TRIPPED : Fld := ⟨0x3, 0x24, 2, 1, .L, .open, 0⟩
/-- R291. -/
def FLOOR_OVER_CEIL : Fld := ⟨0x3, 0x24, 3, 1, .L, .open, 0⟩
/-- R291. -/
def REG_FAULT : Fld := ⟨0x3, 0x24, 4, 1, .L, .open, 0⟩
/-- R291. -/
def PACE_SHORT : Fld := ⟨0x3, 0x24, 5, 1, .L, .open, 0⟩
/-- R291. -/
def VCORE_MV : Fld := ⟨0x3, 0x28, 0, 10, .L, .open, 750⟩
/-- R291. -/
def CEILING_MV : Fld := ⟨0x3, 0x28, 16, 10, .L, .open, 750⟩
/-- R291. -/
def T_HOT : Fld := ⟨0x3, 0x2C, 0, 12, .L, .open, 0⟩
/-- R291. -/
def T_COLD : Fld := ⟨0x3, 0x2C, 12, 12, .L, .open, 0⟩
/-- R291. -/
def HOT_SENSOR : Fld := ⟨0x3, 0x2C, 24, 7, .L, .open, 0⟩
/-- R291. -/
def PACE_SUM : Fld := ⟨0x3, 0x30, 0, 16, .L, .open, 0⟩
/-- R291. -/
def CORE_POWER_W : Fld := ⟨0x3, 0x30, 16, 10, .L, .open, 0⟩
/-- R291. -/
def FORECAST : Fld := ⟨0x3, 0x34, 0, 24, .L, .open, 0⟩
/-- R291. -/
def QUIET_CH (n : Nat) : Fld := ⟨0x3, 0x100 + 4 * n, 0, 32, .D, .k1, 0⟩
/-- R291. -/
def QUIET_TREE (n : Nat) : Fld := ⟨0x3, 0x120 + 4 * n, 0, 32, .D, .k1, 0⟩
/-- R291. -/
def LANES_DOWN (n : Nat) : Fld := ⟨0x3, 0x128 + 4 * n, 0, 32, .L, .open, 0⟩
/-- R292. -/
def VCORE_PLAN_MAX_MV : Fld := ⟨0x3, 0x400, 0, 10, .S, .k1, 750⟩
/-- R292. -/
def VCORE_MIN_MV : Fld := ⟨0x3, 0x400, 16, 10, .S, .k1, 600⟩
/-- R292. -/
def WARN_C : Fld := ⟨0x3, 0x404, 0, 8, .S, .k1, 95⟩
/-- R292. -/
def LIMIT_C : Fld := ⟨0x3, 0x404, 8, 8, .S, .k1, 105⟩
/-- R292. -/
def TRIP_HIGH_C : Fld := ⟨0x3, 0x404, 16, 8, .S, .k1, 110⟩
/-- R292. -/
def HYST_C : Fld := ⟨0x3, 0x404, 24, 8, .S, .k1, 5⟩
/-- R292. -/
def TRIP_LOW_C : Fld := ⟨0x3, 0x408, 0, 8, .S, .k1, 216⟩
/-- R292. -/
def TREND_CAP_C : Fld := ⟨0x3, 0x408, 8, 8, .S, .k1, 8⟩
/-- R292. -/
def PACE_TEMP_COEF : Fld := ⟨0x3, 0x408, 16, 8, .S, .k1, 8⟩
/-- R292. -/
def ENV_MARGIN : Fld := ⟨0x3, 0x408, 24, 8, .S, .k1, 0⟩
/-- R292. -/
def FORECAST_HEADROOM : Fld := ⟨0x3, 0x40C, 0, 8, .S, .k1, 26⟩
/-- R292. -/
def FORECAST_FLOOR : Fld := ⟨0x3, 0x40C, 8, 24, .S, .k1, 0⟩
/-- R292. -/
def SHORTFALL_PCT : Fld := ⟨0x3, 0x410, 0, 8, .S, .k1, 2⟩
/-- R292. -/
def EMERG_CLEAR_FRAMES : Fld := ⟨0x3, 0x410, 8, 8, .S, .k1, 8⟩

/-- The fields of the word at offset `off`. -/
def fieldsAt (off : Nat) : List Fld :=
  if off = 0x20 then [PTM_EN, EMERG_FORCE, TRIP_RELEASE]
  else if off = 0x24 then [WARN, EMERGENCY, TRIPPED, FLOOR_OVER_CEIL, REG_FAULT, PACE_SHORT]
  else if off = 0x28 then [VCORE_MV, CEILING_MV]
  else if off = 0x2C then [T_HOT, T_COLD, HOT_SENSOR]
  else if off = 0x30 then [PACE_SUM, CORE_POWER_W]
  else if off = 0x34 then [FORECAST]
  else if off = 0x400 then [VCORE_PLAN_MAX_MV, VCORE_MIN_MV]
  else if off = 0x404 then [WARN_C, LIMIT_C, TRIP_HIGH_C, HYST_C]
  else if off = 0x408 then [TRIP_LOW_C, TREND_CAP_C, PACE_TEMP_COEF, ENV_MARGIN]
  else if off = 0x40C then [FORECAST_HEADROOM, FORECAST_FLOOR]
  else if off = 0x410 then [SHORTFALL_PCT, EMERG_CLEAR_FRAMES]
  else if inRun off 0x100 4 8 then [QUIET_CH ((off - 0x100) / 4)]
  else if inRun off 0x120 4 2 then [QUIET_TREE ((off - 0x120) / 4)]
  else if inRun off 0x128 4 2 then [LANES_DOWN ((off - 0x128) / 4)]
  else []

end PTM

namespace HIF

/-- R320. -/
def CR_BASE_LO (n : Nat) : Fld := ⟨0x1, 0x100 + 16 * n, 6, 26, .D, .k1, 0⟩
/-- R320. -/
def CR_BASE_HI (n : Nat) : Fld := ⟨0x1, 0x104 + 16 * n, 0, 32, .D, .k1, 0⟩
/-- R320. -/
def CR_SIZE_LOG2 (n : Nat) : Fld := ⟨0x1, 0x108 + 16 * n, 0, 4, .D, .k1, 6⟩
/-- R320. -/
def CR_EN (n : Nat) : Fld := ⟨0x1, 0x108 + 16 * n, 4, 1, .D, .k1, 0⟩
/-- R320. -/
def CR_CQ (n : Nat) : Fld := ⟨0x1, 0x108 + 16 * n, 5, 2, .D, .k1, 0⟩
/-- R320. -/
def CR_PI (n : Nat) : Fld := ⟨0x1, 0x10C + 16 * n, 0, 16, .D, .k1, 0⟩
/-- R320. -/
def CR_CI (n : Nat) : Fld := ⟨0x1, 0x10C + 16 * n, 16, 16, .L, .open, 0⟩
/-- R320. -/
def CQ_BASE_LO (n : Nat) : Fld := ⟨0x1, 0x200 + 16 * n, 5, 27, .D, .k1, 0⟩
/-- R320. -/
def CQ_BASE_HI (n : Nat) : Fld := ⟨0x1, 0x204 + 16 * n, 0, 32, .D, .k1, 0⟩
/-- R320. -/
def CQ_SIZE_LOG2 (n : Nat) : Fld := ⟨0x1, 0x208 + 16 * n, 0, 4, .D, .k1, 6⟩
/-- R320. -/
def CQ_EN (n : Nat) : Fld := ⟨0x1, 0x208 + 16 * n, 4, 1, .D, .k1, 0⟩
/-- R320. -/
def CQ_VECTOR (n : Nat) : Fld := ⟨0x1, 0x208 + 16 * n, 16, 11, .D, .k1, 0⟩
/-- R320. -/
def CQ_PI (n : Nat) : Fld := ⟨0x1, 0x20C + 16 * n, 0, 16, .L, .open, 0⟩
/-- R320. -/
def CQ_CI (n : Nat) : Fld := ⟨0x1, 0x20C + 16 * n, 16, 16, .D, .k1, 0⟩
/-- R320. -/
def CMD_EN : Fld := ⟨0x1, 0x240, 0, 1, .D, .k1, 0⟩
/-- R320. -/
def OUTSTANDING : Fld := ⟨0x1, 0x244, 0, 13, .L, .open, 0⟩
/-- R320. -/
def CQ_STALLED : Fld := ⟨0x1, 0x244, 13, 1, .L, .open, 0⟩
/-- R320. -/
def PUNT_STARVED : Fld := ⟨0x1, 0x244, 14, 1, .L, .open, 0⟩
/-- R320. -/
def PC_SIZE_LOG2 (n : Nat) : Fld := ⟨0x1, 0x290 + 32 * n, 0, 4, .D, .k1, 6⟩
/-- R320. -/
def PC_EN (n : Nat) : Fld := ⟨0x1, 0x290 + 32 * n, 4, 1, .D, .k1, 0⟩
/-- R320. -/
def BUF_SIZE (n : Nat) : Fld := ⟨0x1, 0x290 + 32 * n, 5, 2, .D, .k1, 0⟩
/-- R320. -/
def PC_VECTOR (n : Nat) : Fld := ⟨0x1, 0x290 + 32 * n, 16, 11, .D, .k1, 0⟩
/-- R320. -/
def FB_PI (n : Nat) : Fld := ⟨0x1, 0x294 + 32 * n, 0, 16, .D, .k1, 0⟩
/-- R320. -/
def FB_CI (n : Nat) : Fld := ⟨0x1, 0x294 + 32 * n, 16, 16, .L, .open, 0⟩
/-- R320. -/
def PR_PI (n : Nat) : Fld := ⟨0x1, 0x298 + 32 * n, 0, 16, .L, .open, 0⟩
/-- R320. -/
def PR_CI (n : Nat) : Fld := ⟨0x1, 0x298 + 32 * n, 16, 16, .D, .k1, 0⟩
/-- R320. -/
def RATE_KPPS (n : Nat) : Fld := ⟨0x1, 0x29C + 32 * n, 0, 24, .D, .k1, 16777215⟩
/-- R320. -/
def IC_SIZE_LOG2 (n : Nat) : Fld := ⟨0x1, 0x310 + 32 * n, 0, 4, .D, .k1, 6⟩
/-- R320. -/
def IC_EN (n : Nat) : Fld := ⟨0x1, 0x310 + 32 * n, 4, 1, .D, .k1, 0⟩
/-- R320. -/
def IC_VECTOR (n : Nat) : Fld := ⟨0x1, 0x310 + 32 * n, 16, 11, .D, .k1, 0⟩
/-- R320. -/
def IR_PI (n : Nat) : Fld := ⟨0x1, 0x314 + 32 * n, 0, 16, .D, .k1, 0⟩
/-- R320. -/
def IR_CI (n : Nat) : Fld := ⟨0x1, 0x314 + 32 * n, 16, 16, .L, .open, 0⟩
/-- R320. -/
def ICQ_PI (n : Nat) : Fld := ⟨0x1, 0x318 + 32 * n, 0, 16, .L, .open, 0⟩
/-- R320. -/
def ICQ_CI (n : Nat) : Fld := ⟨0x1, 0x318 + 32 * n, 16, 16, .D, .k1, 0⟩
/-- R630. -/
def HOST_LOSS_RELEASE : Fld := ⟨0x1, 0x20, 0, 1, .D, .k1, 0⟩
/-- R630. -/
def LINK_UP : Fld := ⟨0x1, 0x24, 0, 1, .L, .open, 0⟩
/-- R630. -/
def TUNNEL_UP : Fld := ⟨0x1, 0x24, 1, 1, .L, .open, 0⟩
/-- R630. -/
def BUS_MASTER : Fld := ⟨0x1, 0x24, 2, 1, .L, .open, 0⟩
/-- R630. -/
def HOLDING : Fld := ⟨0x1, 0x24, 3, 1, .L, .open, 0⟩
/-- R630. -/
def LINK_GEN : Fld := ⟨0x1, 0x24, 4, 3, .L, .open, 0⟩
/-- R630. -/
def HOST_LOSS_MS : Fld := ⟨0x1, 0x28, 0, 16, .D, .k1, 100⟩
/-- R630. -/
def IRQ_REPEAT_US : Fld := ⟨0x1, 0x2C, 0, 16, .D, .k1, 0⟩
/-- R630. -/
def HELD_CPL : Fld := ⟨0x1, 0x30, 0, 13, .L, .open, 0⟩
/-- R320. -/
def FB_BASE_LO (n : Nat) : Fld := ⟨0x1, 0x280 + 32 * n, 4, 28, .D, .k1, 0⟩
/-- R320. -/
def FB_BASE_HI (n : Nat) : Fld := ⟨0x1, 0x284 + 32 * n, 0, 32, .D, .k1, 0⟩
/-- R320. -/
def PR_BASE_LO (n : Nat) : Fld := ⟨0x1, 0x288 + 32 * n, 5, 27, .D, .k1, 0⟩
/-- R320. -/
def PR_BASE_HI (n : Nat) : Fld := ⟨0x1, 0x28C + 32 * n, 0, 32, .D, .k1, 0⟩
/-- R320. -/
def IR_BASE_LO (n : Nat) : Fld := ⟨0x1, 0x300 + 32 * n, 5, 27, .D, .k1, 0⟩
/-- R320. -/
def IR_BASE_HI (n : Nat) : Fld := ⟨0x1, 0x304 + 32 * n, 0, 32, .D, .k1, 0⟩
/-- R320. -/
def ICQ_BASE_LO (n : Nat) : Fld := ⟨0x1, 0x308 + 32 * n, 4, 28, .D, .k1, 0⟩
/-- R320. -/
def ICQ_BASE_HI (n : Nat) : Fld := ⟨0x1, 0x30C + 32 * n, 0, 32, .D, .k1, 0⟩

/-- The fields of the word at offset `off`. -/
def fieldsAt (off : Nat) : List Fld :=
  if off = 0x240 then [CMD_EN]
  else if off = 0x244 then [OUTSTANDING, CQ_STALLED, PUNT_STARVED]
  else if off = 0x20 then [HOST_LOSS_RELEASE]
  else if off = 0x24 then [LINK_UP, TUNNEL_UP, BUS_MASTER, HOLDING, LINK_GEN]
  else if off = 0x28 then [HOST_LOSS_MS]
  else if off = 0x2C then [IRQ_REPEAT_US]
  else if off = 0x30 then [HELD_CPL]
  else if inRun off 0x100 16 16 then [CR_BASE_LO ((off - 0x100) / 16)]
  else if inRun off 0x104 16 16 then [CR_BASE_HI ((off - 0x104) / 16)]
  else if inRun off 0x108 16 16 then [CR_SIZE_LOG2 ((off - 0x108) / 16), CR_EN ((off - 0x108) / 16), CR_CQ ((off - 0x108) / 16)]
  else if inRun off 0x10C 16 16 then [CR_PI ((off - 0x10C) / 16), CR_CI ((off - 0x10C) / 16)]
  else if inRun off 0x200 16 4 then [CQ_BASE_LO ((off - 0x200) / 16)]
  else if inRun off 0x204 16 4 then [CQ_BASE_HI ((off - 0x204) / 16)]
  else if inRun off 0x208 16 4 then [CQ_SIZE_LOG2 ((off - 0x208) / 16), CQ_EN ((off - 0x208) / 16), CQ_VECTOR ((off - 0x208) / 16)]
  else if inRun off 0x20C 16 4 then [CQ_PI ((off - 0x20C) / 16), CQ_CI ((off - 0x20C) / 16)]
  else if inRun off 0x290 32 4 then [PC_SIZE_LOG2 ((off - 0x290) / 32), PC_EN ((off - 0x290) / 32), BUF_SIZE ((off - 0x290) / 32), PC_VECTOR ((off - 0x290) / 32)]
  else if inRun off 0x294 32 4 then [FB_PI ((off - 0x294) / 32), FB_CI ((off - 0x294) / 32)]
  else if inRun off 0x298 32 4 then [PR_PI ((off - 0x298) / 32), PR_CI ((off - 0x298) / 32)]
  else if inRun off 0x29C 32 4 then [RATE_KPPS ((off - 0x29C) / 32)]
  else if inRun off 0x310 32 4 then [IC_SIZE_LOG2 ((off - 0x310) / 32), IC_EN ((off - 0x310) / 32), IC_VECTOR ((off - 0x310) / 32)]
  else if inRun off 0x314 32 4 then [IR_PI ((off - 0x314) / 32), IR_CI ((off - 0x314) / 32)]
  else if inRun off 0x318 32 4 then [ICQ_PI ((off - 0x318) / 32), ICQ_CI ((off - 0x318) / 32)]
  else if inRun off 0x280 32 4 then [FB_BASE_LO ((off - 0x280) / 32)]
  else if inRun off 0x284 32 4 then [FB_BASE_HI ((off - 0x284) / 32)]
  else if inRun off 0x288 32 4 then [PR_BASE_LO ((off - 0x288) / 32)]
  else if inRun off 0x28C 32 4 then [PR_BASE_HI ((off - 0x28C) / 32)]
  else if inRun off 0x300 32 4 then [IR_BASE_LO ((off - 0x300) / 32)]
  else if inRun off 0x304 32 4 then [IR_BASE_HI ((off - 0x304) / 32)]
  else if inRun off 0x308 32 4 then [ICQ_BASE_LO ((off - 0x308) / 32)]
  else if inRun off 0x30C 32 4 then [ICQ_BASE_HI ((off - 0x30C) / 32)]
  else []

end HIF

namespace PCL

/-- R352. -/
def PCL_EN : Fld := ⟨0x1B3, 0x20, 0, 1, .D, .k1, 0⟩
/-- R352. -/
def SLICE_FULL : Fld := ⟨0x1B3, 0x24, 0, 1, .L, .open, 0⟩
/-- R352. -/
def SPREAD_MOVING : Fld := ⟨0x1B3, 0x24, 1, 1, .L, .open, 0⟩
/-- R352. -/
def EM_SEED_A : Fld := ⟨0x1B3, 0x30, 0, 32, .D, .k1, 324508639⟩
/-- R352. -/
def EM_SEED_B : Fld := ⟨0x1B3, 0x34, 0, 32, .D, .k1, 610839776⟩
/-- R353. -/
def PARSE_DEPTH_HDRS : Fld := ⟨0x1B3, 0x400, 0, 5, .S, .k1, 12⟩
/-- R353. -/
def PARSE_DEPTH_BYTES : Fld := ⟨0x1B3, 0x400, 8, 9, .S, .k1, 192⟩
/-- R353. -/
def LEN_POLICY : Fld := ⟨0x1B3, 0x400, 17, 1, .S, .k1, 0⟩
/-- R353. -/
def INNER_L3 : Fld := ⟨0x1B3, 0x400, 18, 1, .S, .k1, 1⟩
/-- R353. -/
def EXTRA_TPID : Fld := ⟨0x1B3, 0x404, 0, 16, .S, .k1, 37120⟩
/-- R353. -/
def EXTRA_TPID_EN : Fld := ⟨0x1B3, 0x404, 16, 1, .S, .k1, 1⟩
/-- R353. -/
def VXLAN_UDP_PORT : Fld := ⟨0x1B3, 0x408, 0, 16, .S, .k1, 4789⟩
/-- R353. -/
def HASH_SEED : Fld := ⟨0x1B3, 0x40C, 0, 32, .S, .k1, 0⟩
/-- R353. -/
def DEFAULT_ACTION_PON : Fld := ⟨0x1B3, 0x410, 0, 20, .S, .k1, 0⟩
/-- R353. -/
def DEFAULT_ACTION_NET : Fld := ⟨0x1B3, 0x414, 0, 20, .S, .k1, 0⟩
/-- R353. -/
def DEPTH_ACTION : Fld := ⟨0x1B3, 0x418, 0, 20, .S, .k1, 0⟩
/-- R353. -/
def SEL0 (n : Nat) : Fld := ⟨0x1B3, 0x420 + 4 * n, 0, 5, .S, .k1, 0⟩
/-- R353. -/
def SEL1 (n : Nat) : Fld := ⟨0x1B3, 0x420 + 4 * n, 5, 5, .S, .k1, 0⟩
/-- R353. -/
def SEL2 (n : Nat) : Fld := ⟨0x1B3, 0x420 + 4 * n, 10, 5, .S, .k1, 0⟩
/-- R353. -/
def SEL3 (n : Nat) : Fld := ⟨0x1B3, 0x420 + 4 * n, 15, 5, .S, .k1, 0⟩
/-- R353. -/
def MISS_ACTION (n : Nat) : Fld := ⟨0x1B3, 0x440 + 4 * n, 0, 20, .S, .k1, 0⟩
/-- R353. -/
def MASK (n : Nat) : Fld := ⟨0x1B3, 0x460 + 4 * n, 0, 32, .S, .k1, 0⟩
/-- R353. -/
def SPREAD0 (n : Nat) : Fld := ⟨0x1B3, 0x4E0 + 4 * n, 0, 6, .S, .k1, (4 * n + 0) % 32⟩
/-- R353. -/
def SPREAD1 (n : Nat) : Fld := ⟨0x1B3, 0x4E0 + 4 * n, 8, 6, .S, .k1, (4 * n + 1) % 32⟩
/-- R353. -/
def SPREAD2 (n : Nat) : Fld := ⟨0x1B3, 0x4E0 + 4 * n, 16, 6, .S, .k1, (4 * n + 2) % 32⟩
/-- R353. -/
def SPREAD3 (n : Nat) : Fld := ⟨0x1B3, 0x4E0 + 4 * n, 24, 6, .S, .k1, (4 * n + 3) % 32⟩

/-- The fields of the word at offset `off`. -/
def fieldsAt (off : Nat) : List Fld :=
  if off = 0x20 then [PCL_EN]
  else if off = 0x24 then [SLICE_FULL, SPREAD_MOVING]
  else if off = 0x30 then [EM_SEED_A]
  else if off = 0x34 then [EM_SEED_B]
  else if off = 0x400 then [PARSE_DEPTH_HDRS, PARSE_DEPTH_BYTES, LEN_POLICY, INNER_L3]
  else if off = 0x404 then [EXTRA_TPID, EXTRA_TPID_EN]
  else if off = 0x408 then [VXLAN_UDP_PORT]
  else if off = 0x40C then [HASH_SEED]
  else if off = 0x410 then [DEFAULT_ACTION_PON]
  else if off = 0x414 then [DEFAULT_ACTION_NET]
  else if off = 0x418 then [DEPTH_ACTION]
  else if inRun off 0x420 4 8 then [SEL0 ((off - 0x420) / 4), SEL1 ((off - 0x420) / 4), SEL2 ((off - 0x420) / 4), SEL3 ((off - 0x420) / 4)]
  else if inRun off 0x440 4 8 then [MISS_ACTION ((off - 0x440) / 4)]
  else if inRun off 0x460 4 32 then [MASK ((off - 0x460) / 4)]
  else if inRun off 0x4E0 4 64 then [SPREAD0 ((off - 0x4E0) / 4), SPREAD1 ((off - 0x4E0) / 4), SPREAD2 ((off - 0x4E0) / 4), SPREAD3 ((off - 0x4E0) / 4)]
  else []

end PCL

namespace CPE

/-- R379. -/
def CPE_EN : Fld := ⟨0x1B4, 0x20, 0, 1, .D, .k1, 0⟩
/-- R379. -/
def REKEY_ANY : Fld := ⟨0x1B4, 0x24, 0, 1, .L, .open, 0⟩
/-- R379. -/
def HARD_ANY : Fld := ⟨0x1B4, 0x24, 1, 1, .L, .open, 0⟩
/-- R379. -/
def ERASING : Fld := ⟨0x1B4, 0x24, 2, 1, .L, .open, 0⟩
/-- R379. -/
def DEBUG_OPEN : Fld := ⟨0x1B4, 0x24, 3, 1, .L, .open, 0⟩
/-- R380. -/
def SOFT_LIMIT_LOG2 : Fld := ⟨0x1B4, 0x400, 0, 6, .S, .k1, 32⟩
/-- R380. -/
def HARD_LIMIT_LOG2 : Fld := ⟨0x1B4, 0x400, 8, 6, .S, .k1, 36⟩
/-- R380. -/
def ACTIVATE_DELAY_FRAMES : Fld := ⟨0x1B4, 0x404, 0, 8, .S, .k1, 16⟩
/-- R380. -/
def LANE_MAP0 (n : Nat) : Fld := ⟨0x1B4, 0x420 + 4 * n, 0, 6, .S, .k1, 4 * n + 0⟩
/-- R380. -/
def LANE_MAP1 (n : Nat) : Fld := ⟨0x1B4, 0x420 + 4 * n, 8, 6, .S, .k1, 4 * n + 1⟩
/-- R380. -/
def LANE_MAP2 (n : Nat) : Fld := ⟨0x1B4, 0x420 + 4 * n, 16, 6, .S, .k1, 4 * n + 2⟩
/-- R380. -/
def LANE_MAP3 (n : Nat) : Fld := ⟨0x1B4, 0x420 + 4 * n, 24, 6, .S, .k1, 4 * n + 3⟩

/-- The fields of the word at offset `off`. -/
def fieldsAt (off : Nat) : List Fld :=
  if off = 0x20 then [CPE_EN]
  else if off = 0x24 then [REKEY_ANY, HARD_ANY, ERASING, DEBUG_OPEN]
  else if off = 0x400 then [SOFT_LIMIT_LOG2, HARD_LIMIT_LOG2]
  else if off = 0x404 then [ACTIVATE_DELAY_FRAMES]
  else if inRun off 0x420 4 8 then [LANE_MAP0 ((off - 0x420) / 4), LANE_MAP1 ((off - 0x420) / 4), LANE_MAP2 ((off - 0x420) / 4), LANE_MAP3 ((off - 0x420) / 4)]
  else []

end CPE

namespace BPM

/-- R415. -/
def BPM_EN : Fld := ⟨0x1B0, 0x20, 0, 1, .D, .k1, 0⟩
/-- R415. -/
def FLOG_NONEMPTY : Fld := ⟨0x1B0, 0x24, 0, 1, .L, .open, 0⟩
/-- R415. -/
def FLOG_FULL : Fld := ⟨0x1B0, 0x24, 1, 1, .L, .open, 0⟩
/-- R415. -/
def BP_ANY : Fld := ⟨0x1B0, 0x24, 2, 1, .L, .open, 0⟩
/-- R415. -/
def WAITING : Fld := ⟨0x1B0, 0x24, 3, 1, .L, .open, 0⟩
/-- R415. -/
def CLEARING : Fld := ⟨0x1B0, 0x24, 4, 1, .L, .open, 0⟩
/-- R415. -/
def ONCHIP_SHARED : Fld := ⟨0x1B0, 0x28, 0, 21, .L, .open, 1048576⟩
/-- R415. -/
def DRAM_SHARED_UNITS : Fld := ⟨0x1B0, 0x2C, 0, 28, .L, .open, 134217728⟩
/-- R415. -/
def FLOG_PRODUCED : Fld := ⟨0x1B0, 0x30, 0, 11, .L, .open, 0⟩
/-- R415. -/
def FLOG_CONSUMED : Fld := ⟨0x1B0, 0x34, 0, 11, .D, .k1, 0⟩
/-- R415. -/
def CELL_ADDR_LO : Fld := ⟨0x1B0, 0x38, 0, 32, .D, .k1, 0⟩
/-- R415. -/
def CELL_ADDR_HI : Fld := ⟨0x1B0, 0x3C, 0, 12, .D, .k1, 0⟩

/-- The fields of the word at offset `off`. -/
def fieldsAt (off : Nat) : List Fld :=
  if off = 0x20 then [BPM_EN]
  else if off = 0x24 then [FLOG_NONEMPTY, FLOG_FULL, BP_ANY, WAITING, CLEARING]
  else if off = 0x28 then [ONCHIP_SHARED]
  else if off = 0x2C then [DRAM_SHARED_UNITS]
  else if off = 0x30 then [FLOG_PRODUCED]
  else if off = 0x34 then [FLOG_CONSUMED]
  else if off = 0x38 then [CELL_ADDR_LO]
  else if off = 0x3C then [CELL_ADDR_HI]
  else []

end BPM

namespace QMG

/-- R418. -/
def QMG_EN : Fld := ⟨0x1B1, 0x20, 0, 1, .D, .k1, 0⟩
/-- R418. -/
def FLUSHING : Fld := ⟨0x1B1, 0x24, 0, 1, .L, .open, 0⟩
/-- R418. -/
def CUT_ANY : Fld := ⟨0x1B1, 0x24, 1, 1, .L, .open, 0⟩
/-- R418. -/
def QUEUES : Fld := ⟨0x1B1, 0x28, 0, 21, .L, .open, 0⟩

/-- The fields of the word at offset `off`. -/
def fieldsAt (off : Nat) : List Fld :=
  if off = 0x20 then [QMG_EN]
  else if off = 0x24 then [FLUSHING, CUT_ANY]
  else if off = 0x28 then [QUEUES]
  else []

end QMG

namespace SKC

/-- R421. -/
def SCRUB_EN (s : Nat) : Fld := ⟨0x1A0 + s, 0x20, 0, 1, .D, .k1, 1⟩
/-- R421. -/
def SCRUB_HOURS (s : Nat) : Fld := ⟨0x1A0 + s, 0x20, 8, 8, .D, .k1, 24⟩
/-- R421. -/
def READY (s : Nat) : Fld := ⟨0x1A0 + s, 0x24, 0, 1, .L, .open, 0⟩
/-- R421. -/
def REFRESH_2X (s : Nat) : Fld := ⟨0x1A0 + s, 0x24, 1, 1, .L, .open, 0⟩
/-- R421. -/
def REFRESH_4X (s : Nat) : Fld := ⟨0x1A0 + s, 0x24, 2, 1, .L, .open, 0⟩
/-- R421. -/
def STACK_TEMP (s : Nat) : Fld := ⟨0x1A0 + s, 0x28, 0, 8, .L, .open, 0⟩
/-- R421. -/
def READ_LAT_NS (s : Nat) : Fld := ⟨0x1A0 + s, 0x28, 16, 16, .L, .open, 0⟩

/-- The fields of the word at offset `off`. -/
def fieldsAt (s : Nat) (off : Nat) : List Fld :=
  if off = 0x20 then [SCRUB_EN s, SCRUB_HOURS s]
  else if off = 0x24 then [READY s, REFRESH_2X s, REFRESH_4X s]
  else if off = 0x28 then [STACK_TEMP s, READ_LAT_NS s]
  else []

end SKC

namespace TMG

/-- R450. -/
def QUANTUM_UNIT : Fld := ⟨0x1B2, 0x400, 0, 16, .S, .k1, 256⟩
/-- R450. -/
def SETUP_MARGIN_NS : Fld := ⟨0x1B2, 0x404, 0, 24, .S, .k1, 50000⟩
/-- R450. -/
def SAMPLE_EVERY : Fld := ⟨0x1B2, 0x408, 0, 16, .S, .k1, 1024⟩
/-- R451. -/
def TMG_EN : Fld := ⟨0x1B2, 0x20, 0, 1, .D, .k1, 0⟩
/-- R451. -/
def GATE_PENDING : Fld := ⟨0x1B2, 0x24, 0, 1, .L, .open, 0⟩
/-- R451. -/
def RT_ACTIVE : Fld := ⟨0x1B2, 0x24, 1, 1, .L, .open, 0⟩
/-- R451. -/
def PORT_DOWN_ANY : Fld := ⟨0x1B2, 0x24, 2, 1, .L, .open, 0⟩
/-- R451. -/
def LAG_DEGRADED : Fld := ⟨0x1B2, 0x24, 3, 1, .L, .open, 0⟩

/-- The fields of the word at offset `off`. -/
def fieldsAt (off : Nat) : List Fld :=
  if off = 0x400 then [QUANTUM_UNIT]
  else if off = 0x404 then [SETUP_MARGIN_NS]
  else if off = 0x408 then [SAMPLE_EVERY]
  else if off = 0x20 then [TMG_EN]
  else if off = 0x24 then [GATE_PENDING, RT_ACTIVE, PORT_DOWN_ANY, LAG_DEGRADED]
  else []

end TMG

namespace NPC

/-- R485. -/
def QUAD_MODE (q : Nat) : Fld := ⟨0x180 + q, 0x20, 0, 3, .D, .k1, 0⟩
/-- R485. -/
def FLEXE_EN (q : Nat) : Fld := ⟨0x180 + q, 0x20, 3, 1, .D, .k1, 0⟩
/-- R485. -/
def STANDBY_RF (q : Nat) : Fld := ⟨0x180 + q, 0x20, 4, 1, .D, .k1, 1⟩
/-- R485. -/
def REF_OK (q : Nat) : Fld := ⟨0x180 + q, 0x24, 0, 1, .L, .open, 0⟩
/-- R485. -/
def PLL_LOCK (q : Nat) : Fld := ⟨0x180 + q, 0x24, 1, 1, .L, .open, 0⟩
/-- R485. -/
def PORT_EN (q : Nat) (n : Nat) : Fld := ⟨0x180 + q, 0x40 + 16 * n, 0, 1, .D, .k1, 0⟩
/-- R485. -/
def AN_EN (q : Nat) (n : Nat) : Fld := ⟨0x180 + q, 0x40 + 16 * n, 1, 1, .D, .k1, 1⟩
/-- R485. -/
def TRAIN_EN (q : Nat) (n : Nat) : Fld := ⟨0x180 + q, 0x40 + 16 * n, 2, 1, .D, .k1, 1⟩
/-- R485. -/
def ALLOW_LOW (q : Nat) (n : Nat) : Fld := ⟨0x180 + q, 0x40 + 16 * n, 3, 1, .D, .k1, 0⟩
/-- R485. -/
def PAUSE_RX_EN (q : Nat) (n : Nat) : Fld := ⟨0x180 + q, 0x40 + 16 * n, 4, 1, .D, .k1, 0⟩
/-- R485. -/
def PAUSE_GEN_EN (q : Nat) (n : Nat) : Fld := ⟨0x180 + q, 0x40 + 16 * n, 5, 1, .D, .k1, 0⟩
/-- R485. -/
def BRINGUP (q : Nat) (n : Nat) : Fld := ⟨0x180 + q, 0x44 + 16 * n, 0, 3, .L, .open, 0⟩
/-- R485. -/
def UP (q : Nat) (n : Nat) : Fld := ⟨0x180 + q, 0x44 + 16 * n, 3, 1, .L, .open, 0⟩
/-- R485. -/
def DEFECTS (q : Nat) (n : Nat) : Fld := ⟨0x180 + q, 0x44 + 16 * n, 4, 7, .L, .open, 0⟩
/-- R485. -/
def PAUSED (q : Nat) (n : Nat) : Fld := ⟨0x180 + q, 0x44 + 16 * n, 11, 1, .L, .open, 0⟩
/-- R485. -/
def PAUSE_IGNORED (q : Nat) (n : Nat) : Fld := ⟨0x180 + q, 0x44 + 16 * n, 12, 1, .L, .open, 0⟩
/-- R485. -/
def PAUSE_SENDING (q : Nat) (n : Nat) : Fld := ⟨0x180 + q, 0x44 + 16 * n, 13, 1, .L, .open, 0⟩
/-- R485. -/
def PAUSE_POOL (q : Nat) (n : Nat) : Fld := ⟨0x180 + q, 0x48 + 16 * n, 0, 32, .D, .k1, 0⟩
/-- R485. -/
def PAUSE_QUANTA (q : Nat) (n : Nat) : Fld := ⟨0x180 + q, 0x4C + 16 * n, 0, 16, .D, .k1, 65535⟩
/-- R485. -/
def PRBS_GEN (q : Nat) (n : Nat) : Fld := ⟨0x180 + q, 0x100 + 16 * n, 0, 3, .D, .k1, 0⟩
/-- R485. -/
def PRBS_CHK (q : Nat) (n : Nat) : Fld := ⟨0x180 + q, 0x100 + 16 * n, 3, 3, .D, .k1, 0⟩
/-- R485. -/
def INJECT_LOG2 (q : Nat) (n : Nat) : Fld := ⟨0x180 + q, 0x100 + 16 * n, 6, 6, .D, .k1, 0⟩
/-- R485. -/
def INJECT_ONE (q : Nat) (n : Nat) : Fld := ⟨0x180 + q, 0x100 + 16 * n, 12, 1, .H, .k1, 0⟩
/-- R485. -/
def ADAPT_FREEZE (q : Nat) (n : Nat) : Fld := ⟨0x180 + q, 0x100 + 16 * n, 13, 1, .D, .k1, 0⟩
/-- R485. -/
def SIGNAL (q : Nat) (n : Nat) : Fld := ⟨0x180 + q, 0x104 + 16 * n, 0, 1, .L, .open, 0⟩
/-- R485. -/
def CDR_LOCK (q : Nat) (n : Nat) : Fld := ⟨0x180 + q, 0x104 + 16 * n, 1, 1, .L, .open, 0⟩
/-- R485. -/
def PRBS_LOCK (q : Nat) (n : Nat) : Fld := ⟨0x180 + q, 0x104 + 16 * n, 2, 1, .L, .open, 0⟩
/-- R485. -/
def EYE_V (q : Nat) (n : Nat) : Fld := ⟨0x180 + q, 0x104 + 16 * n, 8, 8, .L, .open, 0⟩
/-- R485. -/
def EYE_H (q : Nat) (n : Nat) : Fld := ⟨0x180 + q, 0x104 + 16 * n, 16, 8, .L, .open, 0⟩
/-- R486. -/
def MAX_FRAME_BYTES (q : Nat) : Fld := ⟨0x180 + q, 0x400, 0, 14, .S, .k1, 9604⟩
/-- R486. -/
def UP_HOLD_US (q : Nat) : Fld := ⟨0x180 + q, 0x404, 0, 16, .S, .k1, 1000⟩
/-- R486. -/
def PAUSE_MAX_FRAMES (q : Nat) : Fld := ⟨0x180 + q, 0x404, 16, 4, .S, .k1, 8⟩
/-- R486. -/
def TRAIN_TIMEOUT_MS (q : Nat) : Fld := ⟨0x180 + q, 0x408, 0, 14, .S, .k1, 3000⟩
/-- R486. -/
def TRAIN_RETRIES (q : Nat) : Fld := ⟨0x180 + q, 0x408, 14, 4, .S, .k1, 3⟩
/-- R485. -/
def TX_C_M2 (q : Nat) (n : Nat) : Fld := ⟨0x180 + q, 0x108 + 16 * n, 0, 6, .H, .k1, 0⟩
/-- R485. -/
def TX_C_M1 (q : Nat) (n : Nat) : Fld := ⟨0x180 + q, 0x108 + 16 * n, 6, 6, .H, .k1, 0⟩
/-- R485. -/
def TX_C_0 (q : Nat) (n : Nat) : Fld := ⟨0x180 + q, 0x108 + 16 * n, 12, 6, .H, .k1, 48⟩
/-- R485. -/
def TX_C_P1 (q : Nat) (n : Nat) : Fld := ⟨0x180 + q, 0x108 + 16 * n, 18, 6, .H, .k1, 0⟩

/-- The fields of the word at offset `off`. -/
def fieldsAt (q : Nat) (off : Nat) : List Fld :=
  if off = 0x20 then [QUAD_MODE q, FLEXE_EN q, STANDBY_RF q]
  else if off = 0x24 then [REF_OK q, PLL_LOCK q]
  else if off = 0x400 then [MAX_FRAME_BYTES q]
  else if off = 0x404 then [UP_HOLD_US q, PAUSE_MAX_FRAMES q]
  else if off = 0x408 then [TRAIN_TIMEOUT_MS q, TRAIN_RETRIES q]
  else if inRun off 0x40 16 4 then [PORT_EN q ((off - 0x40) / 16), AN_EN q ((off - 0x40) / 16), TRAIN_EN q ((off - 0x40) / 16), ALLOW_LOW q ((off - 0x40) / 16), PAUSE_RX_EN q ((off - 0x40) / 16), PAUSE_GEN_EN q ((off - 0x40) / 16)]
  else if inRun off 0x44 16 4 then [BRINGUP q ((off - 0x44) / 16), UP q ((off - 0x44) / 16), DEFECTS q ((off - 0x44) / 16), PAUSED q ((off - 0x44) / 16), PAUSE_IGNORED q ((off - 0x44) / 16), PAUSE_SENDING q ((off - 0x44) / 16)]
  else if inRun off 0x48 16 4 then [PAUSE_POOL q ((off - 0x48) / 16)]
  else if inRun off 0x4C 16 4 then [PAUSE_QUANTA q ((off - 0x4C) / 16)]
  else if inRun off 0x100 16 4 then [PRBS_GEN q ((off - 0x100) / 16), PRBS_CHK q ((off - 0x100) / 16), INJECT_LOG2 q ((off - 0x100) / 16), INJECT_ONE q ((off - 0x100) / 16), ADAPT_FREEZE q ((off - 0x100) / 16)]
  else if inRun off 0x104 16 4 then [SIGNAL q ((off - 0x104) / 16), CDR_LOCK q ((off - 0x104) / 16), PRBS_LOCK q ((off - 0x104) / 16), EYE_V q ((off - 0x104) / 16), EYE_H q ((off - 0x104) / 16)]
  else if inRun off 0x108 16 4 then [TX_C_M2 q ((off - 0x108) / 16), TX_C_M1 q ((off - 0x108) / 16), TX_C_0 q ((off - 0x108) / 16), TX_C_P1 q ((off - 0x108) / 16)]
  else []

end NPC

namespace FLX

/-- R488. -/
def CA_TIMEOUT_OHF : Fld := ⟨0x190, 0x20, 0, 8, .D, .k1, 8⟩
/-- R488. -/
def GROUP_DOWN_ANY : Fld := ⟨0x190, 0x24, 0, 1, .L, .open, 0⟩
/-- R488. -/
def SWITCH_PENDING : Fld := ⟨0x190, 0x24, 1, 1, .L, .open, 0⟩

/-- The fields of the word at offset `off`. -/
def fieldsAt (off : Nat) : List Fld :=
  if off = 0x20 then [CA_TIMEOUT_OHF]
  else if off = 0x24 then [GROUP_DOWN_ANY, SWITCH_PENDING]
  else []

end FLX

namespace TMU

/-- R510. -/
def TIME_RUN : Fld := ⟨0x4, 0x20, 0, 1, .D, .k1, 0⟩
/-- R510. -/
def LOAD_ON_PPS : Fld := ⟨0x4, 0x20, 1, 1, .D, .k1, 0⟩
/-- R510. -/
def PAIR_FOLLOW : Fld := ⟨0x4, 0x20, 2, 1, .D, .k1, 0⟩
/-- R510. -/
def TIME_SOURCE : Fld := ⟨0x4, 0x20, 3, 2, .D, .k1, 0⟩
/-- R510. -/
def SW_LOCKED : Fld := ⟨0x4, 0x20, 5, 1, .D, .k1, 0⟩
/-- R510. -/
def RUNNING : Fld := ⟨0x4, 0x24, 0, 1, .L, .open, 0⟩
/-- R510. -/
def LOCKED : Fld := ⟨0x4, 0x24, 1, 1, .L, .open, 0⟩
/-- R510. -/
def HOLDOVER : Fld := ⟨0x4, 0x24, 2, 1, .L, .open, 0⟩
/-- R510. -/
def REF_OK : Fld := ⟨0x4, 0x24, 3, 1, .L, .open, 0⟩
/-- R510. -/
def EVT_NONEMPTY : Fld := ⟨0x4, 0x24, 4, 1, .L, .open, 0⟩
/-- R510. -/
def TXS_NONEMPTY : Fld := ⟨0x4, 0x24, 5, 1, .L, .open, 0⟩
/-- R510. -/
def FREQ_ADJ : Fld := ⟨0x4, 0x40, 0, 32, .D, .k1, 0⟩
/-- R510. -/
def PHASE_ADJ_NS : Fld := ⟨0x4, 0x44, 0, 32, .H, .k1, 0⟩
/-- R510. -/
def FREQ_APPLIED : Fld := ⟨0x4, 0x48, 0, 32, .L, .open, 0⟩
/-- R510. -/
def SLEW_PPB : Fld := ⟨0x4, 0x4C, 0, 16, .D, .k1, 500⟩
/-- R510. -/
def SERVO_TIMEOUT_MS : Fld := ⟨0x4, 0x50, 0, 16, .D, .k1, 2000⟩
/-- R510. -/
def HOLDOVER_AVG_S : Fld := ⟨0x4, 0x50, 16, 16, .D, .k1, 60⟩
/-- R510. -/
def PAIR_DIFF_NS : Fld := ⟨0x4, 0x54, 0, 16, .L, .open, 0⟩
/-- R510. -/
def PPS_ERR_NS : Fld := ⟨0x4, 0x54, 16, 16, .L, .open, 0⟩
/-- R510. -/
def TOD_EVERY_FRAMES : Fld := ⟨0x4, 0x58, 0, 16, .D, .k1, 8000⟩
/-- R510. -/
def EVT_PRODUCED : Fld := ⟨0x4, 0x60, 0, 9, .L, .open, 0⟩
/-- R510. -/
def EVT_CONSUMED : Fld := ⟨0x4, 0x64, 0, 9, .D, .k1, 0⟩
/-- R510. -/
def TXS_PRODUCED : Fld := ⟨0x4, 0x68, 0, 9, .L, .open, 0⟩
/-- R510. -/
def TXS_CONSUMED : Fld := ⟨0x4, 0x6C, 0, 9, .D, .k1, 0⟩
/-- R510. -/
def EDGE (n : Nat) : Fld := ⟨0x4, 0x80 + 4 * n, 0, 2, .D, .k1, 0⟩
/-- R510. -/
def FILTER_NS (n : Nat) : Fld := ⟨0x4, 0x80 + 4 * n, 8, 8, .D, .k1, 0⟩
/-- R510. -/
def RX_ADJ_NS (n : Nat) : Fld := ⟨0x4, 0x200 + 4 * n, 0, 16, .D, .k1, 0⟩
/-- R510. -/
def TX_ADJ_NS (n : Nat) : Fld := ⟨0x4, 0x200 + 4 * n, 16, 16, .D, .k1, 0⟩
/-- R510. -/
def ONE_STEP (n : Nat) : Fld := ⟨0x4, 0x300 + 4 * n, 0, 32, .D, .k1, 0⟩
/-- R510. -/
def TIME_LOAD_LO : Fld := ⟨0x4, 0x28, 0, 32, .D, .k1, 0⟩
/-- R510. -/
def TIME_LOAD_HI : Fld := ⟨0x4, 0x2C, 0, 32, .D, .k1, 0⟩
/-- R510. -/
def TIME_OFFSET_LO : Fld := ⟨0x4, 0x38, 0, 32, .D, .k1, 0⟩
/-- R510. -/
def TIME_OFFSET_HI : Fld := ⟨0x4, 0x3C, 0, 32, .D, .k1, 0⟩
/-- R510. -/
def TIME_NOW_LO : Fld := ⟨0x4, 0x30, 0, 32, .L, .open, 0⟩
/-- R510. -/
def TIME_NOW_HI : Fld := ⟨0x4, 0x34, 0, 32, .L, .open, 0⟩
/-- R510. -/
def START_LO (n : Nat) : Fld := ⟨0x4, 0xC0 + 32 * n, 0, 32, .D, .k1, 0⟩
/-- R510. -/
def START_HI (n : Nat) : Fld := ⟨0x4, 0xC4 + 32 * n, 0, 32, .D, .k1, 0⟩
/-- R510. -/
def PERIOD_NS (n : Nat) : Fld := ⟨0x4, 0xC8 + 32 * n, 0, 32, .D, .k1, 1000000000⟩
/-- R510. -/
def WIDTH_NS (n : Nat) : Fld := ⟨0x4, 0xCC + 32 * n, 0, 32, .D, .k1, 100000⟩
/-- R510. -/
def PO_EN (n : Nat) : Fld := ⟨0x4, 0xD0 + 32 * n, 0, 1, .D, .k1, 0⟩
/-- R510. -/
def TIMEBASE (n : Nat) : Fld := ⟨0x4, 0xD0 + 32 * n, 1, 1, .D, .k1, 0⟩
/-- R510. -/
def PO_ACTIVE_LOW (n : Nat) : Fld := ⟨0x4, 0xD0 + 32 * n, 2, 1, .D, .k1, 0⟩

/-- The fields of the word at offset `off`. -/
def fieldsAt (off : Nat) : List Fld :=
  if off = 0x20 then [TIME_RUN, LOAD_ON_PPS, PAIR_FOLLOW, TIME_SOURCE, SW_LOCKED]
  else if off = 0x24 then [RUNNING, LOCKED, HOLDOVER, REF_OK, EVT_NONEMPTY, TXS_NONEMPTY]
  else if off = 0x40 then [FREQ_ADJ]
  else if off = 0x44 then [PHASE_ADJ_NS]
  else if off = 0x48 then [FREQ_APPLIED]
  else if off = 0x4C then [SLEW_PPB]
  else if off = 0x50 then [SERVO_TIMEOUT_MS, HOLDOVER_AVG_S]
  else if off = 0x54 then [PAIR_DIFF_NS, PPS_ERR_NS]
  else if off = 0x58 then [TOD_EVERY_FRAMES]
  else if off = 0x60 then [EVT_PRODUCED]
  else if off = 0x64 then [EVT_CONSUMED]
  else if off = 0x68 then [TXS_PRODUCED]
  else if off = 0x6C then [TXS_CONSUMED]
  else if off = 0x28 then [TIME_LOAD_LO]
  else if off = 0x2C then [TIME_LOAD_HI]
  else if off = 0x38 then [TIME_OFFSET_LO]
  else if off = 0x3C then [TIME_OFFSET_HI]
  else if off = 0x30 then [TIME_NOW_LO]
  else if off = 0x34 then [TIME_NOW_HI]
  else if inRun off 0x80 4 8 then [EDGE ((off - 0x80) / 4), FILTER_NS ((off - 0x80) / 4)]
  else if inRun off 0x200 4 64 then [RX_ADJ_NS ((off - 0x200) / 4), TX_ADJ_NS ((off - 0x200) / 4)]
  else if inRun off 0x300 4 2 then [ONE_STEP ((off - 0x300) / 4)]
  else if inRun off 0xC0 32 4 then [START_LO ((off - 0xC0) / 32)]
  else if inRun off 0xC4 32 4 then [START_HI ((off - 0xC4) / 32)]
  else if inRun off 0xC8 32 4 then [PERIOD_NS ((off - 0xC8) / 32)]
  else if inRun off 0xCC 32 4 then [WIDTH_NS ((off - 0xCC) / 32)]
  else if inRun off 0xD0 32 4 then [PO_EN ((off - 0xD0) / 32), TIMEBASE ((off - 0xD0) / 32), PO_ACTIVE_LOW ((off - 0xD0) / 32)]
  else []

end TMU

namespace MRU

/-- R550. -/
def MIRROR_EN : Fld := ⟨0x5, 0x20, 0, 1, .D, .k1, 0⟩
/-- R550. -/
def PAIR_EN : Fld := ⟨0x5, 0x20, 1, 1, .D, .k1, 0⟩
/-- R550. -/
def AUTO_TAKEOVER : Fld := ⟨0x5, 0x20, 3, 1, .D, .k1, 1⟩
/-- R550. -/
def COMPAT : Fld := ⟨0x5, 0x20, 4, 1, .D, .k1, 0⟩
/-- R550. -/
def CLAIM : Fld := ⟨0x5, 0x20, 5, 1, .H, .k1, 0⟩
/-- R550. -/
def RELEASE : Fld := ⟨0x5, 0x20, 6, 1, .H, .k1, 0⟩
/-- R550. -/
def FORCE_FENCE : Fld := ⟨0x5, 0x20, 7, 1, .D, .k1, 0⟩
/-- R550. -/
def COLD_START : Fld := ⟨0x5, 0x20, 8, 1, .H, .k1, 0⟩
/-- R550. -/
def ROLE : Fld := ⟨0x5, 0x24, 0, 2, .L, .open, 0⟩
/-- R550. -/
def CAPO : Fld := ⟨0x5, 0x24, 2, 1, .L, .open, 0⟩
/-- R550. -/
def READY : Fld := ⟨0x5, 0x24, 3, 1, .L, .open, 0⟩
/-- R550. -/
def PARTNER_PRESENT : Fld := ⟨0x5, 0x24, 4, 1, .L, .open, 0⟩
/-- R550. -/
def PARTNER_READY : Fld := ⟨0x5, 0x24, 5, 1, .L, .open, 0⟩
/-- R550. -/
def SP_UP : Fld := ⟨0x5, 0x24, 6, 1, .L, .open, 0⟩
/-- R550. -/
def PINS_OK : Fld := ⟨0x5, 0x24, 7, 1, .L, .open, 0⟩
/-- R550. -/
def RESYNC : Fld := ⟨0x5, 0x24, 8, 1, .L, .open, 0⟩
/-- R550. -/
def REPLAYING : Fld := ⟨0x5, 0x24, 9, 1, .L, .open, 0⟩
/-- R550. -/
def CLAIMING : Fld := ⟨0x5, 0x24, 10, 1, .L, .open, 0⟩
/-- R550. -/
def LEASE_END_FRAME : Fld := ⟨0x5, 0x28, 0, 32, .L, .open, 0⟩
/-- R550. -/
def EPOCH_SENT : Fld := ⟨0x5, 0x2C, 0, 32, .L, .open, 0⟩
/-- R550. -/
def EPOCH_ACKED : Fld := ⟨0x5, 0x30, 0, 32, .L, .open, 0⟩
/-- R550. -/
def EPOCH_APPLIED : Fld := ⟨0x5, 0x34, 0, 32, .L, .open, 0⟩
/-- R550. -/
def LAG : Fld := ⟨0x5, 0x38, 0, 16, .L, .open, 0⟩
/-- R550. -/
def LAST_EPOCH_BYTES : Fld := ⟨0x5, 0x3C, 0, 24, .L, .open, 0⟩
/-- R550. -/
def LOG_POOL : Fld := ⟨0x5, 0x40, 0, 32, .D, .k1, 0⟩
/-- R550. -/
def LOG_EPOCHS : Fld := ⟨0x5, 0x44, 0, 13, .D, .k1, 256⟩
/-- R550. -/
def BASE_KIB : Fld := ⟨0x5, 0x48, 0, 32, .L, .open, 0⟩
/-- R551. -/
def LEASE_FRAMES : Fld := ⟨0x5, 0x400, 0, 4, .S, .k1, 4⟩
/-- R551. -/
def MARGIN_FRAMES : Fld := ⟨0x5, 0x400, 4, 3, .S, .k1, 1⟩
/-- R550. -/
def PAIR_SIDE : Fld := ⟨0x5, 0x20, 2, 1, .D, .k1, 0⟩

/-- The fields of the word at offset `off`. -/
def fieldsAt (off : Nat) : List Fld :=
  if off = 0x20 then [MIRROR_EN, PAIR_EN, AUTO_TAKEOVER, COMPAT, CLAIM, RELEASE, FORCE_FENCE, COLD_START, PAIR_SIDE]
  else if off = 0x24 then [ROLE, CAPO, READY, PARTNER_PRESENT, PARTNER_READY, SP_UP, PINS_OK, RESYNC, REPLAYING, CLAIMING]
  else if off = 0x28 then [LEASE_END_FRAME]
  else if off = 0x2C then [EPOCH_SENT]
  else if off = 0x30 then [EPOCH_ACKED]
  else if off = 0x34 then [EPOCH_APPLIED]
  else if off = 0x38 then [LAG]
  else if off = 0x3C then [LAST_EPOCH_BYTES]
  else if off = 0x40 then [LOG_POOL]
  else if off = 0x44 then [LOG_EPOCHS]
  else if off = 0x48 then [BASE_KIB]
  else if off = 0x400 then [LEASE_FRAMES, MARGIN_FRAMES]
  else []

end MRU

namespace MON

/-- R570. -/
def MON_USER_EN : Fld := ⟨0x7, 0x20, 0, 1, .D, .k1, 0⟩
/-- R570. -/
def TAG_EN : Fld := ⟨0x7, 0x20, 1, 1, .D, .k1, 0⟩
/-- R570. -/
def TRACE_NONEMPTY : Fld := ⟨0x7, 0x24, 0, 1, .L, .open, 0⟩
/-- R570. -/
def TRACE_FULL : Fld := ⟨0x7, 0x24, 1, 1, .L, .open, 0⟩
/-- R570. -/
def TAG_N : Fld := ⟨0x7, 0x28, 0, 17, .D, .k1, 65536⟩
/-- R570. -/
def TAG_SEED : Fld := ⟨0x7, 0x2C, 0, 32, .D, .k1, 1⟩
/-- R570. -/
def TRACE_PRODUCED : Fld := ⟨0x7, 0x30, 0, 13, .L, .open, 0⟩
/-- R570. -/
def TRACE_CONSUMED : Fld := ⟨0x7, 0x34, 0, 13, .D, .k1, 0⟩
/-- R570. -/
def PAGE (n : Nat) : Fld := ⟨0x7, 0x400 + 4 * n, 0, 9, .S, .k1, 0⟩
/-- R570. -/
def ITEM (n : Nat) : Fld := ⟨0x7, 0x400 + 4 * n, 9, 7, .S, .k1, 0⟩
/-- R570. -/
def MODE (n : Nat) : Fld := ⟨0x7, 0x400 + 4 * n, 16, 2, .S, .k1, 0⟩
/-- R570. -/
def CLEAR_ON_APPLY (n : Nat) : Fld := ⟨0x7, 0x400 + 4 * n, 18, 1, .S, .k1, 0⟩

/-- The fields of the word at offset `off`. -/
def fieldsAt (off : Nat) : List Fld :=
  if off = 0x20 then [MON_USER_EN, TAG_EN]
  else if off = 0x24 then [TRACE_NONEMPTY, TRACE_FULL]
  else if off = 0x28 then [TAG_N]
  else if off = 0x2C then [TAG_SEED]
  else if off = 0x30 then [TRACE_PRODUCED]
  else if off = 0x34 then [TRACE_CONSUMED]
  else if inRun off 0x400 4 64 then [PAGE ((off - 0x400) / 4), ITEM ((off - 0x400) / 4), MODE ((off - 0x400) / 4), CLEAR_ON_APPLY ((off - 0x400) / 4)]
  else []

end MON

namespace SEC

/-- R589. -/
def ATTEST_GO : Fld := ⟨0x2, 0x20, 0, 1, .H, .k1, 0⟩
/-- R589. -/
def DEBUG_GO : Fld := ⟨0x2, 0x20, 1, 1, .H, .k1, 0⟩
/-- R589. -/
def BOOT_STATE : Fld := ⟨0x2, 0x24, 0, 2, .L, .k1, 0⟩
/-- R589. -/
def BOOT_SLOT : Fld := ⟨0x2, 0x24, 2, 1, .L, .k1, 0⟩
/-- R589. -/
def ROOT_SLOT_USED : Fld := ⟨0x2, 0x24, 3, 2, .L, .k1, 0⟩
/-- R589. -/
def DEBUG_LEVEL : Fld := ⟨0x2, 0x24, 5, 2, .L, .k1, 0⟩
/-- R589. -/
def ATTEST_BUSY : Fld := ⟨0x2, 0x24, 7, 1, .L, .k1, 0⟩
/-- R589. -/
def ATTEST_STATUS : Fld := ⟨0x2, 0x24, 8, 3, .L, .k1, 0⟩
/-- R589. -/
def FUSE_BUSY : Fld := ⟨0x2, 0x24, 11, 1, .L, .k1, 0⟩
/-- R589. -/
def IMAGE_VERSION : Fld := ⟨0x2, 0x2C, 0, 32, .L, .k1, 0⟩
/-- R589. -/
def NEXT_LEAF : Fld := ⟨0x2, 0x38, 0, 21, .L, .k1, 0⟩
/-- R589. -/
def REVOKE_SLOT : Fld := ⟨0x2, 0x40, 0, 2, .D, .k2, 0⟩
/-- R589. -/
def REVOKE_GO : Fld := ⟨0x2, 0x40, 2, 1, .H, .k2, 0⟩
/-- R589. -/
def SVN_RAISE_TO : Fld := ⟨0x2, 0x44, 0, 6, .D, .k2, 0⟩
/-- R589. -/
def SVN_GO : Fld := ⟨0x2, 0x44, 8, 1, .H, .k2, 0⟩
/-- R589. -/
def ROOT_STATE : Fld := ⟨0x2, 0x24, 12, 6, .L, .k1, 0⟩
/-- R589. -/
def BOOT_ERROR_A : Fld := ⟨0x2, 0x28, 0, 4, .L, .k1, 0⟩
/-- R589. -/
def BOOT_ERROR_B : Fld := ⟨0x2, 0x28, 4, 4, .L, .k1, 0⟩
/-- R589. -/
def IMAGE_SVN : Fld := ⟨0x2, 0x30, 0, 6, .L, .k1, 0⟩
/-- R589. -/
def FUSED_SVN : Fld := ⟨0x2, 0x30, 8, 6, .L, .k1, 0⟩
/-- R589. -/
def BLOCKS_USED : Fld := ⟨0x2, 0x34, 0, 11, .L, .k1, 0⟩

/-- The fields of the word at offset `off`. -/
def fieldsAt (off : Nat) : List Fld :=
  if off = 0x20 then [ATTEST_GO, DEBUG_GO]
  else if off = 0x24 then [BOOT_STATE, BOOT_SLOT, ROOT_SLOT_USED, DEBUG_LEVEL, ATTEST_BUSY, ATTEST_STATUS, FUSE_BUSY, ROOT_STATE]
  else if off = 0x2C then [IMAGE_VERSION]
  else if off = 0x38 then [NEXT_LEAF]
  else if off = 0x40 then [REVOKE_SLOT, REVOKE_GO]
  else if off = 0x44 then [SVN_RAISE_TO, SVN_GO]
  else if off = 0x28 then [BOOT_ERROR_A, BOOT_ERROR_B]
  else if off = 0x30 then [IMAGE_SVN, FUSED_SVN]
  else if off = 0x34 then [BLOCKS_USED]
  else []

end SEC

namespace SPM

/-- R609. -/
def SPM_EN : Fld := ⟨0x6, 0x20, 0, 1, .D, .k1, 0⟩
/-- R609. -/
def AUTO_PLL : Fld := ⟨0x6, 0x20, 1, 1, .D, .k1, 0⟩
/-- R609. -/
def APPROVE : Fld := ⟨0x6, 0x20, 2, 1, .H, .k1, 0⟩
/-- R609. -/
def EXCHANGING : Fld := ⟨0x6, 0x24, 0, 1, .L, .open, 0⟩
/-- R609. -/
def PENDING : Fld := ⟨0x6, 0x24, 1, 1, .L, .open, 0⟩
/-- R609. -/
def COPYING : Fld := ⟨0x6, 0x24, 2, 1, .L, .open, 0⟩
/-- R609. -/
def MAP_FULL : Fld := ⟨0x6, 0x24, 3, 1, .L, .open, 0⟩
/-- R609. -/
def EXHAUSTED : Fld := ⟨0x6, 0x24, 4, 9, .L, .open, 0⟩
/-- R609. -/
def PENDING_KIND : Fld := ⟨0x6, 0x28, 0, 4, .L, .open, 0⟩
/-- R609. -/
def PENDING_UNIT : Fld := ⟨0x6, 0x28, 4, 14, .L, .open, 0⟩
/-- R610. -/
def PACE_WEAR_PCT : Fld := ⟨0x6, 0x400, 0, 8, .S, .k1, 3⟩
/-- R610. -/
def PACE_AVG_FRAMES : Fld := ⟨0x6, 0x400, 16, 16, .S, .k1, 8000⟩
/-- R610. -/
def DRAM_CE_PER_HOUR : Fld := ⟨0x6, 0x404, 0, 32, .S, .k1, 1000⟩
/-- R610. -/
def SRAM_CE_PER_HOUR : Fld := ⟨0x6, 0x408, 0, 32, .S, .k1, 100⟩
/-- R610. -/
def EYE_V_MIN_MV : Fld := ⟨0x6, 0x40C, 0, 8, .S, .k1, 12⟩
/-- R610. -/
def EYE_H_MIN : Fld := ⟨0x6, 0x40C, 8, 6, .S, .k1, 6⟩
/-- R610. -/
def EYE_HOLD_MS : Fld := ⟨0x6, 0x40C, 16, 16, .S, .k1, 1000⟩
/-- R610. -/
def ROW_CE_LIMIT : Fld := ⟨0x6, 0x410, 0, 4, .S, .k1, 8⟩

/-- The fields of the word at offset `off`. -/
def fieldsAt (off : Nat) : List Fld :=
  if off = 0x20 then [SPM_EN, AUTO_PLL, APPROVE]
  else if off = 0x24 then [EXCHANGING, PENDING, COPYING, MAP_FULL, EXHAUSTED]
  else if off = 0x28 then [PENDING_KIND, PENDING_UNIT]
  else if off = 0x400 then [PACE_WEAR_PCT, PACE_AVG_FRAMES]
  else if off = 0x404 then [DRAM_CE_PER_HOUR]
  else if off = 0x408 then [SRAM_CE_PER_HOUR]
  else if off = 0x40C then [EYE_V_MIN_MV, EYE_H_MIN, EYE_HOLD_MS]
  else if off = 0x410 then [ROW_CE_LIMIT]
  else []

end SPM

end Sys2Proof.Machine
end

