-- ==== Sys2Proof/Machine/Ops.lean ====
section
/-!
DEFINITION. The named operations every meaning is built from: register fields, counters, time, handles, PLOAM
messages, lanes and fences, and the violation log.
-/

namespace Sys2Proof.Machine

/-! ### Pages, fields and counters -/

/-- The page of the channel `c` (R57). -/
def chanPage (c : Nat) : Nat := 0x080 + c

/-- The page of the tree `t` (R57). -/
def treePage (t : Nat) : Nat := 0x040 + t

/-- Whether page `p` is populated (R57). -/
def populated (p : Nat) : Bool :=
  decide (p ≤ 0x033) || decide (0x040 ≤ p ∧ p ≤ 0x190) || decide (0x1A0 ≤ p ∧ p ≤ 0x1A7)
    || decide (0x1B0 ≤ p ∧ p ≤ 0x1B6)

/-- The key of a field: its bit's number in the alias space of R62, the page's 0x8000 bits first. -/
def fkey (f : Fld) : Nat := f.page * 0x8000 + f.off * 8 + f.lo

/-- The key of a staged field's applied copy (R58: 0x200 above the shadow). -/
def fkeyA (f : Fld) : Nat := fkey f + 0x1000

/-- The value of a field; of a staged field, its shadow. -/
def Device.rd (d : Device) (f : Fld) : Nat := Tbl.getD d.regs (fkey f) f.reset

/-- The value in force of a staged field: its applied copy (R68). -/
def Device.rdA (d : Device) (f : Fld) : Nat := Tbl.getD d.regs (fkeyA f) f.reset

/-- Set a field, cut to its width. -/
def Device.wr (f : Fld) (v : Nat) (d : Device) : Device :=
  { d with regs := Tbl.put f.reset d.regs (fkey f) (v % 2 ^ f.width) }

/-- Set a field where `c` holds. -/
def Device.wrIf (c : Bool) (f : Fld) (v : Nat) (d : Device) : Device := if c then d.wr f v else d

/-- Whether a field of one bit reads 1. -/
def Device.on (d : Device) (f : Fld) : Bool := decide (d.rd f = 1)

/-- The key of the counter at byte offset `off` of page `p`. -/
def ctrKey (p off : Nat) : Nat := p * 0x1000 + off

/-- A counter's value (R9: 64 bits). -/
def Device.ctr (d : Device) (p off : Nat) : Nat := Tbl.getD d.ctrs (ctrKey p off) 0

/-- Load a counter. -/
def Device.setCtr (p off v : Nat) (d : Device) : Device :=
  { d with ctrs := Tbl.put 0 d.ctrs (ctrKey p off) (v % 2 ^ 64) }

/-- Count `n` events (R16, class C). -/
def Device.count (p off n : Nat) (d : Device) : Device := d.setCtr p off (d.ctr p off + n)

/-- Count one event where `c` holds. -/
def Device.countIf (c : Bool) (p off : Nat) (d : Device) : Device := if c then d.count p off 1 else d

/-! ### The page header (R59) -/

def PG.IRQ_ENABLE (p : Nat) : Fld := ⟨p, 0x00C, 0, 32, .D, .k1, 0⟩
def PG.BOUNDARY_COUNT (p : Nat) : Fld := ⟨p, 0x010, 0, 24, .L, .open, 0⟩
def PG.APPLY_COUNT (p : Nat) : Fld := ⟨p, 0x010, 24, 7, .L, .open, 0⟩
def PG.STAGE_PENDING (p : Nat) : Fld := ⟨p, 0x010, 31, 1, .L, .open, 0⟩
def PG.ARM (p : Nat) : Fld := ⟨p, 0x014, 0, 1, .H, .k1, 0⟩
def PG.HOLD (p : Nat) : Fld := ⟨p, 0x014, 1, 1, .D, .k1, 0⟩
def PG.WRITE_LOST (p : Nat) : Fld := ⟨p, 0x018, 0, 32, .C, .open, 0⟩

/-- A boundary of page `p` passes (R72). -/
def Device.bumpBoundary (p : Nat) (d : Device) : Device := d.wr (PG.BOUNDARY_COUNT p) (d.rd (PG.BOUNDARY_COUNT p) + 1)

/-- Count a write dropped because a field, shadow or window was locked (R73, R85, R654). -/
def Device.lockedWrite (p : Nat) (d : Device) : Device := d.count p 0x800 1

/-- Count a refused write (R87). -/
def Device.refuse (p : Nat) (d : Device) : Device := d.count p 0x808 1

/-- Count field writes lost to hardware in the same window (R80). -/
def Device.writeLost (p n : Nat) (d : Device) : Device :=
  d.wr (PG.WRITE_LOST p) (d.rd (PG.WRITE_LOST p) + n)

/-- Apply `f` for each element, in order. -/
def forEach {α : Type} (l : List α) (f : α → Device → Device) (d : Device) : Device :=
  l.foldl (fun d a => f a d) d

/-- Apply `f` where `c` holds. -/
def Device.when (c : Bool) (f : Device → Device) (d : Device) : Device := if c then f d else d

/-- Apply `f` to the value, where there is one. -/
def Device.whenSome {α : Type} (o : Option α) (f : α → Device → Device) (d : Device) : Device :=
  match o with
  | some a => f a d
  | none => d

/-! ### Outputs, free values and time -/

/-- Show the outside world something. -/
def Device.emit (o : Out) (d : Device) : Device := { d with core := { d.core with out := d.core.out ++ [o] } }

/-- Draw a fresh open value. -/
def Device.draw (d : Device) : Nat × Device :=
  (Config.freeValue d.core.free, { d with core := { d.core with free := d.core.free + 1 } })

/-- Device time in ns (R12). -/
def Device.now (d : Device) : Nat := d.core.time

/-- The device frame that holds instant `t` (R12). -/
def frameOf (t : Nat) : Nat := t / 125000

/-- The current device frame. -/
def Device.frame (d : Device) : Nat := frameOf d.now

/-- The tree of a channel (R90). -/
def treeOf (c : Nat) : Nat := c / 4

/-- The tree of a terminal index (R256). -/
def termTree (x : Nat) : Nat := x / 512

/-- The start of tree frame `k` of tree `t` (R94). -/
def Device.treeFrameStart (d : Device) (t k : Nat) : Nat := k * 125000 + d.rd (TPE.OFFSET_NS t)

/-- The tree frame of tree `t` at instant `x`; before the start of its tree frame 0 it is 0 too (DESIGN CHOICE, log entry 84). -/
def Device.treeFrame (d : Device) (t x : Nat) : Nat := (x - d.rd (TPE.OFFSET_NS t)) / 125000

/-! ### Handles (R18 to R21) -/

/-- The code of an object kind (R19). -/
def kindCode : Kind → Nat
  | .terminal => 1 | .allocation => 2 | .channel => 3 | .queue => 4
  | .key => 5 | .pool => 6 | .shaper => 7 | .gateList => 8

/-- The handle of an object (R18). -/
def mkHandle (k : Kind) (gen idx : Nat) : Nat := kindCode k * 2 ^ 28 + gen * 2 ^ 20 + idx

/-- The kind bits, generation and index of a handle (R18). -/
def handleKind (h : Nat) : Nat := bits h 28 4
def handleGen (h : Nat) : Nat := bits h 20 8
def handleIdx (h : Nat) : Nat := bits h 0 20

/-- The key of an index's generation. -/
def genKey (k : Kind) (idx : Nat) : Nat := kindCode k * 2 ^ 20 + idx

/-- The generation `n` steps after `g`, skipping 0 (R20). -/
def genAdvance (g n : Nat) : Nat := if g + n > 255 then g + n - 255 else g + n

/-! ### PLOAM messages (R100) -/

/-- The framer of a channel. -/
def Device.cfr (d : Device) (c : Nat) : Cfr := Tbl.getD d.trees.cfr c {}

/-- Change the framer of a channel. -/
def Device.setCfr (c : Nat) (x : Cfr) (d : Device) : Device :=
  { d with trees := { d.trees with cfr := Tbl.put {} d.trees.cfr c x } }

/-- Move the firmware's waiting messages into the queue while it has room (R100). -/
def Cfr.pump (x : Cfr) : Cfr :=
  let room := 64 - x.ploamQ.length
  { x with ploamQ := x.ploamQ ++ x.fwQ.take room, fwQ := x.fwQ.drop room }

/-- The firmware takes a message for a channel (R100). -/
def Device.ploam (c : Nat) (m : Ploam) (d : Device) : Device :=
  let x := d.cfr c
  d.setCfr c (Cfr.pump { x with fwQ := x.fwQ ++ [m] })

/-! ### The Capo, fences and lanes (R105, R106) -/

/-- Whether the device holds the Capo. -/
def Device.capo (d : Device) : Bool := d.on MRU.CAPO

/-- Whether a fence holds: by the lease (ROLE 3) or by a trip (R285). -/
def Device.fenced (d : Device) : Bool := decide (d.rd MRU.ROLE = 3) || d.on PTM.TRIPPED

/-- Whether a channel is enabled by software: the first three conditions of R105. -/
def Device.laneEnabled (d : Device) (c : Nat) : Bool :=
  d.on (TPE.TREE_EN (treeOf c)) && d.on (CH.CH_EN c) && !d.on (CH.SQUELCH_FORCE c)

/-- Whether a channel's lane may carry frames (R105). -/
def Device.laneMaySend (d : Device) (c : Nat) : Bool := d.laneEnabled c && d.capo && !d.fenced

/-- Put every sending lane into electrical idle in the middle of its frame (R106). -/
def Device.fenceLanes (d : Device) : Device :=
  forEach (d.trees.cfr.filter (fun p => p.2.sending)) (fun p d =>
    (d.setCfr p.1 { p.2 with sending := false, fenceIdle := true }).count (chanPage p.1) 0x848 1) d

/-- Whether tree frame `k` of tree `t` starts at or after the tree's fence boundary (R534): its last boundary at or before
lease end minus margin, once a renewal was missed. -/
def Device.pastFence (d : Device) (t k : Nat) : Bool :=
  match d.mru.fenceAt with
  | some x => decide (x < d.treeFrameStart t (k + 1))
  | none => false

/-- The holder becomes FENCED and the Capo goes (R534); network egress stops with it. -/
def Device.becomeFenced (d : Device) : Device :=
  if d.rd MRU.ROLE = 1 then ((d.wr MRU.ROLE 3).wr MRU.CAPO 0).count 0x005 0x880 1 else d

/-- Fence at once (R285, R536). -/
def Device.fenceNow (d : Device) : Device := d.becomeFenced.fenceLanes

/-- A good message of the partner (R52). -/
def Device.hear (d : Device) : Device :=
  ({ d with mru := { d.mru with heard := d.now } }).wr MRU.PARTNER_PRESENT 1

/-! ### The channel ring and its slots (R32, R33) -/

/-- The slot that serves tree frame `k` on channel `c` (R32). -/
def slotKey (c k : Nat) : Nat := 8 * c + k % 8

/-- That slot. -/
def Device.slot (d : Device) (c k : Nat) : Slot := Tbl.getD d.fret.slots (slotKey c k) {}

/-- Change that slot. -/
def Device.setSlot (c k : Nat) (s : Slot) (d : Device) : Device :=
  { d with fret := { d.fret with slots := Tbl.put {} d.fret.slots (slotKey c k) s } }

/-- The eight slots of a channel's ring. -/
def Device.ringSlots (d : Device) (c : Nat) : List Slot :=
  (List.range 8).map (fun n => Tbl.getD d.fret.slots (8 * c + n) {})

/-- Whether a slot holds a map: it is sealed or in flight. -/
def Slot.holds (s : Slot) : Bool := decide (s.st = .sealed) || decide (s.st = .inFlight)

/-- Whether a channel is drained (R107, R130): no slot of its ring holds a map, sealed or only built (R145). -/
def Device.drained (d : Device) (c : Nat) : Bool :=
  (d.ringSlots c).all (fun s => !Slot.holds s) && (Tbl.get? d.fret.plans c).isNone

/-- Whether all four channels of a tree are drained. -/
def Device.treeDrained (d : Device) (t : Nat) : Bool := (List.range 4).all (fun w => d.drained (4 * t + w))

/-- The items of a slot without a record. -/
def Slot.open_ (s : Slot) : List Item := s.items.filter (fun i => decide (i.done = none))

/-- The items outstanding on the Fretboard: those of maps in flight without a record (R141, R174). A standby shows
0 (R176). -/
def Device.outstanding (d : Device) : Nat :=
  if d.rd MRU.ROLE = 2 then 0
  else (d.fret.slots.map (fun p => if p.2.st = .inFlight then (Slot.open_ p.2).length else 0)).sum

/-! ### Terminals, courses and homes (R109) -/

/-- The terminal at an index. -/
def Device.term? (d : Device) (x : Nat) : Option Term := Tbl.get? d.rng.terms x

/-- Write a terminal. -/
def Device.setTerm (x : Nat) (t : Term) (d : Device) : Device :=
  { d with rng := { d.rng with terms := Tbl.set d.rng.terms x t } }

/-- The course entry of a terminal index (R128). -/
def Device.course (d : Device) (x : Nat) : Course := Tbl.getD d.trees.courses x {}

/-- Write a course entry. -/
def Device.setCourse (x : Nat) (c : Course) (d : Device) : Device :=
  { d with trees := { d.trees with courses := Tbl.put {} d.trees.courses x c } }

/-- The home channel of a terminal (R109). -/
def Device.home (d : Device) (x : Nat) : Option Nat :=
  let c := d.course x
  if c.valid then some (4 * termTree x + c.home)
  else match d.term? x with
    | some t => if t.homeSet then some (4 * termTree x + t.homeWc) else none
    | none => none

/-- Whether a terminal is served as a course terminal (R119, R125: COURSE_EN 0 treats every EXT as 0). -/
def Device.courseExt (d : Device) (x : Nat) : Bool :=
  let c := d.course x
  c.valid && c.ext && d.on (TPE.COURSE_EN (termTree x))

/-- The member channels of a terminal's course, or its home channel alone. -/
def Device.members (d : Device) (x : Nat) : List Nat :=
  let c := d.course x
  if c.valid then ((List.range 4).filter (fun w => bit c.members w)).map (fun w => 4 * termTree x + w)
  else match d.home x with
    | some h => [h]
    | none => []

/-- The handle of a terminal index, 0 where there is none. -/
def Device.termHandle (d : Device) (x : Nat) : Nat :=
  match d.term? x with
  | some t => t.handle
  | none => 0

/-! ### The violation log (R216 to R221) -/

/-- Whether this device detects PON partner violations (R656). -/
def Device.detects (d : Device) : Bool := d.capo

/-- The burst receiver of a channel. -/
def Device.brx (d : Device) (c : Nat) : Brx := Tbl.getD d.bursts.brx c {}

/-- Change the burst receiver of a channel. -/
def Device.setBrx (c : Nat) (x : Brx) (d : Device) : Device :=
  { d with bursts := { d.bursts with brx := Tbl.put {} d.bursts.brx c x } }

/-- The ring index behind a modular counter pair: how many entries are unconsumed. -/
def unread (produced consumed modulus : Nat) : Nat := (produced + modulus - consumed) % modulus

/-- The number of unconsumed violation log entries. -/
def Device.vlogCount (d : Device) : Nat := unread (d.rd DEV.VLOG_PRODUCED) (d.rd DEV.VLOG_CONSUMED) 8192

/-- The unconsumed entry numbers of a ring of `size` entries whose counters run modulo `2 x size`. -/
def unreadIdx (produced consumed size : Nat) : List Nat :=
  (List.range (unread produced consumed (2 * size))).map (fun i => (consumed + i) % size)

/-- Write one violation: merged into an unreleased entry of the same violation and frame, written as a new entry, or
counted as overflow (R220, R221). `era` is the tree frame, or for a network port the device frame. -/
def Device.logEntry (code source port kind answer era : Nat) (d : Device) : Device :=
  let live := unreadIdx (d.rd DEV.VLOG_PRODUCED) (d.rd DEV.VLOG_CONSUMED) 4096
  let same := live.find? (fun i =>
    match Tbl.get? d.bursts.vlog i with
    | some e => decide (e.code = code ∧ e.source = source ∧ e.kind = kind ∧ e.port = port ∧ e.answer = answer ∧ e.era = era)
    | none => false)
  match same with
  | some i =>
    let log := Tbl.modify d.bursts.vlog i (fun e => { e with repeats := min 4095 (e.repeats + 1) })
    { d with bursts := { d.bursts with vlog := log } }
  | none =>
    if d.vlogCount = 4096 then d.count 0x000 0x820 1
    else
      let s := d.rd DEV.VLOG_PRODUCED
      let e : VEntry := { frame := d.frame % 2 ^ 32, offset := d.now % 125000, code := code, source := source,
                          port := port, kind := kind, answer := answer, era := era }
      let d := { d with bursts := { d.bursts with vlog := Tbl.set d.bursts.vlog (s % 4096) e } }
      (d.wr DEV.VLOG_PRODUCED (s + 1)).count 0x000 0x818 1

/-- Log a violation on PON channel `c`. -/
def Device.logPon (c code source answer : Nat) (d : Device) : Device :=
  d.logEntry code source c 0 answer (d.treeFrame (treeOf c) d.now)

/-- Log a violation of network port `p` (answer 0). -/
def Device.logNet (p code : Nat) (d : Device) : Device := d.logEntry code 0 p 1 0 d.frame

/-- Raise a defect condition of a terminal (R260): count the raising where it was clear. -/
def Device.raiseDefect (x b : Nat) (d : Device) : Device :=
  match d.term? x with
  | none => d
  | some t =>
    if bit t.defects b then d
    else (d.setTerm x { t with defects := t.defects ||| 2 ^ b }).count 0x1B6 0x870 1

/-- Clear a defect condition of a terminal. -/
def Device.clearDefect (x b : Nat) (d : Device) : Device :=
  match d.term? x with
  | none => d
  | some t => if bit t.defects b then d.setTerm x { t with defects := t.defects - 2 ^ b } else d

/-- Change a terminal's state, with DISi following DISABLED (R260). -/
def Device.setState (x st : Nat) (d : Device) : Device :=
  match d.term? x with
  | none => d
  | some t =>
    let d := d.setTerm x { t with state := st }
    if st = 4 then d.raiseDefect x 5 else d.clearDefect x 5

/-- The channel on which a terminal hears PLOAM and a plain terminal its frames: its home channel (R109), or WC0 of its tree before it has one
(DESIGN CHOICE, log entry 82). -/
def Device.ploamChan (d : Device) (x : Nat) : Nat := (d.home x).getD (4 * termTree x)

/-- Send a terminal to DISABLED (R241): the message goes out, ranging stops. -/
def Device.disableTerm (x : Nat) (d : Device) : Device :=
  match d.term? x with
  | none => d
  | some t =>
    if t.state = 0 ∨ t.state = 5 then d
    else
      let d := d.ploam (d.ploamChan x) (.disableSerial x)
      let d := { d with rng := { d.rng with wants := d.rng.wants.filter (fun r => r.term ≠ x) } }
      d.setState x 4

/-- Return a DISABLED terminal to AWAITING_SN (R241). -/
def Device.enableTerm (x : Nat) (d : Device) : Device :=
  match d.term? x with
  | none => d
  | some t =>
    if t.state = 4 then (d.ploam (d.ploamChan x) (.enableSerial x)).setState x 1 else d

/-- The charge block of a tree frame (R217). -/
def chargeBlock (k : Nat) : Nat := k / 8000

/-- Charge an escalating violation to a terminal on a channel, and disable it at the limit (R217). -/
def Device.charge (c x : Nat) (code : Nat) (d : Device) : Device :=
  let k := 512 * c + x % 512
  let blk := chargeBlock (d.treeFrame (treeOf c) d.now)
  let old := Tbl.getD d.bursts.charges k (blk, 0)
  let n := if old.1 = blk then old.2 + 1 else 1
  let d := { d with bursts := { d.bursts with charges := Tbl.set d.bursts.charges k (blk, n) } }
  let lim := d.rdA (CH.VIOL_DISABLE_LIMIT c)
  if lim ≠ 0 ∧ n = lim then (d.disableTerm x).logPon c code (d.termHandle x) 2 else d

/-- Count, log and charge an escalating violation of a known terminal, where the device detects violations. -/
def Device.violation (c x code ctr : Nat) (answer : Nat) (d : Device) : Device :=
  if d.detects then
    ((d.count (chanPage c) ctr 1).logPon c code (d.termHandle x) answer).charge c x code
  else d

/-! ### The pages (R57) -/

/-- Kind, windows, staged words, block counters and boundary kind of a page (R57, R653). -/
structure PageInfo where
  kind : Nat
  instance_ : Nat
  windows : Nat
  staged : Nat
  counters : Nat
  boundary : Nat
  deriving DecidableEq, Repr

/-- The pages of R57 with their PAGE_CAP. The control cluster's pages give none: they hold nothing but the frame. -/
def pageInfo (p : Nat) : PageInfo :=
  if p = 0x000 then ⟨0x00, 0, 1, 0, 3, 1⟩
  else if p = 0x001 then ⟨0x01, 0, 1, 0, 44, 1⟩
  else if p = 0x002 then ⟨0x02, 0, 4, 0, 6, 1⟩
  else if p = 0x003 then ⟨0x03, 0, 3, 5, 12, 1⟩
  else if p = 0x004 then ⟨0x04, 0, 3, 0, 12, 1⟩
  else if p = 0x005 then ⟨0x05, 0, 1, 1, 22, 6⟩
  else if p = 0x006 then ⟨0x06, 0, 2, 5, 9, 1⟩
  else if p = 0x007 then ⟨0x07, 0, 1, 64, 67, 1⟩
  else if p < 0x010 then ⟨0x08, p - 0x008, 0, 0, 0, 1⟩
  else if p < 0x034 then ⟨0x10, p - 0x010, 0, 0, 6, 1⟩
  else if p < 0x080 then ⟨0x40, p - 0x040, 1, 1, 7, 2⟩
  else if p < 0x180 then ⟨0x80, p - 0x080, 2, 70, 56, 2⟩
  else if p < 0x190 then ⟨0x18, p - 0x180, 0, 3, 99, 1⟩
  else if p = 0x190 then ⟨0x19, 0, 3, 0, 13, 3⟩
  else if p < 0x1B0 then ⟨0x1A, p - 0x1A0, 0, 0, 7, 1⟩
  else if p = 0x1B0 then ⟨0x20, 0, 4, 0, 16, 1⟩
  else if p = 0x1B1 then ⟨0x21, 0, 1, 0, 12, 1⟩
  else if p = 0x1B2 then ⟨0x22, 0, 4, 3, 12, 5⟩
  else if p = 0x1B3 then ⟨0x23, 0, 4, 120, 16, 4⟩
  else if p = 0x1B4 then ⟨0x24, 0, 1, 16, 20, 4⟩
  else if p = 0x1B5 then ⟨0x25, 0, 4, 3, 14, 1⟩
  else ⟨0x26, 0, 2, 4, 13, 1⟩

end Sys2Proof.Machine
end

