-- ==== Sys2Proof/Machine/Trees.lean ====
section
/-!
DEFINITION. Tree ports, courses and channel framers (chapter 03): the framer's assembly and its frame boundary,
course placement and reordering, and the optics sideband.
-/

namespace Sys2Proof.Machine

/-! ### Masters and writes -/

/-- Whether a master may write a field of this restriction (R86). -/
def mayWrite (m : Master) (k : Key) : Bool :=
  match m, k with
  | .keeper, _ => true
  | .pf1, _ => false
  | _, .k2 => false
  | _, _ => true

/-- A register write by a master to fields of restriction `k` on page `p`: done, or refused whole and counted
(R87; for PF1, R65). -/
def Device.asMaster (m : Master) (k : Key) (p : Nat) (f : Device → Device) (d : Device) : Device :=
  if mayWrite m k then f d else d.refuse p

/-- A write of an H field of restriction `k` on page `p` alone: lost and counted where hardware updates the field in the same handshake window (R80). -/
def Device.colliding (m : Master) (k : Key) (p : Nat) (hw : Bool) (f : Device → Device) (d : Device) : Device :=
  d.asMaster m k p (fun d => if hw then d.writeLost p 1 else f d)

/-! ### The downstream frame of a channel (R97 to R103) -/

/-- The bytes of an XGEM frame with `n` payload bytes: an 8-byte header and whole words (R101). -/
def xgemBytes (n : Nat) : Nat := 8 + 4 * ceilDiv n 4

/-- The bytes a frame has for XGEM frames (R103): its payload after its map of `items` structures and `ploams` messages of 48 bytes (R100). -/
def xgemSpace (items ploams : Nat) : Nat := min 777600 Config.framePayload - Config.mapBytes items - 48 * ploams

/-- Take the offered frames in order while the next fits whole (R97). The framer never fragments: a frame that does not fit waits at the head
(DESIGN CHOICE, log entry 82; R101 lets it fragment a plain terminal's). -/
def DsFrame.take (f : DsFrame) : List DsXgem → DsFrame × List DsXgem
  | [] => (f, [])
  | x :: xs =>
    if f.fill + xgemBytes x.bytes.length ≤ f.space then
      DsFrame.take { f with fill := f.fill + xgemBytes x.bytes.length, xgems := f.xgems ++ [x] } xs
    else (f, x :: xs)

/-- The map of tree frame `k` that channel `c` has sealed: its structures (R99, R140). -/
def Device.sealedItems (d : Device) (c k : Nat) : Option (List Item) :=
  let s := d.slot c k
  if s.st = .sealed ∧ s.frame = k then some s.items else none

/-- FRAME_ASSEMBLY (R97, R99, R100): the framer of channel `c` assembles tree frame `k`. `crossed` tells whether the sealed map reached its
buffer in time. -/
def frameAssembly (_t c k : Nat) (crossed : Bool) (d : Device) : Device :=
  let x := d.cfr c
  let n := min (d.rdA (CH.PLOAM_PER_FRAME c)) x.ploamQ.length
  let map := d.sealedItems c k
  let items := if crossed then (map.getD []).length else 0
  let (f, rest) := DsFrame.take { frame := k, missed := map.isSome && !crossed, space := xgemSpace items n } x.offered
  d.setCfr c { x with copied := n, asm := some f, offered := rest }

/-- The frame a channel sends at tree frame `k`: the one assembled, with what was offered since, or one with an empty map, which is a missed map
where one was sealed (R99, R647). -/
def Cfr.frameFor (x : Cfr) (k : Nat) (sealed_ : Bool) : DsFrame × List DsXgem :=
  let empty : DsFrame := { frame := k, missed := sealed_, space := xgemSpace 0 0 }
  DsFrame.take (match x.asm with
    | some f => if f.frame = k then f else empty
    | none => empty) x.offered

/-- The idle XGEM frames that fill what a frame leaves (R97, R103): at least one where space is left, of 8 bytes at least each; how many is open
(log entry 82). -/
def DsFrame.idles (f : DsFrame) (free : Nat) : Nat := if f.space ≤ f.fill then 0 else 1 + free % max 1 ((f.space - f.fill) / 8)

/-- The lane of channel `c` at the start of tree frame `k`: it sends a whole frame, or it is in electrical idle
(R97, R100, R105, R106). The idle of a PLL exchange makes a sealed map a missed map where the lane would have sent it (R600; log entry 82). -/
def Device.sendFrame (c k : Nat) (d : Device) : Device :=
  let x := d.cfr c
  let sends := d.laneMaySend c && !d.pastFence (treeOf c) k && !d.spm.dead.contains (16 + c / 16)
  let sealed_ := (d.sealedItems c k).isSome
  if x.skipNext then
    let d := d.setCfr c { x with copied := 0, asm := none, sending := false, skipNext := false }
    d.countIf (sends && sealed_) (chanPage c) 0x838
  else if sends then
    let (f, rest) := Cfr.frameFor x k sealed_
    let p := chanPage c
    let sent := x.ploamQ.take x.copied
    let items := if f.missed then 0 else ((d.sealedItems c k).getD []).length
    let b := d.brx c
    let d := d.setBrx c { b with profileFrom := if x.sending then b.profileFrom else some k, enableLater := [] }
    let d := forEach b.enableLater Device.enableTerm d
    let x := d.cfr c
    let x' := Cfr.pump { x with
      ploamQ := x.ploamQ.drop x.copied, copied := 0, asm := none, offered := rest, sending := true, fenceIdle := false }
    let d := d.setCfr c x'
    let (v, d) := d.draw
    let d := ((((d.count p 0x810 1).count p 0x818 f.xgems.length).count p 0x820 (DsFrame.idles f v)).count p 0x828 sent.length).count p 0x840 f.space
    let d := (d.countIf f.missed p 0x838).wr (CH.LAST_XGEM_BYTES c) f.space
    d.emit (.dsFrame c k items f.missed sent f.xgems)
  else
    d.setCfr c { x with copied := 0, asm := none, sending := false, fenceIdle := d.laneEnabled c && (d.fenced || d.pastFence (treeOf c) k) }

/-- The sealed map of tree frame `k` leaves (R141, R142): its slot goes in flight, or straight to CLOSED if it has no
items. A standby counts nothing (R176). -/
def Device.departMap (c k : Nat) (d : Device) : Device :=
  let s := d.slot c k
  if s.st = .sealed ∧ s.frame = k then
    let st : SlotSt := if s.items = [] then .closed else .inFlight
    let d := d.setSlot c k { s with st := st }
    if d.rd MRU.ROLE = 2 then d else d.count 0x1B5 0x810 s.items.length
  else d

/-- The framers of a tree at the start of its tree frame `k` (R94, R97, R106, R141). -/
def framerBoundary (tree k : Nat) (d : Device) : Device :=
  forEach (List.range 4) (fun w d => (d.sendFrame (4 * tree + w) k).departMap (4 * tree + w) k) d

/-! ### Courses (R109 to R120) -/

/-- The member with the lowest fill that has room, the lowest channel on a tie (R112). -/
def pickMember (d : Device) (n : Nat) (cs : List Nat) : Option Nat :=
  cs.foldl (fun best c =>
    match (d.cfr c).asm with
    | some f =>
      if f.fill + n ≤ f.space then
        match best with
        | some b =>
          match (d.cfr b).asm with
          | some g => if f.fill < g.fill then some c else best
          | none => some c
        | none => some c
      else best
    | none => best) none

/-- The frames of a course that wait for the distributor. -/
def Device.courseQ (d : Device) (x : Nat) : List DsXgem := Tbl.getD d.trees.courseQ x []

/-- Change them. -/
def Device.setCourseQ (x : Nat) (q : List DsXgem) (d : Device) : Device :=
  { d with trees := { d.trees with courseQ := Tbl.put [] d.trees.courseQ x q } }

/-- The Options field of the terminal's next frame (R101, R110, R111): the sequence extension with the number that frame will have, or 0. -/
def Device.nextOptions (d : Device) (x : Nat) : Nat :=
  if d.courseExt x then 2 ^ 17 + ((d.course x).dsNext + (d.courseQ x).length) % 65536 else 0

/-- Offer a downstream frame to the framer of channel `c`. -/
def Device.offerOn (c : Nat) (f : DsXgem) (d : Device) : Device := d.setCfr c { d.cfr c with offered := (d.cfr c).offered ++ [f] }

/-- The CPE hands a downstream frame on (R102, R112): to the distributor where its terminal has a course, else to the framer of its home channel. -/
def Device.offer (f : DsXgem) (d : Device) : Device :=
  let d := d.emit (.xgemDown f)
  if d.courseExt f.term then d.setCourseQ f.term (d.courseQ f.term ++ [f]) else d.offerOn (d.ploamChan f.term) f

/-- COURSE_XGEM_PLACE (R111, R112): the distributor places the first waiting frame of terminal `x`, or it waits for the next tree frame. A frame that
waits when its course goes out of force goes to the plain channel (log entry 82). -/
def courseXgemPlace (_t x : Nat) (d : Device) : Device :=
  match d.courseQ x with
  | [] => d
  | f :: rest =>
    let n := xgemBytes f.bytes.length
    if d.courseExt x then
      match pickMember d n (d.members x) with
      | some c =>
        let y := d.cfr c
        let e := d.course x
        let d := d.setCfr c { y with asm := y.asm.map (fun a => { a with fill := a.fill + n, xgems := a.xgems ++ [f] }) }
        ((d.setCourse x { e with dsNext := (e.dsNext + 1) % 65536 }).setCourseQ x rest).count (treePage (termTree x)) 0x810 1
      | none => d
    else
      let c := d.ploamChan x
      (d.offerOn c f).setCourseQ x rest

/-- What the receive group holds for a terminal. -/
def Device.reorder (d : Device) (x : Nat) : Reorder := Tbl.getD d.trees.reorder x {}

/-- Change it. -/
def Device.setReorder (x : Nat) (r : Reorder) (d : Device) : Device :=
  { d with trees := { d.trees with reorder := Tbl.put {} d.trees.reorder x r } }

/-- The distance of a sequence number ahead of the expected one (R113). -/
def seqAhead (seq expected : Nat) : Nat := (seq + 65536 - expected) % 65536

/-- The bytes held for a terminal. -/
def Reorder.bytes (r : Reorder) : Nat := (r.held.map (·.bytes)).sum

/-- The bytes held by receive group `g` (R115). -/
def Device.groupHeld (d : Device) (g : Nat) : Nat :=
  ((d.trees.reorder.filter (fun p => termTree p.1 / 4 = g)).map (fun p => Reorder.bytes p.2)).sum

/-- Pass on every held frame whose turn it is (R113), at most `fuel` of them. Frames held under one number pass together (DEDUCED, log entry 83). -/
def passHeld : Nat → Nat → List HeldXgem → Nat × List HeldXgem × List Nat
  | 0, e, h => (e, h, [])
  | n + 1, e, h =>
    match h.filter (fun f => f.seq = e) with
    | [] => (e, h, [])
    | now =>
      let (e', h', ps) := passHeld n ((e + 1) % 65536) (h.filter (fun g => g.seq ≠ e))
      (e', h', now.map (·.seq) ++ ps)

/-- The gap timeout of a tree, in ns. -/
def Device.gapTimeout (d : Device) (x : Nat) : Nat := d.rdA (TPE.TIMEOUT_US (termTree x)) * 1000

/-- The gap deadline that the held frames set: the stamp of the oldest plus the timeout (R113). -/
def Device.gapOf (d : Device) (x : Nat) (h : List HeldXgem) : Option Nat :=
  match h with
  | [] => none
  | f :: r => some ((r.foldl (fun a g => min a g.stamp) f.stamp) + d.gapTimeout x)

/-- Set the expected number to `e` and pass on what follows it (R113). -/
def Device.passFrom (x e : Nat) (h : List HeldXgem) (d : Device) : Device :=
  let (e', h', ps) := passHeld h.length e h
  let c := d.course x
  let r := d.reorder x
  let d := (d.setCourse x { c with usExpected := e' }).setReorder x { r with held := h', gap := d.gapOf x h' }
  forEach ps (fun s d => d.emit (.xgemUp x s)) d

/-- Skip the gap before a terminal's lowest held frame (R113, R116). `at_` is the instant up to which a missing frame
still counts as in time (R114). -/
def Device.skipGap (x at_ : Nat) (d : Device) : Device :=
  let r := d.reorder x
  let e := (d.course x).usExpected
  match r.held with
  | [] => d
  | f :: fs =>
    let low := fs.foldl (fun a g => if seqAhead g.seq e < seqAhead a e then g.seq else a) f.seq
    let n := seqAhead low e
    let d := d.count (treePage (termTree x)) 0x818 n
    let kept := r.skips.filter (fun k => decide (seqAhead e k.1 < 32768))
    let d := d.setReorder x { r with skips := if at_ = 0 then kept else kept ++ [(e, n, at_)] }
    d.passFrom x low r.held

/-- Skip every gap of a terminal whose deadline lies before instant `s` (R37, R113): at most `fuel` of them. -/
def Device.skipDue (x s : Nat) : Nat → Device → Device
  | 0, d => d
  | n + 1, d =>
    match (d.reorder x).gap with
    | some g => if g < s then Device.skipDue x s n (d.skipGap x g) else d
    | none => d

/-- Whether a skipped gap lacks the frame of this number, stamped `s` by its deadline (R114). -/
def inTimeFor (seq s : Nat) (k : Nat × Nat × Nat) : Bool := decide (seqAhead seq k.1 < k.2.1 ∧ s ≤ k.2.2)

/-- Whether a frame of this number stamped `s` was in time for the gap it was missing from (R114). -/
def Reorder.inTime (r : Reorder) (seq s : Nat) : Bool := r.skips.any (inTimeFor seq s)

/-- The skipped gaps once that frame has come: its number is missing no more. -/
def Reorder.fill (r : Reorder) (seq s : Nat) : Reorder :=
  { r with skips := r.skips.flatMap (fun k =>
      let o := seqAhead seq k.1
      if inTimeFor seq s k then [(k.1, o, k.2.2), ((seq + 1) % 65536, k.2.1 - o - 1, k.2.2)].filter (fun g => decide (g.2.1 ≠ 0)) else [k]) }

/-- Skip gaps of one terminal while it holds more than `lim` bytes (R116). -/
def Device.limitTerm (lim x : Nat) : Nat → Device → Device
  | 0, d => d
  | n + 1, d =>
    if lim < Reorder.bytes (d.reorder x) then
      Device.limitTerm lim x n ((d.skipGap x 0).count (treePage (termTree x)) 0x830 1)
    else d

/-- The terminal of group `g` that holds the most bytes, the lowest index among equals (DESIGN CHOICE, log entry 83). -/
def Device.largestHolder (d : Device) (g : Nat) : Option Nat :=
  (d.trees.reorder.filter (fun p => termTree p.1 / 4 = g)).foldl (fun best p =>
    match best with
    | some b => if Reorder.bytes (d.reorder b) < Reorder.bytes p.2 then some p.1 else best
    | none => some p.1) none

/-- Skip gaps of the largest holders of group `g` while its store cannot take `n` more bytes (R116). -/
def Device.limitGroup (g n : Nat) : Nat → Device → Device
  | 0, d => d
  | k + 1, d =>
    if 4 * 2 ^ 20 < d.groupHeld g + n then
      match d.largestHolder g with
      | some x => Device.limitGroup g n k ((d.skipGap x 0).count (treePage (termTree x)) 0x830 1)
      | none => d
    else d

/-- An in-sequence decision for one frame of a course terminal stamped `s` (R113, R114, R116). A frame whose own terminal is skipped past it to make
room passes on at once (DEDUCED, log entry 83). -/
def Device.reorderSeq (s c x seq n : Nat) (d : Device) : Device :=
  let page := treePage (termTree x)
  let d := d.skipDue x s (d.reorder x).held.length
  let r := d.reorder x
  let e := (d.course x).usExpected
  let a := seqAhead seq e
  if 32768 ≤ a then
    if Reorder.inTime r seq s then (d.setReorder x (Reorder.fill r seq s)).emit (.xgemUp x seq)
    else d.count page 0x820 1
  else if 4096 ≤ a then
    if d.detects then (d.count page 0x828 1).logPon c 0x0A (d.termHandle x) 0 else d
  else if a = 0 then
    (d.emit (.xgemUp x seq)).passFrom x ((e + 1) % 65536) r.held
  else
    let d := d.limitGroup (termTree x / 4) n (d.trees.reorder.map (fun p => p.2.held.length)).sum
    let r := d.reorder x
    let e := (d.course x).usExpected
    if 32768 ≤ seqAhead seq e then d.emit (.xgemUp x seq)
    else if seqAhead seq e = 0 then (d.emit (.xgemUp x seq)).passFrom x ((e + 1) % 65536) r.held
    else
      let h := r.held ++ [{ seq := seq, stamp := s, bytes := n }]
      let gap := match r.gap with
        | some g => some g
        | none => some (s + d.gapTimeout x)
      let d := d.setReorder x { r with held := h, gap := gap }
      d.limitTerm (d.rdA (TPE.TERM_LIMIT (termTree x)) * 4096) x h.length

/-- Whether upstream frames of terminal `x` on channel `c` are its course's: a member, or a channel with a map sealed while it was one (R120). -/
def Device.onCourse (d : Device) (x c : Nat) : Bool :=
  (d.members x).contains c || (d.ringSlots c).any (fun s => s.items.any (fun i => decide (i.kind = .grant ∧ i.term = x)))

/-- REORDER_ARRIVAL (R113 to R118): an upstream XGEM frame of terminal `x` arrives on channel `c` with the given
Options field and `n` bytes, its burst stamped `s`. A frame on a channel that is no member went no further than its burst (R204). -/
def reorderArrival (t c x options s n : Nat) (d : Device) : Device :=
  let ext := bit options 17
  if d.courseExt x then
    if !d.onCourse x c then d
    else if ext then d.reorderSeq (min s t) c x (bits options 0 16) n
    else if d.detects then (d.count (treePage (termTree x)) 0x828 1).logPon c 0x0C (d.termHandle x) 0
    else d
  else
    let d := d.emit (.xgemUp x (bits options 0 16))
    if ext && d.detects then (d.count (treePage (termTree x)) 0x838 1).logPon c 0x0B (d.termHandle x) 0 else d

/-- REORDER_GAP_DEADLINE (R113): device time has passed the terminal's gap deadline. -/
def reorderGapDeadline (t x : Nat) (d : Device) : Device :=
  d.skipDue x t (d.reorder x).held.length

/-- Clear a terminal's course sequences and discard its held frames, counting them as skipped (R120). -/
def Device.clearCourse (x : Nat) (d : Device) : Device :=
  let n := (d.reorder x).held.length
  let e := d.course x
  ((d.setCourse x { e with dsNext := 0, usExpected := 0 }).setReorder x {}).count (treePage (termTree x)) 0x818 n

/-! ### The optics sideband (R124) -/

/-- I2C_GO (R124): a write of I2C_GO on transmit group `g`'s bus by master `m`. -/
def i2cGo (_t : Nat) (m : Master) (g : Nat) (v : Bool) (d : Device) : Device :=
  let tr := 4 * g
  let p := treePage tr
  d.asMaster m .k1 p (fun d =>
    if d.on (TPE.I2C_BUSY tr) then d.lockedWrite p
    else if v then
      ((d.wr (TPE.I2C_GO tr) 1).wr (TPE.I2C_BUSY tr) 1).emit
        (.i2c g (d.on (TPE.I2C_READ tr)) (d.rd (TPE.I2C_ADDR tr)) (d.rd (TPE.I2C_REG tr)) (d.rd (TPE.I2C_WDATA tr)))
    else d.wr (TPE.I2C_GO tr) 0)

/-- I2C_TRANSACTION_END (R124): the transaction of group `g` ends with `data`, or with a NACK. `clash` tells that a
write of I2C_GO fell in the same handshake window. -/
def i2cTransactionEnd (_t g : Nat) (nack : Bool) (data : Nat) (clash : Bool) (d : Device) : Device :=
  let tr := 4 * g
  let p := treePage tr
  if d.on (TPE.I2C_BUSY tr) then
    let d := ((d.wr (TPE.I2C_GO tr) 0).wr (TPE.I2C_BUSY tr) 0).wr (TPE.I2C_NACK tr) (b2n nack)
    let d := d.countIf nack p 0x840
    let d := d.wrIf (!nack && d.on (TPE.I2C_READ tr)) (TPE.I2C_RDATA tr) data
    if clash then d.writeLost p 1 else d
  else d

end Sys2Proof.Machine
end

