-- ==== Sys2Proof/Machine/Fretboard.lean ====
section
/-!
DEFINITION. The Fretboard (chapter 04): the geometry of an upstream frame, the building and sealing of maps, the
windows kept dark, the work ledger and the decision of completion records.
-/

namespace Sys2Proof.Machine

/-! ### The geometry of an upstream frame (R135 to R137, R157) -/

/-- Words in an upstream frame at a rate code (R135). -/
def wordsPerFrame (rate : Nat) : Nat := 194400 / 2 ^ rate

/-- The words before the tail reserve (R136). -/
def usableWords (rate : Nat) : Nat := 121000 * wordsPerFrame rate / 125000

/-- The line length of a grant of `n` data words (R157). -/
def lineLen (n : Nat) : Nat := n + 84 * ceilDiv n 456

/-- The largest grant whose line length is at most `l` words. -/
def maxData (l : Nat) : Nat := 456 * (l / 540) + (l % 540 - 84)

/-- The horizon of a tree whose upstream delay is `u` ns (R137). -/
def horizonOf (u : Nat) : Nat := (u + 123000) / 125000 + 1

/-- Words that cover `ns` nanoseconds, rounded up. -/
def nsToWordsUp (rate ns : Nat) : Nat := ceilDiv (ns * wordsPerFrame rate) 125000

/-- Whole words in `ns` nanoseconds. -/
def nsToWords (rate ns : Nat) : Nat := ns * wordsPerFrame rate / 125000

/-- Nanoseconds that cover `w` words, rounded up. -/
def wordsToNsUp (rate w : Nat) : Nat := ceilDiv (w * 125000) (wordsPerFrame rate)

/-- Whole nanoseconds in `w` words. -/
def wordsToNs (rate w : Nat) : Nat := w * 125000 / wordsPerFrame rate

/-- The common feeder offset in force on a tree: the frozen C while APPLIED is 1 (R254). -/
def Device.feeder (d : Device) (t : Nat) : Int :=
  if d.on (RGU.APPLIED t) then Tbl.getD d.rng.frozen t 0 else 0

/-- The upstream frame delay GEN uses for the maps it builds (R134, R254). -/
def Device.upfDelay (d : Device) (t : Nat) : Nat :=
  (clampInt 40000 625000 ((d.rd (GEN.UPF_DELAY_NS t) : Int) + d.feeder t)).toNat

/-- The channel timing entry (R188). -/
def Device.timing (d : Device) (c : Nat) : Timing := Tbl.getD d.fret.timing c {}

/-- Guard, preamble and delimiter words of a burst of the given profile (R157). -/
def Timing.ovh (x : Timing) (profile : Nat) : Nat :=
  x.guard + (if profile = 0 then x.short else x.long) + x.delim

/-! ### Pegs (R209, R210) -/

/-- The temperature of channel `c`'s receive group: the latest reading (R209, R269). -/
def Device.pegTemp (d : Device) (c : Nat) : Int := d.pow.temps.getD (48 + c / 16) 0

/-- The peg entry of terminal index `n` of the tree on channel `c`. -/
def Device.peg (d : Device) (c n : Nat) : Peg := Tbl.getD d.bursts.pegs (512 * c + n) {}

/-- The counter offset of the first reason a peg is stale, or none if it is valid (R210). -/
def Device.pegStale (d : Device) (c n : Nat) : Option Nat :=
  let p := d.peg c n
  if !p.captured || p.forceStale then some 0x940
  else if d.rdA (CH.PEG_MAX_AGE_FRAMES c) < (d.frame + 2 ^ 32 - p.frame) % 2 ^ 32 then some 0x948
  else if d.rdA (CH.PEG_MAX_DRIFT c) < (d.pegTemp c - p.temp).natAbs then some 0x950
  else if d.rdA (CH.PEG_MAX_RESIDUAL c) < p.residual then some 0x958
  else none

/-! ### Allocations and the fixed load (R148, R162) -/

/-- Whether a terminal's LOBi defect reads 1: raised and not suppressed (R260, R261). -/
def Device.lobi (d : Device) (x : Nat) : Bool :=
  match d.term? x with
  | some t =>
    bit t.defects 0 && decide (t.state = 3) && !bit t.defects 1 && d.capo
      && !(match d.home x with | some h => d.on (CH.LOS h) | none => false)
  | none => false

/-- The fixed allocations counted on channel `c`: those of terminals whose home it is, or that have none (R162). -/
def Device.fixedOn (d : Device) (c : Nat) : List (Nat × Alloc) :=
  d.fret.allocs.filter (fun p => p.2.cls = 0 && termTree p.2.term = treeOf c && ((d.home p.2.term).getD c = c))

/-- The fixed load of a channel in words, its fixed allocations and the terminals that hold them (R162). -/
def Device.fixedLoad (d : Device) (c : Nat) : Nat × Nat × Nat :=
  let fs := d.fixedOn c
  let ts := (fs.map (fun p => p.2.term)).eraseDups
  ((fs.map (fun p => lineLen p.2.rate)).sum + ts.length * Timing.ovh (d.timing c) 1, fs.length, ts.length)

/-- Whether a channel keeps the three limits of R162, whose words are those of US_RATE 0 at every rate (log entry 85). -/
def Device.fixedOk (d : Device) (c : Nat) : Bool :=
  let (l, n, t) := d.fixedLoad c
  decide (l ≤ 188179) && decide (n ≤ 512) && decide (t ≤ 256)

/-- Whether every channel of a tree keeps the limits of R162, with no fixed grant below 16 words. -/
def Device.treeFixedOk (d : Device) (t : Nat) : Bool :=
  (List.range 4).all (fun w => d.fixedOk (4 * t + w))
    && d.fret.allocs.all (fun p => p.2.cls ≠ 0 || termTree p.2.term ≠ t || 16 ≤ p.2.rate)

/-- An allocation as a build that starts at `t` sees it: without a window write that completed at `t` or after (R178). -/
def Alloc.seenAt (t : Nat) (a : Alloc) : Alloc :=
  match a.was with
  | some (w, o) =>
    if t ≤ w then { a with cls := o.cls, reportEvery := o.reportEvery, rate := o.rate, weight := o.weight, reportMax := o.reportMax } else a
  | none => a

/-- Credits grow at a build start of the home channel (R148). -/
def Device.growCredits (c : Nat) (d : Device) : Device :=
  let al := d.fret.allocs.map (fun p =>
    let r := (Alloc.seenAt d.now p.2).rate
    if p.2.cls = 1 ∧ d.home p.2.term = some c then (p.1, { p.2 with credit := min (8 * r) (p.2.credit + r) }) else p)
  { d with fret := { d.fret with allocs := al } }

/-! ### Windows kept dark (R243, R244, R247, R223) -/

/-- The start in device time of the upstream frame of tree frame `k` of tree `t` under the present delay (R134). -/
def Device.upfStart (d : Device) (t k : Nat) : Nat := d.treeFrameStart t k + d.upfDelay t

/-- The long-profile overhead O of a channel (R243). -/
def Device.longOver (d : Device) (c : Nat) : Nat := Timing.ovh (d.timing c) 1

/-- The dark span of the discovery window of map `k` on channel `c` (R243). -/
def Device.discSpan (d : Device) (c k : Nat) : Nat × Nat :=
  let t := treeOf c
  let tol := d.rdA GEN.ARRIVAL_TOL_NS
  let base := d.treeFrameStart t k
  let o := d.rd (RGU.REACH_MIN_KM t) * 9800 + 34000 - tol
  let w := wordsToNsUp (d.rd (CH.US_RATE c)) (d.longOver c + 100)
  (base + o, base + d.rd (RGU.REACH_MAX_KM t) * 9800 + 36000 + d.rdA RGU.RAND_SPAN_US * 1000 + w + tol)

/-- How many upstream frames before its own a discovery window opens (R244). -/
def Device.discLead (d : Device) (c : Nat) : Nat :=
  let t := treeOf c
  let o := d.rd (RGU.REACH_MIN_KM t) * 9800 + 34000 - d.rdA GEN.ARRIVAL_TOL_NS
  ceilDiv (d.upfDelay t - o) 125000

/-- Fix the discovery window whose earliest upstream frame is `f` (R243, R244, R225). -/
def Device.fixDiscovery (c f : Nat) (d : Device) : Device :=
  let t := treeOf c
  let k := f + d.discLead c
  let per := d.rdA RGU.DISC_PERIOD_FRAMES
  let b := d.brx c
  let due := decide (per ≠ 0) && decide ((k + per * t - t) % per = 0) && bit (d.rd (RGU.DISC_EN (c / 32))) (c % 32)
  let waiting := b.extraFor.filter (fun x => (d.term? x).any (fun y => decide (y.state ≠ 5)))
  let extra := decide (b.extraWindows ≠ 0) && decide (waiting ≠ []) && decide (b.extraNext ≤ k)
  if d.on RGU.RGU_EN && (due || extra) && !d.rng.windows.any (fun w => w.chan = c && w.frame = k && w.ranging.isNone) then
    let (o, e) := d.discSpan c k
    let w : Window := { chan := c, frame := k, start := d.longOver c, opens := o, closes := e, ranging := none }
    let d := { d with rng := { d.rng with windows := d.rng.windows ++ [w] } }
    if extra && !due then
      d.setBrx c { b with extraWindows := b.extraWindows - 1, extraNext := k + 64, extraFor := waiting }
    else d
  else d

/-- Fix a ranging window in upstream frame `f` for the first waiting request of channel `c` (R247). -/
def Device.fixRanging (c f : Nat) (d : Device) : Device :=
  match d.rng.wants.find? (fun r => r.chan = c) with
  | none => d
  | some r =>
    if !d.on RGU.RGU_EN then d
    else
      let t := treeOf c
      let rate := d.rd (CH.US_RATE c)
      let tol := d.rdA GEN.ARRIVAL_TOL_NS
      let ov := d.longOver c
      let u := d.upfDelay t
      let lo : Int := (r.lo : Int) - tol - u
      let frm := lo / 125000
      let pos := (lo % 125000).toNat
      let len := r.hi - r.lo + 2 * tol + wordsToNsUp rate (ov + 100)
      let fl := wordsToNsUp rate (d.fixedLoad c).1
      let (shift, frm) :=
        if pos < fl then (nsToWordsUp rate (fl - pos), frm)
        else if 121000 < pos + len then (nsToWordsUp rate (125000 - pos + fl), frm + 1)
        else (0, frm)
      let m := ((f : Int) - frm).toNat
      if d.rng.windows.any (fun w => w.chan = c && w.frame = m && w.ranging.isSome) || decide (m < f)
          || (decide (shift ≠ 0) && decide (121000 < fl + len)) then d
      else
        let s := ov + shift
        let a := d.treeFrameStart t m + wordsToNs rate s
        let w : Window := { chan := c, frame := m, start := s,
                            opens := a + r.lo - wordsToNsUp rate ov - tol,
                            closes := a + r.hi + wordsToNsUp rate 100 + tol, ranging := some r }
        { d with rng := { d.rng with windows := d.rng.windows ++ [w], wants := d.rng.wants.erase r } }

/-- The quiet window asked for on channel `c` at or before now: 20 us of the upstream frame `f`, after the fixed load (R223). An isolation's goes
before one of R226, and no window is fixed while one waits for its result. -/
def Device.fixQuiet (c f : Nat) (d : Device) : Device :=
  let b := d.brx c
  let due (q : Option Nat) : Bool := q.any (fun t => decide (t ≤ d.now))
  let a := d.upfStart (treeOf c) f + wordsToNsUp (d.rd (CH.US_RATE c)) (d.fixedLoad c).1
  if b.qw.isSome then d
  else if due b.quietAsk then d.setBrx c { b with quietAsk := none, qw := some (a, a + 20000, false) }
  else if due b.checkAsk then d.setBrx c { b with checkAsk := none, qw := some (a, a + 20000, true) }
  else d

/-- The dark spans that touch the upstream frame of map `f` on channel `c`. -/
def Device.darkIn (d : Device) (c f : Nat) : List Dark :=
  let a := d.upfStart (treeOf c) f
  let ws := (d.rng.windows.filter (fun w => w.chan = c)).map (fun w => ({ opens := w.opens, closes := w.closes } : Dark))
  let q := match (d.brx c).qw with
    | some (o, e, _) => [({ opens := o, closes := e, quiet := true } : Dark)]
    | none => []
  (ws ++ q).filter (fun x => a < x.closes && x.opens < a + 125000)

/-! ### Sizing (R147, R655, R656, R156) -/

/-- A candidate grant: its allocation and its size before sharing. -/
structure Cand where
  idx : Nat
  al : Alloc
  size : Nat
  deriving DecidableEq, Repr

/-- The allocations GEN may grant on channel `c`, with their sizes before sharing (R147, R242, R261, R655). -/
def Device.candidates (d : Device) (c : Nat) : List Cand :=
  d.fret.allocs.filterMap (fun p =>
    let a := Alloc.seenAt d.now p.2
    match d.term? a.term with
    | none => none
    | some t =>
      if t.state = 3 ∧ d.home a.term = some c ∧ ¬ a.leaving then
        if d.lobi a.term then
          if p.1 % 4096 = a.term % 512 then some { idx := p.1, al := a, size := 16 } else none
        else
          let n := if a.cls = 0 then a.rate else if a.cls = 1 then min a.estimate a.credit else min a.estimate a.rate
          if n = 0 then none else some { idx := p.1, al := a, size := n }
      else none)

/-- The first `n` allocations take one word more each (R156). -/
def shareLeft : Nat → List (Cand × Nat) → List (Cand × Nat)
  | 0, l => l
  | _, [] => []
  | n + 1, p :: r => (p.1, p.2 + 1) :: shareLeft n r

/-- The capped and then the others of `cs` with their words (R156): those whose share reaches their cap take it and the rest is shared
again; once none does, fractions are rounded down and the leftover words go one at a time in ascending handle index. -/
def shareRounds : Nat → Nat → List Cand → List (Cand × Nat)
  | 0, _, _ => []
  | n + 1, w, cs =>
    let tot := (cs.map (fun c => c.al.weight)).sum
    let full := cs.filter (fun c => decide (c.size * tot ≤ w * c.al.weight))
    if full = [] then
      let l := cs.map (fun c => (c, w * c.al.weight / tot))
      shareLeft (w - (l.map (·.2)).sum) l
    else full.map (fun c => (c, c.size)) ++ shareRounds n (w - (full.map (·.size)).sum) (cs.filter (fun c => !full.contains c))

/-- Share `w` words by weight (R156). -/
def shareWords (w : Nat) (cs : List Cand) : List (Cand × Nat) := shareRounds (cs.length + 1) w cs

/-- Scale sizes to a budget (R655): each by the same factor, rounded down. -/
def scaleTo (budget : Nat) (cs : List Cand) : List (Cand × Nat) :=
  let sum := (cs.map (·.size)).sum
  if sum ≤ budget then cs.map (fun c => (c, c.size)) else cs.map (fun c => (c, c.size * budget / sum))

/-- Insert in ascending order of a key. -/
def insertBy {α : Type} (key : α → Nat) (a : α) : List α → List α
  | [] => [a]
  | b :: r => if key a < key b then a :: b :: r else b :: insertBy key a r

/-- Sort by a key, keeping the order of equals. -/
def sortBy {α : Type} (key : α → Nat) (l : List α) : List α := l.foldl (fun r a => insertBy key a r) []

/-- The free runs of `[0, top)` that the spans leave, lowest first. -/
def freeRuns (top : Nat) (occ : List (Nat × Nat)) : List (Nat × Nat) :=
  let s := sortBy (·.1) occ
  let (rs, w) := s.foldl (fun (acc : List (Nat × Nat) × Nat) p =>
    let (rs, w) := acc
    (if w < min p.1 top then rs ++ [(w, min p.1 top)] else rs, max w p.2)) ([], 0)
  if w < top then rs ++ [(w, top)] else rs

/-- The words of `[0, top)` that the spans leave free. -/
def freeWords (top : Nat) (occ : List (Nat × Nat)) : Nat := ((freeRuns top occ).map (fun p => p.2 - p.1)).sum

/-- The word spans of dark windows in an upstream frame that starts at `u`. -/
def darkWords (rate u : Nat) (l : List Dark) : List (Nat × Nat) :=
  l.map (fun x => (nsToWords rate (x.opens - u), nsToWordsUp rate (x.closes - u)))

/-- The sizes of all grants of channel `c` (R147, R655): fixed whole, the others within the data budget, and how many
assured grants were reduced. -/
def Device.sizeGrants (d : Device) (c : Nat) (dark : List (Nat × Nat)) (profile : Nat → Nat) :
    List (Cand × Nat) × Nat :=
  let cs := d.candidates c
  let fixed := cs.filter (fun x => x.al.cls = 0)
  let rest := cs.filter (fun x => x.al.cls ≠ 0)
  let tm := d.timing c
  let fts := (fixed.map (fun x => x.al.term)).eraseDups
  let fline := (fixed.map (fun x => lineLen x.size)).sum + (fts.map (fun x => Timing.ovh tm (profile x))).sum
  let top := usableWords (d.rd (CH.US_RATE c))
  let free : Int := freeWords top ((0, fline) :: dark)
  let rts := ((rest.map (fun x => x.al.term)).eraseDups).filter (fun x => !fts.contains x)
  let ov := (rts.map (fun x => Timing.ovh tm (profile x))).sum
  let budget := ((free - ov - 84 * rest.length) * 456 / 540).toNat
  let as := scaleTo budget (rest.filter (fun x => x.al.cls = 1))
  let cut := (as.filter (fun p => p.2 < p.1.size)).length
  let left := budget - (as.map (·.2)).sum
  let ns := shareWords left (rest.filter (fun x => x.al.cls = 2))
  let left := left - (ns.map (·.2)).sum
  let bs := shareWords left (rest.filter (fun x => x.al.cls = 3))
  (((fixed.map (fun x => (x, x.size))) ++ as ++ ns ++ bs).filter (fun p => 16 ≤ p.2), cut)

/-! ### Limits (R160, R161) -/

/-- The bursts that grants count as (R161): one for each terminal with grants that are no course's, and one for each course grant. -/
def burstCount (course : Alloc → Bool) (l : List (Cand × Nat)) : Nat :=
  let cs := l.filter (fun p => course p.1.al)
  cs.length + ((l.filter (fun p => !course p.1.al)).map (fun p => p.1.al.term)).eraseDups.length

/-- Remove grants until the map keeps its limits: best-effort first, then non-assured, then assured, and within a
class the highest allocation index first (R161). `extra` counts the entries of the RGU's own grants. -/
def enforce (course : Alloc → Bool) (extra : Nat) : Nat → List (Cand × Nat) → List (Cand × Nat)
  | 0, l => l
  | n + 1, l =>
    if 512 < l.length + extra ∨ 256 < burstCount course l + extra then
      match (l.filter (fun p => p.1.al.cls ≠ 0)).foldl (fun best p =>
        match best with
        | none => some p
        | some b => if b.1.al.cls < p.1.al.cls ∨ (b.1.al.cls = p.1.al.cls ∧ b.1.idx < p.1.idx) then some p else some b) none with
      | some p => enforce course extra n (l.filter (fun q => q.1.idx ≠ p.1.idx))
      | none => l
    else l

/-! ### Placement (R158, R181) -/

/-- A burst being placed: its terminal, profile, overhead, where its guard starts, and its grants in order. -/
structure Burst where
  term : Nat
  profile : Nat
  ovh : Nat
  at_ : Nat
  grants : List (Cand × Nat)
  deriving DecidableEq, Repr

/-- The words a burst takes. -/
def Burst.len (b : Burst) : Nat := b.ovh + (b.grants.map (fun p => lineLen p.2)).sum

/-- The grants of one terminal in the order of R158: class code, then Alloc-ID. -/
def burstGrants (x : Nat) (l : List (Cand × Nat)) : List (Cand × Nat) :=
  sortBy (fun p => p.1.al.cls * 2 ^ 16 + p.1.al.allocId) (l.filter (fun p => p.1.al.term = x))

/-- Take `ex` line words off the grants, the last first, sparing fixed grants; a grant below 16 words is omitted
(R158). -/
def trimGrants (ex : Nat) : List (Cand × Nat) → Nat × List (Cand × Nat)
  | [] => (ex, [])
  | p :: r =>
    let (ex, r) := trimGrants ex r
    if ex = 0 ∨ p.1.al.cls = 0 then (ex, p :: r)
    else
      let l := lineLen p.2
      let n := if l ≤ ex then 0 else maxData (l - ex)
      if n < 16 then (ex - l, r) else (0, (p.1, n) :: r)

/-- Trim the bursts that hold fixed grants, the last first, until the run of them takes `ex` words less. -/
def trimBursts (ex : Nat) : List Burst → Nat × List Burst
  | [] => (ex, [])
  | b :: r =>
    let (ex, r) := trimBursts ex r
    if ex = 0 then (0, b :: r)
    else
      let (ex, g) := trimGrants ex b.grants
      (ex, { b with grants := g } :: r)

/-- Put bursts end to end from word `w`. -/
def layRun (w : Nat) : List Burst → List Burst
  | [] => []
  | b :: r => { b with at_ := w } :: layRun (w + Burst.len b) r

/-- The longest of the runs, the lowest on a tie. -/
def longestRun (rs : List (Nat × Nat)) : Nat × Nat :=
  rs.foldl (fun b p => if b.2 - b.1 < p.2 - p.1 then p else b) (0, 0)

/-- Place the other bursts, each at the lowest word where it fits, reduced where it fits nowhere; the number of
grants reduced or omitted (R158). -/
def placeRest (top : Nat) : List Burst → List (Nat × Nat) → List Burst × Nat
  | [], _ => ([], 0)
  | b :: r, occ =>
    let rs := freeRuns top occ
    match rs.find? (fun p => Burst.len b ≤ p.2 - p.1) with
    | some p =>
      let (bs, n) := placeRest top r ((p.1, p.1 + Burst.len b) :: occ)
      ({ b with at_ := p.1 } :: bs, n)
    | none =>
      let p := longestRun rs
      let (_, g) := trimGrants (Burst.len b - (p.2 - p.1)) b.grants
      let cut := (b.grants.filter (fun x => !g.contains x)).length
      let b' := { b with grants := g, at_ := p.1 }
      if g = [] ∨ p.2 - p.1 < Burst.len b' then
        let (bs, n) := placeRest top r occ
        (bs, n + b.grants.length)
      else
        let (bs, n) := placeRest top r ((p.1, p.1 + Burst.len b') :: occ)
        (b' :: bs, n + cut)

/-- The items of a placed burst on channel `c` (R158, R192). -/
def burstItems (b : Burst) (tm : Timing) : List Item :=
  let s := b.at_ + b.ovh
  let pre := if b.profile = 0 then tm.short else tm.long
  (b.grants.foldl (fun (acc : List Item × Nat) p =>
    let (l, w) := acc
    (l ++ [{ handle := p.1.al.handle, alloc := p.1.idx, term := b.term, cls := p.1.al.cls, words := p.2, start := s,
             own := w, line := lineLen p.2, profile := b.profile, preamble := pre }], w + lineLen p.2)) ([], s)).1

/-! ### Admission to the work ledger (R163 to R166) -/

/-- The work of a grant of `n` data words at WORK_BYTES `wb` (R163). -/
def workAt (wb n : Nat) : Nat := ceilDiv (4 * n) wb

/-- The work of a grant of `n` data words now. -/
def Device.workOf (d : Device) (n : Nat) : Nat := workAt (d.rdA GEN.WORK_BYTES) n

/-- The start of a plan's upstream frame on a channel of tree `t`. -/
def Device.planUpf (d : Device) (t : Nat) (p : Plan) : Nat := d.treeFrameStart t p.frame + p.upfDelay

/-- The device frames that an item's arrival interval touches (R164), for an upstream frame that starts at `u`: an interval that ends as a frame
starts does not touch that frame (DESIGN CHOICE, log entry 85). -/
def Plan.framesOf (p : Plan) (u : Nat) (i : Item) : List Nat :=
  let a := frameOf (u + wordsToNs p.rate i.start - p.tol)
  let b := frameOf (u + wordsToNsUp p.rate (i.own + i.line) - 1)
  (List.range (b + 1 - a)).map (fun n => a + n)

/-- A ledger row. -/
def Device.led (d : Device) (j : Nat) : Ledger := Tbl.getD d.fret.ledger j {}

/-- Class `k`'s quota of frame `j` not yet committed. -/
def Device.quotaLeft (d : Device) (j k : Nat) : Nat := (d.led j).quota.getD k 0 - (d.led j).committed.getD k 0

/-- Commit `n` packets of class `k` to frame `j`. -/
def Device.commitWork (j k n : Nat) (d : Device) : Device :=
  let l := d.led j
  let led := Tbl.set d.fret.ledger j { l with committed := l.committed.set k (l.committed.getD k 0 + n) }
  { d with fret := { d.fret with ledger := led } }

/-- The items of class `k`, each scaled by `q / m`: the frames it is charged to and its work. -/
def Plan.loads (p : Plan) (u k q m : Nat) (is : List Item) : List (List Nat × Nat) :=
  (is.filter (fun i => i.cls = k)).map (fun i => (Plan.framesOf p u i, workAt p.workBytes (i.words * q / m)))

/-- The work of loads in each frame they touch. -/
def frameLoads (l : List (List Nat × Nat)) : List (Nat × Nat) :=
  ((l.flatMap (·.1)).eraseDups).map (fun j => (j, ((l.filter (fun p => p.1.contains j)).map (·.2)).sum))

/-- Whether the items of class `k`, each scaled by `q / m`, fit the class's quota in every frame they touch. -/
def Device.fits (d : Device) (p : Plan) (u k q m : Nat) (is : List Item) : Bool :=
  (frameLoads (Plan.loads p u k q m is)).all (fun x => decide (x.2 ≤ d.quotaLeft x.1 k))

/-- Lower a factor's numerator until the class fits (rounding work up may leave a scaled class just above its quota). -/
def Device.lowerFactor (d : Device) (p : Plan) (u k m : Nat) (is : List Item) : Nat → Nat → Nat
  | 0, _ => 0
  | n + 1, q => if d.fits p u k q m is then q else Device.lowerFactor d p u k m is n (q - 1)

/-- The factor at which a class's grants fit (R166): the smallest ratio of quota left to work over the frames they
touch, as numerator and denominator. -/
def Device.factor (d : Device) (p : Plan) (u k : Nat) (is : List Item) : Nat × Nat :=
  let rs := (frameLoads (Plan.loads p u k 1 1 is)).map (fun x => (d.quotaLeft x.1 k, x.2))
  let (q, m) := rs.foldl (fun (b : Nat × Nat) x => if x.1 * b.2 < b.1 * x.2 then x else b) (1, 1)
  (d.lowerFactor p u k m is 1024 q, m)

/-- Move the grants of each burst up behind reduced ones: the first keeps the StartTime (R166). -/
def repack (is : List Item) : List Item :=
  (is.foldl (fun (acc : List Item × Nat × Nat) i =>
    let (l, s, w) := acc
    let o := if i.start = s then w else i.start
    (l ++ [{ i with own := o, line := lineLen i.words }], i.start, o + lineLen i.words)) ([], 2 ^ 32, 0)).1

/-- Admit a plan's placed grants class by class (R166): those that fit, and how many were reduced or omitted. -/
def Device.admitWork (d : Device) (p : Plan) (u : Nat) : List Item × Nat :=
  (List.range 4).foldl (fun (acc : List Item × Nat) k =>
    let (is, n) := acc
    if d.fits p u k 1 1 is then (is, n)
    else
      let (q, m) := d.factor p u k is
      let is' := is.map (fun i => if i.cls = k then { i with words := i.words * q / m } else i)
      let hit := (is.filter (fun i => i.cls = k)).length
      (repack (is'.filter (fun i => i.cls ≠ k || 16 ≤ i.words)), n + hit))
    (sortBy (fun i => i.own) (p.items.filter (fun i => i.kind = .grant)), 0)

/-- Charge admitted items to the ledger (R164). -/
def Device.chargeItems (p : Plan) (u : Nat) (is : List Item) (d : Device) : Device :=
  forEach is (fun i d => forEach (Plan.framesOf p u i) (fun j d => d.commitWork j i.cls (workAt p.workBytes i.words)) d) d

/-- The allocation of a terminal whose grant carries the PLOAM flag: the default one, or the first in map order
(R259). -/
def ploamAlloc (is : List Item) (x : Nat) : Option Nat :=
  match is.find? (fun i => i.term = x && i.alloc % 4096 = x % 512 && i.kind = .grant) with
  | some i => some i.alloc
  | none => (is.find? (fun i => i.term = x && i.kind = .grant)).map (·.alloc)

/-- Set the PLOAM flag the firmware asks for (R259). -/
def Device.ploamFlags (d : Device) (is : List Item) : List Item :=
  is.map (fun i =>
    if i.kind = .grant ∧ d.rng.ploamAsk.contains i.term ∧ ploamAlloc is i.term = some i.alloc then { i with ploam := true } else i)

/-- Admit and charge a plan's grants at its seal, and set the PLOAM flags asked for (R164 to R166, R259): the items its map has. -/
def Device.admitPlan (t : Nat) (p : Plan) (d : Device) : List Item × Device :=
  let u := d.planUpf t p
  let (is, cut) := d.admitWork p u
  let is := d.ploamFlags is
  let d := (d.count 0x1B5 0x858 cut).chargeItems p u is
  (p.items.filter (fun i => i.kind ≠ .grant) ++ is,
    { d with rng := { d.rng with ploamAsk := d.rng.ploamAsk.filter (fun x => !is.any (fun i => i.term = x && i.ploam)) } })

/-! ### The build (R139, R155) -/

/-- The profile of a terminal's bursts on a channel (R159): 0 short, 1 long. -/
def Device.profile (d : Device) (c x : Nat) : Nat := if (d.pegStale c (x % 512)).isNone then 0 else 1

/-- Whether a fixed window still wants its grant: ranging stops with its terminal's RANGING or OPERATING state (R247, R262). -/
def Device.windowLive (d : Device) (w : Window) : Bool :=
  match w.ranging with
  | none => true
  | some r => (d.term? r.term).any (fun t => decide (t.state = 2 ∨ t.state = 3))

/-- The terminal number of an item that belongs to no terminal: a discovery grant's (R245). -/
def noTerm : Nat := 32768

/-- The items of the windows whose grant map `f` carries (R243, R245, R247). -/
def Device.windowItems (d : Device) (c f : Nat) : List Item :=
  (d.rng.windows.filter (fun w => w.chan = c && w.frame = f && d.windowLive w)).map (fun w =>
    let kind : ItemKind := match w.ranging with
      | none => .discovery w.opens w.closes
      | some r => .ranging r.lo r.hi
    { kind := kind, handle := 0, alloc := 0, term := (match w.ranging with | some r => r.term | none => noTerm), cls := 3,
      words := 16, start := w.start, own := w.start, line := 100, profile := 1, preamble := (d.timing c).long })

/-- Whether a report is due from an allocation in tree frame `f` (R151). -/
def Alloc.reportDue (a : Alloc) (f : Nat) : Bool :=
  decide (a.reportEvery ≠ 0) && decide ((f - a.bornFrame) % a.reportEvery = 0)

/-- Whether an allocation's grant is split over a course (R180). -/
def Device.isCourse (d : Device) (a : Alloc) : Bool :=
  decide (a.cls ≠ 0) && d.courseExt a.term && decide (1 < (d.members a.term).length) && !d.lobi a.term

/-- The dark word at which the non-fixed grants of fixed bursts must end (R158). -/
def fixedLimit (load top : Nat) (dark : List (Nat × Nat)) : Nat :=
  ((dark.filter (fun p => load ≤ p.1)).map (·.1)).foldl min top

/-- The plan of a map for tree frame `f` of channel `c`, under the staged set in force (R139). -/
def Device.planOf (d : Device) (c f : Nat) (items : List Item) (dark : List Dark) : Plan :=
  { frame := f, items := items, dark := dark, upfDelay := d.upfDelay (treeOf c), rate := d.rd (CH.US_RATE c), tol := d.rdA GEN.ARRIVAL_TOL_NS,
    workBytes := d.rdA GEN.WORK_BYTES, minPiece := d.rdA GEN.MIN_PIECE_WORDS }

/-- Ranging windows whose grant map `f` of channel `c` cannot carry: their requests wait again (R146, R247). -/
def Device.rewant (c f : Nat) (d : Device) : Device :=
  let lost := d.rng.windows.filter (fun w => w.chan = c && w.frame = f && w.ranging.isSome)
  { d with rng := { d.rng with windows := d.rng.windows.filter (fun w => !lost.contains w), wants := d.rng.wants ++ lost.filterMap (·.ranging) } }

/-- Fixed grants alone may fill a map (R161, R162): the RGU's grants then have no room, and their windows wait (DEDUCED, log entry 85). -/
def Device.windowRoom (c f : Nat) (d : Device) : Device :=
  let fs := (d.candidates c).filter (fun x => x.al.cls = 0)
  let ts := ((fs.map (fun x => x.al.term)).eraseDups).length
  if 512 < fs.length + (d.windowItems c f).length ∨ 256 < ts + (d.windowItems c f).length then
    let d := d.rewant c f
    { d with rng := { d.rng with windows := d.rng.windows.filter (fun w => !(w.chan = c && w.frame = f)) } }
  else d

/-- Build the normal map of channel `c` for tree frame `f` (R155): its plan, and the course grants it sizes. -/
def Device.buildMap (d : Device) (c f : Nat) : Device :=
  let t := treeOf c
  let rate := d.rd (CH.US_RATE c)
  let u := d.upfStart t f
  let tm := d.timing c
  let top := usableWords rate
  let darks := d.darkIn c f
  let dw := darkWords rate u darks
  let (gs, cut) := d.sizeGrants c dw (d.profile c)
  let d := d.count 0x1B5 0x858 cut
  let win := d.windowItems c f
  let gs' := enforce d.isCourse win.length gs.length gs
  let d := d.count 0x1B5 0x850 (gs.length - gs'.length)
  let course := gs'.filter (fun p => d.isCourse p.1.al)
  let own := gs'.filter (fun p => !d.isCourse p.1.al)
  let terms := sortBy id ((own.map (fun p => p.1.al.term)).eraseDups)
  let mk (x : Nat) : Burst := { term := x, profile := d.profile c x, ovh := Timing.ovh tm (d.profile c x), at_ := 0, grants := burstGrants x own }
  let fx := (terms.filter (fun x => own.any (fun p => p.1.al.term = x && p.1.al.cls = 0))).map mk
  let ot := (terms.filter (fun x => !own.any (fun p => p.1.al.term = x && p.1.al.cls = 0))).map mk
  let lim := fixedLimit (d.fixedLoad c).1 top dw
  let run := (fx.map Burst.len).sum
  let (_, fx') := trimBursts (run - lim) fx
  let cutF := (fx.flatMap (·.grants)).filter (fun p => !(fx'.flatMap (·.grants)).contains p)
  let fx' := layRun 0 fx'
  let occ := (fx'.map (fun b => (b.at_, b.at_ + Burst.len b))) ++ dw
  let (ot', cutO) := placeRest top ot occ
  let d := d.count 0x1B5 0x858 (cutF.length + cutO)
  let is := (sortBy (fun b => b.at_) (fx' ++ ot')).flatMap (fun b => burstItems b tm)
  let is := is.map (fun i => match Tbl.get? d.fret.allocs i.alloc with
    | some a => { i with dbru := Alloc.reportDue (Alloc.seenAt d.now a) f }
    | none => i)
  let longs := ((is.map (·.term)).eraseDups).filterMap (fun x => d.pegStale c (x % 512))
  let d := forEach longs (fun o d => d.count (chanPage c) o 1) d
  let wait := course.map (fun p =>
    ({ frame := f, alloc := p.1.idx, handle := p.1.al.handle, term := p.1.al.term, cls := p.1.al.cls, allocId := p.1.al.allocId,
       words := p.2, dbru := Alloc.reportDue p.1.al f } : CourseGrant))
  { d with fret := { d.fret with plans := Tbl.set d.fret.plans c (d.planOf c f (win ++ is) darks), courseWait := d.fret.courseWait ++ wait } }

/-- The words a plan's items and dark spans occupy. -/
def Device.planOcc (d : Device) (c : Nat) (p : Plan) : List (Nat × Nat) :=
  let tm := d.timing c
  (p.items.filter (fun i => i.kind = .grant)).map (fun i => (i.start - tm.delim - i.preamble - tm.guard, i.own + i.line))
    ++ darkWords p.rate (d.planUpf (treeOf c) p) p.dark

/-- Where a plan has room for a piece of terminal `x`, with the overhead it takes and the StartTime and profile of its burst (R158, R181): the
longest run free, or behind the burst the terminal already has on the channel, which the piece joins (DEDUCED, log entry 20). -/
structure PieceRun where
  lo : Nat
  hi : Nat
  ovh : Nat
  start : Nat
  profile : Nat
  preamble : Nat
  fresh : Bool
  deriving DecidableEq, Repr

/-- That room. -/
def Device.pieceRun (d : Device) (x c : Nat) (p : Plan) : PieceRun :=
  let tm := d.timing c
  let runs := freeRuns (usableWords p.rate) (d.planOcc c p)
  let mine := p.items.filter (fun i => decide (i.kind = .grant ∧ i.term = x))
  match mine with
  | i :: _ =>
    let e := mine.foldl (fun m j => max m (j.own + j.line)) 0
    let r := (runs.find? (fun r => r.1 = e)).getD (e, e)
    { lo := r.1, hi := r.2, ovh := 0, start := i.start, profile := i.profile, preamble := i.preamble, fresh := false }
  | [] =>
    let prof := d.profile c x
    let r := longestRun runs
    let ov := Timing.ovh tm prof
    { lo := r.1, hi := r.2, ovh := ov, start := r.1 + ov, profile := prof, preamble := (if prof = 0 then tm.short else tm.long), fresh := true }

/-- Place one piece of a course grant on member `c` (R181): the words placed. -/
def Device.placePiece (g : CourseGrant) (c left : Nat) (d : Device) : Nat × Device :=
  match Tbl.get? d.fret.plans c with
  | none => (0, d)
  | some p =>
    let r := d.pieceRun g.term c p
    let n := min left (maxData (r.hi - r.lo - r.ovh))
    if r.hi - r.lo ≤ r.ovh ∨ n < 16 ∨ (n < p.minPiece ∧ n < left) ∨ p.frame ≠ g.frame
        ∨ 512 ≤ p.items.length ∨ (r.fresh ∧ 256 ≤ ((p.items.map (·.start)).eraseDups).length) then (0, d)
    else
      let i : Item := { handle := g.handle, alloc := g.alloc, term := g.term, cls := g.cls, words := n, start := r.start, own := r.lo + r.ovh,
                        line := lineLen n, profile := r.profile, preamble := r.preamble }
      let d := if r.fresh then
          match d.pegStale c (g.term % 512) with
          | some o => d.count (chanPage c) o 1
          | none => d
        else d
      (n, { d with fret := { d.fret with plans := Tbl.set d.fret.plans c { p with items := p.items ++ [i] } } })

/-- The members of a course in the order of R181: longest free run first, lowest channel on a tie. -/
def Device.pieceOrder (d : Device) (x : Nat) (cs : List Nat) : List Nat :=
  let run (c : Nat) : Nat := match Tbl.get? d.fret.plans c with
    | some p => let r := d.pieceRun x c p; r.hi - r.lo
    | none => 0
  sortBy (fun c => 2 ^ 20 - run c) cs

/-- Whether every build of channel `c` is sealed empty (R146, R286). -/
def Device.buildsEmpty (d : Device) (c : Nat) : Bool :=
  !d.on GEN.GEN_EN || d.on PTM.EMERGENCY || bit (d.rd (PTM.QUIET_CH (c / 32))) (c % 32)

/-- Whether a member takes pieces: it is ranged for the terminal, and its map is not sealed empty (R146, R247, R286). -/
def Device.pieceOk (d : Device) (x c : Nat) : Bool :=
  (match d.term? x with
   | some t => decide (d.home x = some c) || ((t.wc.getD (c % 4) {}).acked)
   | none => false) && !d.buildsEmpty c

/-- Request the report of a course grant in its piece on channel `c` (R181). -/
def Device.pieceReport (g : CourseGrant) (c : Nat) (d : Device) : Device :=
  let ask (i : Item) : Item := if i.kind = .grant ∧ i.alloc = g.alloc then { i with dbru := true } else i
  { d with fret := { d.fret with plans := Tbl.modify d.fret.plans c (fun p => { p with items := p.items.map ask }) } }

/-- Split one course grant over its members (R181, R182): the report goes in the piece on the home channel, or else in the first placed. -/
def Device.splitCourse (g : CourseGrant) (d : Device) : Device :=
  let cs := d.pieceOrder g.term ((d.members g.term).filter (fun c => d.pieceOk g.term c))
  let (left, placed, d) := cs.foldl (fun (acc : Nat × List Nat × Device) c =>
    let (left, placed, d) := acc
    let (n, d) := d.placePiece g c left
    (left - n, if n = 0 then placed else placed ++ [c], d)) (g.words, [], d)
  let at_ := match d.home g.term with
    | some h => if placed.contains h then some h else placed.head?
    | none => placed.head?
  let d := if g.dbru then d.whenSome at_ (fun c d => d.pieceReport g c) else d
  if 0 < left then d.count 0x1B5 0x858 1 else d

/-- Whether channel `c` builds no map for a frame (R145). CH_EN set at the build start instant counts as set after it (R647). -/
def Device.buildsNone (d : Device) (c : Nat) : Bool :=
  !d.on (CH.CH_EN c) || decide ((d.cfr c).enabledAt = some d.now) || !d.on (TPE.TREE_EN (treeOf c)) || !d.capo || d.fenced

/-- Split the course grants of tree frame `f` whose members all have their plans, in the order of the bursts of R158. -/
def Device.splitReady (f t : Nat) (d : Device) : Device :=
  let ready (g : CourseGrant) : Bool := decide (g.frame = f) && decide (termTree g.term = t) &&
    (d.members g.term).all (fun c => d.buildsNone c || (match Tbl.get? d.fret.plans c with | some p => decide (p.frame = f) | none => false))
  let gs := sortBy (fun g => (g.term * 4 + g.cls) * 2 ^ 16 + g.allocId) (d.fret.courseWait.filter ready)
  let d := { d with fret := { d.fret with courseWait := d.fret.courseWait.filter (fun g => !ready g) } }
  forEach gs Device.splitCourse d

/-- MAP_BUILD_START (R139, R145, R146, R148, R155): the build for the tree frame after the present one. The commands that
commit at a build start commit before it, in Machine/Commands.lean. -/
def buildStart (c : Nat) (d : Device) : Device :=
  let t := treeOf c
  let f := d.treeFrame t d.now + 1
  let d := if d.rd MRU.ROLE = 2 then d else d.growCredits c
  let d :=
    if d.buildsNone c then d.rewant c f
    else if d.buildsEmpty c then
      let d := d.rewant c f
      { d with fret := { d.fret with plans := Tbl.set d.fret.plans c (d.planOf c f [] []) } }
    else ((((d.fixDiscovery c f).fixRanging c f).fixQuiet c f).windowRoom c f).buildMap c f
  d.splitReady f t

/-! ### The record ring, and what a seal takes (R148, R152, R173) -/

/-- Count a posted record of a kind (R173, R186). -/
def recCounter : RecKind → Nat
  | .received => 0x818 | .damaged => 0x820 | .noShow => 0x828
  | .late => 0x830 | .collided => 0x838 | .unmapped => 0x840

/-- The number of unconsumed records in the ring (R190). -/
def Device.ringCount (d : Device) : Nat := unread (d.rd GEN.RING_PRODUCED) (d.rd GEN.RING_CONSUMED) 131072

/-- Write a record to the ring, or count an overflow (R173, R175). -/
def Device.ringWrite (r : Rec) (d : Device) : Device :=
  if r.kind = .received ∧ ¬ d.on GEN.RING_ALL then d
  else if d.ringCount = 65536 then d.count 0x1B5 0x868 1
  else
    let s := d.rd GEN.RING_PRODUCED
    let d := { d with fret := { d.fret with ring := Tbl.set d.fret.ring (s % 65536) r } }
    d.wr GEN.RING_PRODUCED (s + 1)

/-- Take what a sealed grant takes from its allocation's credit and estimate (R148, R152). -/
def Device.takeSealed (i : Item) (d : Device) : Device :=
  let al := Tbl.modify d.fret.allocs i.alloc (fun a =>
    if i.kind = .grant ∧ a.handle = i.handle then
      { a with estimate := a.estimate - i.words, credit := if a.cls = 1 then a.credit - i.words else a.credit }
    else a)
  { d with fret := { d.fret with allocs := al } }

/-! ### Windows, evidence and the record (R167 to R172, R245) -/

/-- The start of the upstream frame of a slot's map. -/
def Device.slotUpf (d : Device) (c : Nat) (s : Slot) : Nat := d.treeFrameStart (treeOf c) s.frame + s.upfDelay

/-- The device time of word `w` of a slot's upstream frame, as a multiple of one frame's words, so that it is
exact. -/
def Device.wordAtX (d : Device) (c : Nat) (s : Slot) (w : Nat) : Int :=
  (d.slotUpf c s : Int) * wordsPerFrame s.rate + (w : Int) * 125000

/-- An item's expected delimiter stamp (R167, R254), in the same units. -/
def Device.expectX (d : Device) (c : Nat) (s : Slot) (i : Item) : Int :=
  d.wordAtX c s i.start + i.shift * wordsPerFrame s.rate

/-- The window of an item (R167, R245, R247), in the same units. -/
def Device.windowX (d : Device) (c : Nat) (s : Slot) (i : Item) : Int × Int :=
  let w : Int := wordsPerFrame s.rate
  let tol : Int := d.rdA GEN.ARRIVAL_TOL_NS
  match i.kind with
  | .grant => (d.expectX c s i - tol * w, d.expectX c s i + tol * w)
  | .discovery o e => ((o : Int) * w, (e : Int) * w)
  | .ranging lo hi =>
    let b := (d.treeFrameStart (treeOf c) s.frame : Int) * w + (i.start : Int) * 125000
    (b + lo * w, b + hi * w)

/-- The delimiters of an item stamped in its window (R169). -/
def Device.inWindow (d : Device) (c : Nat) (s : Slot) (i : Item) : List Delim :=
  let w : Int := wordsPerFrame s.rate
  let (lo, hi) := d.windowX c s i
  i.delims.filter (fun x => decide (lo ≤ x.stamp * w) && decide ((x.stamp : Int) * w ≤ hi))

/-- A word of an item's upstream frame in whole ns of device time, where the item's burst is looked for (R192, R254). -/
def Device.wordNs (d : Device) (c : Nat) (s : Slot) (i : Item) (w : Nat) : Nat := ((d.slotUpf c s + wordsToNs s.rate w : Nat) + i.shift : Int).toNat

/-- The same rounded up. -/
def Device.wordNsUp (d : Device) (c : Nat) (s : Slot) (i : Item) (w : Nat) : Nat := ((d.slotUpf c s + wordsToNsUp s.rate w : Nat) + i.shift : Int).toNat

/-- The word at which the burst of an item ends: the end of its last grant (R158, R192). -/
def Slot.burstEndWord (s : Slot) (i : Item) : Nat := s.items.foldl (fun m j => if j.start = i.start then max m (j.own + j.line) else m) 0

/-- The light spans on a channel, the present one included. -/
def Device.lightSpans (d : Device) (c : Nat) : List (Nat × Nat) :=
  let b := d.brx c
  if b.light then b.spans ++ [(b.lightSince, d.now)] else b.spans

/-- Whether one span of light covered the start of an item's guard and ran into its preamble (R168). -/
def Device.guardHit (d : Device) (c : Nat) (s : Slot) (i : Item) : Bool :=
  let w : Int := wordsPerFrame s.rate
  let tm := d.timing c
  let pre := d.wordAtX c s (i.start - tm.delim - i.preamble) + i.shift * w
  let grd := d.wordAtX c s (i.start - tm.delim - i.preamble - tm.guard) + i.shift * w
  (d.lightSpans c).any (fun x => decide ((x.1 : Int) * w ≤ grd) && decide (pre < (x.2 : Int) * w))

/-- Whether light was present anywhere in an item's window. -/
def Device.lightIn (d : Device) (c : Nat) (s : Slot) (i : Item) : Bool :=
  let w : Int := wordsPerFrame s.rate
  let (lo, hi) := d.windowX c s i
  (d.lightSpans c).any (fun x => decide ((x.1 : Int) * w < hi) && decide (lo < (x.2 : Int) * w))

/-- The record of an item by the evidence held (R168, R245), and the delimiter it rests on; a collided item's is the terminal's own in its window,
else the first there (DEDUCED, log entry 85). -/
def Device.judge (d : Device) (c : Nat) (s : Slot) (i : Item) : RecKind × Option Delim :=
  let w : Int := wordsPerFrame s.rate
  let ins := d.inWindow c s i
  let hi := (d.windowX c s i).2
  match i.kind with
  | .discovery _ _ =>
    match ins.find? (fun x => x.sn), ins with
    | some x, _ => (.received, some x)
    | none, x :: _ => (.damaged, some x)
    | none, [] => (if d.lightIn c s i then .collided else .noShow, none)
  | k =>
    if 2 ≤ ins.length ∨ (k = .grant ∧ d.guardHit c s i) then
      (.collided, ((ins.find? (fun x => x.term = i.term)).orElse (fun _ => ins.head?)))
    else match ins.find? (fun x => x.term = i.term) with
      | some x => (if x.clean && decide (i.uncorrected = 0) then .received else .damaged, some x)
      | none =>
        match i.delims.find? (fun x => decide (x.term = i.term) && decide (hi < x.stamp * w)
            && decide ((x.stamp : Int) * w ≤ hi + d.rdA GEN.LATE_SPAN_NS * w)) with
        | some x => (.late, some x)
        | none => (.noShow, none)

/-- An item's settle point (R170, R245), in the units of `wordAtX`. -/
def Device.settleX (d : Device) (c : Nat) (s : Slot) (i : Item) : Int :=
  let w : Int := wordsPerFrame s.rate
  let hi := (d.windowX c s i).2
  match i.kind with
  | .discovery _ _ => hi
  | _ => max (hi + d.rdA GEN.LATE_SPAN_NS * w) (d.wordAtX c s (i.own + i.line) + i.shift * w)

/-- The nearest whole number to `a / b`, halves away from zero. -/
def nearest (a : Int) (b : Nat) : Int :=
  if 0 ≤ a then (2 * a + b) / (2 * b) else -((2 * (-a) + b) / (2 * b))

/-- The words granted to an allocation in maps sealed after that of tree frame `m` (R152). -/
def Device.grantedSince (d : Device) (idx handle m : Nat) : Nat :=
  let t := idx / 4096
  (((List.range 4).flatMap (fun w => d.ringSlots (4 * t + w))).filter (fun s => m < s.frame && s.st ≠ .opened)).foldl
    (fun n s => n + ((s.items.filter (fun i => i.alloc = idx && i.handle = handle && i.kind = .grant)).map (·.words)).sum) 0

/-- Apply a good report (R152, R153). -/
def Device.applyReport (c : Nat) (s : Slot) (i : Item) (r : Nat) (d : Device) : Device :=
  match Tbl.get? d.fret.allocs i.alloc with
  | none => d
  | some a =>
    if a.handle ≠ i.handle then d
    else if a.reportMax < r then
      if d.detects then ((d.count 0x1B5 0x860 1).logPon c 0x06 (d.termHandle i.term) 0).charge c i.term 0x06 else d
    else
      let e := r - d.grantedSince i.alloc i.handle s.frame
      { d with fret := { d.fret with allocs := Tbl.set d.fret.allocs i.alloc { a with estimate := e } } }

end Sys2Proof.Machine
end

