-- ==== Sys2Proof/Machine/Bursts.lean ====
section
/-!
DEFINITION. Burst reception (chapter 05): pegs, the strobe, delimiters, light, the end of a burst, and rogue
isolation.
-/

namespace Sys2Proof.Machine

/-- Whether the receive lane of channel `c` is powered: not when it is quiet with no item outstanding (R286), nor with its tree's lanes (R288). -/
def Device.rxPowered (d : Device) (c : Nat) : Bool :=
  !(bit (d.rd (PTM.QUIET_CH (c / 32))) (c % 32) && d.drained c) && !bit (d.rd (PTM.LANES_DOWN (treeOf c / 32))) (treeOf c % 32)

/-- Whether the receiver of channel `c` receives (R191). -/
def Device.receiving (d : Device) (c : Nat) : Bool :=
  d.on (CH.RX_EN c) && (d.on (CH.CH_EN c) || !d.drained c) && d.rxPowered c

/-- Item `i` of the map of tree frame `k` on channel `c`, if the device holds it. -/
def Device.item? (d : Device) (c k i : Nat) : Option Item :=
  let s := d.slot c k
  if s.mapped ∧ s.frame = k then s.items[i]? else none

/-! ### Before the burst (R193, R194, R212) -/

/-- The latest burst end on a channel among bursts of grants whose StartTime lies before instant `at_` (R193, R194). -/
def Device.prevEnd (d : Device) (c at_ : Nat) : Nat :=
  ((d.ringSlots c).flatMap (fun q => (q.items.filter (fun j => j.kind = .grant)).map (fun j => (d.wordNs c q j j.start, d.wordNsUp c q j (j.own + j.line))))).foldl
    (fun m p => if p.1 < at_ then max m p.2 else m) 0

/-- The load instant of an item's burst (R193): PEG_LEAD_NS before its guard, or the end of the burst before it if later. -/
def Device.loadAt (d : Device) (c : Nat) (s : Slot) (i : Item) : Nat :=
  let tm := d.timing c
  max (d.wordNs c s i (i.start - tm.delim - i.preamble - tm.guard) - d.rdA (CH.PEG_LEAD_NS c)) (d.prevEnd c (d.wordNs c s i i.start))

/-- PEG_LOAD (R193, R212): from the load instant on, the receiver takes the preset of the terminal of item `i` of map `k`. -/
def pegLoad (t c k i : Nat) (d : Device) : Device :=
  match d.item? c k i with
  | some it =>
    if d.receiving c && decide (d.loadAt c (d.slot c k) it ≤ t) then
      let p := d.peg c (it.term % 512)
      d.setBrx c { d.brx c with loaded := some it.term, preset := (p.w0, p.w1, p.phase) }
    else d
  | none => d

/-- The level at which a channel's strobe pin rests outside a pulse and while STROBE_EN is 0 (R123, R133): high where the strobe is active low. -/
def Device.strobeRest (d : Device) (c : Nat) : Bool := d.on (CH.ACTIVE_LOW c)

/-- The preamble start that an item's strobe leads (R192, R194): of a ranging grant, that of the earliest answer in its window; of a discovery grant,
the opening of its window (DESIGN CHOICE, log entry 86). -/
def Device.strobeLeads (d : Device) (c : Nat) (s : Slot) (i : Item) : Nat :=
  let w := i.start - (d.timing c).delim - i.preamble
  match i.kind with
  | .grant => d.wordNs c s i w
  | .ranging lo _ => d.treeFrameStart (treeOf c) s.frame + wordsToNs s.rate w + lo
  | .discovery o _ => o

/-- STROBE_PULSE (R123, R194): the strobe before the burst of item `i` of map `k`, or before that map's quiet window where `i` is none, moved to the
previous burst's end where it would fall before it. -/
def strobePulse (_t c k : Nat) (i : Option Nat) (d : Device) : Device :=
  let s := d.slot c k
  let held := decide (s.mapped ∧ s.frame = k)
  let lead := match i with
    | some n => (d.item? c k n).map (fun it => (d.strobeLeads c s it, d.wordNs c s it it.start))
    | none => if held then ((s.dark.find? (fun x => x.quiet)).map (fun x => (x.opens, x.opens))) else none
  match lead with
  | some (at_, start) =>
    if d.receiving c && d.on (CH.STROBE_EN c) then
      let e := at_ - d.rdA (CH.STROBE_LEAD_NS c)
      let p := d.prevEnd c start
      (d.countIf (decide (e < p)) (chanPage c) 0x960).emit (.strobe c (max e p) (d.rd (CH.WIDTH_NS c)) (d.strobeRest c))
    else d
  | none => d

/-! ### Delimiters (R198 to R200) -/

/-- Whether the search is suspended at a stamp (R200). -/
def Brx.suspended (b : Brx) (t : Nat) : Bool :=
  b.suspendDark || (match b.suspend with | some (a, e) => decide (a < t) && decide (t < e) | none => false)

/-- Add a delimiter to every item of a slot whose window or late span holds its stamp. -/
def Device.addDelim (c : Nat) (x : Delim) (s : Slot) (d : Device) : Slot :=
  let w : Int := wordsPerFrame s.rate
  let late : Int := d.rdA GEN.LATE_SPAN_NS
  { s with items := s.items.map (fun i =>
      let (lo, hi) := d.windowX c s i
      if lo ≤ x.stamp * w ∧ (x.stamp : Int) * w ≤ hi + late * w ∧ i.done = none then { i with delims := i.delims ++ [x] } else i) }

/-- The slot and item whose window holds a stamp on channel `c` (R200). -/
def Device.matchWindow (d : Device) (c t : Nat) : Option (Slot × Item) :=
  ((d.ringSlots c).flatMap (fun s => s.items.map (fun i => (s, i)))).find? (fun p =>
    let w : Int := wordsPerFrame p.1.rate
    let (lo, hi) := d.windowX c p.1 p.2
    decide (lo ≤ t * w) && decide ((t : Int) * w ≤ hi) && Slot.holds p.1)

/-- Whether a stamp falls in the late span of an item of the named terminal (R168). -/
def Device.isLate (d : Device) (c t x : Nat) : Bool :=
  ((d.ringSlots c).flatMap (fun s => s.items.map (fun i => (s, i)))).any (fun p =>
    let w : Int := wordsPerFrame p.1.rate
    let hi := (d.windowX c p.1 p.2).2
    decide (p.2.term = x) && decide (hi < t * w) && decide ((t : Int) * w ≤ hi + d.rdA GEN.LATE_SPAN_NS * w) && Slot.holds p.1)

/-- The tree frame of the upstream frame that holds instant `t` (R134, R177), at the tree's own UPF_DELAY_NS. -/
def Device.upFrame (d : Device) (tree t : Nat) : Nat := (t - d.rd (TPE.OFFSET_NS tree) - d.rd (GEN.UPF_DELAY_NS tree)) / 125000

/-- Whether a burst stamped `t` on channel `c` falls in the unmapped span after a takeover (R542): after the last tree frame whose map the device
took over, and before its first own. -/
def Device.inUnmapped (d : Device) (c t : Nat) : Bool :=
  let k := d.upFrame (treeOf c) t
  let first := Tbl.get? d.fret.firstOwn c
  let mine (f : Nat) : Bool := match first with | some g => decide (g ≤ f) | none => false
  d.fret.took && !mine k && !(d.ringSlots c).any (fun s => s.mapped && !mine s.frame && decide (k ≤ s.frame))

/-- A burst header's dying-gasp indication (R260). -/
def Device.gasp (x : Nat) (dg : Bool) (d : Device) : Device := if dg then d.raiseDefect x 1 else d.clearDefect x 1

/-- A standby keeps every burst for 8 tree frames (R526, R543). -/
def Device.keepBurst (c : Nat) (x : Delim) (d : Device) : Device :=
  if d.rd MRU.ROLE = 2 then
    let keep := d.bursts.kept.filter (fun q => decide (x.stamp ≤ q.x.stamp + 1000000))
    { d with bursts := { d.bursts with kept := keep ++ [{ chan := c, x := x }] } }
  else d

/-- The expected span of an item, in ns (R215). -/
def Device.expected (d : Device) (c : Nat) (s : Slot) (i : Item) : Nat × Nat :=
  let tol := d.rdA GEN.ARRIVAL_TOL_NS
  match i.kind with
  | .discovery o e => (o, e)
  | .ranging lo hi =>
    let b := d.treeFrameStart (treeOf c) s.frame + wordsToNs s.rate i.start
    (b + lo - wordsToNsUp s.rate (d.longOver c) - tol, b + hi + wordsToNsUp s.rate 100 + tol)
  | .grant => (d.wordNs c s i (i.start - (d.timing c).delim - i.preamble) - tol, d.wordNsUp c s i (Slot.burstEndWord s i) + tol)

/-- Light of the last accepted burst lasts at `t`, unbroken: an overrun where its expected span ended more than 4 ns before (R216). In a discovery
window it is charged to no terminal (R245). -/
def Device.overrun (c t : Nat) (d : Device) : Device :=
  match (d.brx c).lastTerm with
  | none => d
  | some x =>
    let es := (d.ringSlots c).flatMap (fun s => (s.items.filter (fun i => i.term = x && i.delims ≠ [])).map (fun i => (d.expected c s i)))
    let e := es.foldl (fun m p => if p.1 ≤ t then max m p.2 else m) 0
    if e = 0 ∨ t ≤ e + 4 ∨ !d.detects then d
    else if x = noTerm then (d.count (chanPage c) 0x980 1).logPon c 0x04 0 0
    else d.violation c x 0x04 0x980 0

/-- When the search resumes after a delimiter stamped `t` that matched item `i` of slot `s` (R200): it is suspended from the window's end to the
burst's end, which for a ranging answer lies 100 words after its stamp. In a discovery window it is never suspended (R245). -/
def Device.suspension (d : Device) (c t : Nat) (s : Slot) (i : Item) : Option (Nat × Nat) :=
  let we := ((d.windowX c s i).2 / (wordsPerFrame s.rate : Int)).toNat
  match i.kind with
  | .discovery _ _ => none
  | .ranging _ _ => some (we, t + wordsToNsUp s.rate i.line)
  | .grant => some (we, d.wordNsUp c s i (Slot.burstEndWord s i))

/-- DELIMITER_ACCEPT (R198 to R200, R216): a candidate stamped `t` that differs from the pattern in `errs` bits, with
the outcome of its header check. The header names ONU-ID `n`, with its dying-gasp indication; `sn` tells that the
burst holds a clean serial number. A burst of the light before, still unbroken, overran. -/
def delimiterAccept (t c errs : Nat) (hec : Hec) (n : Nat) (dg sn : Bool) (d : Device) : Device :=
  let b := d.brx c
  let p := chanPage c
  if !d.receiving c || !b.light || decide (d.rdA (CH.DELIM_MAX_ERR c) < errs) || Brx.suspended b t then d
  else if hec = .bad then d.count p 0x908 1
  else
    let x := 512 * treeOf c + n
    let d := ((d.overrun c t).count p 0x900 1).countIf (decide (hec = .corrected)) p 0x910
    let hit := d.matchWindow c t
    let late := d.isLate c t x
    let disc := match hit with | some (_, i) => (match i.kind with | .discovery _ _ => true | _ => false) | none => false
    let d := if disc then d else d.gasp x dg
    let dl : Delim := { stamp := t, term := x, clean := decide (hec = .clean), sn := sn }
    let slots := d.fret.slots.map (fun q => if q.1 / 8 = c ∧ Slot.holds q.2 then (q.1, d.addDelim c dl q.2) else q)
    let d := ({ d with fret := { d.fret with slots := slots } }).keepBurst c dl
    match hit with
    | some (s, i) =>
      let d := d.setBrx c { d.brx c with identified := true, lastTerm := some i.term, suspend := d.suspension c t s i }
      if disc || decide (i.term = x) then d else d.violation c x 0x09 0x9C8 0
    | none =>
      let d := d.setBrx c { d.brx c with identified := true, lastTerm := none, suspendDark := true }
      if late || d.inUnmapped c t then d else d.violation c x 0x01 0x968 0

/-! ### Light (R215, R216) -/

/-- What is left of spans when one more is cut out of them. -/
def cutSpan (x : Nat × Nat) (l : List (Nat × Nat)) : List (Nat × Nat) :=
  l.flatMap (fun p => [(p.1, min p.2 x.1), (max p.1 x.2, p.2)].filter (fun q => q.1 < q.2))

/-- Nanoseconds of a span outside all of the others. -/
def outsideNs (a e : Nat) (l : List (Nat × Nat)) : Nat :=
  ((l.foldl (fun r x => cutSpan x r) [(a, e)]).map (fun p => p.2 - p.1)).sum

/-- Nanoseconds that two spans share. -/
def overlapNs (a e : Nat) (x : Nat × Nat) : Nat := min e x.2 - max a x.1

/-- Every expected span and quiet window on a channel. -/
def Device.expectedSpans (d : Device) (c : Nat) : List (Nat × Nat) :=
  (d.ringSlots c).flatMap (fun s =>
    (s.items.map (fun i => d.expected c s i)) ++ (s.dark.filter (fun x => x.quiet)).map (fun x => (x.opens, x.closes)))

/-- Account light since the last accounting up to instant `t` (R215, R656). -/
def Device.accountLight (c t : Nat) (d : Device) : Device :=
  let b := d.brx c
  if b.light then
    let n := outsideNs b.outSince t (d.expectedSpans c)
    let d := d.setBrx c { b with outSince := t, outside := b.outside + (if b.identified then 0 else n) }
    if d.detects && !d.inUnmapped c t then d.count (chanPage c) 0x9A8 n else d
  else d

/-- The receiver begins to see light on channel `c` at `t` (R215): a break under 4 ns joins it to the light before. -/
def Device.lightOn (c t : Nat) (d : Device) : Device :=
  let b := d.brx c
  let last := (b.spans.getLast?.map (·.2)).getD 0
  let joined := decide (t < last + 4) && decide (b.spans ≠ [])
  let since := if joined then (b.spans.getLast?.map (·.1)).getD t else t
  let spans := if joined then b.spans.dropLast else b.spans
  let dark := b.suspendDark && decide (t < last + 8)
  d.setBrx c { b with light := true, lightSince := since, outSince := t, spans := spans, suspendDark := dark,
                      identified := joined && b.identified, lastTerm := if joined then b.lastTerm else none }

/-- The receiver measures the light of channel `c` no more from `t` on. -/
def Device.lightOff (c t : Nat) (d : Device) : Device :=
  let d := d.accountLight c t
  let b := d.brx c
  let spans := (b.spans ++ [(b.lightSince, t)]).filter (fun p => t ≤ p.2 + 1250000)
  d.setBrx c { b with light := false, spans := spans }

/-- What the receiver sees of the light on the lane follows whether it receives (R191): measured light begins and ends with reception. -/
def Device.seeLight (c : Nat) (d : Device) : Device :=
  let b := d.brx c
  let sees := b.lane && d.receiving c
  if sees == b.light then d else if sees then d.lightOn c d.now else d.lightOff c d.now

/-- SIGNAL_DETECT_CHANGE (R215, R216): light appears or ends on a channel's lane; where measured light ends, it is judged for an overrun. LIGHT shows it
whether or not the channel receives (R231). Where reception stops under light, no end of the light was seen, and none is judged (DESIGN CHOICE, log
entry 85). -/
def signalDetectChange (_t c : Nat) (on : Bool) (d : Device) : Device :=
  let d := if (d.brx c).light && !on then d.overrun c d.now else d
  ((d.setBrx c { d.brx c with lane := on }).wr (CH.LIGHT c) (b2n on)).seeLight c

/-- Whether light filled every guard of an upstream frame with at least two bursts (R216). -/
def Device.guardsLit (d : Device) (c : Nat) (s : Slot) : Bool :=
  let tm := d.timing c
  let is := s.items.filter (fun i => i.kind = .grant)
  let lit (i : Item) : Bool :=
    let w := i.start - tm.delim - i.preamble
    (d.lightSpans c).any (fun x => decide (x.1 ≤ d.wordNs c s i (w - tm.guard) ∧ d.wordNsUp c s i w ≤ x.2))
  s.mapped && decide (2 ≤ ((is.map (·.start)).eraseDups).length) && is.all lit

/-- CONTINUOUS_LIGHT (R216, code 0x03): light with no break of 4 ns for 125 us, or through every guard of an upstream
frame that holds at least two bursts. -/
def continuousLight (t c : Nat) (d : Device) : Device :=
  let b := d.brx c
  let full := (d.ringSlots c).any (fun s => d.guardsLit c s)
  if d.receiving c && b.light && (full || decide (b.lightSince + 125000 ≤ t)) && d.detects then
    ((d.count (chanPage c) 0x978 1).logPon c 0x03 0 3).setBrx c { b with isoDue := d.on (CH.ROGUE_AUTO c) }
  else d

/-- UPSTREAM_FRAME_END (R216, R227): the upstream frame of tree frame `k` has ended on channel `c`. -/
def upstreamFrameEnd (t c k : Nat) (d : Device) : Device :=
  if !d.receiving c then d
  else
    let d := d.accountLight c t
    let b := d.brx c
    let p := chanPage c
    let loud := decide (d.rdA (CH.UNSOL_LIGHT_NS c) < b.outside) && d.detects
    let run := if loud then b.unsolRun + 1 else 0
    let s := d.slot c k
    let held := s.mapped && decide (s.frame = k) && s.items.any (fun _ => true)
    let lit := (s.items.map (fun i => d.expected c s i)).any (fun e => (d.lightSpans c).any (fun l => 0 < overlapNs e.1 e.2 l))
    let los := if held && !lit then b.losRun + 1 else 0
    let due := b.isoDue || (d.on (CH.ROGUE_AUTO c) && decide (d.rdA (CH.ROGUE_CONFIRM_FRAMES c) ≤ run))
    let d := d.setBrx c { b with outside := 0, unsolRun := run, losRun := los, isoDue := due }
    let d := d.wr (CH.LOS c) (b2n (decide (d.rdA (CH.LOS_FRAMES c) ≤ los)))
    if loud then (d.count p 0x970 1).logPon c 0x02 0 (if due then 3 else 0) else d

/-- VLOG_CONSUMED (R235): a write releases entries, or is refused. -/
def vlogConsumed (_t : Nat) (m : Master) (v : Nat) (d : Device) : Device :=
  d.asMaster m .k1 0x000 (fun d =>
    if unread (d.rd DEV.VLOG_PRODUCED) (v % 8192) 8192 ≤ 4096 then d.wr DEV.VLOG_CONSUMED v else d.refuse 0x000)

/-! ### The end of a burst (R201 to R214) -/

/-- Whether the decoder, stopping after `max` iterations, leaves a codeword uncorrectable, or corrects it (R201). -/
def Codeword.bad (m : Nat) (w : Codeword) : Bool := match w.iters with | some n => decide (m < n) | none => true
def Codeword.mended (m : Nat) (w : Codeword) : Bool := !Codeword.bad m w && w.iters != some 0

/-- The codewords corrected, the uncorrectable ones, and the bits corrected. -/
def correctedOf (m : Nat) (ws : List Codeword) : Nat := (ws.filter (Codeword.mended m)).length
def uncorrectableOf (m : Nat) (ws : List Codeword) : Nat := (ws.filter (Codeword.bad m)).length
def bitsCorrectedOf (m : Nat) (ws : List Codeword) : Nat := ((ws.filter (Codeword.mended m)).map (·.bits)).sum

/-- The residual of a burst (R202). -/
def residualOf (m : Nat) (ws : List Codeword) (line : Nat) : Nat :=
  if uncorrectableOf m ws ≠ 0 then 0xFFFF else min 65534 (ceilDiv (bitsCorrectedOf m ws * 2 ^ 20) (32 * line))

/-- The report of a grant, where its map asked for one: good if its CRC checks and the first codeword, which holds it, decodes (R171, R203). -/
def GrantDecode.goodReport (m : Nat) (i : Item) (g : GrantDecode) : Option Nat :=
  match g.words with
  | w :: _ => if i.dbru && !Codeword.bad m w then g.report else none
  | [] => none

/-- An item with what was decoded of it. -/
def Item.withDecode (m : Nat) (g : GrantDecode) (i : Item) : Item :=
  { i with decoded := true, uncorrected := uncorrectableOf m g.words, report := GrantDecode.goodReport m i g }

/-- Write a peg entry. -/
def Device.setPeg (c n : Nat) (p : Peg) (d : Device) : Device :=
  { d with bursts := { d.bursts with pegs := Tbl.put {} d.bursts.pegs (512 * c + n) p } }

/-- Whether light held throughout the preamble of an item's burst. -/
def Device.preambleLit (d : Device) (c : Nat) (s : Slot) (i : Item) : Bool :=
  let w := i.start - (d.timing c).delim
  (d.lightSpans c).any (fun x => decide (x.1 ≤ d.wordNs c s i (w - i.preamble) ∧ d.wordNsUp c s i w ≤ x.2))

/-- Update the peg of terminal `x`, to which the burst was granted (R211); `lit` tells that light held throughout the preamble. -/
def Device.updatePeg (c x : Nat) (r : BurstRx) (k : RecKind) (res : Nat) (lit : Bool) (d : Device) : Device :=
  let n := x % 512
  let p := d.peg c n
  match k with
  | .received =>
    if res ≤ d.rdA (CH.PEG_MAX_RESIDUAL c) then
      (d.setPeg c n { w0 := r.w0 % 2 ^ 30, w1 := bits r.w1 0 18 + bits r.w1 18 8 * 2 ^ 18, phase := r.phase % 128, captured := true,
                      forceStale := false, frame := d.frame % 2 ^ 32, temp := d.pegTemp c, residual := res }).count (chanPage c) 0x938 1
    else d.setPeg c n { p with residual := res }
  | .damaged => d.setPeg c n { p with residual := res }
  | .noShow => if lit && r.stamp.isNone then d.setPeg c n { p with residual := 0xFFFF } else d
  | _ => d

/-- What the service channels say of an XGEM port (chapter 08): whether it is the terminal's, in an allocation of the burst, and whether its channel is
closed. -/
structure PortUse where
  known : Bool
  closed : Bool
  deriving DecidableEq, Repr

/-- The words of an XGEM frame with `n` bytes of payload (R101). -/
def xgemWords (n : Nat) : Nat := xgemBytes n / 4

/-- Whether a header's frame fits the `len` words of its interval (R204). -/
def XgemHdr.fits (len : Nat) (h : XgemHdr) : Bool := decide (h.at_ + xgemWords h.pli ≤ len)

/-- The uncorrectable codewords that a header's frame lies in (R157: 456 data words each), by number. -/
def XgemHdr.badWords (m : Nat) (ws : List Codeword) (h : XgemHdr) : List Nat :=
  let a := h.at_ / 456
  let b := (h.at_ + xgemWords h.pli - 1) / 456
  ((List.range (b + 1 - a)).map (fun n => a + n)).filter (fun j => match ws[j]? with | some w => Codeword.bad m w | none => false)

/-- The first codeword from `j` on that decodes. -/
def nextGood (m : Nat) (ws : List Codeword) (j : Nat) : Nat :=
  j + ((ws.drop j).takeWhile (Codeword.bad m)).length

/-- A delineated frame of terminal `x` (R204, R216, R228): passed to the crossing or dropped. -/
def passXgem (c x : Nat) (use : Nat → PortUse) (h : XgemHdr) (d : Device) : Device :=
  let p := chanPage c
  match h.port with
  | none => d
  | some port =>
    let u := use port
    if u.closed then d.count 0x001 0x938 1
    else if !u.known || !d.onCourse x c then d.violation c x 0x05 0x988 0
    else if !h.room then d.count p 0x9B0 1
    else if d.capo && !d.fenced then d.count p 0x928 1 else d

/-- The walk of one allocation interval of `len` data words from word `pos` (R204, R205): while it hunts, headers that are not clean or do not fit are
passed over. The frame whose header fails is the one lost to the hunt (DEDUCED, log entry 86). -/
def walkInterval (m c x len : Nat) (ws : List Codeword) (use : Nat → PortUse) : List XgemHdr → Nat → Bool → Device → Device
  | [], _, _, d => d
  | h :: r, pos, hunt, d =>
    let next := walkInterval m c x len ws use r
    if h.at_ < pos ∨ (hunt = false ∧ h.at_ ≠ pos) then next pos hunt d
    else if hunt ∧ (h.hec ≠ .clean ∨ !XgemHdr.fits len h) then next pos true d
    else if h.hec = .bad then next (pos + 1) true (d.count (chanPage c) 0x930 1)
    else if !XgemHdr.fits len h then d.violation c x 0x08 0x990 0
    else
      match XgemHdr.badWords m ws h with
      | j :: _ => next (456 * nextGood m ws j) true d
      | [] => next (h.at_ + xgemWords h.pli) false (passXgem c x use h d)

/-- An upstream PLOAM message of terminal `x` with the result of its checks (R203, R216): a malformed reply is asked for again at most 3 times. -/
def ploamUp (c x : Nat) (asked good : Bool) (d : Device) : Device :=
  let d := d.count (chanPage c) 0x998 1
  let d := if asked then d else d.violation c x 0x08 0x990 0
  let tries (n : Nat) (d : Device) : Device := { d with rng := { d.rng with ploamTries := Tbl.put 0 d.rng.ploamTries x n } }
  if good then tries 0 d
  else
    let d := d.violation c x 0x07 0x9A0 1
    let n := Tbl.getD d.rng.ploamTries x 0
    if n < 3 && d.detects then tries (n + 1) { d with rng := { d.rng with ploamAsk := (d.rng.ploamAsk ++ [x]).eraseDups } } else d

/-- A standby's shadow sample from a burst of a committed map (R252): the offset of a stamp on the terminal's home channel, taken where it lies within
half a frame of the expected one (DEDUCED, log entry 86). -/
def Device.shadowSample (c : Nat) (s : Slot) (i : Item) (stamp : Nat) (d : Device) : Device :=
  let w := wordsPerFrame s.rate
  let off := nearest ((stamp : Int) * w - d.wordAtX c s i.start) w
  if d.home i.term = some c ∧ i.kind = .grant ∧ off.natAbs ≤ 62500 then
    let old := Tbl.getD d.rng.shadow i.term []
    let l := (old ++ [(stamp, off)])
    let l := l.drop (l.length - d.rdA RGU.DRIFT_AVG)
    { d with rng := { d.rng with shadow := Tbl.set d.rng.shadow i.term l } }
  else d

/-- One UNMAPPED record (R177): the burst `r` on channel `c`, stamped `t`. -/
def Device.postUnmapped (c t x unc words : Nat) (d : Device) : Device :=
  let d := (d.count 0x1B5 0x840 1).count 0x1B5 0x870 words
  d.ringWrite { handle := d.termHandle x, kind := .unmapped, forced := false, report := none, chan := c,
                frame := d.upFrame (treeOf c) t % 65536, offset := none, uncorrected := min 255 unc }

/-- Keep what the decoder found on the items of a map. -/
def Slot.decoded (m : Nat) (s : Slot) (gs : List (Nat × GrantDecode)) : Slot :=
  { s with items := (List.range s.items.length).filterMap (fun n =>
      (s.items[n]?).map (fun i =>
        match gs.find? (fun g => g.1 = n) with
        | some g => Item.withDecode m g.2 i
        | none => i)) }

/-- The outcome of a burst of an item on a standby (R213): by the terminal its header names and its decode, whatever its offset. -/
def Device.standbyKind (d : Device) (c : Nat) (i : Item) (r : BurstRx) : RecKind :=
  match r.stamp with
  | none => .noShow
  | some t =>
    match d.bursts.kept.find? (fun q => decide (q.chan = c ∧ q.x.stamp = t)) with
    | some q => if r.term ≠ i.term then .noShow else if q.x.clean && decide (i.uncorrected = 0) then .received else .damaged
    | none => .noShow

/-- The outcome of a burst for one of its items: by the evidence held, or on a standby by its header. -/
def Device.burstKind (d : Device) (c : Nat) (s : Slot) (i : Item) (r : BurstRx) : RecKind :=
  if d.rd MRU.ROLE = 2 then d.standbyKind c i r else (d.judge c s i).1

/-- Walk a burst (R203): its PLOAM message, then each allocation interval in map order. An answer in a discovery window has no interval. -/
def walkBurst (m c : Nat) (r : BurstRx) (disc : Bool) (use : List Nat → Nat → PortUse) (is : List (Item × GrantDecode)) (d : Device) : Device :=
  let asked := disc || is.any (fun p => p.1.ploam || decide (p.1.kind ≠ .grant))
  let d := d.whenSome r.ploam (fun good d => if disc then d.count (chanPage c) 0x998 1 else ploamUp c r.term asked good d)
  let grants := is.filter (fun p => p.1.kind = .grant)
  forEach grants (fun p d =>
    walkInterval m c r.term p.1.words p.2.words (use (grants.map (fun q => q.1.alloc))) p.2.hdrs p.2.first false d) d

/-- BURST_END of a burst of map `r.frame` (R201 to R211). -/
def Device.mappedEnd (c : Nat) (r : BurstRx) (use : List Nat → Nat → PortUse) (d : Device) : Device :=
  let m := d.rdA (CH.LDPC_MAX_ITER c)
  let s := Slot.decoded m (d.slot c r.frame) r.grants
  let d := d.setSlot c r.frame s
  let is := r.grants.filterMap (fun g => (s.items[g.1]?).map (fun i => (i, g.2)))
  match is with
  | [] => d
  | (i0, _) :: _ =>
    let disc := match i0.kind with | .discovery _ _ => true | _ => false
    let kinds := is.map (fun p => d.burstKind c s p.1 r)
    let k : RecKind := if kinds.contains .damaged then .damaged else kinds.headD .noShow
    let res := residualOf m (r.grants.flatMap (fun g => g.2.words)) ((is.map (fun p => p.1.line)).sum)
    let d := if disc then d else d.updatePeg c i0.term r k res (d.preambleLit c s i0)
    let mine := match k with | .received => true | .damaged => true | _ => false
    let inTime := match r.stamp with | some t => i0.delims.any (fun x => decide (x.stamp = t)) | none => false
    let d := match r.stamp with
      | some t => if d.rd MRU.ROLE = 2 ∧ mine then d.shadowSample c s i0 t else d
      | none => d
    if mine || (inTime && (disc || (decide (r.term ≠ i0.term) && decide (k = .noShow)))) then walkBurst m c r disc use is d else d

/-- BURST_END (R201 to R211): what a burst on channel `c` came to. `use` gives the service channel of a port among the allocations of the burst. -/
def burstEnd (c : Nat) (r : BurstRx) (use : List Nat → Nat → PortUse) (d : Device) : Device :=
  if !d.receiving c then d
  else
    let p := chanPage c
    let m := d.rdA (CH.LDPC_MAX_ITER c)
    let ws := r.grants.flatMap (fun g => g.2.words) ++ r.loose
    let d := ((d.count p 0x918 (correctedOf m ws)).count p 0x920 (uncorrectableOf m ws)).countIf (!r.bip) p 0x9C0
    let s := d.slot c r.frame
    if s.mapped ∧ s.frame = r.frame ∧ r.grants ≠ [] then d.mappedEnd c r use
    else
      match r.stamp with
      | none => d
      | some t =>
        let words := r.looseLine - 84 * ceilDiv r.looseLine 540
        let unc := uncorrectableOf m r.loose
        if d.inUnmapped c t then d.postUnmapped c t r.term unc words
        else
          let ks := d.bursts.kept.map (fun q => if q.chan = c ∧ q.x.stamp = t then { q with ended := true, words := words, unc := unc } else q)
          { d with bursts := { d.bursts with kept := ks } }

/-! ### Rogue isolation (R222 to R226) -/

/-- The terminals in operation on channel `c`, in index order (R223). -/
def Device.operatingOn (d : Device) (c : Nat) : List Nat :=
  (d.rng.terms.filter (fun p => termTree p.1 = treeOf c && p.2.state = 3 && (d.members p.1).contains c)).map (·.1)

/-- ROGUE_ISOLATION_START (R222). An isolation that comes due while one runs starts after it (DESIGN CHOICE, log entry 24). -/
def rogueIsolationStart (_t c : Nat) (d : Device) : Device :=
  let b := d.brx c
  if b.isoDue && d.on (CH.ROGUE_AUTO c) && b.iso.isNone && d.detects then
    let b' := { b with isoDue := false, unsolRun := 0, iso := some { suspects := d.operatingOn c, step := .first }, quietAsk := some d.now }
    ((d.setBrx c b').wr (CH.ROGUE_ACTIVE c) 1).count (chanPage c) 0x9B8 1
  else d

/-- An isolation ends: the extra discovery windows of R225 follow, for what it enabled and what one before it enabled and is unheard. -/
def Device.endIsolation (c : Nat) (enabled : List Nat) (d : Device) : Device :=
  let b := d.brx c
  (d.setBrx c { b with iso := none, extraWindows := 16, extraNext := 0, extraFor := (b.extraFor ++ enabled).eraseDups }).wr (CH.ROGUE_ACTIVE c) 0

/-- An isolation ends without a culprit (R223, R226): a quiet window is due every 1,000 tree frames from now on. -/
def Device.isoUnresolved (c : Nat) (enabled : List Nat) (d : Device) : Device :=
  let d := (d.logPon c 0x11 0 0).endIsolation c enabled
  d.setBrx c { d.brx c with checkUnresolved := some (d.treeFrame (treeOf c) d.now + 1000) }

/-- The next round: disable half of the suspects, or the last one, and ask for a quiet window one tree frame later (R223). With no suspect at all there
is no last one: the isolation ends unresolved (DESIGN CHOICE, log entry 24). -/
def Device.isoRound (c : Nat) (sus en : List Nat) (d : Device) : Device :=
  let b := d.brx c
  match sus with
  | [] => d.isoUnresolved c en
  | [x] => (d.disableTerm x).setBrx c { b with iso := some { suspects := [x], step := .last x, enabled := en }, quietAsk := some (d.now + 125000) }
  | _ =>
    let h := sus.take ((sus.length + 1) / 2)
    (forEach h Device.disableTerm d).setBrx c { b with iso := some { suspects := sus, step := .half h, enabled := en }, quietAsk := some (d.now + 125000) }

/-- The verdict of an isolation's quiet window (R223). -/
def Device.isoVerdict (c : Nat) (iso : Isolation) (lit : Bool) (d : Device) : Device :=
  match iso.step with
  | .first => if lit then d.isoRound c iso.suspects iso.enabled else d.endIsolation c iso.enabled
  | .half h =>
    let d := forEach h Device.enableTerm d
    let sus := if lit then iso.suspects.filter (fun x => !h.contains x) else h
    d.isoRound c sus ((iso.enabled ++ h).eraseDups)
  | .last x =>
    if lit then (d.enableTerm x).isoUnresolved c ((iso.enabled ++ [x]).eraseDups)
    else (d.logPon c 0x10 (d.termHandle x) 2).endIsolation c (iso.enabled.filter (fun y => y ≠ x))

/-- QUIET_WINDOW_RESULT (R223, R226): the channel's quiet window has passed and its measured light decides. One in which the channel did not receive
measured nothing and is asked for again (DESIGN CHOICE, log entry 24). -/
def quietWindowResult (t c : Nat) (d : Device) : Device :=
  let b := d.brx c
  match b.qw with
  | none => d
  | some (o, e, check) =>
    if t < e then d
    else if !d.receiving c then
      d.setBrx c (if check then { b with qw := none, checkAsk := some t } else { b with qw := none, quietAsk := b.iso.map (fun _ => t) })
    else
      let n := ((d.lightSpans c).map (overlapNs o e)).sum
      let lit := decide (d.rdA (CH.UNSOL_LIGHT_NS c) < n)
      let d := (d.setBrx c { b with qw := none }).wr (CH.QW_LIGHT_NS c) n
      if check then
        (d.setBrx c { d.brx c with checkUnresolved := if lit then b.checkUnresolved else none }).wr (CH.ROGUE_UNRESOLVED c) (b2n lit)
      else
        match b.iso with
        | none => d
        | some iso => d.isoVerdict c iso lit

/-- ROGUE_UNRESOLVED_CHECK (R226): a quiet window every 1,000 tree frames after an unresolved isolation. -/
def rogueUnresolvedCheck (t c : Nat) (d : Device) : Device :=
  let b := d.brx c
  match b.checkUnresolved with
  | some k => if k ≤ d.treeFrame (treeOf c) t then d.setBrx c { b with checkAsk := some t, checkUnresolved := some (k + 1000) } else d
  | none => d

/-- Clearing CH_EN ends a running isolation; the terminals it holds disabled wait for the channel's next frame, and its extra discovery windows follow
(R225, R226). -/
def Device.stopIsolation (c : Nat) (d : Device) : Device :=
  match (d.brx c).iso with
  | none => d
  | some iso =>
    let held := match iso.step with | .first => [] | .half h => h | .last x => [x]
    let d := d.endIsolation c (iso.enabled ++ held)
    let b := d.brx c
    d.setBrx c { b with enableLater := (b.enableLater ++ held).eraseDups, quietAsk := none }

/-- The Burst_Profile messages of both profiles of a channel (R196): preamble lengths of its timing and its delimiter. -/
def Device.burstProfiles (c : Nat) (d : Device) : Device :=
  let tm := d.timing c
  let lo := d.rd (CH.DELIM_LO c)
  let hi := d.rd (CH.DELIM_HI c)
  (d.ploam c (.burstProfile 0 tm.short lo hi)).ploam c (.burstProfile 1 tm.long lo hi)

/-- BURST_PROFILE_QUEUE (R196): the firmware queues the Burst_Profile messages of both profiles. -/
def burstProfileQueue (t c : Nat) (d : Device) : Device :=
  let b := d.brx c
  if d.on (TPE.TREE_EN (treeOf c)) && d.on (CH.RX_EN c) then
    let k := d.treeFrame (treeOf c) t
    let again := d.on (CH.CH_EN c) && (d.cfr c).sending
      && (match b.profileFrom with | some f => decide (f < k) && decide ((k - f) % 1000 = 0) | none => false)
    if !b.profileDone || again then
      (d.setBrx c { b with profileDone := true }).burstProfiles c
    else d
  else d.setBrx c { b with profileDone := false }

end Sys2Proof.Machine
end

