-- ==== Sys2Proof/Machine/Ranging.lean ====
section
/-!
DEFINITION. Ranging and the terminal lifecycle (chapter 06), and the posting of completion records, which feed it
(R168 to R174).
-/

namespace Sys2Proof.Machine

/-! ### Terminals -/

/-- Change one channel's ranging state of a terminal. -/
def Device.modWc (x w : Nat) (f : TermWc → TermWc) (d : Device) : Device :=
  match d.term? x with
  | some t => d.setTerm x { t with wc := t.wc.set w (f (t.wc.getD w {})) }
  | none => d

/-- Whether any item of a terminal is outstanding on the Fretboard. -/
def Device.termBusy (d : Device) (x : Nat) : Bool :=
  d.fret.slots.any (fun p => Slot.holds p.2 && (Slot.open_ p.2).any (fun i => i.term = x))
    || d.fret.plans.any (fun p => p.2.items.any (fun i => i.term = x))

/-- Return a terminal to AWAITING_SN with Deactivate_ONU-ID (R241). -/
def Device.deactivate (x : Nat) (d : Device) : Device :=
  let d := d.ploam (d.ploamChan x) (.deactivate x)
  let d := { d with rng := { d.rng with wants := d.rng.wants.filter (fun r => r.term ≠ x) } }
  let d := forEach (List.range 4) (fun w d => d.modWc x w (fun y => { y with acked := false, awaiting := false, stopped := false, fails := 0, due := none })) d
  d.setState x 1

/-- The frames in which no drift sample is taken after a Ranging_Time: HORIZON + 2 (R249). -/
def Device.quietSpan (d : Device) (t : Nat) : Nat := horizonOf (d.upfDelay t) + 2

/-- Send Ranging_Time for a channel and start its quiet time (R247 to R249). -/
def Device.rangingTime (x c : Nat) (delta : Int) (d : Device) : Device :=
  let t := treeOf c
  let q := d.treeFrame t d.now + d.quietSpan t
  let d := d.modWc x (c % 4) (fun y => { y with samples := [], quietUntil := q })
  let e := match d.term? x with | some y => (y.wc.getD (c % 4) {}).eqd | none => 0
  let d := d.ploam c (.rangingTime x e delta)
  { d with rng := { d.rng with ploamAsk := (d.rng.ploamAsk ++ [x]).eraseDups } }

/-- Ask for a ranging grant. -/
def Device.wantRange (r : RangeReq) (d : Device) : Device :=
  { d with rng := { d.rng with wants := d.rng.wants ++ [r] } }

/-- The channels of a terminal that are ranged (R247): its course members, or its home channel alone. -/
def Device.rangeTargets (d : Device) (x : Nat) : List Nat := if d.courseExt x then d.members x else (d.home x).toList

/-- Ask for the ranging of channels of a terminal within 2 us of its measured round trip (R247). -/
def Device.rangeOn (x : Nat) (cs : List Nat) (d : Device) : Device :=
  match d.term? x with
  | none => d
  | some t =>
    forEach cs (fun c d =>
      let d := d.modWc x (c % 4) (fun y => { y with acked := false, stopped := false, fails := 0 })
      d.wantRange { term := x, chan := c, lo := t.rho - 2000, hi := t.rho + 2000 }) d

/-- Whether a terminal is being ranged on a channel: a request waits, a window is fixed, or a ranging grant is outstanding. -/
def Device.ranging (d : Device) (x c : Nat) : Bool :=
  d.rng.wants.any (fun r => decide (r.term = x ∧ r.chan = c))
    || d.rng.windows.any (fun w => decide (w.chan = c) && w.ranging.any (fun r => decide (r.term = x)))
    || d.fret.slots.any (fun p => decide (p.1 / 8 = c) && p.2.items.any (fun i => decide (i.term = x ∧ i.kind ≠ .grant ∧ i.done = none)))

/-- Range the channels of an OPERATING terminal that are not ranged, and not being ranged (R247). -/
def Device.rangeAgain (x : Nat) (d : Device) : Device :=
  match d.term? x with
  | none => d
  | some t =>
    if t.state = 3 then
      d.rangeOn x ((d.rangeTargets x).filter (fun c =>
        let y := t.wc.getD (c % 4) {}
        !y.acked && !y.awaiting && !d.ranging x c))
    else d

/-- Ranging of a terminal on a channel has failed RANGE_RETRIES times in a row, or succeeds: SUFi is raised while it has failed on any channel
(R260). -/
def Device.markSufi (x w : Nat) (on : Bool) (d : Device) : Device :=
  let d := d.modWc x w (fun y => { y with sufi := on })
  match d.term? x with
  | none => d
  | some t => if t.wc.any (·.sufi) then d.raiseDefect x 2 else d.clearDefect x 2

/-- A measured round trip on channel `c` (R239, R247). -/
def Device.measured (x c rho : Nat) (d : Device) : Device :=
  match d.term? x with
  | none => d
  | some t =>
    let home := decide (t.state = 2)
    let u := d.upfDelay (treeOf c)
    if u < rho then
      let d := (d.count 0x1B6 0x838 1).raiseDefect x 4
      if home then d.deactivate x else d.modWc x (c % 4) (fun y => { y with stopped := true })
    else
      let d := d.count 0x1B6 0x828 1
      let d := ((d.markSufi x (c % 4) false).clearDefect x 4).clearDefect x 3
      let d := d.modWc x (c % 4) (fun y => { y with eqd := u - rho, cum := 0, awaiting := true, fails := 0 })
      let d := match d.term? x with
        | some t' => d.setTerm x { t' with rangeFails := 0, rho := if d.home x = some c then rho else t.rho }
        | none => d
      d.rangingTime x c ((u : Int) - rho)

/-- A failed ranging grant (R241, R247). -/
def Device.rangeFailed (x c lo hi : Nat) (d : Device) : Device :=
  match d.term? x with
  | none => d
  | some t =>
    let n := min 15 (t.rangeFails + 1)
    let lim := d.rdA RGU.RANGE_RETRIES
    let d := (d.count 0x1B6 0x830 1).setTerm x { t with rangeFails := n }
    let again : RangeReq := { term := x, chan := c, lo := lo, hi := hi }
    if t.state = 2 then
      if lim ≤ n then (d.markSufi x (c % 4) true).deactivate x else d.wantRange again
    else
      let f := (t.wc.getD (c % 4) {}).fails + 1
      let d := d.modWc x (c % 4) (fun y => { y with fails := f, stopped := decide (lim ≤ f) })
      if lim ≤ f then d.markSufi x (c % 4) true else d.wantRange again

/-! ### Keeping the range (R248 to R250) -/

/-- A drift correction by `mean` ns on channel `c` (R248, R250). -/
def Device.correct (x c : Nat) (mean : Int) (d : Device) : Device :=
  match d.term? x with
  | none => d
  | some t =>
    let y := t.wc.getD (c % 4) {}
    let e : Int := (y.eqd : Int) - mean
    if e < 0 then
      (d.count 0x1B6 0x838 1).raiseDefect x 4
    else
      let d := d.modWc x (c % 4) (fun y => { y with eqd := e.toNat, cum := y.cum - mean })
      let d := ((d.count 0x1B6 0x840 1).clearDefect x 4).rangingTime x c (-mean)
      if d.rdA RGU.DRIFT_LIMIT_NS < (y.cum - mean).natAbs then d.raiseDefect x 3 else d

/-- One drift sample (R248, R249). A LATE record's correction that is due within the quiet time is deferred to its end, the last one counting (R262). -/
def Device.driftSample (x c : Nat) (off : Int) (late : Bool) (d : Device) : Device :=
  match d.term? x with
  | none => d
  | some t =>
    let y := t.wc.getD (c % 4) {}
    if d.treeFrame (treeOf c) d.now < y.quietUntil then
      if late then d.modWc x (c % 4) (fun y => { y with due := some off }) else d
    else if late then d.correct x c off
    else
      let n := d.rdA RGU.DRIFT_AVG
      let l := y.samples ++ [off]
      let l := l.drop (l.length - n)
      let d := d.modWc x (c % 4) (fun y => { y with samples := l })
      if l.length = n ∧ n * d.rdA RGU.DRIFT_THRESH_NS < (l.sum).natAbs then d.correct x c (nearest l.sum n) else d

/-- The deferred corrections of a tree's terminals whose quiet time ends by its tree frame `k` (R262). -/
def Device.dueCorrections (tree k : Nat) (d : Device) : Device :=
  let due := (d.rng.terms.filter (fun p => termTree p.1 = tree && p.2.state = 3)).flatMap (fun p =>
    (List.range 4).filterMap (fun w =>
      let y := p.2.wc.getD w {}
      if y.quietUntil ≤ k then y.due.map (fun m => (p.1, 4 * tree + w, m)) else none))
  if d.on RGU.RGU_EN then
    forEach due (fun e d => (d.modWc e.1 (e.2.1 % 4) (fun y => { y with due := none })).correct e.1 e.2.1 e.2.2) d
  else d

/-- LOBi (R260): the terminal's grants of one tree frame on its home channel; any grant received clears it. -/
def Device.lobRecord (x c k : Nat) (kind : RecKind) (s : Slot) (d : Device) : Device :=
  let home := decide (d.home x = some c)
  match d.term? x with
  | none => d
  | some t =>
    match kind with
    | .received | .damaged => (if home then d.setTerm x { t with lobRun := 0, lobFrame := k } else d).clearDefect x 0
    | .noShow =>
      let mine := s.items.filter (fun i => i.term = x && i.kind = .grant)
      if home && mine.all (fun i => i.done = some .noShow) then
        let run := t.lobRun + 1
        let d := d.setTerm x { t with lobRun := run, lobFrame := k }
        if d.rdA RGU.LOB_FRAMES ≤ run ∧ ¬ bit t.defects 0 then (d.raiseDefect x 0).count 0x1B6 0x848 1 else d
      else d
    | _ => if home then d.setTerm x { t with lobRun := 0, lobFrame := k } else d

/-- The terminals without the instant at which their LOBi began. -/
def Ranging.bareTerms (r : Ranging) : Tbl Term := r.terms.map (fun e => (e.1, { e.2 with lobSince := 0 }))

/-- The instant at which LOBi began is written into the terminals that `p` picks. -/
def Device.lobFrom (p : Nat × Term → Bool) (n : Nat × Term → Nat) (d : Device) : Device :=
  { d with rng := { d.rng with terms := d.rng.terms.map (fun e => if p e then (e.1, { e.2 with lobSince := n e }) else e) } }

/-- LOBi begins to read 1 after a command, raised or no longer suppressed: the tree frames of LOST_FRAMES count from now (R241, R260). -/
def Device.noteLob (d0 : Device) (d : Device) : Device :=
  d.lobFrom (fun e => bit e.2.defects 0 && d.lobi e.1 && !d0.lobi e.1) (fun e => d.treeFrame (termTree e.1) d.now)

/-! ### Posting a record (R168 to R174) -/

/-- What a posted record does to the terminal's ranging (R171, R241, R247, R248). -/
def Device.rangeRecord (c : Nat) (s : Slot) (i : Item) (kind : RecKind) (x : Option Delim) (d : Device) : Device :=
  let w := wordsPerFrame s.rate
  match i.kind with
  | .discovery _ _ => d
  | .ranging lo hi =>
    match d.term? i.term with
    | none => d
    | some t =>
      let live := decide (t.state = 2 ∨ t.state = 3)
      if !live then d
      else
        match kind, x with
        | .received, some y | .damaged, some y =>
          if kind = .received ∨ y.clean then
            let base := (d.treeFrameStart (treeOf c) s.frame : Int) * w + (i.start : Int) * 125000
            d.measured i.term c (nearest ((y.stamp : Int) * w - base) w).toNat
          else d.rangeFailed i.term c lo hi
        | _, _ => d.rangeFailed i.term c lo hi
  | .grant =>
    match d.term? i.term with
    | none => d
    | some t =>
      if t.state ≠ 3 then d
      else
        let d := d.lobRecord i.term c s.frame kind s
        match x with
        | some y =>
          if d.on RGU.RGU_EN && kind != .collided then
            d.driftSample i.term c (nearest ((y.stamp : Int) * w - d.expectX c s i) w) (decide (kind = .late))
          else d
        | none => d

/-- GRANT_RECORD_POST (R168 to R175): the record of item `i` of map `k` on channel `c` is decided and posted. `g` is what was decoded of its own
line length by now, where its burst has not ended (R201). Nothing is posted before the settle point, twice, or by a standby (R170, R176). -/
def grantRecordPost (t c k i : Nat) (g : GrantDecode) (d : Device) : Device :=
  let s := d.slot c k
  match s.items[i]? with
  | none => d
  | some it =>
    let it := if it.decoded then it else Item.withDecode (d.rdA (CH.LDPC_MAX_ITER c)) g it
    let w : Int := wordsPerFrame s.rate
    if s.st ≠ .inFlight ∨ s.frame ≠ k ∨ it.done.isSome ∨ d.rd MRU.ROLE = 2 ∨ (t : Int) * w < d.settleX c s it then d
    else
      let (kind, x) := d.judge c s it
      let d := d.count 0x1B5 (recCounter kind) 1
      let good := match kind with | .received => true | .damaged => true | _ => false
      let rep := if good then it.report else none
      let repOk := match rep, Tbl.get? d.fret.allocs it.alloc with
        | some r, some a => if r ≤ a.reportMax then some r else none
        | r, _ => r
      let off := x.map (fun y => nearest ((y.stamp : Int) * w - d.expectX c s it) (wordsPerFrame s.rate))
      let r : Rec := ⟨it.handle, kind, false, repOk, c, k % 65536, off, min 255 it.uncorrected⟩
      let d := d.ringWrite r
      let d := if kind = .late then d.count 0x1B5 0x870 it.words else d
      let d := match rep with
        | some r => d.applyReport c s it r
        | none => d
      let items := s.items.set i { it with done := some kind }
      let s' := { s with items := items, st := if items.all (fun j => j.done.isSome) then .closed else s.st }
      (d.setSlot c k s').rangeRecord c s' it kind x

/-! ### Reclaim and seal (R140, R143, R144) -/

/-- Close the items of a slot that have no record, by force (R144). -/
def Device.forceClose (c : Nat) (s : Slot) (d : Device) : Device :=
  ((List.range s.items.length).foldl (fun (acc : Slot × Device) n =>
    let (s, d) := acc
    match s.items[n]? with
    | none => acc
    | some i =>
      if i.done.isSome then acc
      else
        let s := { s with items := s.items.set n { i with done := some .noShow } }
        let d := (d.count 0x1B5 0x828 1).count 0x1B5 0x848 1
        let d := d.ringWrite { handle := i.handle, kind := .noShow, forced := true, report := none, chan := c, frame := s.frame % 65536,
                               offset := none, uncorrected := 0 }
        (s, d.rangeRecord c s i .noShow none)) (s, d)).2

/-- Reclaim the slot of tree frame `f - 7` as the OPEN slot of tree frame `f + 1` (R143, R144). -/
def Device.reclaim (c f : Nat) (d : Device) : Device :=
  let s := d.slot c (f + 1)
  let d := if s.st = .inFlight ∧ d.rd MRU.ROLE ≠ 2 then d.forceClose c s else d
  d.setSlot c (f + 1) { frame := f + 1 }

/-- MAP_SEAL (R140, R143, R166): reclaim, then admit and seal the built map of channel `c`. -/
def mapSeal (_t c : Nat) (d : Device) : Device :=
  let t := treeOf c
  let f := d.treeFrame t d.now + 1
  let d := d.reclaim c f
  match Tbl.get? d.fret.plans c with
  | none => d
  | some p =>
    let d := { d with fret := { d.fret with plans := Tbl.erase d.fret.plans c } }
    if p.frame = f ∧ ¬ d.fenced ∧ d.capo ∧ ¬ d.pastFence t f then
      let (items, d) := d.admitPlan t p
      let d := d.setSlot c f { st := .sealed, frame := f, mapped := true, items := items, dark := p.dark,
                               sealedAt := d.now, upfDelay := p.upfDelay, rate := p.rate }
      let disc := (items.filter (fun i => match i.kind with | .discovery _ _ => true | _ => false)).length
      let d := d.count 0x1B6 0x810 disc
      let own := if d.fret.took && (Tbl.get? d.fret.firstOwn c).isNone then Tbl.set d.fret.firstOwn c f else d.fret.firstOwn
      let d := { d with fret := { d.fret with firstOwn := own } }
      let ws := d.rng.windows.filter (fun w => w.chan ≠ c || d.now < w.closes)
      let d := { d with rng := { d.rng with windows := ws } }
      forEach items Device.takeSealed d
    else d

/-! ### Discovery and activation (R246, R247) -/

/-- Write the discovery list (R246, R268). -/
def Device.discover (c vendor serial q : Nat) (d : Device) : Device :=
  let p := d.rd RGU.DISC_PRODUCED
  let live := unreadIdx p (d.rd RGU.DISC_CONSUMED) 512
  let same := live.find? (fun n => match Tbl.get? d.rng.disc n with
    | some e => decide (e.vendor = vendor ∧ e.serial = serial)
    | none => false)
  match same with
  | some n =>
    let disc := Tbl.modify d.rng.disc n (fun e => { e with seen := min 15 (e.seen + 1) })
    { d with rng := { d.rng with disc := disc } }
  | none =>
    if live.length = 512 then d.count 0x1B6 0x820 1
    else
      let e : DiscEntry := { vendor := vendor, serial := serial, frame := d.frame % 2 ^ 32, chan := c, q := q,
                             treeFrame := d.treeFrame (treeOf c) d.now }
      let d := { d with rng := { d.rng with disc := Tbl.set d.rng.disc (p % 512) e } }
      d.wr RGU.DISC_PRODUCED (p + 1)

/-- Move a terminal to RANGING from a hearing at `q` on channel `c`, with the Burst_Profile messages of its activation (R196, R241, R246, R247,
R257). Its home channel is ranged first: that channel, or its course's home (R109, R247). -/
def Device.startRanging (x c q : Nat) (d : Device) : Device :=
  match d.term? x with
  | none => d
  | some t =>
    let d := d.setTerm x { t with homeWc := c % 4, homeSet := true, rangeFails := 0 }
    let d := ((d.setState x 2).ploam c (.assignOnuId x)).burstProfiles c
    let r := d.rdA RGU.RAND_SPAN_US * 1000
    d.wantRange { term := x, chan := (d.home x).getD c, lo := q - 2000 - r, hi := q + 2000 }

/-- Whether hearing a terminal on channel `c` would move its fixed load where it does not fit (R246). -/
def Device.moveBreaks (d : Device) (x c : Nat) : Bool :=
  match d.term? x with
  | none => false
  | some t =>
    t.homeSet && !(d.course x).valid && d.fret.allocs.any (fun p => p.2.term = x && p.2.cls = 0)
      && !(d.setTerm x { t with homeWc := c % 4, homeSet := true }).fixedOk c

/-- A terminal has been heard: no isolation of its tree waits for it any more (R225). -/
def Device.heardAgain (tree x : Nat) (d : Device) : Device :=
  forEach (List.range 4) (fun w d =>
    let c := 4 * tree + w
    d.setBrx c { d.brx c with extraFor := (d.brx c).extraFor.filter (fun y => y ≠ x) }) d

/-- SERIAL_NUMBER_RECEIVED (R246): a clean serial number stamped `t` in the discovery window of map `k` on channel
`c`. -/
def serialNumberReceived (t c k vendor serial : Nat) (d : Device) : Device :=
  let s := d.slot c k
  match s.items.find? (fun i => match i.kind with | .discovery _ _ => true | _ => false) with
  | none => d
  | some i =>
    if ¬ (s.mapped ∧ s.frame = k) ∨ !d.receiving c then d
    else
      let w := wordsPerFrame s.rate
      let base := (d.treeFrameStart (treeOf c) k : Int) * w + (i.start : Int) * 125000
      let q := (nearest ((t : Int) * w - base) w).toNat
      let d := d.count 0x1B6 0x818 1
      match d.rng.terms.find? (fun p => p.2.vendor = vendor && p.2.serial = serial) with
      | some (x, y) =>
        let d := d.heardAgain (treeOf c) x
        if y.state = 1 ∧ termTree x = treeOf c ∧ ¬ d.moveBreaks x c then d.startRanging x c q else d.discover c vendor serial q
      | none => d.discover c vendor serial q

/-- RANGING_TIME_ACK (R247): terminal `x` acknowledges Ranging_Time on channel `c`. On its home channel that makes it OPERATING, and its other
members are ranged. -/
def rangingTimeAck (_t x c : Nat) (d : Device) : Device :=
  match d.term? x with
  | none => d
  | some t =>
    if (t.wc.getD (c % 4) {}).awaiting ∧ termTree x = treeOf c then
      let d := d.modWc x (c % 4) (fun y => { y with awaiting := false, acked := true })
      if d.home x ≠ some c then d
      else if t.state = 2 then (d.setState x 3).rangeOn x ((d.rangeTargets x).filter (fun e => e ≠ c))
      else d.rangeAgain x
    else d

/-- LOST_TIMEOUT (R241): LOBi has held for LOST_FRAMES tree frames. -/
def lostTimeout (t x : Nat) (d : Device) : Device :=
  match d.term? x with
  | none => d
  | some y =>
    if y.state = 3 ∧ d.lobi x ∧ y.lobSince + d.rdA RGU.LOST_FRAMES ≤ d.treeFrame (termTree x) t then
      (d.count 0x1B6 0x850 1).deactivate x
    else d

/-- DISC_CONSUMED (R264): a write releases entries, or is refused. -/
def discConsumed (_t : Nat) (m : Master) (v : Nat) (d : Device) : Device :=
  d.asMaster m .k1 0x1B6 (fun d =>
    if unread (d.rd RGU.DISC_PRODUCED) (v % 1024) 1024 ≤ 512 then
      d.wr RGU.DISC_CONSUMED v
    else d.refuse 0x1B6)

/-- RING_CONSUMED (R184, R190): a write releases records, or is refused. -/
def ringConsumed (_t : Nat) (m : Master) (v : Nat) (d : Device) : Device :=
  d.asMaster m .k1 0x1B5 (fun d =>
    if unread (d.rd GEN.RING_PRODUCED) (v % 131072) 131072 ≤ 65536 then d.wr GEN.RING_CONSUMED v else d.refuse 0x1B5)

/-! ### Defects and the common feeder offset, as read (R253, R260, R261) -/

/-- The DEFECTS field of a terminal: conditions that are not suppressed. -/
def Device.defectsOf (d : Device) (x : Nat) : Nat :=
  match d.term? x with
  | none => 0
  | some t =>
    let los := match d.home x with | some h => d.on (CH.LOS h) | none => false
    let keep (b : Nat) (c : Bool) : Nat := if bit t.defects b && c then 2 ^ b else 0
    let holder := d.capo
    let lob := d.lobi x
    keep 0 lob + keep 1 (holder && !los) + keep 2 holder + keep 3 (holder && !lob) + keep 4 holder + keep 5 true

/-- The shadow samples of a terminal that are at most 8,000 tree frames old (R253). -/
def Device.freshShadow (d : Device) (x : Nat) : List (Nat × Int) :=
  (Tbl.getD d.rng.shadow x []).filter (fun p => d.now ≤ p.1 + 8000 * 125000)

/-- SHADOW_OFFSET_NS and SHADOW_VALID of a terminal (R252, R267). -/
def Device.shadowOf (d : Device) (x : Nat) : Option Int :=
  let l := Tbl.getD d.rng.shadow x []
  if d.freshShadow x = [] then none else some (nearest ((l.map (·.2)).sum) l.length)

/-- The common feeder offset of a tree while a terminal contributes (R253): twice the lower median plus
FEEDER_ADJ_NS. -/
def Device.commonOffset (d : Device) (t : Nat) : Option Int :=
  let xs := (d.rng.shadow.filter (fun p => termTree p.1 = t)).filterMap (fun p => d.shadowOf p.1)
  let s := (sortBy (fun (z : Int) => (z + 2 ^ 40).toNat) xs)
  match s[(s.length - 1) / 2]? with
  | some m => some (2 * m + signed 16 (d.rd (RGU.FEEDER_ADJ_NS t)))
  | none => none

end Sys2Proof.Machine
end

