-- ==== Sys2Proof/Machine/Power.lean ====
section
/-!
DEFINITION. Power, heat and the work envelope (chapter 07): the sensors, the thresholds, the voltage plan, the
envelope and the class quotas.
-/

namespace Sys2Proof.Machine

/-- The reference throughput of the slices in service at a voltage, in packets per microsecond (R277). -/
def Device.refSum (d : Device) (mv : Nat) : Nat := (d.slices.map (fun s => Config.paceRef s mv)).sum

/-- The slices in service in device frame `j`: a spare counts from its exchange frame (R278, R596). -/
def Device.slicesAt (d : Device) (j : Nat) : List Nat :=
  d.slices.map (fun s => match d.spm.exch.find? (fun x => decide (x.slice = s) && decide (x.frame ≤ j)) with
    | some x => x.spare
    | none => s)

/-- The sum of their reference throughputs. -/
def Device.refSumAt (d : Device) (j mv : Nat) : Nat := ((d.slicesAt j).map (fun s => Config.paceRef s mv)).sum

/-- The eleven grid voltages (R273). -/
def grid : List Nat := (List.range 11).map (fun n => 600 + 25 * n)

/-- T_HOT, T_COLD and T_CORE of a set of readings (R270); before the first reading T_CORE is 0, as the sensors read (R294). -/
def hotOf (ts : List Int) : Int := ts.foldl max (-2048)
def coldOf (ts : List Int) : Int := ts.foldl min 2047
def coreOf (ts : List Int) : Int := if ts = [] then 0 else (ts.take 48).foldl max (-2048)

/-- The latest T_HOT and T_COLD, from the page's fields. -/
def Device.tHot (d : Device) : Int := signed 12 (d.rd PTM.T_HOT)
def Device.tCold (d : Device) : Int := signed 12 (d.rd PTM.T_COLD)

/-- A threshold in degrees, in the sensors' quarter degrees. -/
def quarter (c : Nat) : Int := 4 * (c : Int)

/-- The temperature trip conditions of R282. -/
def Device.tripCond (d : Device) : Bool :=
  decide (quarter (d.rdA PTM.TRIP_HIGH_C) < d.tHot) || decide (d.tCold < 4 * signed 8 (d.rdA PTM.TRIP_LOW_C))

/-- Whether fuses may burn (R573): no rail alarm and no trip condition is present. A rail alarm stays present until a TRIP_RELEASE finds
every rail inside its range (DESIGN CHOICE, log entry 31). -/
def Device.mayBurn (d : Device) : Bool := !d.pow.railLow && !d.tripCond

/-- THERMTRIP_N sinks (R644): a trip, or any sensor at 125 °C or more. -/
def Device.thermtrip (d : Device) : Bool := d.on PTM.TRIPPED || d.pow.temps.any (fun q => decide (500 ≤ q))

/-- Command a voltage (R273). -/
def Device.command (mv : Nat) (d : Device) : Device :=
  let d := { d with pow := { d.pow with wanted := mv, tries := 0 } }
  (d.wr PTM.VCORE_MV mv).emit (.voltage mv)

/-- A thermal emergency starts (R283). -/
def Device.raiseEmergency (d : Device) : Device :=
  if d.on PTM.EMERGENCY then d
  else (({ d with pow := { d.pow with clearRun := 0 } }).wr PTM.EMERGENCY 1).count 0x003 0x838 1

/-- A trip fences the device (R285). `ctr` is the counter of its cause. -/
def Device.trip (ctr : Nat) (d : Device) : Device :=
  let d := d.count 0x003 ctr 1
  if d.on PTM.TRIPPED then d else (d.wr PTM.TRIPPED 1).fenceNow

/-- Act on the thresholds with the latest readings (R282). -/
def Device.thresholds (d : Device) : Device :=
  let d := d.wr PTM.WARN (b2n (decide (quarter (d.rdA PTM.WARN_C) ≤ d.tHot)))
  let d := if decide (quarter (d.rdA PTM.LIMIT_C) ≤ d.tHot) || d.on PTM.EMERG_FORCE then d.raiseEmergency else d
  if d.tripCond && !d.on PTM.TRIPPED then d.trip 0x840 else d

/-- The plan row of a device frame. -/
def Device.planRow (d : Device) (j : Nat) : Option PlanRow := d.pow.plan.find? (fun r => r.frame = j)

/-- Compare the pace with the envelope of the current frame, and raise VCORE on a shortfall (R276). -/
def Device.paceCheck (d : Device) : Device :=
  match d.planRow d.frame with
  | none => d
  | some r =>
    let short := decide (d.rd PTM.PACE_SUM * 125 * 100 < r.env * (100 - d.rdA PTM.SHORTFALL_PCT))
    let d := d.wr PTM.PACE_SHORT (b2n short)
    let v := d.rd PTM.VCORE_MV
    if short && d.on PTM.PTM_EN && !d.on PTM.TRIPPED && decide (v < 850) then
      let d := (d.count 0x003 0x860 1).command (v + 25)
      { d with pow := { d.pow with raised := some (v + 25, d.frame + 8) } }
    else d

/-- PTM_SAMPLE (R269 to R271, R276, R282): all temperature and pace sensors are read. -/
def ptmSample (_t : Nat) (temps : List Int) (pace : List Nat) (d : Device) : Device :=
  let ts := temps.take 72
  let d := { d with pow := { d.pow with temps := ts, pace := pace.take 36 } }
  let hot := hotOf ts
  let d := (d.wr PTM.T_HOT (unsign 12 hot)).wr PTM.T_COLD (unsign 12 (coldOf ts))
  let d := d.wr PTM.HOT_SENSOR (ts.findIdx (fun x => x = hot))
  let d := d.wr PTM.PACE_SUM ((d.slices.map (fun s => d.pow.pace.getD s 0)).sum)
  (d.thresholds).paceCheck

/-- A lowering planned for this frame is commanded at its start, no lower than a shortfall raise (R275, R276). While PTM_EN is 0 nothing but 750 mV is
commanded (R290). -/
def Device.lowerVcore (d : Device) : Device :=
  match d.planRow d.frame with
  | none => d
  | some r =>
    let fl := match d.pow.raised with
      | some (mv, last) => if d.frame ≤ last then mv else 0
      | none => 0
    let v := if d.on PTM.PTM_EN then max r.mv fl else 750
    if v < d.rd PTM.VCORE_MV then d.command v else d

/-! ### The envelope (R277 to R281) -/

/-- What a publication at this instant takes its envelopes from (R277). -/
def Device.pubBase (d : Device) : PubBase :=
  let now := coreOf d.pow.temps
  let old := match d.pow.coreTemps with
    | _ :: o :: _ => o
    | _ => now
  { frame := d.frame, pace := d.rd PTM.PACE_SUM, ref := d.refSum d.pow.lastAck, rise := (now - old).toNat }

/-- The predicted rise for device frame `j`, in eighths of a degree (R277). -/
def Device.rise8 (d : Device) (j : Nat) : Nat := min (8 * d.rdA PTM.TREND_CAP_C) (d.pow.pub.rise * (j - d.pow.pub.frame))

/-- E(j) at a voltage (R277), by the last publication. -/
def Device.envAt (d : Device) (mv j : Nat) : Nat :=
  let r : Int := d.pow.pub.ref
  let num : Int := (d.refSumAt j mv : Int) * 125 * (256 - (d.rdA PTM.ENV_MARGIN : Int))
    * ((d.pow.pub.pace : Int) * 32768 - (d.rdA PTM.PACE_TEMP_COEF : Int) * d.rise8 j * r)
  if r = 0 then 0 else (num / (256 * 32768 * r)).toNat

/-- The downstream forecast, over the 64 device frames before the present one (R279). -/
def Device.forecast (d : Device) : Nat :=
  let k := d.frame
  let m := (d.pow.handled.filter (fun p => k ≤ p.1 + 64 && p.1 < k)).foldl (fun a p => max a p.2) 0
  max (d.rdA PTM.FORECAST_FLOOR) (ceilDiv (m * (256 + d.rdA PTM.FORECAST_HEADROOM)) 256)

/-- Count a packet toward the forecast (R279, R319). -/
def Device.handledPacket (d : Device) : Device :=
  let h := d.pow.handled.filter (fun p => d.frame ≤ p.1 + 64)
  { d with pow := { d.pow with handled := Tbl.set h d.frame (Tbl.getD h d.frame 0 + 1) } }

/-- The per-frame demand of a class (R165). -/
def Device.demand (d : Device) (k : Nat) : Nat :=
  (d.fret.allocs.map (fun p =>
    let a := p.2
    match d.term? a.term, d.home a.term with
    | some t, some c =>
      if a.cls = k ∧ t.state = 3 ∧ !d.buildsNone c ∧ !bit (d.rd (PTM.QUIET_CH (c / 32))) (c % 32) then
        d.workOf (if k < 2 then a.rate else min a.estimate a.rate)
      else 0
    | _, _ => 0)).sum

/-- The ceiling at a publication (R281), and the run of cool publications. -/
def Device.nextCeiling (d : Device) : Nat × Nat :=
  let c := min (d.rd PTM.CEILING_MV) (d.rdA PTM.VCORE_PLAN_MAX_MV)
  let hot := d.tHot
  let w := quarter (d.rdA PTM.WARN_C)
  if w ≤ hot then
    let prev := d.pow.plan.filter (fun r => decide (d.frame ≤ r.frame))
    let b := if prev = [] then c else min c (prev.foldl (fun m r => max m r.mv) 0)
    (max (d.rdA PTM.VCORE_MIN_MV) (b - 25), 0)
  else if hot < w - quarter (d.rdA PTM.HYST_C) then
    if 8 ≤ d.pow.coolRun then (min (d.rdA PTM.VCORE_PLAN_MAX_MV) (c + 25), d.pow.coolRun + 1) else (c, d.pow.coolRun + 1)
  else (c, 0)

/-- The lowest grid voltage whose envelope for frame `j` is at least `w`. -/
def Device.lowestV (d : Device) (j w : Nat) : Option Nat := grid.find? (fun v => decide (w ≤ d.envAt v j))

/-- Raise earlier frames of a plan so that no step exceeds 25 mV (R280), latest first. -/
def stepBack : List Nat → List Nat
  | [] => []
  | v :: r =>
    let r := stepBack r
    (match r with | w :: _ => max v (w - 25) | [] => v) :: r

/-- Hold each frame of a plan to 25 mV above the one before (R275). -/
def stepCap (prev : Nat) : List Nat → List Nat
  | [] => []
  | v :: r => let v := min v (prev + 25); v :: stepCap v r

/-- The plan of a publication: for each of the next 8 frames its floor and its voltage (R275, R280, R283, R290). -/
def Device.planV (d : Device) (ceil fc : Nat) : List (Nat × Nat) :=
  let k := d.frame
  let ns := (List.range 8).map (· + 1)
  let com (n : Nat) : Nat := ((d.led (k + n)).committed).sum
  let dem := (List.range 4).map d.demand
  let unc (n : Nat) : Nat := ((List.range 4).map (fun q => dem.getD q 0 - (d.led (k + n)).committed.getD q 0)).sum
  let fl := ns.map (fun n => (d.lowestV (k + n) (com n + fc)).getD 850)
  let vmin := d.rdA PTM.VCORE_MIN_MV
  let want := ns.map (fun n => (d.lowestV (k + n) (com n + fc + unc n)).getD 850)
  let v0 := (List.range 8).map (fun i =>
    if d.on PTM.EMERGENCY then max (fl.getD i 0) vmin else max (fl.getD i 0) (max vmin (min ceil (want.getD i 0))))
  let v := if !d.on PTM.PTM_EN then List.replicate 8 750
    else if d.on PTM.REG_FAULT then List.replicate 8 d.pow.lastAck
    else stepCap d.pow.lastAck (stepBack v0)
  (List.range 8).map (fun i => (fl.getD i 0, v.getD i 0))

/-- Divide one frame's room among the classes (R165): the quotas in class order. -/
def divide : Nat → List Nat → List Nat → List Nat
  | _, [], _ => []
  | room, q :: r, com =>
    let c := com.headD 0
    let u := max c (min q room)
    u :: divide (room - u) r (com.drop 1)

/-- Publish the ledger rows of the next 8 frames (R165, R189). -/
def Device.publishLedger (rows : List PlanRow) (fc : Nat) (d : Device) : Device :=
  let dem := (List.range 4).map d.demand
  let led := d.fret.ledger.filter (fun p => d.frame ≤ p.1)
  let led := rows.foldl (fun (l : Tbl Ledger) r =>
    let o := Tbl.getD l r.frame {}
    Tbl.set l r.frame { env := r.env, forecast := fc, demand := dem, quota := divide (r.env - fc) dem o.committed, committed := o.committed }) led
  let tight := rows.any (fun r => (List.range 4).any (fun k =>
    let l := Tbl.getD led r.frame {}
    decide (l.quota.getD k 0 < l.demand.getD k 0)))
  ({ d with fret := { d.fret with ledger := led } }).wr GEN.ENVELOPE_TIGHT (b2n tight)

/-- After the third failed retry REG_FAULT stands, and the plan is redone at the last acknowledged voltage (R274, R289), with what the publication
took its envelopes from. -/
def Device.regFault (d : Device) : Device :=
  let ack := d.pow.lastAck
  let redo (r : PlanRow) : PlanRow := if d.frame < r.frame then { r with mv := ack, env := d.envAt ack r.frame } else r
  let late := (d.pow.plan.filter (fun r => d.frame < r.frame && ack < r.floor)).length
  let plan := d.pow.plan.map redo
  let d := { d with pow := { d.pow with tries := 0, wanted := ack, plan := plan } }
  let d := (((d.wr PTM.REG_FAULT 1).wr PTM.VCORE_MV ack).count 0x003 0x828 1).count 0x003 0x858 late
  d.publishLedger (plan.filter (fun r => d.frame < r.frame)) (d.rd PTM.FORECAST)

/-- The voltage a retry writes: the one wanted, and 750 mV while PTM_EN is 0 (R274, R290). -/
def Device.retryMv (d : Device) : Nat := if d.on PTM.PTM_EN then d.pow.wanted else 750

/-- VOLTAGE_WRITE_RESULT (R274): a voltage write is acknowledged or not, or a Status read is acknowledged. -/
def voltageWriteResult (_t : Nat) (ok status : Bool) (d : Device) : Device :=
  if status then d.wrIf ok PTM.REG_FAULT 0
  else if ok then
    let d := { d with pow := { d.pow with lastAck := d.pow.wanted, tries := 0 } }
    d.count 0x003 0x818 1
  else if d.pow.tries < 3 then
    let v := d.retryMv
    let d := { d with pow := { d.pow with tries := d.pow.tries + 1, wanted := v } }
    ((d.wr PTM.VCORE_MV v).count 0x003 0x820 1).emit (.voltage v)
  else d.regFault

/-- Whether the emergency ends at this publication, and its run of clear publications (R283). -/
def Device.emergencyRun (d : Device) : Bool × Nat :=
  let ok := !d.on PTM.EMERG_FORCE && decide (d.tHot < quarter (d.rdA PTM.LIMIT_C) - quarter (d.rdA PTM.HYST_C))
  let n := if ok then d.pow.clearRun + 1 else 0
  (decide (d.rdA PTM.EMERG_CLEAR_FRAMES ≤ n), n)

/-- ENVELOPE_PUBLICATION (R277 to R281, R165): the plan, the envelope and the quotas of the next 8 frames. `watts`
is the regulator's telemetry. -/
def publish (watts : Nat) (d : Device) : Device :=
  let d := (d.thresholds).wr PTM.CORE_POWER_W watts
  let k := d.frame
  let d := if d.on PTM.EMERGENCY then
      let (stop, n) := d.emergencyRun
      let d := { d with pow := { d.pow with clearRun := n } }
      if stop then d.wr PTM.EMERGENCY 0 else d
    else d
  let d := d.countIf (d.on PTM.WARN) 0x003 0x830
  let (ceil, cool) := d.nextCeiling
  let d := ({ d with pow := { d.pow with coolRun := cool, raised := none, pub := d.pubBase } }).wr PTM.CEILING_MV ceil
  let fc := d.forecast
  let pv := d.planV ceil fc
  let core := coreOf d.pow.temps
  let rows := (List.range 8).map (fun i =>
    let (f, v) := pv.getD i (0, 0)
    ({ frame := k + 1 + i, mv := v, floor := f, tPred := core + ((d.rise8 (k + 1 + i) : Nat) : Int) / 2, env := d.envAt v (k + 1 + i) } : PlanRow))
  let above := rows.any (fun r => decide (ceil < r.floor))
  let late := (rows.filter (fun r => r.mv < r.floor)).length
  let d := (d.wr PTM.FLOOR_OVER_CEIL (b2n above)).countIf above 0x003 0x850
  let d := if d.on PTM.PTM_EN then d.count 0x003 0x858 late else d
  let d := (d.wr PTM.FORECAST fc).count 0x003 0x810 1
  let old := d.pow.plan.filter (fun r => r.frame = k)
  let ct := (core :: d.pow.coreTemps).take 2
  let d := { d with pow := { d.pow with plan := old ++ rows, coreTemps := ct } }
  let v1 : Nat := (rows.head?.map (·.mv)).getD 0
  let d := d.when (decide (d.rd PTM.VCORE_MV < v1)) (Device.command v1)
  d.publishLedger rows fc

/-! ### Trips and quiet modes (R285 to R288) -/

/-- TRIP_RELEASE (R285): a write of TRIP_RELEASE; `railOk` tells that every rail is inside its range. -/
def tripRelease (_t : Nat) (m : Master) (v railOk : Bool) (d : Device) : Device :=
  d.asMaster m .k1 0x003 (fun d =>
    if !v || !d.on PTM.TRIPPED then d
    else
    let low := d.pow.railLow && !railOk
    let d := { d with pow := { d.pow with railLow := low } }
    if d.tripCond || !railOk || decide (quarter (d.rdA PTM.TRIP_HIGH_C) - quarter (d.rdA PTM.HYST_C) ≤ d.tHot) then
      d.refuse 0x003
    else d.wr PTM.TRIPPED 0)

/-- QUIET_CH (R286, R287): a write of word `i`. -/
def quietCh (_t : Nat) (m : Master) (i v : Nat) (d : Device) : Device :=
  d.asMaster m .k1 0x003 (fun d => d.wr (PTM.QUIET_CH i) v)

/-- Whether tree `t` may be powered down (R288). -/
def Device.mayPowerDown (d : Device) (t : Nat) : Bool :=
  !d.on (TPE.TREE_EN t) && d.treeDrained t && !d.rng.terms.any (fun p => termTree p.1 = t && p.2.state ≠ 0)

/-- QUIET_TREE (R288): a write of word `i`. Refused whole where a tree newly set may not be powered down. -/
def quietTree (_t : Nat) (m : Master) (i v : Nat) (d : Device) : Device :=
  d.asMaster m .k1 0x003 (fun d =>
    let old := d.rd (PTM.QUIET_TREE i)
    let new := (List.range 32).filter (fun b => bit v b && !bit old b)
    if new.all (fun b => d.mayPowerDown (32 * i + b)) then
      (d.wr (PTM.QUIET_TREE i) v).wr (PTM.LANES_DOWN i) (d.rd (PTM.LANES_DOWN i) ||| (new.map (fun b => 2 ^ b)).sum)
    else d.count 0x003 0x868 1)

/-- TREE_LANES_READY (R288): the lanes of a tree whose quiet bit was cleared are ready. -/
def treeLanesReady (_t t : Nat) (d : Device) : Device :=
  let i := t / 32
  let b := t % 32
  let down := d.rd (PTM.LANES_DOWN i)
  if bit (d.rd (PTM.QUIET_TREE i)) b || !bit down b then d else d.wr (PTM.LANES_DOWN i) (down - 2 ^ b)

end Sys2Proof.Machine
end

