-- ==== Sys2Proof/Machine/Monitor.lean ====
section
/-!
DEFINITION. The monitor (chapter 16): slot accounting, tagging, and the trace ring.
-/

namespace Sys2Proof.Machine

/-! ### Slot accounting (R560 to R563) -/

/-- The page of a packet slice (R57). -/
def slicePage (s : Nat) : Nat := 0x010 + s

/-- A slot that took a packet and is not yet decided (R561). -/
def Device.slotTaken (s : Nat) (d : Device) : Device :=
  let p := d.pkt
  (({ d with pkt := { p with slotUsed := Tbl.put 0 p.slotUsed s (Tbl.getD p.slotUsed s 0 + 1) } }).count (slicePage s) 0x810 1).count (slicePage s) 0x838 1

/-- A slot's packet meets its fate: retired, or wasted (R560). -/
def Device.slotDecided (s : Nat) (wasted : Bool) (d : Device) : Device :=
  let d := d.setCtr (slicePage s) 0x838 (d.ctr (slicePage s) 0x838 - 1)
  d.count (slicePage s) (if wasted then 0x820 else 0x818) 1

/-! ### Tagging (R564) -/

/-- One step of the 32-bit Galois LFSR with taps 32, 22, 2 and 1. -/
def lfsrNext (x : Nat) : Nat := if x % 2 = 1 then (x / 2) ^^^ 0x80200003 else x / 2

/-- The lowest PHY of a FlexE group, as an Ethernet port number (R481, R490). -/
def FlxGroup.lowPhy (g : FlxGroup) : Nat := 16 * g.chiplet + ((List.range 16).find? (fun i => bit g.mask i)).getD 0

/-- The crossing a packet enters by: a PON receive group, the network quad of its port or of its FlexE group's lowest
PHY, or an inject channel. -/
def Device.crossingOf (d : Device) (kind port : Nat) : Nat :=
  if kind = 0 then port / 16
  else if kind = 1 then
    let p := if port < 64 then port
      else FlxGroup.lowPhy (Tbl.getD d.net.groups (Tbl.getD d.net.clients (port - 64) {}).group {})
    16 + p / 4
  else 32 + port

/-- A packet passes a crossing: whether it is tagged. -/
def Device.tagStep (x : Nat) (d : Device) : Bool × Device :=
  if d.on MON.TAG_EN then
    let v := lfsrNext (Tbl.getD d.mon.lfsr x 0)
    (decide (v % d.mon.tagN = 0), { d with mon := { d.mon with lfsr := Tbl.set d.mon.lfsr x v } })
  else (false, d)

/-- The LFSRs as TAG_EN = 1 loads them: one for each of the 36 crossings. -/
def lfsrLoad (seed : Nat) : Tbl Nat :=
  (List.range 36).map (fun x => (x, (seed ^^^ (Config.crossingNumber x)) % 2 ^ 32))

/-- TAG_EN (R564, R566): a write of TAG_EN. A write of 1 loads the LFSRs and takes TAG_N. -/
def tagEn (_t : Nat) (m : Master) (v : Bool) (d : Device) : Device :=
  d.asMaster m .k1 0x007 (fun d =>
    let d := d.wr MON.TAG_EN (b2n v)
    if v then
      let l := lfsrLoad (d.rd MON.TAG_SEED)
      { d with mon := { d.mon with lfsr := l, tagN := d.rd MON.TAG_N } }
    else d)

/-! ### Traces (R565, R566, R572) -/

/-- Start the trace of a tagged packet; its number. -/
def Device.traceStart (r : Trace) (d : Device) : Nat × Device :=
  let n := d.mon.next
  (n, ({ d with mon := { d.mon with traces := Tbl.set d.mon.traces n r, next := n + 1 } }).count 0x007 0xA10 1)

/-- Change a trace. -/
def Device.traceMod (n : Option Nat) (f : Trace → Trace) (d : Device) : Device :=
  match n with
  | some n => { d with mon := { d.mon with traces := Tbl.modify d.mon.traces n f } }
  | none => d

/-- A delay field: saturating, or all ones where the stage was not reached (R572). -/
def delayField (o : Option Nat) : Nat :=
  match o with
  | some x => min x 0xFFFFFFFE
  | none => 0xFFFFFFFF

/-- The eight words of a trace entry (R572). -/
def Trace.words (r : Trace) (fate : Nat) (out : Option Nat) : List Nat :=
  [frameOf r.stamp % 2 ^ 32, r.stamp % 125000 + r.slice * 2 ^ 17 + fate * 2 ^ 23,
   r.port + r.kind * 2 ^ 16 + r.length * 2 ^ 18, r.queue,
   delayField r.dClass, delayField r.dPush, delayField r.dFinal, delayField out]

/-- The unconsumed entries of the trace ring. -/
def Device.traceCount (d : Device) : Nat := unread (d.rd MON.TRACE_PRODUCED) (d.rd MON.TRACE_CONSUMED) 8192

/-- A tagged packet's fate is reached (R565, R566). `left` tells whether it leaves the core now. -/
def Device.traceFate (o : Option Nat) (fate : Nat) (left : Bool) (d : Device) : Device :=
  match o with
  | none => d
  | some n =>
    match Tbl.get? d.mon.traces n with
    | none => d
    | some r =>
      let d := { d with mon := { d.mon with traces := d.mon.traces.erase n, byCell := d.mon.byCell.filter (fun p => p.2 ≠ n) } }
      if d.traceCount = 4096 then d.count 0x007 0xA20 1
      else
        let p := d.rd MON.TRACE_PRODUCED
        let w := Trace.words r fate (if left then some (d.now - r.stamp) else none)
        let d := { d with mon := { d.mon with ring := Tbl.set d.mon.ring (p % 4096) w } }
        (d.wr MON.TRACE_PRODUCED (p + 1)).count 0x007 0xA18 1

/-- The trace a buffer carries, by its first cell. -/
def Device.traceOf (d : Device) (p : Nat) : Option Nat := Tbl.get? d.mon.byCell p

/-- TRACE_CONSUMED (R566, R570): a write releases entries, or is refused. -/
def traceConsumed (_t : Nat) (m : Master) (v : Nat) (d : Device) : Device :=
  d.asMaster m .k1 0x007 (fun d =>
    if unread (d.rd MON.TRACE_PRODUCED) (v % 8192) 8192 ≤ 4096 then d.wr MON.TRACE_CONSUMED v else d.refuse 0x007)

end Sys2Proof.Machine
end

