-- ==== Sys2Proof/Machine/PortState.lean ====
section
/-!
DEFINITION. What the network ports are at a moment (chapter 13): which are configured, which are up, their rates, the
FlexE groups, calendars and clients.
-/

namespace Sys2Proof.Machine

/-- The quad of an Ethernet port, and its slot in the quad (R455). -/
def quadOf (p : Nat) : Nat := p / 4
def slotOf (p : Nat) : Nat := p % 4

/-- The lanes per port of a QUAD_MODE (R455). -/
def lanesPer (mode : Nat) : Nat :=
  if mode = 1 ∨ mode = 4 then 4 else if mode = 2 ∨ mode = 5 then 2 else if mode = 3 ∨ mode = 6 then 1 else 0

/-- Whether QUAD_MODE defines the port of slot `s` (R455). -/
def modeHas (mode s : Nat) : Bool := decide (0 < lanesPer mode) && decide (s % lanesPer mode = 0)

/-- The full MAC rate of a mode in Gbit/s, and the low step's (R455; modes 4 to 6 have one rate, R460). -/
def fullRate (mode : Nat) : Nat :=
  if mode = 1 then 800 else if mode = 2 then 400 else if mode = 3 then 200
  else if mode = 4 then 400 else if mode = 5 then 200 else if mode = 6 then 100 else 0
def lowRate (mode : Nat) : Nat := if mode ≤ 3 then fullRate mode / 2 else fullRate mode

/-- The quad mode an Ethernet port runs under. -/
def Device.portMode (d : Device) (p : Nat) : Nat := d.rd (NPC.QUAD_MODE (quadOf p))

/-- Whether a port has its lanes enabled: PORT_EN on a port that QUAD_MODE defines. -/
def Device.portOn (d : Device) (p : Nat) : Bool :=
  decide (p < 64) && modeHas (d.portMode p) (slotOf p) && d.on (NPC.PORT_EN (quadOf p) (slotOf p))

/-- The lanes of an Ethernet port, within its quad. -/
def Device.portLanes (d : Device) (p : Nat) : List Nat := (List.range (lanesPer (d.portMode p))).map (fun i => slotOf p + i)

/-! ### FlexE (R470 to R480) -/

/-- A FlexE group and client, as in their windows. -/
def Device.group (d : Device) (g : Nat) : FlxGroup := Tbl.getD d.net.groups g {}
def Device.client (d : Device) (k : Nat) : FlxClient := Tbl.getD d.net.clients k {}
def Device.setGroup (g : Nat) (x : FlxGroup) (d : Device) : Device :=
  { d with net := { d.net with groups := Tbl.put {} d.net.groups g x } }

/-- The Ethernet ports that are PHYs of a group, in order. -/
def FlxGroup.phys (x : FlxGroup) : List Nat :=
  ((List.range 16).filter (fun i => bit x.mask i)).map (fun i => 16 * x.chiplet + i)

/-- The 100G instances of a group (R470, R473). -/
def Device.groupInsts (d : Device) (g : Nat) : Nat := ((FlxGroup.phys (d.group g)).map (fun p => fullRate (d.portMode p) / 100)).sum

/-- The key of a connection memory slot: direction, page, group, slot (R490). -/
def connKey (dir page g slot : Nat) : Nat := (dir * 32768 + page * 16384 + g * 512) * 4 + slot

/-- The client a slot of a page maps to: 0xFF is none. -/
def Device.conn (d : Device) (dir page g slot : Nat) : Nat := Tbl.getD d.net.conn (connKey dir page g slot) 0xFF

/-- The slots of a page that map to a client. -/
def Device.slotsOf (d : Device) (dir page g k : Nat) : Nat :=
  (d.net.conn.filter (fun e => connKey dir page g 0 ≤ e.1 && e.1 < connKey dir page g 640 && e.2 = k)).length

/-- TX_SLOTS and RX_SLOTS of a client: its slots in the page in use (R490). -/
def Device.txSlots (d : Device) (k : Nat) : Nat :=
  let g := (d.client k).group
  d.slotsOf 0 (d.group g).txCal g k
def Device.rxSlots (d : Device) (k : Nat) : Nat :=
  let g := (d.client k).group
  d.slotsOf 1 (d.group g).rxCal g k

/-- The conditions of a port that make it down: bits 0 to 5 of R479. -/
def portDownMask : Nat := 0x3F

/-- What a port holds beside its registers. -/
def Device.port (d : Device) (p : Nat) : NetPort := Tbl.getD d.net.ports p {}
def Device.setPort (p : Nat) (x : NetPort) (d : Device) : Device :=
  { d with net := { d.net with ports := Tbl.put {} d.net.ports p x } }

/-- The lowest condition that holds, alone: a defect bit is shown only while no lower-numbered one holds (R479,
R480). -/
def lowestBit (x : Nat) : Nat :=
  match (List.range 8).find? (fun b => bit x b) with
  | some b => 2 ^ b
  | none => 0

/-- The defect conditions of a group: those it holds, PHY_DOWN and OH_LOF from its PHYs and instances (R480). -/
def Device.groupConds (d : Device) (g : Nat) : Nat :=
  let x := d.group g
  let phy := (FlxGroup.phys x).any (fun p => (d.port p).conds &&& portDownMask ≠ 0)
  let lof := (List.range (d.groupInsts g)).any (fun i => !(Tbl.getD x.insts i {}).aligned)
  (x.conds / 4) * 4 + 2 * b2n lof + b2n phy

/-- Whether a group is down (R480). -/
def Device.groupDown (d : Device) (g : Nat) : Bool := (d.groupConds g) % 64 ≠ 0

/-- Whether a client is up (R480). -/
def Device.clientUp (d : Device) (k : Nat) : Bool :=
  let c := d.client k
  c.en && (d.group c.group).en && !d.groupDown c.group && decide (0 < d.txSlots k) && decide (0 < d.rxSlots k)

/-! ### Ports as the core sees them (R456, R457, R434) -/

/-- Whether a network port is configured (R456). -/
def Device.portConfigured (d : Device) (p : Nat) : Bool :=
  if p < 64 then d.portOn p && !d.on (NPC.FLEXE_EN (quadOf p)) else decide (p < 256) && (d.client (p - 64)).en

/-- Whether a network port is up. -/
def Device.portUp (d : Device) (p : Nat) : Bool :=
  if p < 64 then d.portOn p && d.on (NPC.UP (quadOf p) (slotOf p)) else d.clientUp (p - 64)

/-- Whether pause from the partner holds a port (R467, R468). -/
def Device.portPaused (d : Device) (p : Nat) : Bool :=
  decide (p < 64) && d.on (NPC.PAUSED (quadOf p) (slotOf p)) && !d.on (NPC.PAUSE_IGNORED (quadOf p) (slotOf p))

/-- Whether the ports may send frames (R482, R534). -/
def Device.netMaySend (d : Device) : Bool := d.capo && !d.fenced

/-- The rate of a port in Gbit/s (R457). -/
def Device.portRate (d : Device) (p : Nat) : Nat :=
  if p < 64 then
    if d.rd (NPC.BRINGUP (quadOf p) (slotOf p)) = 6 then lowRate (d.portMode p) else fullRate (d.portMode p)
  else 5 * d.txSlots (p - 64)

end Sys2Proof.Machine
end

