-- ==== Sys2Proof/Machine/Cells.lean ====
section
/-!
DEFINITION. Cells, pools and queues (chapter 11): pointers and coded words, allocation and its waiters, frees, and a
packet's way through its queue.
-/

namespace Sys2Proof.Machine

/-! ### Pointers, addresses and regions (R383 to R386, R391) -/

/-- The cells of a region, its free chains, and the cells of each chain. -/
def regionCells (dram : Bool) : Nat := if dram then 2 ^ 33 else 2 ^ 20
def chainsOf (dram : Bool) : Nat := if dram then 256 else 64
def chainLen (dram : Bool) : Nat := regionCells dram / chainsOf dram

/-- The region of a pointer. -/
def ptrDram (p : Nat) : Bool := bit p 35

/-- The pointer of a cell index. -/
def mkPtr (dram : Bool) (i : Nat) : Nat := if dram then 2 ^ 35 + i else i

/-- The check of R384. -/
def ptrOk (p : Nat) : Bool :=
  decide (p < 2 ^ 36) && (if ptrDram p then decide (bits p 33 2 = 0) else decide (bits p 20 15 = 0))

/-- The byte address of a cell (R386). -/
def cellAddr (p : Nat) : Nat := (if ptrDram p then 2 ^ 43 else 0) + (p % 2 ^ 33) * 256

/-- The free chain of a cell: its bank, or its pseudo-channel (R402). -/
def chainKey (p : Nat) : Nat := if ptrDram p then 64 + p % 256 else p % 64

/-- The stack of a DRAM byte address, and the logical region of an address (R383, R391). -/
def stackOf (a : Nat) : Nat := (a / 256) % 8
def regionOf (a : Nat) : Nat :=
  let i := (a % 2 ^ 43) / 256
  if bit a 43 then 34 * (i % 8) + (i / 8) % 32 else 272 + i % 64

/-- Where a cell's descriptor and a first cell's header slot lie (R401, R406). -/
def descAddr (p : Nat) : Nat := cellAddr p + 248
def hdrAddr (p : Nat) : Nat := cellAddr p

/-! ### Coded words (R387, R388) -/

/-- The page of a stack controller (R57). -/
def skcPage (n : Nat) : Nat := 0x1A0 + n

/-- Count a corrected or an uncorrectable read of a physical region (R388, R391). -/
def Device.countErr (r : Nat) (corrected : Bool) (d : Device) : Device :=
  let e := Tbl.getD d.cells.errs r (0, 0)
  let e' := if corrected then ((e.1 + 1) % 2 ^ 32, e.2) else (e.1, (e.2 + 1) % 2 ^ 32)
  let hour := (Tbl.getD d.cells.ceTimes r []).filter (fun x => decide (d.now < x + 3600000000000))
  let ce := if corrected then Tbl.set d.cells.ceTimes r (d.now :: hour) else d.cells.ceTimes
  let d := { d with cells := { d.cells with errs := Tbl.put (0, 0) d.cells.errs r e', ceTimes := ce } }
  let d := d.count 0x1B0 (if corrected then 0x868 else 0x870) 1
  if r < 272 then d.count (skcPage (r / 34)) (if corrected then 0x820 else 0x828) 1 else d

/-- The physical region that serves an address (R383, R598). -/
def Device.physRegion (d : Device) (a : Nat) : Nat := Tbl.getD d.cells.region (regionOf a) (regionOf a)

/-- Whether a word is stored poisoned. -/
def Device.poisoned (d : Device) (a : Nat) : Bool :=
  d.cells.poison.contains a || (match Tbl.get? d.cells.voided (regionOf a) with | some l => !l.contains a | none => false)

/-- Store a word with fresh check bits and poison 0. -/
def Device.wrWord (a v : Nat) (d : Device) : Device :=
  let m := Memory.writeWord d.cells.mem a v
  let v := Tbl.modify d.cells.voided (regionOf a) (fun l => if l.contains a then l else a :: l)
  { d with cells := { d.cells with mem := m, poison := d.cells.poison.filter (fun x => x ≠ a), voided := v } }

/-- Read a word (R388): its value, whether it is delivered with poison, and what the read counts and writes back. -/
def Device.rdWord (errs : Tbl CodeRead) (a : Nat) (d : Device) : Nat × Bool × Device :=
  let v := Memory.readWord d.cells.mem a
  let p := d.poisoned a
  match Tbl.getD errs a .clean with
  | .clean => (v, p, d.countIf p 0x1B0 0x878)
  | .wrong w => (w, p, d.countIf p 0x1B0 0x878)
  | .corrected => (v, p, d.countErr (d.physRegion a) true)
  | .uncorrectable =>
    let l := if p then d.cells.poison else a :: d.cells.poison
    (v, true, ({ d with cells := { d.cells with poison := l } }).countErr (d.physRegion a) false)

/-- Read `n` words in a row: their values and whether any is poisoned. -/
def Device.rdWords (errs : Tbl CodeRead) : Nat → Nat → Device → List Nat × Bool × Device
  | 0, _, d => ([], false, d)
  | n + 1, a, d =>
    let (v, p, d) := d.rdWord errs a
    let (vs, q, d) := Device.rdWords errs n (a + 8) d
    (v :: vs, p || q, d)

/-! ### Descriptors and header slots (R401, R406) -/

/-- A cell descriptor word (R401). -/
def mkDesc (next : Nat) (first : Bool) (owner gen : Nat) : Nat :=
  next % 2 ^ 36 + b2n first * 2 ^ 36 + owner % 2 ^ 21 * 2 ^ 37 + gen % 64 * 2 ^ 58
def descNext (x : Nat) : Nat := bits x 0 36
def descFirst (x : Nat) : Bool := bit x 36
def descOwner (x : Nat) : Nat := bits x 37 21
def descGen (x : Nat) : Nat := bits x 58 6

/-- The owner tag of a queue (R401). -/
def queueTag (q : Nat) : Nat := 2 ^ 20 + q

/-- The descriptor of a cell, as stored. -/
def Device.desc (d : Device) (p : Nat) : Nat := Memory.readWord d.cells.mem (descAddr p)

/-- Change a cell's NEXT, and its OWNER. -/
def Device.setNext (p next : Nat) (d : Device) : Device :=
  let x := d.desc p
  d.wrWord (descAddr p) (mkDesc next (descFirst x) (descOwner x) (descGen x))
def Device.setOwner (p owner : Nat) (d : Device) : Device :=
  let x := d.desc p
  d.wrWord (descAddr p) (mkDesc (descNext x) (descFirst x) owner (descGen x))

/-- The STATUS codes of a header slot (R406). -/
def stPending : Nat := 0
def stFinal : Nat := 1
def stVoid : Nat := 2

/-- The two words of a header slot (R406). -/
def hdr0 (length status : Nat) (deep lenFlag tagged : Bool) (chan : Nat) : Nat :=
  length + status * 2 ^ 14 + b2n deep * 2 ^ 16 + b2n lenFlag * 2 ^ 17 + b2n tagged * 2 ^ 18
    + handleIdx chan % 2 ^ 19 * 2 ^ 20 + handleGen chan * 2 ^ 39
def hdr1 (last cells : Nat) : Nat := last + cells * 2 ^ 36

/-- The status, length and channel of the header slot in a first cell, as stored. -/
def Device.hdrStatus (d : Device) (p : Nat) : Nat := bits (Memory.readWord d.cells.mem (hdrAddr p)) 14 2
def Device.hdrLength (d : Device) (p : Nat) : Nat := bits (Memory.readWord d.cells.mem (hdrAddr p)) 0 14
def Device.hdrChan (d : Device) (p : Nat) : Nat × Nat :=
  let x := Memory.readWord d.cells.mem (hdrAddr p)
  (bits x 20 19, bits x 39 8)
def Device.hdrLast (d : Device) (p : Nat) : Nat := bits (Memory.readWord d.cells.mem (hdrAddr p + 8)) 0 36
def Device.hdrCells (d : Device) (p : Nat) : Nat := bits (Memory.readWord d.cells.mem (hdrAddr p + 8)) 36 6

/-- The cells a packet of `n` bytes takes (R406). -/
def cellsFor (n : Nat) : Nat := if n ≤ 232 then 1 else 1 + ceilDiv (n - 232) 248

/-- The bytes of a packet that lie in its cell `k` (R406). -/
def chunkOf (bs : List Nat) (k : Nat) : List Nat :=
  if k = 0 then bs.take 232 else (bs.drop (232 + 248 * (k - 1))).take 248

/-! ### Pools (R395 to R399) -/

/-- A pool by its index. -/
def Device.pool? (d : Device) (i : Nat) : Option Pool := Tbl.get? d.cells.pools i
def Device.modPool (i : Nat) (f : Pool → Pool) (d : Device) : Device :=
  { d with cells := { d.cells with pools := Tbl.modify d.cells.pools i f } }

/-- A region's free cells. -/
def Device.freeCells (d : Device) (dram : Bool) : Nat :=
  let u := if dram then d.cells.used.2 else d.cells.used.1
  let l := if dram then d.cells.lost.2 else d.cells.lost.1
  regionCells dram - (u + l)

/-- A pool's unused minimum. -/
def Pool.unusedMin (p : Pool) : Nat := p.minU * 64 - p.held

/-- The shared space of a region (R397). -/
def Device.shared (d : Device) (dram : Bool) : Nat :=
  d.freeCells dram - (d.cells.pools.map (fun p => if p.2.dram = dram then Pool.unusedMin p.2 else 0)).sum

/-- The headroom of a pool, and BP (R399). -/
def Device.headroom (d : Device) (p : Pool) : Nat :=
  Pool.unusedMin p + min (d.shared p.dram) (p.maxU * 64 - max p.held (p.minU * 64))
def Device.poolBp (d : Device) (p : Pool) : Bool := decide (d.headroom p < p.bpU * 64)

/-- Whether a pool may take a cell (R397). -/
def Device.mayTake (d : Device) (p : Pool) : Bool :=
  decide (p.held < p.maxU * 64)
    && (if p.held < p.minU * 64 then decide (0 < d.freeCells p.dram) else decide (0 < d.shared p.dram))

/-! ### Free chains (R402) -/

/-- A free chain by its key, and its region. -/
def Device.chain (d : Device) (k : Nat) : FreeChain := Tbl.getD d.cells.chains k {}
def Device.setChain (k : Nat) (c : FreeChain) (d : Device) : Device :=
  { d with cells := { d.cells with chains := Tbl.put {} d.cells.chains k c } }

/-- The cells a chain holds. -/
def FreeChain.count (dram : Bool) (c : FreeChain) : Nat := c.stack.length + (chainLen dram - c.taken)

/-- Whether a chain can give a cell: it has one, and its stack is READY (R394). -/
def Device.chainReady (d : Device) (dram : Bool) (k : Nat) : Bool :=
  decide (0 < FreeChain.count dram (d.chain (if dram then 64 + k else k))) && (!dram || d.on (SKC.READY (k % 8)))

/-- The next chain in rotating order that can give a cell (R402). -/
def Device.nextChain (d : Device) (dram : Bool) : Option Nat :=
  let n := chainsOf dram
  let s := if dram then d.cells.turnDram else d.cells.turnOn
  ((List.range n).map (fun i => (s + i) % n)).find? (fun k => d.chainReady dram k)

/-- The head of chain `k` of a region. -/
def Device.chainHead (d : Device) (dram : Bool) (k : Nat) : Nat :=
  let c := d.chain (if dram then 64 + k else k)
  match c.stack with
  | p :: _ => p
  | [] => mkPtr dram (k + chainsOf dram * c.taken)

/-- Count cells as lost (R405). -/
def Device.loseCells (dram : Bool) (n : Nat) (d : Device) : Device :=
  let l := d.cells.lost
  let l' := if dram then (l.1, l.2 + n) else (l.1 + n, l.2)
  ({ d with cells := { d.cells with lost := l' } }).count 0x1B0 0x858 n

/-- Change a region's count of cells in use. -/
def Device.useCells (dram : Bool) (f : Nat → Nat) (d : Device) : Device :=
  let u := d.cells.used
  { d with cells := { d.cells with used := if dram then (u.1, f u.2) else (f u.1, u.2) } }

/-- Take the head of chain `k`. `cut` tells that its NEXT is out of range (true) or poisoned (false), which cuts the
chain behind it (R405). -/
def Device.popChain (dram : Bool) (k : Nat) (cut : Option Bool) (d : Device) : Device :=
  let key := if dram then 64 + k else k
  let c := d.chain key
  let c' : FreeChain := match c.stack with
    | _ :: r => { c with stack := r }
    | [] => { c with taken := c.taken + 1 }
  let d := match cut with
    | none => d.setChain key c'
    | some range =>
      let d := (d.setChain key { stack := [], taken := chainLen dram }).loseCells dram (FreeChain.count dram c')
      d.countIf range 0x1B0 0x850
  let t := (k + 1) % chainsOf dram
  let cs := d.cells
  { d with cells := { cs with turnOn := if dram then cs.turnOn else t, turnDram := if dram then t else cs.turnDram } }

/-! ### Granting cells (R397 to R401) -/

/-- The packet numbered `n`. -/
def Device.pkt? (d : Device) (n : Nat) : Option Pkt := Tbl.get? d.pkt.pkts n
def Device.setPkt (n : Nat) (p : Pkt) (d : Device) : Device :=
  { d with pkt := { d.pkt with pkts := Tbl.set d.pkt.pkts n p } }

/-- A packet goes. One dropped before its tag result leaves that result to come (R370). -/
def Device.dropPkt (n : Nat) (d : Device) : Device :=
  let p := d.pkt
  let due := match d.pkt? n with
    | some x => if x.needTag && x.tag.isNone && !x.erased then Tbl.set p.tagDue n x.tagGood else p.tagDue
    | none => p.tagDue
  { d with pkt := { p with pkts := p.pkts.erase n, tagDue := due } }

/-- A queue by its handle: its index, while the handle is that of the queue in existence. -/
def Device.queueIdx (d : Device) (h : Nat) : Option Nat :=
  match Tbl.get? d.cells.queues (handleIdx h) with
  | some q => if q.handle = h then some (handleIdx h) else none
  | none => none
def Device.queue? (d : Device) (i : Nat) : Option Queue := Tbl.get? d.cells.queues i
def Device.modQueue (i : Nat) (f : Queue → Queue) (d : Device) : Device :=
  { d with cells := { d.cells with queues := Tbl.modify d.cells.queues i f } }

/-- Write a packet's bytes into its new cell and link the cell to its chain; a link to the packet behind moves to the new cell. -/
def Device.attach (n p : Nat) (d : Device) : Device :=
  match d.pkt? n with
  | none => d
  | some x =>
    let base := if x.first.isNone then cellAddr p + 16 else cellAddr p
    let m := Memory.writeBytes d.cells.mem base (chunkOf x.bytes x.cells)
    let ps := d.cells.poison.filter (fun a => a / 256 ≠ cellAddr p / 256)
    let d := { d with cells := { d.cells with mem := m, poison := ps } }
    let next := descNext (d.desc x.last)
    let d := if x.first.isNone then d else (d.setNext x.last p).setNext p next
    let d := d.setPkt n { x with first := some (x.first.getD p), last := p, cells := x.cells + 1 }
    if x.stage = .pushed then
      match d.queueIdx x.queue with
      | some q => d.modQueue q (fun q => { q with cells := q.cells + 1 })
      | none => d
    else d

/-- Grant a cell of pool `i` to requester `r`, for packet `n` or as a buffer of its own. -/
def Device.grantCell (i r : Nat) (n : Option Nat) (cut : Option Bool) (d : Device) : Device :=
  match d.pool? i with
  | none => d
  | some p =>
    match d.nextChain p.dram with
    | none => d
    | some k =>
      let c := d.chainHead p.dram k
      let fromMin := decide (p.held < p.minU * 64)
      let d := ((d.popChain p.dram k cut).useCells p.dram (· + 1)).modPool i (fun p => { p with held := p.held + 1 })
      let first := match n with
        | none => true
        | some n => match d.pkt? n with | some x => x.first.isNone | none => true
      let x := d.desc c
      let d := d.wrWord (descAddr c) (if first then mkDesc 0 true r (descGen x + 1) else mkDesc 0 false 0 (descGen x))
      let cs := d.cells
      let bp := if first then Tbl.set cs.bufPool c i else cs.bufPool
      let sh := if !fromMin && decide (d.shared p.dram = 0) then p.dram :: cs.tookShared else cs.tookShared
      let mn := if fromMin && decide (p.held + 1 = p.minU * 64) then i :: cs.tookMin else cs.tookMin
      let d := { d with cells := { cs with bufPool := bp, tookShared := sh, tookMin := mn, clearing := cs.clearing.filter (· ≠ c) } }
      let d := (d.count 0x1B0 0x810 1).emit (.cell r c)
      let d := if ptrDram c then d.count (skcPage (c % 8)) 0x818 1 else d
      match n with
      | some n =>
        let d := match d.pkt? n with
          | some y => d.setPkt n { y with pool := i }
          | none => d
        d.attach n c
      | none => d

/-- A packet that can get no cell: dropped before its queue sees it, or abandoned (R409). -/
def Device.cellFailed (n : Nat) (d : Device) : Device :=
  match d.pkt? n with
  | none => d
  | some x =>
    if x.first.isNone then
      let d := match x.slot with | some s => d.slotDecided s true | none => d
      (d.dropPkt n).traceFate x.tagged 5 false
    else d.setPkt n { x with voidAt := true }

/-- Serve, while BPM_EN is 1, the waiters that may now take a cell, in rotating order of requester (R398, R400, R413). -/
def Device.serveWaiters : Nat → Device → Device
  | 0, d => d
  | k + 1, d =>
    let ok (w : Waiter) : Bool := match d.pool? w.pool with
      | some p => d.on BPM.BPM_EN && d.mayTake p && (d.nextChain p.dram).isSome && decide (d.now ≤ w.stamp + p.waitNs)
      | none => false
    let ws := d.cells.waiters.filter ok
    let pos (w : Waiter) : Nat := (w.req + 40 - d.cells.winFirst) % 40
    match ws.foldl (fun (b : Option Waiter) w => match b with
        | none => some w
        | some x => if pos w < pos x then some w else some x) none with
    | none => d
    | some w =>
      let d := { d with cells := { d.cells with waiters := d.cells.waiters.erase w } }
      Device.serveWaiters k (d.grantCell w.pool w.req w.pkt none)

/-- Serve every waiter that can be served. -/
def Device.serve (d : Device) : Device := d.serveWaiters d.cells.waiters.length

/-! ### Frees (R402 to R405) -/

/-- Write a refused free to the fault log (R403). -/
def Device.logFree (kind req p gen owner fgen fowner : Nat) (d : Device) : Device :=
  let s := d.rd BPM.FLOG_PRODUCED
  if unread s (d.rd BPM.FLOG_CONSUMED) 2048 = 1024 then d.count 0x1B0 0x860 1
  else
    let e : FEntry := { frame := d.frame % 2 ^ 32, offset := d.now % 125000, kind := kind, req := req, ptr := p, gen := gen,
                        owner := owner, foundGen := fgen, foundOwner := fowner }
    ({ d with cells := { d.cells with flog := Tbl.set d.cells.flog (s % 1024) e } }).wr BPM.FLOG_PRODUCED (s + 1)

/-- Follow a chain from `p` to `last` (R385, R405): the cells found, whether the chain was cut, and the reads. -/
def Device.walk (errs : Tbl CodeRead) : Nat → Nat → Nat → Device → List Nat × Bool × Device
  | 0, _, _, d => ([], true, d)
  | k + 1, p, last, d =>
    if p = last then ([p], false, d)
    else
      let (x, bad, d) := d.rdWord errs (descAddr p)
      if bad then ([p], true, d)
      else if !ptrOk (descNext x) then ([p], true, d.count 0x1B0 0x850 1)
      else
        let (r, c, d) := Device.walk errs k (descNext x) last d
        (p :: r, c, d)

/-- Put cells onto the head of the free chain of the first of them (R402). -/
def Device.splice (cells : List Nat) (d : Device) : Device :=
  match cells, cells.getLast? with
  | p :: _, some z =>
    let k := chainKey p
    let dram := ptrDram p
    let next := if FreeChain.count dram (d.chain k) = 0 then 0 else d.chainHead dram (if dram then k - 64 else k)
    let d := d.setNext z next
    let c := d.chain k
    ((d.setChain k { c with stack := cells ++ c.stack }).useCells dram (fun u => u - cells.length)).count 0x1B0 0x818 cells.length
  | _, _ => d

/-- Give a buffer's cells back: `total` leaves its pool, what a cut chain does not reach is lost (R402, R405). -/
def Device.giveBack (p : Nat) (cells : List Nat) (total : Nat) (d : Device) : Device :=
  let d := match Tbl.get? d.cells.bufPool p with
    | some i => d.modPool i (fun q => { q with held := q.held - total })
    | none => d
  let d := { d with cells := { d.cells with bufPool := d.cells.bufPool.erase p } }
  let d := d.splice cells
  let gone := total - cells.length
  if gone = 0 then d else (d.useCells (ptrDram p) (fun u => u - gone)).loseCells (ptrDram p) gone

/-- The buffer of a first cell: where its chain ends and how many cells it has, from the writer that still holds it or
from its header slot; whether that slot is poisoned. -/
def Device.bufEnd (errs : Tbl CodeRead) (p : Nat) (d : Device) : Nat × Nat × Bool × Device :=
  match d.pkt.pkts.find? (fun e => e.2.first = some p && !e.2.ended) with
  | some e => (e.2.last, e.2.cells, false, d)
  | none =>
    let (x, bad, d) := d.rdWord errs (hdrAddr p + 8)
    (bits x 0 36, bits x 36 6, bad, d)

/-- The cells of a buffer as far as they can be reached, the cells it counts, and whether its chain is cut (R389, R405). -/
def Device.bufCells (errs : Tbl CodeRead) (p : Nat) (d : Device) : List Nat × Nat × Bool × Device :=
  let (last, n, bad, d) := d.bufEnd errs p
  if bad then ([p], max n 1, true, d)
  else
    let (cells, cut, d) := d.walk errs (max n 1) p last
    (cells, max n cells.length, cut, d)

/-- Free a buffer whose free is in order: clear its owner, splice its cells (R402). -/
def Device.freeBuf (errs : Tbl CodeRead) (p : Nat) (d : Device) : Device :=
  let (cells, n, _, d) := d.bufCells errs p
  (d.setOwner p 0).giveBack p cells n

/-- A range fault of a free (R385, R402). -/
def Device.rangeFault (x p g o : Nat) (d : Device) : Device := (d.count 0x1B0 0x850 1).logFree 3 x p g o 0 0

/-- BUFFER_FREE (R402 to R404): requester `x` frees pointer `p`, naming owner `o` and generation `g`. -/
def bufferFree (_t x p o g : Nat) (errs : Tbl CodeRead) (d : Device) : Device :=
  if !ptrOk p then d.rangeFault x p g o
  else
    let (w, bad, d) := d.rdWord errs (descAddr p)
    if bad then d.rangeFault x p g o
    else if d.cells.clearing.contains p && decide (descOwner w = o) && decide (descGen w = g) then
      let d := { d with cells := { d.cells with clearing := d.cells.clearing.filter (· ≠ p) } }
      (d.setOwner p 0).count 0x1B0 0x880 1
    else if !descFirst w then (d.count 0x1B0 0x848 1).logFree 2 x p g o (descGen w) (descOwner w)
    else if descOwner w = 0 then (d.count 0x1B0 0x840 1).logFree 0 x p g o (descGen w) 0
    else if descOwner w ≠ o ∨ descGen w ≠ g then (d.count 0x1B0 0x848 1).logFree 1 x p g o (descGen w) (descOwner w)
    else
      (d.freeBuf (errs.filter (fun e => e.1 ≠ descAddr p)) p).serve

/-- OWNER_CLEAR (R404): the BPM clears OWNER in the next first cell of a spliced chain. -/
def ownerClear (_t : Nat) (d : Device) : Device :=
  match d.cells.clearing with
  | [] => d
  | p :: r => (({ d with cells := { d.cells with clearing := r } }).setOwner p 0).count 0x1B0 0x880 1

/-! ### Cell requests (R398, R400) -/

/-- Open a handshake window, or go on in it. No request comes before one served already in the window's rotating
order. -/
def Device.window (win r : Nat) (d : Device) : Option Device :=
  let cs := d.cells
  if win = cs.win then
    let pos := (r + 40 - cs.winFirst) % 40
    if pos < cs.winPos.getD 0 then none else some { d with cells := { cs with winPos := some pos } }
  else
    let first := match cs.winPos with
      | some p => (cs.winFirst - 1 + p + 1) % 40 + 1
      | none => cs.winFirst
    some { d with cells := { cs with win := win, winFirst := first, winPos := some ((r + 40 - first) % 40), tookShared := [], tookMin := [] } }

/-- The pool a packet's next cell comes from (R446): its queue's pool, or RT_POOL while that pool is in
back-pressure; one packet takes all its cells from one pool. -/
def Device.pktPool (d : Device) (x : Pkt) : Option Nat :=
  if x.first.isSome then some x.pool
  else
    match d.queueIdx x.queue with
    | none => none
    | some i =>
      match d.queue? i with
      | none => none
      | some q =>
        let bp := match d.pool? q.pool with | some p => d.poolBp p | none => false
        if q.rtPool ≠ 0 && bp then some (handleIdx q.rtPool) else some q.pool

/-- The requester of a packet: its slice, or the HIF (R400). -/
def Pkt.requester (x : Pkt) : Nat := match x.slot with | some s => s + 1 | none => 37

/-- A request against pool `i` (R397, R398, R400). -/
def Device.request (i r : Nat) (n : Option Nat) (cut : Option Bool) (d : Device) : Device :=
  let fail (d : Device) : Device := match n with | some n => d.cellFailed n | none => d
  if !d.on BPM.BPM_EN then fail (d.count 0x1B0 0x888 1)
  else
    match d.pool? i with
    | none => fail (d.count 0x1B0 0x820 1)
    | some p =>
      if d.mayTake p && (d.nextChain p.dram).isSome then d.grantCell i r n cut
      else
        let late := d.cells.tookMin.contains i || d.cells.tookShared.contains p.dram
        let d := d.countIf (decide (p.held < p.maxU * 64) && late) 0x1B0 0x838
        if p.wait then
          let ws := d.cells.waiters ++ [({ req := r, pool := i, stamp := d.now, pkt := n } : Waiter)]
          ({ d with cells := { d.cells with waiters := ws } }).count 0x1B0 0x828 1
        else fail (d.count 0x1B0 0x820 1)

/-- CELL_REQUEST (R397 to R401): in handshake window `win`, requester `r` asks for a cell of pool `i`; for packet
`n` the pool is the one R446 gives. -/
def cellRequest (_t win r i : Nat) (n : Option Nat) (cut : Option Bool) (d : Device) : Device :=
  match d.window win r with
  | none => d
  | some d =>
    match n with
    | none => d.request i r none cut
    | some k =>
      match d.pkt? k with
      | none => d
      | some x =>
        let free := decide (x.stage = .handed) || decide (x.stage = .pushed)
        if !free || x.ended || x.voidAt || decide (cellsFor x.bytes.length ≤ x.cells) || decide (Pkt.requester x ≠ r)
            || d.cells.waiters.any (fun w => w.pkt = some k) then d
        else
          match d.pktPool x with
          | none => (d.count 0x001 0x938 1).cellFailed k
          | some i => d.request i r (some k) cut

/-- Whether a waiting request has passed its limit unserved; at the limit itself a free may still come (R398, R413). -/
def Device.waitOver (d : Device) (w : Waiter) : Bool :=
  decide (w.stamp + (match d.pool? w.pool with | some p => p.waitNs | none => 0) < d.now)

/-- WAIT_TIMEOUT (R398): the oldest waiting request of requester `r` that has passed its limit fails. -/
def waitTimeout (_t r : Nat) (d : Device) : Device :=
  match d.cells.waiters.find? (fun w => decide (w.req = r) && d.waitOver w) with
  | none => d
  | some w =>
    let d := ({ d with cells := { d.cells with waiters := d.cells.waiters.erase w } }).count 0x1B0 0x830 1
    match w.pkt with
    | some n => d.cellFailed n
    | none => d

/-! ### Queues (R407 to R412, R440) -/

/-- The root above a node or queue (R423): level 0 index. -/
def Device.rootOf (d : Device) : Nat → Nat → Nat → Nat
  | 0, _, i => i
  | f + 1, l, i =>
    if l = 0 then i
    else if l = 1 ∧ i < 32768 then termTree i
    else
      let n := Tbl.getD d.traffic.nodes (l * 2 ^ 20 + i) {}
      Device.rootOf d f n.plevel n.parent

/-- The root of a queue, and whether it is network-bound (R427). -/
def Device.queueRoot (d : Device) (q : Queue) : Nat := d.rootOf 5 q.level q.parent
def Device.netBound (d : Device) (q : Queue) : Bool := decide (64 ≤ d.queueRoot q)

/-- The terminal node above a node or queue, where one is. -/
def Device.termAbove (d : Device) : Nat → Nat → Nat → Option Nat
  | 0, _, _ => none
  | f + 1, l, i =>
    if l = 0 then none
    else if l = 1 then (if i < 32768 then some i else none)
    else
      let n := Tbl.getD d.traffic.nodes (l * 2 ^ 20 + i) {}
      Device.termAbove d f n.plevel n.parent

/-- A service channel by its handle, while it stands. -/
def Device.chan? (d : Device) (h : Nat) : Option SvcChan :=
  match Tbl.get? d.svc.chans (handleIdx h) with
  | some c => if c.handle = h then some c else none
  | none => none

/-- Whether a packet's channel is stale (R313). -/
def Device.staleChan (d : Device) (p : Nat) : Bool :=
  let (i, g) := d.hdrChan p
  decide (g ≠ 0) && (match Tbl.get? d.svc.chans i with
    | some c => decide (handleGen c.handle ≠ g)
    | none => true)

/-- Count a packet sent toward the drains of a queue or channel, which run from the acceptance of their destroys (R309, R315). -/
def Device.cmdSent (h : Nat) (d : Device) : Device :=
  let cmds := d.svc.cmds.map (fun c => if wordAt c.words 1 = h then { c with sent := c.sent + 1 } else c)
  { d with svc := { d.svc with cmds := cmds } }

/-- A packet leaves or is freed: the queue's probe (R440). -/
def Device.probeLeft (i : Nat) (d : Device) : Device :=
  match d.queue? i with
  | none => d
  | some q =>
    match q.probe with
    | none => d
    | some (s, n) =>
      if n ≤ 1 then
        let x := d.now - s
        (d.modQueue i (fun q => { q with probe := none, delayLast := x, delayRun := max x q.delayRun })).count 0x1B2 0x860 1
      else d.modQueue i (fun q => { q with probe := some (s, n - 1) })

/-- Drop a packet whose push is refused: the writer frees the chain it owns. -/
def Device.refusePush (n ctrPage ctrOff fate : Nat) (d : Device) : Device :=
  match d.pkt? n with
  | none => d
  | some x =>
    let d := d.count ctrPage ctrOff 1
    let d := match x.first with
      | some p => d.freeBuf [] p
      | none => d
    let d := match x.slot with | some s => d.slotDecided s true | none => d
    ((d.dropPkt n).traceFate x.tagged fate false).serve

/-- The probe and push counts of a queue after a push (R440). -/
def Queue.pushed (q : Queue) (every now : Nat) : Queue :=
  if every = 0 ∨ q.probe.isSome then q
  else if every ≤ q.pushes + 1 then { q with pushes := 0, probe := some (now, q.pkts) }
  else { q with pushes := q.pushes + 1 }

/-- The last cell of a queue's tail packet: its writer's, while it is written, else the one its slot names. -/
def Device.tailLast (d : Device) (q : Queue) : Nat :=
  match d.pkt.pkts.find? (fun e => e.2.first = some q.tail && !e.2.ended) with
  | some e => e.2.last
  | none => d.hdrLast q.tail

/-- An accepted push (R407): the slot reads PENDING, the queue owns the buffer. -/
def Device.acceptPush (n i p : Nat) (x : Pkt) (q : Queue) (d : Device) : Device :=
  let d := d.wrWord (hdrAddr p) (hdr0 0 stPending x.deep x.lenFlag x.tagged.isSome x.chan)
  let d := (d.wrWord (hdrAddr p + 8) 0).setOwner p (queueTag i)
  let d := if q.pkts = 0 then d else d.setNext (d.tailLast q) p
  let h := if q.pkts = 0 then p else q.head
  let q' : Queue := { q with head := h, tail := p, pkts := q.pkts + 1, cells := q.cells + x.cells, cut := false }
  let d := d.modQueue i (fun _ => Queue.pushed q' (d.rdA TMG.SAMPLE_EVERY) d.now)
  let d := (d.count 0x1B1 0x810 1).countIf (decide (x.pool ≠ q.pool)) 0x1B2 0x850
  let d := d.traceMod x.tagged (fun r => { r with dPush := some (d.now - r.stamp), queue := q.handle })
  let d := match x.tagged with
    | some k => { d with mon := { d.mon with byCell := Tbl.set d.mon.byCell p k } }
    | none => d
  d.setPkt n { x with stage := .pushed }

/-- Push packet `n` onto its queue (R407, R408, R412, R414). -/
def Device.push (n : Nat) (d : Device) : Device :=
  match d.pkt? n with
  | none => d
  | some x =>
    match x.stage, x.first with
    | .handed, some p =>
      if !d.on QMG.QMG_EN then d.refusePush n 0x1B1 0x868 5
      else
        match d.queueIdx x.queue with
        | none => d.refusePush n 0x001 0x938 5
        | some i =>
          match d.queue? i with
          | none => d.refusePush n 0x001 0x938 5
          | some q =>
            if q.flush then (d.countIf q.closed 0x001 0x938).refusePush n 0x1B1 0x840 5
            else if q.closed then d.refusePush n 0x001 0x938 5
            else if q.maxCells ≤ q.cells then d.refusePush n 0x1B1 0x820 3
            else d.acceptPush n i p x q
    | _, _ => d

/-- The packets that are still written into queue `q` go, with the requests that wait for their cells. -/
def Device.dropWriters (q : Queue) (d : Device) : Device :=
  forEach (d.pkt.pkts.filter (fun e => decide (e.2.stage = .pushed ∧ e.2.queue = q.handle))) (fun e d =>
    let d := { d with cells := { d.cells with waiters := d.cells.waiters.filter (fun w => w.pkt ≠ some e.1) } }
    let d := match e.2.slot with | some s => d.slotDecided s true | none => d
    (d.dropPkt e.1).traceFate e.2.tagged 5 false) d

/-- Drop what a cut chain hides in a queue, the packets still being written among it (R405). -/
def Device.cutQueue (i : Nat) (d : Device) : Device :=
  match d.queue? i with
  | none => d
  | some q =>
    let d := d.dropWriters q
    let d := forEach (d.mon.byCell.filter (fun e => (Tbl.get? d.mon.traces e.2).any (fun r => decide (r.queue = q.handle)))) (fun e d =>
      d.traceFate (some e.2) 5 false) d
    let dram := match d.pool? q.pool with | some p => p.dram | none => ptrDram q.head
    let d := (d.useCells dram (fun u => u - q.cells)).loseCells dram q.cells
    let d := d.modPool q.pool (fun p => { p with held := p.held - q.cells })
    (d.modQueue i (fun q => { q with cut := true, pkts := 0, cells := 0, probe := none })).count 0x1B1 0x860 1

/-- Take the head packet, whose buffer is `cells` of `n`, out of a queue and free its buffer; a chain that is cut cuts the queue's
(R405). -/
def Device.removeHead (errs : Tbl CodeRead) (i : Nat) (cells : List Nat) (n : Nat) (cut : Bool) (d : Device) : Device :=
  match d.queue? i with
  | none => d
  | some q =>
    let follow := !cut && decide (1 < q.pkts)
    let (x, bad, d) := if follow then d.rdWord errs (descAddr (cells.getLast?.getD q.head)) else (0, false, d)
    let range := follow && !bad && !ptrOk (descNext x)
    let d := (d.probeLeft i).countIf range 0x1B0 0x850
    let d := (d.setOwner q.head 0).giveBack q.head cells n
    let d := d.modQueue i (fun q => { q with head := descNext x, tail := if q.pkts = 1 then 0 else q.tail, pkts := q.pkts - 1, cells := q.cells - n })
    let d := if cut || bad || range then d.cutQueue i else d
    d.serve

/-- A cell of a stack is read (R392, R422): whether it takes above 600 ns is free. -/
def Device.readCell (c : Nat) (d : Device) : Device :=
  let (v, d) := d.draw
  (d.count (skcPage (c % 8)) 0x810 1).countIf (decide (v % 2 = 1)) (skcPage (c % 8)) 0x840

/-- The bytes of a packet read from its cells, and whether any word of its slot or data is poisoned (R389, R406). The second word of the
slot was read with the chain. -/
def Device.readPkt (errs : Tbl CodeRead) (p : Nat) (cells : List Nat) (d : Device) : List Nat × Bool × Device :=
  let (_, b0, d) := d.rdWord errs (hdrAddr p)
  let r := cells.foldl (fun (acc : List Nat × Bool × Device) c =>
    let (bs, bad, d) := acc
    let o := if c = p then 16 else 0
    let (_, b, d) := d.rdWords errs ((248 - o) / 8) (cellAddr c + o)
    let d := if ptrDram c then d.readCell c else d
    (bs ++ Memory.readBytes d.cells.mem (cellAddr c + o) (248 - o), bad || b, d)) ([], b0, d)
  (r.1.take (d.hdrLength p), r.2)

/-- Hand a packet read from a queue to its root's port (R410). -/
def Device.handOut (root : Nat) (e : Egress) (d : Device) : Device :=
  let l := Tbl.getD d.traffic.egress root []
  { d with traffic := { d.traffic with egress := Tbl.set d.traffic.egress root (l ++ [e]) } }

/-- Pop queue `i` (R410, R313, R389). A poisoned word that holds LAST_CELL counts its packet as poisoned and cuts the chain. -/
def Device.pop (errs : Tbl CodeRead) (i : Nat) (d : Device) : Device :=
  match d.queue? i with
  | none => d
  | some q =>
    if !d.on QMG.QMG_EN ∨ q.pkts = 0 then d
    else
      let p := q.head
      let st := d.hdrStatus p
      let tr := d.traceOf p
      if st = stPending then d.count 0x1B1 0x858 1
      else
        let slotBad := (d.bufEnd errs p).2.2.1
        let (cells, n, cut, d) := (d.count 0x1B1 0x818 1).bufCells errs p
        if st = stVoid then ((d.count 0x1B1 0x828 1).traceFate tr 4 false).removeHead errs i cells n cut
        else if d.staleChan p then ((d.count 0x001 0x938 1).traceFate tr 5 false).removeHead errs i cells n cut
        else if cut then ((d.countIf slotBad 0x1B1 0x830).traceFate tr 5 false).removeHead errs i cells n cut
        else
          let (c, g) := d.hdrChan p
          let (bs, bad, d) := d.readPkt errs p cells
          if bad then ((d.count 0x1B1 0x830 1).traceFate tr 5 false).removeHead errs i cells n cut
          else
            let h := if g = 0 then 0 else mkHandle .channel g c
            let term := match d.chan? h with | some x => handleIdx x.term | none => (d.termAbove 5 q.level q.parent).getD noTerm
            let d := (d.handOut (d.queueRoot q) { bytes := bs, chan := h, term := term, tagged := tr }).removeHead errs i cells n cut
            let d := d.cmdSent q.handle
            if h = 0 then d else d.cmdSent h

/-- Write a pushed packet's status once its end and, where it needs one, its tag result are there (R407, R370). -/
def Device.finish (n : Nat) (d : Device) : Device :=
  match d.pkt? n with
  | none => d
  | some x =>
    match x.first with
    | none => d
    | some p =>
      if !x.ended || (x.needTag && x.tag.isNone) then d
      else
        let good := !x.voidAt && !x.erased && (!x.needTag || x.tag.getD false)
        let st := if good then stFinal else stVoid
        let len := if good then x.bytes.length else 0
        let d := d.wrWord (hdrAddr p) (hdr0 len st x.deep x.lenFlag x.tagged.isSome x.chan)
        let d := d.traceMod x.tagged (fun r => { r with dFinal := some (d.now - r.stamp), length := len })
        let d := match x.slot with | some s => d.slotDecided s (!good) | none => d
        d.dropPkt n

/-- PACKET_END (R407, R409): packet `n` ends; `whole` tells whether its crossing passed all of it. -/
def packetEnd (_t n : Nat) (whole : Bool) (d : Device) : Device :=
  match d.pkt? n with
  | none => d
  | some x =>
    match x.stage, x.first with
    | .pushed, some p =>
      if x.ended then d
      else
        let done := whole && !x.voidAt && decide (cellsFor x.bytes.length ≤ x.cells)
        let d := d.wrWord (hdrAddr p + 8) (hdr1 x.last x.cells)
        let d := d.countIf (!done) 0x1B1 0x838
        (d.setPkt n { x with ended := true, voidAt := !done }).finish n
    | _, _ => d

/-! ### Flushing (R404, R412) -/

/-- Whether a queue's tail packet is final or void. -/
def Device.tailFinal (d : Device) (q : Queue) : Bool := decide (q.pkts = 0) || decide (d.hdrStatus q.tail ≠ stPending)

/-- The first cells of a queue's packets, head first. -/
def Device.firsts (d : Device) (cells : List Nat) : List Nat := cells.filter (fun c => descFirst (d.desc c))

/-- The cells of each buffer of a walked chain, in its order; the first group has no first cell where the chain does not
begin with one. -/
def Device.buffers (d : Device) : List Nat → List (Option Nat × List Nat)
  | [] => []
  | c :: r =>
    let f := if descFirst (d.desc c) then some c else none
    match Device.buffers d r with
    | (none, cs) :: t => (f, c :: cs) :: t
    | bs => (f, [c]) :: bs

/-- Link cells one to the next where their descriptors do not. -/
def Device.relink : List Nat → Device → Device
  | p :: z :: r, d => Device.relink (z :: r) (if descNext (d.desc p) = z then d else d.setNext p z)
  | _, d => d

/-- Return a queue's whole chain in one step (R404). The packets it held. DEPTH_CELLS leaves the pool's held cells, but for the buffers that RT_POOL gave
(R446), whose cells leave that pool's. No cell moves between regions (R383): the cells of the other region join the free chain of the first of them
(DEDUCED, log entry 51). -/
def Device.spliceQueue (i : Nat) (d : Device) : Nat × Device :=
  match d.queue? i with
  | none => (0, d)
  | some q =>
    if q.pkts = 0 then (0, d)
    else
      let (cells, cut, d) := d.walk [] q.cells q.head (d.tailLast q)
      let d := d.dropWriters q
      let firsts := d.firsts cells
      let others := (d.buffers cells).filterMap (fun b => match b.1.bind (fun p => Tbl.get? d.cells.bufPool p) with
        | some k => if k = q.pool then none else some (k, b.2.length)
        | none => none)
      let d := forEach others (fun b d => d.modPool b.1 (fun p => { p with held := p.held - b.2 })) d
      let d := d.modPool q.pool (fun p => { p with held := p.held - (q.cells - (others.map (·.2)).sum) })
      let d := forEach firsts (fun p d => d.traceFate (d.traceOf p) 5 false) d
      let bp := d.cells.bufPool.filter (fun e => !firsts.contains e.1)
      let d := { d with cells := { d.cells with bufPool := bp, clearing := d.cells.clearing ++ firsts } }
      let dram := ptrDram q.head
      let (here, there) := cells.partition (fun c => ptrDram c == dram)
      let d := ((d.relink here).splice here).relink there |>.splice there
      let gone := q.cells - cells.length
      let d := if cut then ((d.useCells dram (fun u => u - gone)).loseCells dram gone).count 0x1B1 0x860 1 else d
      let d := d.modQueue i (fun q => { q with head := 0, tail := 0, pkts := 0, cells := 0, probe := none, cut := false })
      (q.pkts, d.serve)

/-! ### Scrubbing, refresh and the stacks (R390, R393, R394) -/

/-- SCRUB_READ (R390): a scrub read of a word finds `e`; `last` tells that it ends a pass of its stack. -/
def scrubRead (_t : Nat) (at_ : ScrubAt) (e : CodeRead) (last : Bool) (d : Device) : Device :=
  match at_ with
  | .cell a =>
    let dram := bit a 43
    if dram && !d.on (SKC.SCRUB_EN (stackOf a)) then d
    else
      let (_, _, d) := d.rdWord [(a, e)] a
      d.countIf (dram && last) (skcPage (stackOf a)) 0x830
  | .table b q =>
    match e with
    | .corrected => d.countErr (338 + b) true
    | .uncorrectable =>
      let d := d.countErr (338 + b) false
      match q with
      | some i => d.cutQueue i
      | none => d
    | _ => d

/-- The refresh level of a stack from its sensor, in quarter degrees, and its level before (R393). -/
def refreshLevel (cur : Nat) (temp : Int) : Nat :=
  if 380 < temp ∨ (cur = 2 ∧ 368 < temp) then 2
  else if 340 < temp ∨ (1 ≤ cur ∧ 328 < temp) then 1
  else 0

/-- DRAM_REFRESH (R393): the SKC of stack `n` refreshes a bank at the interval its sensor sets. -/
def dramRefresh (_t n : Nat) (d : Device) : Device :=
  let temp := d.pow.temps.getD (64 + n) 0
  let cur := if d.on (SKC.REFRESH_4X n) then 2 else if d.on (SKC.REFRESH_2X n) then 1 else 0
  let l := refreshLevel cur temp
  let d := (d.wr (SKC.REFRESH_2X n) (b2n (decide (l = 1)))).wr (SKC.REFRESH_4X n) (b2n (decide (l = 2)))
  (d.wr (SKC.STACK_TEMP n) (unsign 8 (temp / 4))).count (skcPage n) 0x838 1

/-- SKC_READY (R394): an SKC ends the training and initialization of its stack. -/
def skcReady (_t n : Nat) (d : Device) : Device := (d.wr (SKC.READY n) 1).serve

/-! ### Register rows of the BPM page -/

/-- FLOG_CONSUMED (R403, R415): a write releases entries, or is refused. -/
def flogConsumed (_t : Nat) (m : Master) (v : Nat) (d : Device) : Device :=
  d.asMaster m .k1 0x1B0 (fun d =>
    let p := d.rd BPM.FLOG_PRODUCED
    if unread p (v % 2048) 2048 ≤ 1024 then d.wr BPM.FLOG_CONSUMED v else d.refuse 0x1B0)

/-- Whether a cell address is one R386 allows. -/
def cellAddrOk (a : Nat) : Bool := decide (a % 256 = 0) && decide (a % 2 ^ 43 < if bit a 43 then 2 ^ 41 else 2 ^ 28)

/-- CELL_ADDR (R386, R415): a write of CELL_ADDR_HI applies both words. -/
def cellAddrHi (_t : Nat) (m : Master) (v : Nat) (d : Device) : Device :=
  d.asMaster m .k1 0x1B0 (fun d =>
    if (Tbl.get? d.pages.winOps (0x1B0 * 8 + 3)).isSome then d.lockedWrite 0x1B0
    else if cellAddrOk (v % 4096 * 2 ^ 32 + d.cells.addrLo) then
      (d.wr BPM.CELL_ADDR_LO d.cells.addrLo).wr BPM.CELL_ADDR_HI v
    else d.refuse 0x1B0)

end Sys2Proof.Machine
end

