-- ==== Sys2Proof/Machine/Traffic.lean ====
section
/-!
DEFINITION. Scheduling, shaping and time gates (chapter 12): the scheduler tree, its rounds and deficits, shapers and
their buckets, gate lists, and the request of a port for its next packet.
-/

namespace Sys2Proof.Machine

/-! ### The tree (R423 to R426) -/

/-- The key of a node or queue: its level and index; a terminal's OMCI queue counts as level 5. -/
def nodeKey (level idx : Nat) : Nat := level * 2 ^ 20 + idx
def keyLevel (k : Nat) : Nat := k / 2 ^ 20
def keyIdx (k : Nat) : Nat := k % 2 ^ 20

/-- A node's table entry. -/
def Device.node (d : Device) (k : Nat) : TNode := Tbl.getD d.traffic.nodes k {}
def Device.setNode (k : Nat) (n : TNode) (d : Device) : Device :=
  { d with traffic := { d.traffic with nodes := Tbl.put {} d.traffic.nodes k n } }

/-- Whether a node exists: a tree root always, a port root while its port is configured, a terminal node with its
terminal, any other while it is enabled (R424). -/
def Device.nodeUp (d : Device) (k : Nat) : Bool :=
  let i := keyIdx k
  match keyLevel k with
  | 0 => decide (i < 64) || (decide (i < 320) && d.portConfigured (i - 64))
  | 1 => if i < 32768 then (d.term? i).isSome else (d.node k).enable
  | _ => (d.node k).enable

/-- The nodes directly below a node. -/
def Device.childNodes (d : Device) (k : Nat) : List Nat :=
  let own := (d.traffic.nodes.filter (fun e =>
    e.2.enable && decide (nodeKey e.2.plevel e.2.parent = k) && !(keyLevel e.1 = 1 && keyIdx e.1 < 32768) && decide (0 < keyLevel e.1))).map (·.1)
  if k < 64 then (d.rng.terms.filter (fun e => termTree e.1 = k)).map (fun e => nodeKey 1 e.1) ++ own else own

/-- The queues directly below a node. -/
def Device.childQueues (d : Device) (k : Nat) : List Nat :=
  (d.cells.queues.filter (fun e => nodeKey e.2.level e.2.parent = k)).map (·.1)

/-- The children of a node (R423, R426). -/
def Device.children (d : Device) (k : Nat) : List Nat :=
  let omci := if keyLevel k = 1 ∧ keyIdx k < 32768 then [nodeKey 5 (keyIdx k)] else []
  omci ++ d.childNodes k ++ (d.childQueues k).map (nodeKey 4)

/-- WEIGHT and RANK of a child. An OMCI queue takes the first turn of a round (R426): it ranks below every other
child. -/
def Device.weightOf (d : Device) (k : Nat) : Nat :=
  match keyLevel k with
  | 4 => match d.queue? (keyIdx k) with | some q => q.weight | none => 1
  | 5 => 1
  | _ => (d.node k).weight
def Device.rankOf (d : Device) (k : Nat) : Nat :=
  match keyLevel k with
  | 4 => match d.queue? (keyIdx k) with | some q => q.rank | none => 0
  | _ => (d.node k).rank

/-- The place of a child in a round: the OMCI queue first, then by rank. -/
def Device.turnRank (d : Device) (k : Nat) : Nat := if keyLevel k = 5 then 0 else d.rankOf k + 1

/-- AW of a node (R432): the weights of the queues below it that hold a packet. -/
def Device.aw (d : Device) : Nat → Nat → Nat
  | 0, _ => 0
  | f + 1, k =>
    ((d.childQueues k).map (fun i => match d.queue? i with | some q => if q.pkts = 0 then 0 else q.weight | none => 0)).sum
      + ((d.childNodes k).map (fun c => Device.aw d f c)).sum

/-- EW of a child of a node (R432). -/
def Device.ew (d : Device) (parent k : Nat) : Nat :=
  if (d.node parent).comp && decide (keyLevel k < 4) then max 1 (d.weightOf k * d.aw 4 k) else d.weightOf k

/-! ### Shapers (R436 to R439) -/

/-- The capacity of a bucket: 8,000,000 units a byte, so that a kbit/s fills one unit a nanosecond. -/
def bucketMax (burst : Nat) : Int := 8000000 * (burst : Int)

/-- The level of a bucket at instant `t` (R437). -/
def Bucket.at (b : Bucket) (rate burst t : Nat) : Int := min (bucketMax burst) (b.level + (rate * (t - b.at_) : Nat))

/-- Take a packet's charge from a bucket (R437). The object is parked at the instant its bucket is back at 0, or in
the wheel's last slot (R438). -/
def Bucket.charge (b : Bucket) (rate burst adj len t : Nat) : Bucket :=
  let l := Bucket.at b rate burst t - 8000000 * ((len : Int) + signed 8 adj)
  let back := t + ceilDiv (-l).toNat (max 1 rate)
  { level := l, at_ := t, parked := if l < 0 then some (min back (t + 65535 * 16)) else none }

/-- The node reference of a node (R425). -/
def nodeRef (k : Nat) : Nat := keyLevel k * 2 ^ 26 + keyIdx k

/-- The target name of a key in a shaper: a queue's handle, or a node reference. -/
def Device.targetOf (d : Device) (k : Nat) : Nat :=
  if keyLevel k = 4 then (match d.queue? (keyIdx k) with | some q => q.handle | none => 0) else nodeRef k

/-- The shaper of a queue or node. -/
def Device.shaperOf (d : Device) (k : Nat) : Option (Nat × Shaper) :=
  d.traffic.shapers.find? (fun e => e.2.target = d.targetOf k)

/-- The terminal-level bucket of a terminal node (R22, R436). -/
def Device.termBucket (d : Device) (x : Nat) : Bucket :=
  Tbl.getD d.traffic.termBuckets x ⟨bucketMax (d.node (nodeKey 1 x)).burst, 0, none⟩

/-- Whether the shapers of an object permit it now (R437, R438). -/
def Device.permits (d : Device) (k : Nat) : Bool :=
  let own := match d.shaperOf k with
    | some (_, s) => decide (0 ≤ Bucket.at s.bucket s.rate s.burst d.now)
    | none => true
  let term :=
    if keyLevel k = 1 ∧ keyIdx k < 32768 then
      let n := d.node k
      decide (n.rate = 0) || decide (0 ≤ Bucket.at (d.termBucket (keyIdx k)) n.rate n.burst d.now)
    else true
  own && term

/-- Charge the shapers of an object for a packet (R437, R438). -/
def Device.chargeShapers (k len : Nat) (d : Device) : Device :=
  let d := match d.shaperOf k with
    | some (i, s) =>
      let b := Bucket.charge s.bucket s.rate s.burst s.adj len d.now
      ({ d with traffic := { d.traffic with shapers := Tbl.set d.traffic.shapers i { s with bucket := b } } }).countIf b.parked.isSome 0x1B2 0x820
    | none => d
  if keyLevel k = 1 ∧ keyIdx k < 32768 ∧ (d.node k).rate ≠ 0 then
    let n := d.node k
    let b := Bucket.charge (d.termBucket (keyIdx k)) n.rate n.burst n.adj len d.now
    ({ d with traffic := { d.traffic with termBuckets := Tbl.set d.traffic.termBuckets (keyIdx k) b } }).countIf b.parked.isSome 0x1B2 0x820
  else d

/-- A wheel slot comes due: the object is eligible again, or is parked again (R438). -/
def Bucket.expire (b : Bucket) (rate burst t : Nat) : Bucket × Bool :=
  match b.parked with
  | none => (b, false)
  | some w =>
    if t < w then (b, false)
    else
      let l := Bucket.at b rate burst t
      if 0 ≤ l then ({ b with parked := none }, false)
      else
        let p := min (t + ceilDiv (-l).toNat (max 1 rate)) (t + 65535 * 16)
        ({ b with parked := some p }, true)

/-- SHAPER_WHEEL_EXPIRY (R438): the wheel reaches the slot of shaper `i`, or of terminal `i`'s own. -/
def shaperWheelExpiry (t : Nat) (terminal : Bool) (i : Nat) (d : Device) : Device :=
  if terminal then
    let n := d.node (nodeKey 1 i)
    let (b, again) := Bucket.expire (d.termBucket i) n.rate n.burst t
    if b = d.termBucket i then d
    else ({ d with traffic := { d.traffic with termBuckets := Tbl.set d.traffic.termBuckets i b } }).countIf again 0x1B2 0x828
  else
    match Tbl.get? d.traffic.shapers i with
    | none => d
    | some s =>
      let (b, again) := Bucket.expire s.bucket s.rate s.burst t
      ({ d with traffic := { d.traffic with shapers := Tbl.set d.traffic.shapers i { s with bucket := b } } }).countIf again 0x1B2 0x828

/-! ### Time gates (R441 to R445) -/

/-- The entry of a list that holds at offset `x` of its cycle, and the time left in it. -/
def entryAt : List (Nat × Nat) → Nat → Nat × Nat
  | [], _ => (0, 0)
  | e :: r, x => if x < e.1 then (0, e.1 - x) else let (i, l) := entryAt r (x - e.1); (i + 1, l)

/-- The entry running at instant `t` of a list in force since its start (R443). -/
def GateList.entry (g : GateList) (t : Nat) : Nat × Nat := entryAt g.entries ((t - g.start) % max 1 g.cycle)

/-- A list at instant `t`: one in force shows the entry that runs. -/
def GateList.turned (g : GateList) (t : Nat) : GateList := if g.st = .inForce then { g with cur := (GateList.entry g t).1 } else g

/-- Whether rank `r` is open at `t`. -/
def GateList.isOpen (g : GateList) (t r : Nat) : Bool := bit (g.entries.getD (GateList.entry g t).1 (0, 0)).2 r

/-- The time until rank `r` closes; none where it never does (R443). -/
def GateList.openFor (g : GateList) (t r : Nat) : Option Nat :=
  let (i, l) := GateList.entry g t
  let n := g.entries.length
  let later := (List.range n).map (fun j => g.entries.getD ((i + 1 + j) % max 1 n) (0, 0))
  let run := later.takeWhile (fun e => bit e.2 r)
  if run.length = n then none else some (l + (run.map (·.1)).sum)

/-- The list in force on a node. -/
def Device.gateOf (d : Device) (k : Nat) : Option GateList :=
  (d.traffic.gates.find? (fun e => e.2.node = nodeRef k && e.2.st = .inForce)).map (·.2)

/-- Whether the gates open rank `r` now (R429). -/
def Device.gatesOpen (d : Device) (gs : List GateList) (r : Nat) : Bool := gs.all (fun g => GateList.isOpen g d.now r)

/-- Whether a packet of `len` bytes fits the open interval under length-aware closing (R443). The rate of a network port is in
Gbit/s; a tree root's is 49.7664 Gbit/s. -/
def guardFits (root rate len left : Nat) : Bool :=
  if root < 64 then decide ((len + 24) * 8 * 10000 < left * 497664) else decide ((len + 24) * 8 < left * rate)
def Device.guardOk (d : Device) (root : Nat) (gs : List GateList) (r len : Nat) : Bool :=
  let rate := if root < 64 then 0 else d.portRate (root - 64)
  (gs.filter (·.guard)).all (fun g =>
    match GateList.openFor g d.now r with
    | some l => guardFits root rate len l
    | none => true)

/-! ### Rounds (R429 to R433) -/

/-- Whether a queue has a packet to take (R429, R414). -/
def Device.queueReady (d : Device) (i : Nat) : Bool :=
  match d.queue? i with
  | some q => d.on QMG.QMG_EN && decide (q.pkts ≠ 0) && decide (d.hdrStatus q.head ≠ stPending)
  | none => false

/-- The OMCI messages waiting for a terminal. -/
def Device.omciOf (d : Device) (x : Nat) : List (List Nat) := Tbl.getD d.traffic.omci x []

/-- Whether a child is eligible at its parent, but for length-aware closing and the room of a tree frame (R429). `gs`
holds the gate lists in force above it. -/
def Device.eligible (d : Device) : Nat → List GateList → Nat → Bool
  | 0, _, _ => false
  | f + 1, gs, k =>
    let own := match d.gateOf k with | some g => g :: gs | none => gs
    match keyLevel k with
    | 5 => decide (d.omciOf (keyIdx k) ≠ [])
    | 4 => d.queueReady (keyIdx k) && d.permits k && d.gatesOpen gs (d.rankOf k)
    | _ => d.permits k && d.gatesOpen own (d.rankOf k) && (d.children k).any (fun c => Device.eligible d f own c)

/-- The length a queue's head asks for: 0 for a head that is freed (R429). -/
def Device.headLength (d : Device) (i : Nat) : Nat :=
  match d.queue? i with
  | some q => if d.hdrStatus q.head = stVoid || d.staleChan q.head then 0 else d.hdrLength q.head
  | none => 0

/-- The round of a node, and a child's deficit. -/
def Device.round (d : Device) (k : Nat) : Round := Tbl.getD d.traffic.rounds k {}
def Device.setRound (k : Nat) (r : Round) (d : Device) : Device :=
  { d with traffic := { d.traffic with rounds := Tbl.put {} d.traffic.rounds k r } }
def Device.deficit (d : Device) (k : Nat) : Nat := Tbl.getD d.traffic.deficits k 0
def Device.setDeficit (k n : Nat) (d : Device) : Device :=
  { d with traffic := { d.traffic with deficits := Tbl.put 0 d.traffic.deficits k n } }

/-- The quantum of a child (R432). -/
def Device.quantum (d : Device) (unit parent : Nat) (elig : List Nat) (k : Nat) : Nat :=
  let m := elig.foldl (fun a c => min a (d.ew parent c)) (d.ew parent k)
  min 16777215 (unit * d.ew parent k / max 1 m)

/-- The next child in a round: ascending rank, and within a rank in rotating order after the child of that rank served
last (R430). -/
def Device.nextTurn (d : Device) (r : Round) (cand : List Nat) : Option Nat :=
  match cand.map d.turnRank with
  | [] => none
  | a :: l =>
    let m := l.foldl min a
    let cs := cand.filter (fun c => d.turnRank c = m)
    let lastKey := Tbl.get? r.last m
    let after := cs.filter (fun c => match lastKey with | some z => decide (z < c) | none => true)
    let pickMin (xs : List Nat) : Option Nat := xs.foldl (fun b c => match b with | some x => some (min x c) | none => some c) none
    if after = [] then pickMin cs else pickMin after

/-- Whether a child still holds a packet, for the end of its turn (R431). -/
def Device.holdsPacket (d : Device) (k : Nat) : Bool :=
  match keyLevel k with
  | 5 => decide (d.omciOf (keyIdx k) ≠ [])
  | 4 => match d.queue? (keyIdx k) with | some q => decide (q.pkts ≠ 0) | none => false
  | _ => decide (0 < d.aw 4 k) || (d.childNodes k).any (fun c => keyLevel c = 1 && decide (d.omciOf (keyIdx c) ≠ []))
      || (keyLevel k = 1 && decide (d.omciOf (keyIdx k) ≠ []))

/-- End the turn of a child (R431). -/
def Device.endTurn (v c : Nat) (d : Device) : Device :=
  let d := if d.holdsPacket c then d else d.setDeficit c 0
  let r := d.round v
  d.setRound v { r with turn := none }

/-- The parent of a node, a queue or an OMCI queue (R423, R426). -/
def Device.parentKey (d : Device) (k : Nat) : Nat :=
  let i := keyIdx k
  match keyLevel k with
  | 0 => k
  | 1 => if i < 32768 then termTree i else (d.node k).parent
  | 4 => match d.queue? i with | some q => nodeKey q.level q.parent | none => k
  | 5 => nodeKey 1 i
  | _ => nodeKey (d.node k).plevel (d.node k).parent

/-- The gate lists in force on a node and on the `f` nodes above it. -/
def Device.listsAbove (d : Device) : Nat → Nat → List GateList
  | 0, _ => []
  | f + 1, k => (d.gateOf k).toList ++ (if keyLevel k = 0 then [] else Device.listsAbove d f (d.parentKey k))

/-- End the turns of children that are no longer eligible (R431). -/
def Device.endTurns (d : Device) : Device :=
  forEach d.traffic.rounds (fun e d =>
    match e.2.turn with
    | some c => if d.eligible 5 (d.listsAbove 5 e.1) c then d else d.endTurn e.1 c
    | none => d) d

/-- The XGEM bytes a packet of `len` bytes takes on the line (R101, R363). -/
def Device.lineBytes (d : Device) (i len : Nat) : Nat :=
  let keyed := match d.queue? i with
    | some q =>
      let (c, g) := d.hdrChan q.head
      (match Tbl.get? d.svc.chans c with | some x => decide (g ≠ 0) && x.active.isSome | none => false)
    | none => false
  xgemBytes (if keyed then len + 24 else len)

/-- Whether a tree frame has room for a terminal's next frame of `n` bytes (R433). -/
def Device.roomFor (d : Device) (x n : Nat) : Bool :=
  let cs := if d.courseExt x then d.members x else (d.home x).toList
  cs.any (fun c => match (d.cfr c).asm with | some f => decide (f.fill + n ≤ f.space) | none => false)

/-- Count a packet held by length-aware closing, once (R443). -/
def Device.guardHold (k : Nat) (d : Device) : Device :=
  let h := match d.queue? (keyIdx k) with | some q => q.head + 1 | none => 0
  if Tbl.getD d.traffic.guardHeld k 0 = h then d
  else ({ d with traffic := { d.traffic with guardHeld := Tbl.set d.traffic.guardHeld k h } }).count 0x1B2 0x830 1

/-- The turn a node's round comes to: the path from the child whose turn it is down to a queue, the length its packet asks for, and the rounds
and deficits that the search leaves on the way. -/
structure Turn where
  path : List Nat
  len : Nat
  rounds : List (Nat × Round) := []
  deficits : List (Nat × Nat) := []
  deriving DecidableEq, Repr

/-- Turn a node's round until the turn is of a child whose packet is within its deficit (R430, R431). `el` are the children that can send, each
with the length of its packet; `ds` the deficits changed so far. A round takes QUANTUM_UNIT as it stands at its first turn (R450). -/
def Device.spin (d : Device) (v : Nat) (el : List (Nat × Nat)) : Nat → Round → Tbl Nat → Option (Nat × Round × Tbl Nat)
  | 0, _, _ => none
  | f + 1, r, ds =>
    let deficit (c : Nat) : Nat := (Tbl.get? ds c).getD (d.deficit c)
    let keys := el.map (·.1)
    match r.turn with
    | some c =>
      if el.any (fun e => e.1 = c && decide (e.2 ≤ deficit c)) then some (c, r, ds)
      else Device.spin d v el f { r with turn := none } (if d.holdsPacket c then ds else Tbl.set ds c 0)
    | none =>
      if el = [] then none
      else
        match d.nextTurn r (keys.filter (fun c => !r.served.contains c && decide (r.rank ≤ d.turnRank c))) with
        | some c =>
          let m := d.turnRank c
          let u := if r.served = [] then d.rdA TMG.QUANTUM_UNIT else r.unit
          Device.spin d v el f { served := c :: r.served, rank := m, turn := some c, last := Tbl.set r.last m c, unit := u }
            (Tbl.set ds c (deficit c + d.quantum u v keys c))
        | none => Device.spin d v el f { r with served := [], rank := 0 } ds

/-- The last key of a path. -/
def lastKey (p : List Nat) : Nat := p.getLast?.getD 0

/-- Whether length-aware closing and the room of the tree frame let child `c` of node `v` send (R433, R443): `gates` are the lists in force on it
and above it, `q` is the queue its packet waits in. An OMCI queue is not gated, and a head that is freed needs neither (log entry 55). -/
def Device.guardLets (d : Device) (root c q len : Nat) (gates : List GateList) : Bool :=
  decide (keyLevel q = 5) || decide (len = 0) || d.guardOk root gates (d.rankOf c) len
def Device.roomLets (d : Device) (root v c q len : Nat) : Bool :=
  let n := if keyLevel q = 5 then xgemBytes len else d.lineBytes (keyIdx q) len
  decide (v ≠ root) || decide (keyLevel c ≠ 1) || decide (64 ≤ root) || decide (len = 0) || d.roomFor (keyIdx c) n

/-- The turn of a node by its own round, going down `f` levels (R429 to R433), and the queues whose packets length-aware closing holds. -/
def Device.settle (d : Device) (root : Nat) : Nat → List GateList → Nat → Option Turn × List Nat
  | 0, _, _ => (none, [])
  | f + 1, gs, v =>
    match keyLevel v with
    | 5 => ((d.omciOf (keyIdx v)).head?.map (fun m => { path := [], len := m.length }), [])
    | 4 => (if d.queueReady (keyIdx v) then some { path := [], len := d.headLength (keyIdx v) } else none, [])
    | _ =>
      let own := (d.gateOf v).toList ++ gs
      let subs := ((d.children v).filter (fun c => d.eligible 5 own c)).map (fun c => (c, Device.settle d root f own c))
      let offers : List (Nat × Turn) := subs.filterMap (fun e => e.2.1.map (fun t => (e.1, t)))
      let passes (e : Nat × Turn) : Bool := d.guardLets root e.1 (lastKey (e.1 :: e.2.path)) e.2.len ((d.gateOf e.1).toList ++ own)
      let held := (subs.map (·.2.2)).flatten ++ (offers.filter (fun e => !passes e)).map (fun e => lastKey (e.1 :: e.2.path))
      let el := (offers.filter passes).filter (fun e => d.roomLets root v e.1 (lastKey (e.1 :: e.2.path)) e.2.len)
      let turn := (d.spin v (el.map (fun e => (e.1, e.2.len))) (320 * (el.length + 3)) (d.round v) []).bind (fun x =>
        (el.find? (fun e => e.1 = x.1)).map (fun e =>
          { path := e.1 :: e.2.path, len := e.2.len, rounds := (v, x.2.1) :: e.2.rounds, deficits := x.2.2 ++ e.2.deficits : Turn }))
      (turn, held)

/-- Take a turn: its rounds and deficits stand, and its packet's length leaves the deficits of its path (R431). -/
def Device.takeTurn (x : Turn) (d : Device) : Device :=
  let d := forEach x.rounds (fun e d => d.setRound e.1 e.2) d
  let d := forEach x.deficits (fun e d => d.setDeficit e.1 e.2) d
  forEach x.path (fun c d => d.setDeficit c (d.deficit c - x.len)) d

/-- Whether a root may be served (R433, R434, R482). -/
def Device.rootServed (d : Device) (root : Nat) : Bool :=
  d.on TMG.TMG_EN && !(Tbl.get? d.traffic.picked root).isSome
    && (decide (root < 64) || (d.portConfigured (root - 64) && d.portUp (root - 64) && !d.portPaused (root - 64) && d.netMaySend))

/-- A root's packet is chosen (R431, R437): an OMCI message leaves at once; a queue's waits for its pop, and one that is freed takes nothing. -/
def Device.serveTurn (root : Nat) (x : Turn) (d : Device) : Device :=
  let q := lastKey x.path
  let charge (len : Nat) (d : Device) : Device :=
    ((forEach x.path (fun c d => d.chargeShapers c len) d).count 0x1B2 0x810 1).count 0x1B2 0x818 len
  if keyLevel q = 5 then
    let i := keyIdx q
    match d.omciOf i with
    | [] => d
    | m :: r =>
      let om := if r = [] then d.traffic.omci.erase i else Tbl.set d.traffic.omci i r
      (charge m.length { d with traffic := { d.traffic with omci := om } }).handOut root { bytes := m, term := i, omci := true }
  else
    let d := { d with traffic := { d.traffic with picked := Tbl.set d.traffic.picked root (keyIdx q) } }
    let h := (d.queue? (keyIdx q)).elim 0 (·.head)
    if d.hdrStatus h = stVoid || d.staleChan h then d else charge x.len d

/-- EGRESS_REQUEST (R431): the port of a root asks for its next packet, and the walk down the tree chooses a queue, or
a terminal's OMCI queue. -/
def egressRequest (_t root : Nat) (d : Device) : Device :=
  if !d.rootServed root then d
  else
    let (x, held) := d.settle root 5 [] root
    let d := forEach held Device.guardHold d
    match x with
    | none => d
    | some x => ((d.takeTurn x).serveTurn root x).endTurns

/-! ### The commands of gate lists (R443, R445) -/

/-- GATE_ENTRY_CHANGE (R443): a list in force moves to the entry that holds now. -/
def gateEntryChange (t i : Nat) (d : Device) : Device :=
  match Tbl.get? d.traffic.gates i with
  | some g =>
    if g.st = .inForce then
      let g' := { g with cur := (GateList.entry g t).1 }
      Device.endTurns { d with traffic := { d.traffic with gates := Tbl.set d.traffic.gates i g' } }
    else d
  | none => d

/-- GATE_LIST_START (R445): at S a scheduled list goes into force and the one it replaces becomes IDLE. -/
def gateListStart (t i : Nat) (d : Device) : Device :=
  match Tbl.get? d.traffic.gates i with
  | some g =>
    if g.st = .scheduled ∧ g.start ≤ t then
      let gs := d.traffic.gates.map (fun e =>
        if e.2.node = g.node ∧ e.2.st = .inForce then (e.1, { e.2 with st := GateSt.idle }) else e)
      let g' : GateList := { g with st := .inForce, cur := (GateList.entry g t).1 }
      (({ d with traffic := { d.traffic with gates := Tbl.set gs i g' } }).count 0x1B2 0x838 1).endTurns
    else d
  | none => d

/-! ### Pushes and pops (R407, R410, R411) -/

/-- PACKET_PUSH (R407, R411): a writer pushes packet `n`. With `pop`, a pop reaches the same queue in the same handshake
window: it goes first if the queue is full, and second in every other state. -/
def packetPush (_t n : Nat) (pop : Bool) (errs : Tbl CodeRead) (d : Device) : Device :=
  match d.pkt? n with
  | none => d
  | some x =>
    if ¬ (x.stage = .handed ∧ x.first.isSome) then d
    else if !pop then d.push n
    else
      match d.queueIdx x.queue with
      | none => d.push n
      | some i =>
        match d.queue? i with
        | none => d.push n
        | some q =>
          let d := d.countIf (d.on QMG.QMG_EN) 0x1B1 0x850
          (if q.maxCells ≤ q.cells then (d.pop errs i).push n else (d.push n).pop errs i).endTurns

/-- PACKET_POP (R410): a pop of queue `i`. -/
def packetPop (_t i : Nat) (errs : Tbl CodeRead) (d : Device) : Device :=
  let d := { d with traffic := { d.traffic with picked := d.traffic.picked.filter (fun e => e.2 ≠ i) } }
  (d.pop errs i).endTurns

/-! ### Samples (R440) -/

/-- The samples of a device frame boundary (R440). -/
def Device.sampleQueues (d : Device) : Device :=
  let qs := d.cells.queues.map (fun e => (e.1, { e.2 with sample := e.2.cells, delayMax := e.2.delayRun, delayRun := 0 }))
  { d with cells := { d.cells with queues := qs } }

/-! ### Link aggregation (R435) -/

/-- The queue an enqueue to a LAG queue goes to: the slot H[11:8] names, or the next in order whose queue's port is
up; how many slots were skipped. -/
def Device.lagPick (d : Device) (group hash : Nat) : Option Nat × Nat :=
  let s := bits hash 8 4
  let slots := (List.range 16).map (fun i => (s + i) % 16)
  let ok (i : Nat) : Bool :=
    match d.queueIdx (Tbl.getD d.traffic.lag (16 * group + i) 0) with
    | some q => match d.queue? q with
      | some e => decide (64 ≤ d.queueRoot e) && d.portUp (d.queueRoot e - 64)
      | none => false
    | none => false
  let skipped := (slots.takeWhile (fun i => !ok i)).length
  match slots.find? ok with
  | some i => (some (Tbl.getD d.traffic.lag (16 * group + i) 0), skipped)
  | none => (none, 0)

/-- The queue handle a packet of hash `hash` enqueued to handle `h` is pushed to (R435). -/
def Device.lagQueue (h hash : Nat) (d : Device) : Nat × Device :=
  match d.queueIdx h with
  | none => (h, d)
  | some i =>
    match d.queue? i with
    | none => (h, d)
    | some q =>
      if q.lag = 0 then (h, d)
      else
        match d.lagPick q.lag hash with
        | (some h', n) => (h', d.count 0x1B2 0x858 (if n = 0 then 0 else 1))
        | (none, _) => (h, d)

end Sys2Proof.Machine
end

