-- ==== Sys2Proof/Machine/Packets.lean ====
section
/-!
DEFINITION. Parsing, classification and load spreading (chapter 09), and the punt of a packet to the host (R317,
R318).
-/

namespace Sys2Proof.Machine

/-! ### The PCL set (R347) -/

/-- The applied PCL fields, as a packet keeps them from its first byte. -/
def Device.pclSet (d : Device) : Tbl Nat :=
  d.regs.filter (fun e => decide (0x1B3 * 0x8000 + 0x3000 ≤ e.1 ∧ e.1 < 0x1B3 * 0x8000 + 0x4000))

/-- A field of such a set. -/
def setRd (s : Tbl Nat) (f : Fld) : Nat := Tbl.getD s (fkeyA f) f.reset

/-- The slice of spread entry `e` under a set (R326). -/
def spreadField (e : Nat) : Fld :=
  if e % 4 = 0 then PCL.SPREAD0 (e / 4) else if e % 4 = 1 then PCL.SPREAD1 (e / 4)
  else if e % 4 = 2 then PCL.SPREAD2 (e / 4) else PCL.SPREAD3 (e / 4)

/-! ### The parser (R330 to R334) -/

/-- The headers the parser knows (R330). -/
inductive Hdr | eth | vlan | pppoe | mpls | ipv4 | ipv6 | ext (nh : Nat) | udp | tcp | icmp | gre | vxlan
  deriving DecidableEq, Repr

/-- The number in `n` bytes at offset `o`, most significant first; 0 unless all of them lie in the packet (R334). -/
def fld (bs : List Nat) (o n : Nat) : Nat := if o + n ≤ bs.length then ofBytesBE ((bs.drop o).take n) else 0

/-- The header an EtherType leads to (R330). -/
def etherNext (s : Tbl Nat) (t : Nat) : Option Hdr :=
  if t = 0x8100 ∨ t = 0x88A8 ∨ (setRd s PCL.EXTRA_TPID_EN = 1 ∧ t = setRd s PCL.EXTRA_TPID) then some .vlan
  else if t = 0x8864 then some .pppoe
  else if t = 0x8847 ∨ t = 0x8848 then some .mpls
  else if t = 0x0800 then some .ipv4
  else if t = 0x86DD then some .ipv6
  else none

/-- The header an IP protocol or next header leads to (R330). -/
def protoNext (v6 : Bool) (p : Nat) : Option Hdr :=
  if p = 17 then some .udp else if p = 6 then some .tcp else if p = 1 ∨ p = 58 then some .icmp else if p = 47 then some .gre
  else if v6 ∧ (p = 0 ∨ p = 43 ∨ p = 44 ∨ p = 60) then some (.ext p)
  else none

/-- The length of a header at offset `o` (R330). -/
def hdrLen (bs : List Nat) (o : Nat) : Hdr → Nat
  | .eth => 14
  | .vlan => 4
  | .pppoe => 8
  | .mpls => 4
  | .ipv4 => 4 * (fld bs o 1 % 16)
  | .ipv6 => 40
  | .ext nh => if nh = 44 then 8 else 8 * (fld bs (o + 1) 1 + 1)
  | .udp => 8
  | .tcp => 4 * (fld bs (o + 12) 1 / 16)
  | .icmp => 8
  | .gre => let f := fld bs o 1; 4 + 4 * (b2n (bit f 7) + b2n (bit f 5) + b2n (bit f 4))
  | .vxlan => 8

/-- The end of the IP payload the parser is in. -/
def Parsed.ipEnd (p : Parsed) (bs : List Nat) : Nat :=
  match p.ips.getLast? with
  | some r => r.ends
  | none => bs.length

/-- Whether a header contradicts its packet (R333). -/
def contradicts (p : Parsed) (bs : List Nat) (o : Nat) (h : Hdr) : Bool :=
  let n := bs.length
  decide (n < o + hdrLen bs o h) ||
  match h with
  | .eth => decide (fld bs (o + 12) 2 < 0x600) && decide (n - (o + 14) < fld bs (o + 12) 2)
  | .ipv4 =>
    let ihl := fld bs o 1 % 16
    let tl := fld bs (o + 2) 2
    decide (ihl < 5) || decide (tl < 4 * ihl) || decide (n - o < tl)
  | .ipv6 => let l := fld bs (o + 4) 2; decide (l = 0) || decide (n - o < 40 + l)
  | .udp => let l := fld bs (o + 4) 2; decide (l < 8) || decide (Parsed.ipEnd p bs - o < l)
  | .tcp => let k := fld bs (o + 12) 1 / 16; decide (k < 5) || decide (Parsed.ipEnd p bs - o < 4 * k)
  | .pppoe => decide (n - (o + 6) < fld bs (o + 4) 2)
  | _ => false

/-- Change what is known of the innermost IP header. -/
def modLast (f : IpRec → IpRec) : List IpRec → List IpRec
  | [] => []
  | [r] => [f r]
  | r :: t => r :: modLast f t

/-- Take a header's fields and name the header that follows it (R330, R335). -/
def takeHdr (s : Tbl Nat) (bs : List Nat) (p : Parsed) (o : Nat) (h : Hdr) : Parsed × Option Hdr :=
  match h with
  | .eth =>
    let t := fld bs (o + 12) 2
    if t < 0x600 then (p, none) else ({ p with ethertype := t }, etherNext s t)
  | .vlan =>
    let t := fld bs (o + 2) 2
    let tci := fld bs o 1 / 32 * 8192 + fld bs o 2 % 8192
    let p := { p with tags := p.tags ++ [(o, tci)] }
    if t < 0x600 then (p, none) else ({ p with ethertype := t }, etherNext s t)
  | .pppoe =>
    let t := fld bs (o + 6) 2
    ({ p with tunnelKind := 3, tunnelId := fld bs (o + 2) 2 }, if t = 0x21 then some .ipv4 else if t = 0x57 then some .ipv6 else none)
  | .mpls =>
    let w := fld bs o 3
    let p := { p with label := some (p.label.getD (w / 16, w / 2 % 8)), tunnelKind := 4 }
    let nib := fld bs (o + 4) 1 / 16
    (p, if !bit w 0 then some .mpls else if nib = 4 then some .ipv4 else if nib = 6 then some .ipv6 else none)
  | .ipv4 =>
    let proto := fld bs (o + 9) 1
    let frag := decide (fld bs (o + 6) 2 % 8192 ≠ 0)
    let r : IpRec := { kind := 1, src := fld bs (o + 12) 4, dst := fld bs (o + 16) 4, proto := proto, tclass := fld bs (o + 1) 1,
                       ends := o + fld bs (o + 2) 2 }
    ({ p with ips := p.ips ++ [r], frag := p.frag || frag }, if frag then none else protoNext false proto)
  | .ipv6 =>
    let nh := fld bs (o + 6) 1
    let r : IpRec := { kind := 2, src := fld bs (o + 8) 16, dst := fld bs (o + 24) 16, proto := nh, tclass := fld bs o 2 / 16 % 256,
                       ends := o + 40 + fld bs (o + 4) 2 }
    ({ p with ips := p.ips ++ [r] }, protoNext true nh)
  | .ext k =>
    let nh := fld bs o 1
    let frag := decide (k = 44) && decide (fld bs (o + 2) 2 / 8 ≠ 0)
    ({ p with ips := modLast (fun r => { r with proto := nh }) p.ips, frag := p.frag || frag }, if frag then none else protoNext true nh)
  | .udp =>
    let dp := fld bs (o + 2) 2
    let f (r : IpRec) : IpRec := { r with l4 := 1, sport := fld bs o 2, dport := dp }
    ({ p with ips := modLast f p.ips }, if dp = setRd s PCL.VXLAN_UDP_PORT then some .vxlan else none)
  | .tcp =>
    let f (r : IpRec) : IpRec := { r with l4 := 2, sport := fld bs o 2, dport := fld bs (o + 2) 2 }
    ({ p with ips := modLast f p.ips }, none)
  | .icmp => ({ p with ips := modLast (fun r => { r with l4 := 3 }) p.ips }, none)
  | .gre =>
    let f := fld bs o 1
    let id := if bit f 5 then fld bs (o + 4 + 4 * b2n (bit f 7)) 4 else 0
    let t := fld bs (o + 2) 2
    ({ p with tunnel := true, tunnelKind := 2, tunnelId := id },
      if t = 0x800 then some .ipv4 else if t = 0x86DD then some .ipv6 else if t = 0x6558 then some .eth else none)
  | .vxlan => ({ p with tunnel := true, tunnelKind := 1, tunnelId := fld bs (o + 4) 3 }, some .eth)

/-- Parse on from header `h` at offset `o` (R330 to R334). -/
def parseFrom (s : Tbl Nat) (bs : List Nat) : Nat → Nat → Hdr → Parsed → Parsed
  | 0, _, _, p => p
  | k + 1, o, h, p =>
    let n := hdrLen bs o h
    if setRd s PCL.PARSE_DEPTH_HDRS < p.count + 1 ∨ setRd s PCL.PARSE_DEPTH_BYTES < o + n then { p with deep := true }
    else
      let bad := contradicts p bs o h
      let (q, next) := takeHdr s bs { p with count := p.count + 1 } o h
      if bad then { q with bad := true }
      else
        match next with
        | some h' => parseFrom s bs k (o + n) h' q
        | none => q

/-- Parse a packet under a set. -/
def parse (s : Tbl Nat) (bs : List Nat) : Parsed := parseFrom s bs 17 0 .eth {}

/-! ### The key and the flow hash (R324, R335) -/

/-- The IP header whose fields the key takes (R335). -/
def Parsed.ip (s : Tbl Nat) (p : Parsed) : Option IpRec := if setRd s PCL.INNER_L3 = 1 then p.ips.getLast? else p.ips.head?

/-- VID and PCP of tag `i`. -/
def Parsed.tagWord (p : Parsed) (i : Nat) : Nat :=
  match p.tags[i]? with
  | some (_, t) => t % 4096 + t / 8192 * 4096
  | none => 0
def Parsed.vid (p : Parsed) (i : Nat) : Nat := Parsed.tagWord p i % 4096

/-- The fifteen words of the key (R335). -/
def keyWords (s : Tbl Nat) (src : PktSrc) (domain : Nat) (p : Parsed) : List Nat :=
  let ip := Parsed.ip s p
  let k0 := src.port % 2 ^ 16 + src.kind * 2 ^ 16 + b2n p.deep * 2 ^ 18 + b2n p.bad * 2 ^ 19 + min 7 p.tags.length * 2 ^ 20
    + b2n p.tunnel * 2 ^ 23 + ip.elim 0 (·.kind) * 2 ^ 24 + ip.elim 0 (·.l4) * 2 ^ 27 + b2n p.frag * 2 ^ 30
  let k1 := domain + (if src.kind = 0 then src.xgem else 0) * 2 ^ 16
  let k2 := Parsed.tagWord p 0 + Parsed.tagWord p 1 * 2 ^ 16
  let k3 := p.ethertype + ip.elim 0 (·.proto) * 2 ^ 16 + ip.elim 0 (fun r => r.tclass / 4) * 2 ^ 24 + ip.elim 0 (fun r => r.tclass % 4) * 2 ^ 30
  let a (x : Nat) : List Nat := (toWords 4 x).reverse
  let lab := p.label.getD (0, 0)
  [k0, k1, k2, k3] ++ a (ip.elim 0 (·.src)) ++ a (ip.elim 0 (·.dst))
    ++ [ip.elim 0 (·.sport) + ip.elim 0 (·.dport) * 2 ^ 16, p.tunnelId, lab.1 + lab.2 * 2 ^ 20 + p.tunnelKind * 2 ^ 29]

/-- The flow hash (R324). -/
def flowHash (s : Tbl Nat) (p : Parsed) : Nat :=
  let seed := setRd s PCL.HASH_SEED
  match Parsed.ip s p with
  | some r =>
    let a := toBytesBE 16 r.src ++ toBytesBE 2 r.sport
    let b := toBytesBE 16 r.dst ++ toBytesBE 2 r.dport
    let swap := decide (r.dst < r.src) || (decide (r.dst = r.src) && decide (r.dport < r.sport))
    crc32c seed ((if swap then b ++ a else a ++ b) ++ [r.proto] ++ toBytesBE 4 p.tunnelId)
  | none => crc32c seed (toBytesBE 2 (Parsed.vid p 0) ++ toBytesBE 2 (Parsed.vid p 1) ++ toBytesBE 2 p.ethertype)

/-! ### Lookups (R336 to R339) -/

/-- The first ternary entry that matches a key: its action index (R337, R355). -/
def ternaryHit (t : Tbl (List Nat)) (k : List Nat) : Option Nat :=
  (t.find? (fun e =>
    bit (wordAt e.2 30) 31
      && (List.range 15).all (fun i => decide (wordAt k i &&& wordAt e.2 (15 + i) = wordAt e.2 i &&& wordAt e.2 (15 + i))))).map
    (fun e => bits (wordAt e.2 30) 0 20)

/-- The exact key of a profile (R336). -/
def exactKey (s : Tbl Nat) (prof : Nat) (k : List Nat) : List Nat :=
  let sel := [PCL.SEL0 prof, PCL.SEL1 prof, PCL.SEL2 prof, PCL.SEL3 prof]
  (List.range 4).map (fun i => wordAt k (setRd s (sel.getD i (PCL.SEL0 prof))) &&& setRd s (PCL.MASK (4 * prof + i)))

/-- The bucket of a key under a seed (R338). -/
def bucketOf (seed prof : Nat) (k : List Nat) : Nat := crc32c seed (prof :: k.flatMap (toBytesBE 4)) % 2 ^ 20

/-- The exact entry of a key: its action index (R337, R338). -/
def Device.exactHit (d : Device) (prof : Nat) (k : List Nat) : Option Nat :=
  let a := bucketOf (d.rd PCL.EM_SEED_A) prof k
  let b := bucketOf (d.rd PCL.EM_SEED_B) prof k
  let slots := (List.range 4).map (fun w => 4 * a + w) ++ (List.range 4).map (fun w => 4 * b + w)
  let ok (i : Nat) : Bool := match Tbl.get? d.pkt.exact i with
    | some e => bit (wordAt e 4) 31 && decide (bits (wordAt e 4) 28 3 = prof) && decide (e.take 4 = k)
    | none => false
  (slots.find? ok).map (fun i => bits (wordAt ((Tbl.get? d.pkt.exact i).getD []) 4) 0 20)

/-- An action entry's words (R355). -/
def Device.action (d : Device) (i : Nat) : List Nat := Tbl.getD d.pkt.actions i [0, 0, 0, 0]
def actType (a : List Nat) : Nat := bits (wordAt a 0) 0 4
def actDeep (a : List Nat) : Bool := bit (wordAt a 0) 7

/-- The classification procedure of R337: the action's words, and what it counts. A misplaced lookup that DEPTH_ACTION replaces counts here, one that
stands counts as the drop it becomes. A DEPTH_ACTION that is a lookup is misplaced too (DEDUCED, log entry 42). -/
def Device.classify (s : Tbl Nat) (kind : Nat) (deep : Bool) (k : List Nat) (d : Device) : List Nat × Device :=
  let (a, d) := match ternaryHit d.pkt.ternary k with
    | some i => (d.action i, d)
    | none => (d.action (setRd s (if kind = 1 then PCL.DEFAULT_ACTION_NET else PCL.DEFAULT_ACTION_PON)), d.count 0x1B3 0x838 1)
  let hit := (ternaryHit d.pkt.ternary k).isSome
  let (a, d) :=
    if actType a = 4 ∧ hit then
      let prof := bits (wordAt a 0) 4 3
      match d.exactHit prof (exactKey s prof k) with
      | some i => (d.action i, d)
      | none => (d.action (setRd s (PCL.MISS_ACTION prof)), d.count 0x1B3 0x840 1)
    else (a, d)
  let (a, d) := if actType a = 4 then ([0, 0, 0, 0], d.countIf deep 0x1B3 0x868) else (a, d)
  if deep && !actDeep a then
    let a' := d.action (setRd s PCL.DEPTH_ACTION)
    (if actType a' = 4 then [0, 0, 0, 0] else a', d.count 0x1B3 0x820 1)
  else (a, d)

/-! ### Edits (R341) -/

/-- Remove four bytes of a tag whose TCI is at `o`, and insert a tag behind the addresses. -/
def popTag (bs : List Nat) (o : Nat) : List Nat := bs.take (o - 2) ++ bs.drop (o + 2)
def pushTag (bs : List Nat) (tpid vid pcp : Nat) : List Nat :=
  bs.take 12 ++ toBytesBE 2 tpid ++ toBytesBE 2 (vid + pcp * 8192) ++ bs.drop 12

/-- Apply an edit: the bytes, and whether it was skipped (R341). -/
def applyEdit (p : Parsed) (bs : List Nat) (w : Nat) : List Nat × Bool :=
  let vid := bits w 4 12
  let pcp := bits w 16 3
  match bits w 0 4 with
  | 1 => match p.tags with | (o, _) :: _ => (popTag bs o, false) | [] => (bs, true)
  | 2 => (pushTag bs 0x8100 vid pcp, false)
  | 3 => match p.tags with
    | (o, t) :: _ => (bs.take o ++ toBytesBE 2 (t / 4096 * 4096 + vid) ++ bs.drop (o + 2), false)
    | [] => (bs, true)
  | 4 => (pushTag bs 0x88A8 vid pcp, false)
  | 5 => match p.tags with
    | (o, _) :: (o2, _) :: _ => (popTag (popTag bs o2) o, false)
    | _ => (bs, true)
  | _ => (bs, false)

/-! ### Domains and separation (R342 to R344) -/

/-- A domain map entry. -/
def Device.domainEntry (d : Device) (i : Nat) : Nat := Tbl.getD d.pkt.domains i 0
def Device.domainOf (d : Device) (i : Nat) : Nat := d.domainEntry i % 2 ^ 16

/-- The source domain of a packet (R342). -/
def Device.sourceDomain (d : Device) (src : PktSrc) (p : Parsed) : Nat :=
  if src.kind = 1 then d.domainOf (524288 + src.port * 4096 + Parsed.vid p 0) else d.domainOf (handleIdx src.chan)

/-- The separation check (R343). -/
def Device.separated (d : Device) (src : PktSrc) (domain : Nat) (a : List Nat) : Bool :=
  match actType a with
  | 1 => match d.queueIdx (wordAt a 1) with
    | some i => match d.queue? i with | some q => d.netBound q | none => false
    | none => false
  | 2 => match d.chan? (wordAt a 1) with
    | some c =>
      let e := d.domainEntry (handleIdx c.handle)
      c.ds && decide (e % 2 ^ 16 = domain) && decide (domain ≠ 0) && (decide (src.kind ≠ 0) || bit e 16)
    | none => false
  | _ => true

/-! ### Punting (R317, R318, R625) -/

/-- Whether the host is there (R625). -/
def Device.hostUp (d : Device) : Bool := d.on HIF.LINK_UP && d.on HIF.TUNNEL_UP && d.on HIF.BUS_MASTER

/-- PHASE of a ring slot (R301): the parity of the pass, from the ring's last enable. Rings are numbered: completion
rings 0 to 3, punt channels 4 to 7, inject channels 8 to 11. -/
def Device.phase (d : Device) (ring idx size : Nat) : Nat := (idx / size + Tbl.getD d.svc.passBase ring 0 + 1) % 2

/-- The bytes of a punt buffer (R320). -/
def Device.bufSize (d : Device) (ch : Nat) : Nat :=
  let b := d.rd (HIF.BUF_SIZE ch)
  if b = 0 then 2048 else if b = 1 then 4096 else 10240

/-- Write a punt record (R318): `w0` carries its flags and reason, the data are the packet's bytes. -/
def Device.writePunt (ch : Nat) (returned : Bool) (w0 : Nat) (src : PktSrc) (stamp : Nat) (bs : List Nat) (d : Device) : Device :=
  let size := 2 ^ d.rd (HIF.PC_SIZE_LOG2 ch)
  let fb := d.rd (HIF.FB_CI ch)
  let pi := d.rd (HIF.PR_PI ch)
  let buf := bs.take (d.bufSize ch)
  let flags := fb % size + b2n returned * 2 ^ 15 + w0 + b2n (decide (buf.length < bs.length)) * 2 ^ 24
  let ws := [flags, buf.length, d.termHandle src.term * b2n (decide (src.kind = 0) && !returned), src.chan,
    src.port + src.kind * 2 ^ 16 + d.phase (4 + ch) pi size * 2 ^ 31, stamp % 2 ^ 32, stamp / 2 ^ 32 % 2 ^ 32, 0]
  let o := Out.punt ch (pi % size) ws buf
  let d := { d with hif := { d.hif with recent := d.hif.recent ++ [(d.now, o)], lastPunt := Tbl.set d.hif.lastPunt ch (pi % size, fb % size) } }
  ((d.emit o).wr (HIF.FB_CI ch) (fb + 1)).wr (HIF.PR_PI ch) (pi + 1)

/-- Whether RATE_KPPS lets one more packet pass in this millisecond of device time. -/
def Device.puntRate (ch : Nat) (d : Device) : Bool × Device :=
  let ms := d.now / 1000000
  let old := Tbl.getD d.pkt.puntMs ch (ms, 0)
  let n := if old.1 = ms then old.2 else 0
  if n < d.rd (HIF.RATE_KPPS ch) then
    (true, { d with pkt := { d.pkt with puntMs := Tbl.set d.pkt.puntMs ch (ms, n + 1) } })
  else (false, d)

/-- FREE_BUFFER_TAKE (R318): a punted packet takes a free buffer and is written with its record, or is dropped. Tells
whether it went. -/
def Device.punt (ch reason : Nat) (deep : Bool) (src : PktSrc) (stamp : Nat) (bs : List Nat) (d : Device) : Bool × Device :=
  if !d.hostUp then (false, d.count 0x001 0x830 1)
  else
    match d.puntRate ch with
    | (false, d) => (false, d.count 0x001 0x950 1)
    | (true, d) =>
      let size := 2 ^ d.rd (HIF.PC_SIZE_LOG2 ch)
      if !d.on (HIF.PC_EN ch) ∨ d.rd (HIF.FB_CI ch) = d.rd (HIF.FB_PI ch)
          ∨ (d.rd (HIF.PR_PI ch) + 65536 - d.rd (HIF.PR_CI ch)) % 65536 = size then (false, d.count 0x001 0x948 1)
      else
        (true, (d.writePunt ch false (reason * 2 ^ 16 + b2n deep * 2 ^ 25) src stamp bs).count 0x001 0x940 1)

/-! ### Entering the core (R323 to R328) -/

/-- A new packet at a crossing, under the set in force at its first byte (R347); its number. -/
def Device.newPkt (x : Pkt) (d : Device) : Nat × Device :=
  let n := d.pkt.next
  (n, { d with pkt := { d.pkt with pkts := Tbl.set d.pkt.pkts n { x with set := d.pclSet }, next := n + 1 } })

/-- The packets in the input FIFO of a slice, in the order in which they entered it. -/
def Device.fifo (d : Device) (s : Nat) : List Nat :=
  (sortBy (fun e : Nat × Pkt => e.2.order) (d.pkt.pkts.filter (fun e => e.2.stage = .slice s))).map (·.1)

/-- Count `n` slots that no packet took: the FIFO was empty, or held a packet that the next stage had not taken (R560). -/
def Device.slotsLost (s n : Nat) (d : Device) : Device :=
  if n = 0 then d else (d.count (slicePage s) 0x810 n).count (slicePage s) (if d.fifo s = [] then 0x828 else 0x830) n

/-- The slots that slice `s` offers in `dt` ns, at its pace in packets per microsecond, and those that no packet took (R560, R562, log entry 70). -/
def Device.slotsOffered (dt s : Nat) (d : Device) : Device :=
  let p := d.pkt
  let acc := Tbl.getD p.slotAcc s 0 + dt * d.pow.pace.getD s 0
  let used := Tbl.getD p.slotUsed s 0
  Device.slotsLost s (acc / 1000 - used)
    { d with pkt := { p with slotAcc := Tbl.put 0 p.slotAcc s (acc % 1000), slotUsed := Tbl.put 0 p.slotUsed s (used - acc / 1000) } }

/-- The slice whose FIFO holds a packet. -/
def Pkt.inSlice (x : Pkt) : Option Nat := match x.stage with | .slice s => some s | _ => none

/-- Spread entry `e` leaves slice `s` (R327). -/
def Device.leaveSlice (e s : Nat) (d : Device) : Device :=
  let others := d.pkt.moving.filter (fun m => !(m.1 = e && m.2.2 = s))
  ({ d with pkt := { d.pkt with moving := others ++ [(e, d.now, s)] } }).count 0x1B3 0x878 1

/-- Whether a packet in slice `s` waits at `t` (R327): its entry moved there from a slice that still holds a packet of the entry that entered before it,
and it has not waited 2 us. -/
def Device.spreadWaits (d : Device) (t s : Nat) (x : Pkt) : Bool :=
  decide (t < x.after) && d.pkt.pkts.any (fun e =>
    decide (e.2.order < x.order ∧ e.2.entry = x.entry) &&
      (Pkt.inSlice e.2).any (fun s' => decide (s' ≠ s) && d.pkt.moving.any (fun m => m.1 = x.entry && m.2.2 = s')))

/-- Whether an earlier packet still waits at the crossing of packet `n` (R325). -/
def Device.crossingBusy (d : Device) (n : Nat) (x : Pkt) : Bool :=
  d.pkt.pkts.any (fun e => decide (e.1 < n ∧ e.2.stage = .crossing ∧ d.crossingOf e.2.src.kind e.2.src.port = d.crossingOf x.src.kind x.src.port))

/-- PACKET_INGRESS (R323 to R328, R564): packet `n` crosses into the core, is hashed, tagged or not, and enters the FIFO
of its slice, or is dropped. -/
def packetIngress (t n : Nat) (d : Device) : Device :=
  match d.pkt? n with
  | none => d
  | some x =>
    if x.stage ≠ .crossing ∨ d.crossingBusy n x then d
    else
      let set := x.set
      let h := flowHash set (parse set x.bytes)
      let e := h % 256
      let s := setRd set (spreadField e)
      let (tag, d) := d.tagStep (d.crossingOf x.src.kind x.src.port)
      let tr : Trace := { stamp := t, slice := s, port := x.src.port, kind := x.src.kind, length := x.bytes.length }
      let (num, d) := if tag then (let (k, d) := d.traceStart tr; (some k, d)) else (none, d)
      if 512 ≤ (d.fifo s).length then ((d.count 0x1B3 0x858 1).dropPkt n).traceFate num 5 false
      else
        let d := if x.src.kind = 0 then d else d.handledPacket
        let o := d.pkt.entered
        let d := { d with pkt := { d.pkt with entered := o + 1 } }
        d.setPkt n { x with stage := .slice s, hash := h, entry := e, tagged := num, order := o, after := t + 2000 }

/-! ### Classification (R337 to R343) -/

/-- The slice ends with a packet that goes no further. -/
def Device.endInSlice (n s : Nat) (x : Pkt) (wasted : Bool) (fate : Nat) (d : Device) : Device :=
  ((d.dropPkt n).slotDecided s wasted).traceFate x.tagged fate (decide (fate = 2))

/-- Hand a classified packet to the queue of handle `h` (R435, R407). -/
def Device.handTo (n s h chan : Nat) (x : Pkt) (d : Device) : Device :=
  let (h, d) := d.lagQueue h x.hash
  d.setPkt n { x with stage := .handed, slot := some s, queue := h, chan := chan }

/-- Whether a packet was injected to a service channel that closed since, or went (R315). -/
def Device.injClosed (d : Device) (src : PktSrc) : Bool :=
  decide (src.kind = 2 ∧ src.chan ≠ 0) && (match d.chan? src.chan with | some c => c.closed | none => true)

/-- Carry out a final action on packet `n` in slice `s` (R315, R339 to R343). -/
def Device.act (n s domain : Nat) (p : Parsed) (a : List Nat) (x : Pkt) (d : Device) : Device :=
  let target := wordAt a 1
  let stale := (decide (actType a = 1) && (d.queueIdx target).isNone) || (decide (actType a = 2) && (d.chan? target).isNone)
  if d.injClosed x.src then (d.count 0x001 0x938 1).endInSlice n s x true 5
  else if stale then (d.count 0x1B3 0x850 1).endInSlice n s x true 5
  else if !d.separated x.src domain a then (d.count 0x1B3 0x848 1).endInSlice n s x false 5
  else if actType a = 0 then (d.count 0x1B3 0x868 1).endInSlice n s x false 1
  else
    let (bs, skip) := applyEdit p x.bytes (wordAt a 2)
    let d := d.countIf skip 0x1B3 0x880
    let x := { x with bytes := bs }
    if actType a = 3 then
      let d := d.count 0x1B3 0x870 1
      let ch := bits (wordAt a 0) 16 2
      let reason := bits (wordAt a 0) 8 8
      if x.needTag && x.tag.isNone then (d.setPkt n { x with stage := .punted ch reason }).slotDecided s false
      else
        let (_, d) := if x.tag = some false ∨ x.erased then (false, d) else d.punt ch reason x.deep x.src x.stamp bs
        d.endInSlice n s x false 2
    else if actType a = 1 then
      let closed := match d.chan? x.src.chan with | some c => c.closed | none => false
      if closed then (d.count 0x001 0x938 1).endInSlice n s x true 5
      else d.handTo n s target x.src.chan x
    else
      match d.chan? target with
      | none => d
      | some c =>
        if c.closed then (d.count 0x001 0x938 1).endInSlice n s x true 5
        else d.handTo n s (if x.src.kind = 0 then c.usQueue else c.dsQueue) target x

/-- PACKET_CLASSIFY (R327, R337): slice `s` parses and classifies the packet at the head of its FIFO and hands it on. -/
def packetClassify (t s : Nat) (d : Device) : Device :=
  match (d.fifo s).head? with
  | none => d
  | some n =>
    match d.pkt? n with
    | none => d
    | some x =>
      if d.spreadWaits t s x then d
      else
        let d := d.slotTaken s
        let x := { x with slot := some s }
        let d := d.traceMod x.tagged (fun r => { r with dClass := some (t - r.stamp) })
        if !d.on PCL.PCL_EN then (d.count 0x1B3 0x860 1).endInSlice n s x false 5
        else
          let p := parse x.set x.bytes
          let d := d.countIf p.deep 0x1B3 0x818
          if p.bad ∧ setRd x.set PCL.LEN_POLICY = 0 then (d.count 0x1B3 0x828 1).endInSlice n s x false 5
          else
            let d := (d.countIf p.bad 0x1B3 0x830).count 0x1B3 0x810 1
            let dom := d.sourceDomain x.src p
            let (a, d) := d.classify x.set x.src.kind p.deep (keyWords x.set x.src dom p)
            d.act n s dom p a { x with deep := p.deep, lenFlag := p.bad }

end Sys2Proof.Machine
end

