-- ==== Sys2Proof/Machine/Cipher.lean ====
section
/-!
DEFINITION. The Cipher Engine (chapter 10): key slots and rollover pairs, nonces, usage limits, decryption and the tag
result, and erasure.
-/

namespace Sys2Proof.Machine

/-! ### Key slots -/

/-- A key slot in use, and changes to it. -/
def Device.key? (d : Device) (i : Nat) : Option KeySlot := Tbl.get? d.svc.keys i
def Device.modKey (i : Nat) (f : KeySlot → KeySlot) (d : Device) : Device :=
  { d with svc := { d.svc with keys := Tbl.modify d.svc.keys i f } }
def Device.modChan (i : Nat) (f : SvcChan → SvcChan) (d : Device) : Device :=
  { d with svc := { d.svc with chans := Tbl.modify d.svc.chans i f } }

/-- The key slot in a position (1 or 2) of a channel (R357). -/
def SvcChan.pos (c : SvcChan) (p : Nat) : Option Nat := (c.keys.getD (p - 1) none)

/-- The blocks a frame of `n` ciphertext bytes charges (R367). -/
def blocksFor (n : Nat) : Nat := ceilDiv n 16 + 1

/-- Charge a slot (R367, R368): REKEY follows from the charge. -/
def Device.chargeKey (i n : Nat) (d : Device) : Device :=
  match d.key? i with
  | none => d
  | some k =>
    let u := k.use_ + n
    let past := decide (2 ^ d.rdA CPE.SOFT_LIMIT_LOG2 ≤ u)
    (d.modKey i (fun k => { k with use_ := u, rekey := past, crossed := k.crossed || past })).countIf (past && !k.crossed) 0x1B4 0x848

/-- The applied limits changed: a slot below the soft limit asks for no new key (R368). One above a lowered limit asks from its next charge on (R377). -/
def Device.rejudgeKeys (d : Device) : Device :=
  let lim := 2 ^ d.rdA CPE.SOFT_LIMIT_LOG2
  let ks := d.svc.keys.map (fun e => (e.1, { e.2 with rekey := e.2.rekey && decide (lim ≤ e.2.use_) }))
  { d with svc := { d.svc with keys := ks } }

/-- Whether a charge would pass the hard limit (R369). -/
def Device.overHard (d : Device) (k : KeySlot) (n : Nat) : Bool := decide (2 ^ d.rdA CPE.HARD_LIMIT_LOG2 < k.use_ + n)

/-! ### The nonce and the frame (R363) -/

/-- The channel word of an IV: DIR, TREE and PORT. -/
def chanWord (up : Bool) (tree port : Nat) : Nat := b2n up * 2 ^ 31 + tree * 2 ^ 16 + port

/-- The explicit nonce: the frame counter modulo 2^46 and the segment. -/
def nonceOf (frame seg : Nat) : Nat := frame % 2 ^ 46 * 2 ^ 18 + seg

/-- The 96-bit IV. -/
def ivOf (word nonce : Nat) : List Nat := toBytesBE 4 word ++ toBytesBE 8 nonce

/-- The 8-byte XGEM header with its HEC taken as zero: PLI, key index, port, Options, and the last-fragment bit, as
G.9804.2 lays them out (PRESUMED, log entry 7). -/
def xgemHeader (pli ki port options : Nat) : List Nat :=
  toBytesBE 8 (pli % 2 ^ 14 * 2 ^ 50 + ki * 2 ^ 48 + port * 2 ^ 32 + options * 2 ^ 14 + 2 ^ 13)

/-! ### Downstream (R364, R365, R369) -/

/-- The packet at the head of a tree's egress leaves it. -/
def Device.popEgress (root : Nat) (d : Device) : Device :=
  let l := (Tbl.getD d.traffic.egress root []).drop 1
  let e := if l = [] then d.traffic.egress.erase root else Tbl.set d.traffic.egress root l
  { d with traffic := { d.traffic with egress := e } }

/-- Drop the packet at the head of a tree's egress at the crossing. -/
def Device.dropEgress (root off : Nat) (e : Egress) (d : Device) : Device :=
  ((d.popEgress root).count 0x1B4 off 1).traceFate e.tagged 5 false

/-- Encrypt the packet at the head of a tree's egress under slot `i` (R363 to R369). -/
def Device.encryptUnder (tree i pos options : Nat) (c : SvcChan) (e : Egress) (d : Device) : Device :=
  match d.key? i with
  | none => d
  | some k =>
    let f := d.frame
    let n := blocksFor e.bytes.length
    if k.st = .erased then d.dropEgress tree 0x860 e
    else if k.hard then d.dropEgress tree 0x840 e
    else if d.overHard k n then (d.modKey i (fun k => { k with hard := true })).dropEgress tree 0x840 e
    else
      let high := k.highFrame
      if (match high with | some h => decide (f < h) | none => false) then d.dropEgress tree 0x830 e
      else
        let seg := if high = some f then k.segNext else 0
        if 262144 ≤ seg then
          if e.deferred = f + 1 then d
          else
            let l := { e with deferred := f + 1 } :: (Tbl.getD d.traffic.egress tree []).drop 1
            ({ d with traffic := { d.traffic with egress := Tbl.set d.traffic.egress tree l } }).count 0x1B4 0x838 1
        else
          let nonce := nonceOf f seg
          let iv := ivOf (chanWord false tree c.port) nonce
          let ct := gcmCrypt k.key iv e.bytes
          let h := xgemHeader (e.bytes.length + 24) pos c.port options
          let tag := gcmTag k.key iv h ct
          let d := (d.chargeKey i n).modKey i (fun k => { k with highFrame := some f, segNext := seg + 1 })
          let d := d.offer { term := handleIdx c.term, port := c.port, keyIndex := pos, options := options, bytes := toBytesBE 8 nonce ++ ct ++ tag }
          ((d.popEgress tree).count 0x1B4 0x810 1).traceFate e.tagged 0 true

/-- A packet injected to a queue of a tree goes out as it is, in no service channel (R319): unencrypted, to the terminal above its queue, or on WC0 where
none is; the XGEM port is free, since the spec names none (DESIGN CHOICE, log entry 41). -/
def Device.sendAsIs (tree : Nat) (e : Egress) (d : Device) : Device :=
  let (v, d) := d.draw
  let f (o : Nat) : DsXgem := { term := e.term, port := v % 65536, keyIndex := 0, options := o, bytes := e.bytes }
  if e.term < 32768 then d.offer (f (d.nextOptions e.term)) else (d.emit (.xgemDown (f 0))).offerOn (4 * tree) (f 0)

/-- XGEM_ENCRYPT (R364): the next downstream frame of a tree, with the Options field of its terminal (R111). -/
def xgemEncrypt (_t tree : Nat) (d : Device) : Device :=
  match Tbl.getD d.traffic.egress tree [] with
  | [] => d
  | e :: _ =>
    if e.omci then
      let f : DsXgem := { term := e.term, port := e.term % 512, keyIndex := 0, options := d.nextOptions e.term, bytes := e.bytes }
      (d.offer f).popEgress tree
    else
      match d.chan? e.chan with
      | none =>
        if e.chan = 0 then (d.sendAsIs tree e).popEgress tree |>.traceFate e.tagged 0 true
        else ((d.popEgress tree).count 0x001 0x938 1).traceFate e.tagged 5 false
      | some c =>
        let o := d.nextOptions (handleIdx c.term)
        match c.active with
        | none =>
          let f : DsXgem := { term := handleIdx c.term, port := c.port, keyIndex := 0, options := o, bytes := e.bytes }
          ((d.offer f).popEgress tree).traceFate e.tagged 0 true
        | some pos =>
          if !d.on CPE.CPE_EN then d.dropEgress tree 0x868 e
          else
            match SvcChan.pos c pos with
            | some i => d.encryptUnder tree i pos o c e
            | none => d.dropEgress tree 0x860 e

/-! ### Upstream (R366, R369, R371) -/

/-- The service channel that binds an XGEM port of a tree. -/
def Device.chanAt (d : Device) (tree port : Nat) : Option SvcChan :=
  (d.svc.chans.find? (fun e => e.2.port = port && termTree (handleIdx e.2.term) = tree)).map (·.2)

/-- A frame passes to the core as a packet (R370). -/
def Device.passUp (c x : Nat) (ch : SvcChan) (bs : List Nat) (needTag good : Bool) (slot : Option Nat) (d : Device) : Device :=
  let src : PktSrc := { kind := 0, port := c, term := x, chan := ch.handle, xgem := ch.port }
  (d.newPkt { src := src, bytes := bs, stamp := d.now, needTag := needTag, tagGood := good, keySlot := slot }).2

/-- A channel accepts segment `seg` of the map of tree frame `k` (R366). Maps more than 64 tree frames back are forgotten: no burst of theirs comes any
more. -/
def SvcChan.heardSeg (k seg : Nat) (c : SvcChan) : SvcChan :=
  { c with lastSeg := Tbl.set (c.lastSeg.filter (fun p => decide (k ≤ p.1 + 64))) k seg }

/-- Decrypt a frame of a channel under the slot its key index names (R366 to R370). -/
def Device.decryptUnder (c k x i ki options word : Nat) (ch : SvcChan) (body : List Nat) (d : Device) : Device :=
  match d.key? i with
  | none => d.count 0x1B4 0x858 1
  | some s =>
    if s.st = .erased then (d.count 0x1B4 0x858 1).count 0x1B4 0x860 1
    else if s.hard then d.count 0x1B4 0x858 1
    else
      let nonce := ofBytesBE (body.take 8)
      let seg := nonce % 2 ^ 18
      let ct := (body.drop 8).take (body.length - 24)
      let old : Bool := (Tbl.get? ch.lastSeg k).any (fun s => decide (seg ≤ s))
      if word ≠ chanWord true (termTree x) ch.port ∨ nonce / 2 ^ 18 ≠ k % 2 ^ 46 ∨ old then d.count 0x1B4 0x828 1
      else if d.overHard s (blocksFor ct.length) then (d.modKey i (fun s => { s with hard := true })).count 0x1B4 0x840 1
      else
        let iv := ivOf word nonce
        let h := xgemHeader body.length ki ch.port options
        let good := decide (24 ≤ body.length) && decide (gcmTag s.key iv h ct = body.drop (body.length - 16))
        let d := (d.chargeKey i (blocksFor ct.length)).modChan (handleIdx ch.handle) (SvcChan.heardSeg k seg)
        (d.count 0x1B4 0x818 1).passUp c x ch (gcmCrypt s.key iv ct) true good (some i)

/-- XGEM_DECRYPT (R366, R371): an upstream frame of terminal `x` on channel `c`, from a burst that tree frame `k`'s map
granted: its XGEM port, key index, Options, the channel word of its IV, and its payload. -/
def xgemDecrypt (t c k x port ki options word : Nat) (body : List Nat) (d : Device) : Device :=
  if !d.on CPE.CPE_EN && decide (ki ≠ 0) then d.count 0x1B4 0x868 1
  else if port = x % 512 then
    if ki ≠ 0 then d.count 0x1B4 0x858 1
    else (d.punt 0 0 false { kind := 0, port := c, term := x } t body).2
  else
    match d.chanAt (termTree x) port with
    | none => d
    | some ch =>
      if handleIdx ch.term ≠ x ∨ !ch.us then d
      else if ch.closed then d.count 0x001 0x938 1
      else if !d.on CPE.CPE_EN && ch.active.isSome then d.count 0x1B4 0x868 1
      else if ki = 0 then
        if ch.active.isSome then d.count 0x1B4 0x850 1 else d.passUp c x ch body false true none
      else if ki = 3 then d.count 0x1B4 0x858 1
      else
        match SvcChan.pos ch ki with
        | none => d.count 0x1B4 0x858 1
        | some i => d.decryptUnder c k x i ki options word ch body

/-- TAG_RESULT (R370): the CPE gives the tag result of packet `n`, which may have been dropped since. -/
def tagResult (_t n : Nat) (d : Device) : Device :=
  match d.pkt? n with
  | none =>
    let p := d.pkt
    { d with pkt := { p with tagDue := p.tagDue.erase n } }.countIf (decide (Tbl.get? p.tagDue n = some false)) 0x1B4 0x820
  | some x =>
    if !x.needTag || x.tag.isSome then d
    else
      let good := x.tagGood && !x.erased
      let d := d.countIf (!x.tagGood && !x.erased) 0x1B4 0x820
      let x := { x with tag := some good }
      match x.stage with
      | .punted ch reason =>
        let (sent, d) := if good then d.punt ch reason x.deep x.src x.stamp x.bytes else (false, d)
        ((d.setPkt n x).dropPkt n).traceFate x.tagged (if good then 2 else 4) sent
      | _ => (d.setPkt n x).finish n

/-! ### Activation (R360 to R362) -/

/-- KEY_ACTIVATION (R360, R362): at frame A the key in slot `i` becomes the active key of its channel. -/
def keyActivation (t i : Nat) (d : Device) : Device :=
  match d.key? i with
  | none => d
  | some k =>
    if !k.waiting || decide (frameOf t < k.activateAt) then d
    else
      match d.chan? k.chan with
      | none => d
      | some c =>
        let d := match c.active.bind (SvcChan.pos c) with
          | some o => d.modKey o (fun s => if s.st = KeySt.erased then s else { s with st := .inactive })
          | none => d
        let d := d.modKey i (fun s => { s with st := if s.st = KeySt.erased then .erased else .active, waiting := false })
        (d.modChan (handleIdx c.handle) (fun c => { c with active := some k.pos })).count 0x1B4 0x870 1

/-! ### Erasure (R373 to R375) -/

/-- Erase every key slot (R374). `off` is the counter of the cause. How long the erasure takes, at most 2 us (R373), is free. -/
def Device.eraseKeys (off : Nat) (d : Device) : Device :=
  let ks := d.svc.keys.map (fun e => (e.1, { e.2 with key := List.replicate e.2.key.length 0, st := KeySt.erased }))
  let open_ := (d.pkt.pkts.filter (fun e => e.2.needTag && e.2.tag.isNone && !e.2.erased)).length
  let ps := d.pkt.pkts.map (fun e => if e.2.needTag && e.2.tag.isNone then (e.1, { e.2 with erased := true }) else e)
  let gone := d.pkt.tagDue.length
  let (v, d) := d.draw
  let d := { d with svc := { d.svc with keys := ks, erasingTo := d.now + v % 2001 }, pkt := { d.pkt with pkts := ps, tagDue := [] } }
  ((d.count 0x1B4 0x860 (open_ + gone)).count 0x1B4 0x878 1).count 0x1B4 off 1

/-- CLOCK_ALARM (R373). -/
def clockAlarm (_t : Nat) (d : Device) : Device := d.eraseKeys 0x888

/-- GLITCH_ALARM (R373). -/
def glitchAlarm (_t : Nat) (d : Device) : Device := d.eraseKeys 0x890

/-- TEMPERATURE_ALARM (R373): a sensor reads `q` quarter degrees. -/
def temperatureAlarm (_t : Nat) (q : Int) (d : Device) : Device := if 520 < q ∨ q < -180 then d.eraseKeys 0x898 else d

/-- RAIL_ALARM (R272, R285, R373): a rail alarm trips the device and erases every key. -/
def railAlarm (_t _rail : Nat) (d : Device) : Device :=
  ({ d with pow := { d.pow with railLow := true } }.trip 0x848).eraseKeys 0x880

end Sys2Proof.Machine
end

