-- ==== Sys2Proof/Machine/Commands.lean ====
section
/-!
DEFINITION. Commands (chapter 08): acceptance, the order of start, statuses and completions, and the commands on
terminals and allocations.
-/

namespace Sys2Proof.Machine

/-! ### The descriptor and the command set (R300, R304, R309) -/

def Cmd.opcode (c : Cmd) : Nat := wordAt c.words 0 % 256
def Cmd.fence (c : Cmd) : Bool := bit (wordAt c.words 0) 8
def Cmd.flush (c : Cmd) : Bool := bit (wordAt c.words 0) 9
def Cmd.key256 (c : Cmd) : Bool := bit (wordAt c.words 0) 10
def Cmd.handle (c : Cmd) : Nat := wordAt c.words 1
def Cmd.parent (c : Cmd) : Nat := wordAt c.words 2
def Cmd.link (c : Cmd) : Nat := wordAt c.words 3
def Cmd.arg (c : Cmd) (i : Nat) : Nat := wordAt c.words (4 + i)
def Cmd.bufLen (c : Cmd) : Nat := wordAt c.words 14 % 65536

/-- Whether a reserved bit of the descriptor is set (R300). -/
def Cmd.reserved (c : Cmd) : Bool :=
  decide (bits (wordAt c.words 0) 11 5 ≠ 0) || decide (bits (wordAt c.words 14) 16 16 ≠ 0) || decide (wordAt c.words 15 ≠ 0)

/-- The timeout of an opcode's class in ns; none where the opcode is not in the command table (R304, R309). -/
def opTimeout (op : Nat) : Option Nat :=
  if op = 1 ∨ op = 2 ∨ op = 3 then some 50000
  else if op = 0x11 ∨ op = 0x31 ∨ op = 0x41 then some 2000000
  else if op = 0x20 ∨ op = 0x21 ∨ op = 0x80 then some 500000
  else if [0x10, 0x12, 0x13, 0x30, 0x40, 0x42, 0x50, 0x51, 0x60, 0x61, 0x70, 0x71, 0x81, 0x90].contains op then some 125000
  else none

/-- Whether an opcode reads a payload buffer (R309). -/
def opPayload (op : Nat) : Bool := decide (op = 0x80 ∨ op = 0x90)

/-- Whether a device without the Capo executes an opcode (R308). -/
def opFree (op : Nat) : Bool := decide (op = 1 ∨ op = 2 ∨ op = 3)

/-- A command's deadline (R304). -/
def Cmd.deadline (c : Cmd) : Nat := c.stamp + (opTimeout (Cmd.opcode c)).getD 0

/-- The handles a command names for the order of R299; a QUERY names none. -/
def Cmd.names (c : Cmd) : List Nat :=
  if Cmd.opcode c = 2 then [] else [Cmd.handle c, Cmd.parent c, Cmd.link c].filter (fun h => handleKind h ≠ 0)

/-- The status codes of R302. -/
def stOk : Nat := 0
def stStale : Nat := 1
def stLimit : Nat := 2
def stArg : Nat := 3
def stBusy : Nat := 4
def stNotActive : Nat := 5
def stTimeout : Nat := 6
def stSwitchover : Nat := 7
def stDmaError : Nat := 8
def stUnknown : Nat := 9

/-! ### Commands under way -/

/-- An accepted command by its number. -/
def Device.cmd? (d : Device) (n : Nat) : Option Cmd := d.svc.cmds.find? (fun c => c.seq = n)
def Device.setCmds (l : List Cmd) (d : Device) : Device := { d with svc := { d.svc with cmds := l } }
def Device.modCmd (n : Nat) (f : Cmd → Cmd) (d : Device) : Device :=
  d.setCmds (d.svc.cmds.map (fun c => if c.seq = n then f c else c))

/-- Whether a command has its completion. -/
def Cmd.isDone (c : Cmd) : Bool := match c.st with | .done _ _ _ _ _ _ => true | _ => false
def Cmd.isWorking (c : Cmd) : Bool := decide (c.st = .working)

/-- Complete a command (R301 to R303). -/
def Device.endCmd (c : Cmd) (status stamp : Nat) (effect : Bool) (handle a b : Nat) (d : Device) : Device :=
  d.modCmd c.seq (fun c => { c with st := .done status stamp effect handle a b })

/-- Complete a command as refused, or as OK with its effect now. -/
def Device.refuseCmd (c : Cmd) (status t : Nat) (d : Device) : Device := d.endCmd c status t false (Cmd.handle c) 0 0
def Device.okCmd (c : Cmd) (t a b : Nat) (d : Device) : Device := d.endCmd c stOk t true (Cmd.handle c) a b
def Device.createdCmd (c : Cmd) (t handle a b : Nat) (d : Device) : Device := d.endCmd c stOk t true handle a b

/-- A command under way that waits for its commit point. -/
def Device.workCmd (c : Cmd) (d : Device) : Device := d.modCmd c.seq (fun c => { c with st := .working })

/-- The indices left to the kind of object a create makes (R310): of the tree of a terminal or allocation, else of the device. Service channels and the
OMCI channels of terminals share a limit (R312). -/
def Device.indicesLeft (d : Device) (c : Cmd) : Nat :=
  let chans := 524288 - (d.svc.chans.length + d.rng.terms.length)
  match Cmd.opcode c with
  | 0x10 => min chans (512 - (d.rng.terms.filter (fun e => termTree e.1 = Cmd.arg c 2 % 64)).length)
  | 0x20 => 3584 - (d.fret.allocs.filter (fun e => e.1 / 4096 = termTree (handleIdx (Cmd.parent c)) && decide (512 ≤ e.1 % 4096))).length
  | 0x30 => chans
  | 0x40 => 1048576 - d.cells.queues.length
  | 0x50 => 65536 - d.svc.keys.length
  | 0x60 => 256 - d.cells.pools.length
  | 0x70 => 1048576 - d.traffic.shapers.length
  | 0x80 => 1024 - d.traffic.gates.length
  | _ => 1

/-- Whether two creates draw on the same indices. -/
def Cmd.sameIndices (a b : Cmd) : Bool :=
  let pair (x y : Nat) : Bool := decide (Cmd.opcode a = x ∧ Cmd.opcode b = y)
  pair 0x10 0x30 || pair 0x30 0x10 || decide (Cmd.opcode a = Cmd.opcode b)

/-- Whether a create waits for others accepted before it to take the last indices of its kind (R310). -/
def Device.competes (d : Device) (c : Cmd) : Bool :=
  let before := d.svc.cmds.filter (fun e => decide (e.seq < c.seq) && !Cmd.isDone e && Cmd.sameIndices e c)
  [0x10, 0x20, 0x30, 0x40, 0x50, 0x60, 0x70, 0x80].contains (Cmd.opcode c) && decide (before ≠ []) && decide (d.indicesLeft c ≤ before.length)

/-- Whether a waiting command may start (R299, R310); one whose commit R521 put off has started. -/
def Device.mayStart (d : Device) (c : Cmd) : Bool :=
  d.svc.cmds.all (fun e =>
    !decide (e.seq < c.seq) ||
      ((decide (e.ring ≠ c.ring) || (if Cmd.fence c then Cmd.isDone e else decide (e.st ≠ .waiting) || d.mru.deferred.contains e.seq))
        && (Cmd.isDone e || (Cmd.names c).all (fun h => !(Cmd.names e).contains h))))
    && !d.competes c

/-- Run command `n` of opcode `op`: it starts when its turn has come and its payload is there, and not past its
deadline. -/
def Device.run (op t n : Nat) (body : Cmd → Device → Device) (d : Device) : Device :=
  match d.cmd? n with
  | none => d
  | some c =>
    if c.st ≠ .waiting ∨ Cmd.opcode c ≠ op ∨ !d.mayStart c ∨ c.pay = .reading ∨ t < c.stamp then d
    else if Cmd.deadline c < t then d.refuseCmd c stTimeout (Cmd.deadline c)
    else if !opFree op && !d.capo then d.refuseCmd c stNotActive t
    else if Cmd.reserved c then d.refuseCmd c stArg t
    else if c.pay = .failed then d.refuseCmd c stDmaError t
    else body c d

/-- A command or window write commits against the CHANGE class of its epoch, or waits for the next device frame
(R521). `key` names it. -/
def Device.change (key op : Nat) (ws : List Nat) (f : Device → Device) (d : Device) : Device :=
  if d.on MRU.MIRROR_EN && decide (d.rd MRU.ROLE = 1) then
    let n := Config.changeBytes op ws
    if 2097152 < d.mru.change + n then
      if d.mru.deferred.contains key then d
      else ({ d with mru := { d.mru with deferred := key :: d.mru.deferred } }).count 0x005 0x858 1
    else f { d with mru := { d.mru with change := d.mru.change + n, deferred := d.mru.deferred.filter (· ≠ key) } }
  else f d

/-- The effect of a command at its commit point. -/
def Device.commit (c : Cmd) (f : Device → Device) (d : Device) : Device := d.change c.seq (Cmd.opcode c) c.words f

/-! ### Handles (R20, R310, R545) -/

/-- The lowest free index among `n` from `i`. -/
def firstFree (free : Nat → Bool) : Nat → Nat → Option Nat
  | 0, _ => none
  | n + 1, i => if free i then some i else firstFree free n (i + 1)

/-- Advance the generation of an index: the new handle. -/
def Device.issue (k : Kind) (idx : Nat) (d : Device) : Nat × Device :=
  let g : Gen := Tbl.getD d.gens (genKey k idx) ⟨0, 0⟩
  let n := genAdvance g.gen (if g.era < d.era then 32 else 1)
  (mkHandle k n idx, { d with gens := Tbl.set d.gens (genKey k idx) ⟨n, d.era⟩ })

/-- Objects by their handles. -/
def Device.termOf (d : Device) (h : Nat) : Option Nat :=
  match d.term? (handleIdx h) with
  | some t => if t.handle = h then some (handleIdx h) else none
  | none => none
def Device.allocOf (d : Device) (h : Nat) : Option Nat :=
  match Tbl.get? d.fret.allocs (handleIdx h) with
  | some a => if a.handle = h then some (handleIdx h) else none
  | none => none
def Device.keyOf (d : Device) (h : Nat) : Option Nat :=
  match d.key? (handleIdx h) with
  | some k => if k.handle = h then some (handleIdx h) else none
  | none => none
def Device.poolOf (d : Device) (h : Nat) : Option Nat :=
  match d.pool? (handleIdx h) with
  | some p => if p.handle = h then some (handleIdx h) else none
  | none => none
def Device.shaperAt (d : Device) (h : Nat) : Option Nat :=
  match Tbl.get? d.traffic.shapers (handleIdx h) with
  | some s => if s.handle = h then some (handleIdx h) else none
  | none => none
def Device.gateAt (d : Device) (h : Nat) : Option Nat :=
  match Tbl.get? d.traffic.gates (handleIdx h) with
  | some g => if g.handle = h then some (handleIdx h) else none
  | none => none

/-- Whether a terminal is LEAVING. -/
def Device.leaving (d : Device) (x : Nat) : Bool := match d.term? x with | some t => decide (t.state = 5) | none => false

/-- A command whose terminal handle is stale (R256). -/
def Device.staleTerm (c : Cmd) (t : Nat) (d : Device) : Device := (d.refuseCmd c stStale t).count 0x1B6 0x868 1

/-! ### Acceptance (R295 to R298) -/

/-- Whether ring `r` holds a descriptor the HIF would take but for its completion slot (R296, R297). -/
def Device.ringWaits (d : Device) (r : Nat) : Bool :=
  d.hostUp && d.on HIF.CMD_EN && d.on (HIF.CR_EN r) && decide (d.rd (HIF.CR_CI r) ≠ d.rd (HIF.CR_PI r))
    && decide (d.svc.cmds.length + d.hif.held.length < 4096) && decide ((d.svc.cmds.filter (fun c => c.ring = r)).length < 256)

/-- The completion slots of a completion ring that are reserved and not consumed. -/
def Device.cqUsed (d : Device) (q : Nat) : Nat := (Tbl.getD d.svc.reserved q 0 + 65536 - d.rd (HIF.CQ_CI q)) % 65536

/-- Whether the bound completion ring of ring `r` has a free slot. -/
def Device.cqFree (d : Device) (r : Nat) : Bool :=
  let q := d.rd (HIF.CR_CQ r)
  d.on (HIF.CQ_EN q) && decide (d.cqUsed q < 2 ^ d.rd (HIF.CQ_SIZE_LOG2 q))

/-- Whether any descriptor waits for a completion slot (R297, R320). -/
def Device.cqStalled (d : Device) : Bool := (List.range 16).any (fun r => d.ringWaits r && !d.cqFree r)

/-- Whether a descriptor of opcode `op` can be taken now: a payload read needs one of the 64 reads (R621). -/
def Device.readFree (d : Device) (op : Nat) : Bool := !opPayload op || decide (d.hif.reads.length < 64)

/-! ### Closing at acceptance (R303, R315) -/

/-- Whether a service channel names a queue (R314). -/
def Device.queueNamed (d : Device) (h : Nat) : Bool := d.svc.chans.any (fun e => e.2.dsQueue = h || e.2.usQueue = h)

/-- DRAIN_FRAMES (R315). -/
def Cmd.drain (c : Cmd) : Nat := Cmd.arg c 0 % 16

/-- Close the object of a destroy, or open it again. -/
def Device.setClosed (c : Cmd) (v : Bool) (d : Device) : Device :=
  let i := handleIdx (Cmd.handle c)
  if Cmd.opcode c = 0x31 then { d with svc := { d.svc with chans := Tbl.modify d.svc.chans i (fun x => { x with closed := v }) } }
  else d.modQueue i (fun q => { q with closed := v })

/-- Whether the acceptance of a destroy closes its object: a channel or queue that is open, of a destroy with nothing to refuse (R303, R308, R315). -/
def Device.closes (d : Device) (c : Cmd) : Bool :=
  d.capo && !Cmd.reserved c && decide (Cmd.drain c ≤ 8) &&
  (match Cmd.opcode c with
   | 0x31 => (d.chan? (Cmd.handle c)).any (fun x => !x.closed)
   | 0x41 => ((d.queueIdx (Cmd.handle c)).bind d.queue?).any (fun q => !q.closed) && !d.queueNamed (Cmd.handle c)
   | _ => false)

/-! ### Completions that wait (R54, R55, R305, R306, R546) -/

/-- Whether the partner counts as absent, so that a compatibility-mode device posts at the deadline of R55. With MIRROR_EN 0 no epoch is acknowledged, and
the partner counts as absent too (DESIGN CHOICE, log entry 89). -/
def Device.partnerAbsent (d : Device) : Bool := !d.on MRU.PARTNER_PRESENT || !d.on MRU.MIRROR_EN

/-- Whether a completion with an effect in frame `k` may be posted at `t`: its epoch is acknowledged, the partner is absent, or the instant
k + 2 + 5 us has come (R54, R55, R306, R546). -/
def Device.mayPost (d : Device) (op k t : Nat) (effect : Bool) : Bool :=
  !d.on MRU.COMPAT || !effect || opFree op || decide (k ≤ d.mru.posted)
    || (d.partnerAbsent && decide ((k + 1) * 125000 + 120000 ≤ t)) || decide ((k + 2) * 125000 + 5000 ≤ t)

/-- The first cells of a queue's packets, from its head (R407). -/
def Device.packetsFrom (d : Device) : Nat → Nat → List Nat
  | 0, _ => []
  | n + 1, p =>
    let last := match d.pkt.pkts.find? (fun e => e.2.first = some p && !e.2.ended) with
      | some e => e.2.last
      | none => d.hdrLast p
    p :: Device.packetsFrom d n (descNext (d.desc last))

/-- The queued packets of a service channel, by its index and generation (R309). -/
def Device.chanQueued (d : Device) (h : Nat) : Nat :=
  (d.cells.queues.map (fun e =>
    ((d.packetsFrom e.2.pkts e.2.head).filter (fun p => d.hdrChan p = (handleIdx h, handleGen h))).length)).sum

/-- Whether the clean-up of a channel's destroy is over (R305). -/
def Device.cleanedUp (d : Device) (c : Cmd) (stamp t : Nat) : Bool :=
  decide (Cmd.opcode c ≠ 0x31) || decide (d.chanQueued (Cmd.handle c) = 0) || decide (stamp + 125000 ≤ t)

/-- Whether a command's completion can be posted at `t`. -/
def Device.postable (d : Device) (t : Nat) (c : Cmd) : Bool :=
  match c.st with
  | .done status stamp effect _ _ _ =>
    decide (stamp ≤ t) && d.mayPost (Cmd.opcode c) (frameOf stamp) t effect && (decide (status ≠ stOk) || d.cleanedUp c stamp t)
  | _ => false

/-! ### The DMA classes (R53, R621) -/

/-- Whether an inject channel has a descriptor and room for its completion. -/
def Device.injectReady (d : Device) (i : Nat) : Bool :=
  d.hostUp && d.on (HIF.IC_EN i) && decide (d.rd (HIF.IR_CI i) ≠ d.rd (HIF.IR_PI i))
    && decide ((d.rd (HIF.ICQ_PI i) + 65536 - d.rd (HIF.ICQ_CI i)) % 65536 < 2 ^ d.rd (HIF.IC_SIZE_LOG2 i))

/-- Whether a DMA class has something to do at `t`: 0 command descriptor reads, 1 completion writes, 2 punts, which are written as their packets come and
never wait (log entry 90), 3 inject reads. -/
def Device.dmaWaits (d : Device) (t k : Nat) : Bool :=
  d.hostUp &&
  (match k with
   | 0 => (List.range 16).any (fun r => d.ringWaits r && d.cqFree r)
   | 1 => d.svc.cmds.any (d.postable t)
   | 3 => (List.range 4).any d.injectReady
   | _ => false)

/-- Whether it is the turn of DMA class `k`: no class before it in the rotating order has something to do. -/
def Device.dmaTurn (d : Device) (t k : Nat) : Bool :=
  (List.range ((k + 4 - d.hif.turn) % 4)).all (fun i => !d.dmaWaits t ((d.hif.turn + i) % 4))

/-- DMA class `k` has had its turn. -/
def Device.dmaServed (k : Nat) (d : Device) : Device := { d with hif := { d.hif with turn := (k + 1) % 4 } }

/-! ### Taking a descriptor (R295, R296) -/

/-- COMMAND_ACCEPT (R295, R296, R303): the HIF takes the descriptor `ws` from command ring `r`, if it is that ring's turn, and that of command
descriptors. With `ok` false the descriptor's read fails. A destroy closes its object. -/
def commandAccept (t r : Nat) (ws : List Nat) (ok : Bool) (d : Device) : Device :=
  let mine := d.ringWaits r && d.cqFree r && d.readFree (wordAt ws 0 % 256) && d.dmaTurn t 0
  let before := (List.range ((r + 16 - d.svc.turn) % 16)).any (fun i =>
    let q := (d.svc.turn + i) % 16
    d.ringWaits q && d.cqFree q)
  if !mine || before then d
  else
    let q := d.rd (HIF.CR_CQ r)
    let size := 2 ^ d.rd (HIF.CR_SIZE_LOG2 r)
    let ws := if ok then (List.range 16).map (fun i => wordAt ws i % 2 ^ 32) else List.replicate 16 0
    let op := wordAt ws 0 % 256
    let n := d.svc.seq
    let pay := ok && opPayload op && decide (wordAt ws 14 % 65536 ≠ 0)
    let c : Cmd := { seq := n, stamp := t, ring := r, slot := d.rd (HIF.CR_CI r) % size, cq := q,
                     cqSlot := Tbl.getD d.svc.reserved q 0, words := ws, pay := if pay then .reading else .absent }
    let closer := ok && d.closes c
    let c := if !ok then { c with st := .done stDmaError t false 0 0 0 }
      else if (opTimeout op).isNone then { c with st := .done stUnknown t false (Cmd.handle c) 0 0 }
      else { c with closer := closer }
    let d := if closer then d.setClosed c true else d
    let sv := d.svc
    let d := { d with svc := { sv with cmds := sv.cmds ++ [c], seq := n + 1, turn := (r + 1) % 16,
                                       reserved := Tbl.put 0 sv.reserved q ((Tbl.getD sv.reserved q 0 + 1) % 65536) } }
    let hf := d.hif
    let d := if pay then { d with hif := { hf with reads := hf.reads ++ [⟨hf.nextRead, n, t⟩], nextRead := hf.nextRead + 1 } } else d
    (((d.wr (HIF.CR_CI r) (d.rd (HIF.CR_CI r) + 1)).count 0x001 0x900 1).countIf (!ok) 0x001 0x968).dmaServed 0

/-! ### Completions (R301, R305 to R307, R625) -/

/-- The words of a completion (R301). -/
def Device.cplWords (d : Device) (c : Cmd) (status stamp : Nat) (effect : Bool) (handle a b : Nat) : List Nat :=
  let w0 := wordAt c.words 0
  let ph := d.phase c.cq c.cqSlot (2 ^ d.rd (HIF.CQ_SIZE_LOG2 c.cq))
  [bits w0 16 16 + w0 % 256 * 2 ^ 16 + status * 2 ^ 24, handle, c.slot + c.ring * 2 ^ 15 + ph * 2 ^ 31,
   if effect then frameOf stamp % 2 ^ 32 else 0, stamp % 2 ^ 32, stamp / 2 ^ 32 % 2 ^ 32, a, b]

/-- The status in a completion. -/
def Cpl.status (x : Cpl) : Nat := bits (wordAt x.words 0) 24 8

/-- Write a completion to its slot (R298, R302, R622). -/
def Device.writeCpl (x : Cpl) (d : Device) : Device :=
  let s := Cpl.status x
  let o := Out.completion x.cq (x.slot % 2 ^ d.rd (HIF.CQ_SIZE_LOG2 x.cq)) x.words
  let d := ({ d with hif := { d.hif with recent := d.hif.recent ++ [(d.now, o)] } }).emit o
  let off := if s = stOk then 0x908 else if s = stTimeout then 0x918 else if s = stSwitchover then 0x920 else 0x910
  ((d.count 0x001 off 1).countIf (decide (s = stStale)) 0x001 0x928).wr (HIF.CQ_PI x.cq) (d.rd (HIF.CQ_PI x.cq) + 1)

/-- The completions that wait for an epoch up to `k` (R546). -/
def Device.waitingCpls (d : Device) (k : Nat) : Nat :=
  (d.svc.cmds.filter (fun c => match c.st with
    | .done _ stamp effect _ _ _ => effect && !opFree (Cmd.opcode c) && decide (frameOf stamp ≤ k)
    | _ => false)).length

/-- In compatibility mode, at k + 5 us the completions of frame `k - 2` that no acknowledgement released are posted, and each is counted (R546). -/
def Device.postUnacked (k : Nat) (d : Device) : Device :=
  if !d.on MRU.COMPAT ∨ k < 2 ∨ k - 2 ≤ d.mru.posted then d
  else
    let n := d.waitingCpls (k - 2)
    if n = 0 then d
    else ({ d with mru := { d.mru with posted := k - 2, early := k - 2 } }).count 0x005 0x8B8 n

/-- A completion with an effect in frame `k` is posted: without an acknowledgement for want of a partner (R55), or at k + 2 + 5 us (R546). -/
def Device.notePosted (k t : Nat) (d : Device) : Device :=
  let d := if (k + 2) * 125000 + 5000 ≤ t then d.postUnacked (k + 2) else d
  if d.mru.posted < k then { d with mru := { d.mru with posted := k, early := k } } else d

/-- COMPLETION_POST (R298, R305, R306, R621, R625): the completion of command `n` is written to its reserved slot, held while the host is lost, or
discarded where a function level reset took its ring (R618). -/
def completionPost (t n : Nat) (d : Device) : Device :=
  match d.cmd? n with
  | none => d
  | some c =>
    match c.st with
    | .done status stamp effect handle a b =>
      if !d.postable t c || (d.hostUp && !d.dmaTurn t 1) then d
      else
        let x : Cpl := ⟨c.cq, c.cqSlot, d.cplWords c status stamp effect handle a b⟩
        let d := if d.on MRU.COMPAT && effect && !opFree (Cmd.opcode c) then d.notePosted (frameOf stamp) t else d
        let d := d.setCmds (d.svc.cmds.filter (fun e => e.seq ≠ n))
        if 4 ≤ c.cq then d.count 0x001 0x828 1
        else if d.hostUp then (d.writeCpl x).dmaServed 1
        else ({ d with hif := { d.hif with held := d.hif.held ++ [x] } }).count 0x001 0x820 1
    | _ => d

/-- COMMAND_TIMEOUT (R304): command `n` has not committed and its deadline has passed. -/
def commandTimeout (t n : Nat) (d : Device) : Device :=
  match d.cmd? n with
  | none => d
  | some c =>
    if Cmd.isDone c ∨ t ≤ Cmd.deadline c then d
    else
      let d := d.refuseCmd c stTimeout (Cmd.deadline c)
      if Cmd.opcode c = 0x42 ∧ Cmd.isWorking c then
        match d.queueIdx (Cmd.handle c) with
        | some q => d.modQueue q (fun q => if q.closed then q else { q with flush := false })
        | none => d
      else d

/-- Commands that have not committed when the Capo is lost complete as REFUSED_NOT_ACTIVE (R316). -/
def Device.cmdsLoseCapo (d : Device) : Device :=
  forEach (d.svc.cmds.filter (fun c => !Cmd.isDone c && !opFree (Cmd.opcode c))) (fun c d => d.refuseCmd c stNotActive d.now) d

/-! ### NOP, QUERY and KEY_ZEROIZE_ALL -/

/-- NOP (R309). -/
def nop (t n : Nat) (d : Device) : Device := Device.run 0x01 t n (fun c d => d.endCmd c stOk t false (Cmd.handle c) 0 0) d

/-- What QUERY returns of an object (R258, R309): its state and count; none where the handle is stale. -/
def Device.query (d : Device) (h : Nat) : Option (Nat × Nat) :=
  match handleKind h with
  | 1 => (d.termOf h).bind (fun x => (d.term? x).map (fun t => (t.state, 0)))
  | 2 => (d.allocOf h).bind (fun x => (Tbl.get? d.fret.allocs x).map (fun a => (b2n a.leaving, 0)))
  | 3 => (d.chan? h).map (fun c => (b2n c.closed, d.chanQueued h))
  | 4 => (d.queueIdx h).bind (fun q => (d.queue? q).map (fun q => (b2n q.closed, q.pkts)))
  | 5 => (d.keyOf h).map (fun _ => (0, 0))
  | 6 => (d.poolOf h).map (fun _ => (0, 0))
  | 7 => (d.shaperAt h).map (fun _ => (0, 0))
  | 8 => (d.gateAt h).map (fun _ => (0, 0))
  | _ => none

/-- QUERY (R299, R309). -/
def query (t n : Nat) (d : Device) : Device :=
  Device.run 0x02 t n (fun c d =>
    match d.query (Cmd.handle c) with
    | some (a, b) => d.endCmd c stOk t false (Cmd.handle c) a b
    | none => d.refuseCmd c stStale t) d

/-- KEY_ZEROIZE_ALL (R316, R373, R375). -/
def keyZeroizeAll (t n : Nat) (d : Device) : Device :=
  Device.run 0x03 t n (fun c d =>
    let k := d.svc.keys.length
    let creates := d.svc.cmds.filter (fun e => Cmd.opcode e = 0x50 && !Cmd.isDone e)
    let d := forEach creates (fun e d => d.refuseCmd e stArg t) d
    let d := d.eraseKeys 0x8A8
    let d := { d with mru := { d.mru with zeroized := true } }
    d.okCmd c t k 0) d

/-! ### Terminals (R241, R256 to R259, R657) -/

/-- A terminal's default allocation (R259). -/
def Device.addDefault (x : Nat) (d : Device) : Nat × Device :=
  let i := 4096 * termTree x + x % 512
  let (h, d) := d.issue .allocation i
  let a : Alloc := { handle := h, allocId := x % 512, term := x, bornFrame := d.treeFrame (termTree x) d.now }
  (h, { d with fret := { d.fret with allocs := Tbl.set d.fret.allocs i a } })

/-- The peg entries of a terminal return to reset (R241). -/
def Device.resetPegs (x : Nat) (d : Device) : Device :=
  forEach (List.range 4) (fun w d => d.setPeg (4 * termTree x + w) (x % 512) {}) d

/-- An unconsumed discovery-list entry of a serial number heard on the tree in the last 8,000 tree frames (R257). -/
def Device.heard (d : Device) (tree vendor serial : Nat) : Option DiscEntry :=
  (unreadIdx (d.rd RGU.DISC_PRODUCED) (d.rd RGU.DISC_CONSUMED) 512).findSome? (fun n =>
    match Tbl.get? d.rng.disc n with
    | some e => if e.vendor = vendor ∧ e.serial = serial ∧ treeOf e.chan = tree ∧ d.treeFrame tree d.now ≤ e.treeFrame + 8000
        then some e else none
    | none => none)

/-- TERMINAL_CREATE (R256, R257, R259). -/
def terminalCreate (t n : Nat) (d : Device) : Device :=
  Device.run 0x10 t n (fun c d =>
    let tree := Cmd.arg c 2 % 64
    let v := Cmd.arg c 0
    let s := Cmd.arg c 1
    if d.rng.terms.any (fun e => e.2.vendor = v && e.2.serial = s) then d.refuseCmd c stArg t
    else if 524288 ≤ d.svc.chans.length + d.rng.terms.length then d.refuseCmd c stLimit t
    else
      match firstFree (fun x => (d.term? x).isNone && !d.termBusy x) 512 (512 * tree) with
      | none => d.refuseCmd c stLimit t
      | some x => d.commit c (fun d =>
        let hit := d.heard tree v s
        let (h, d) := d.issue .terminal x
        let d := (d.setTerm x { handle := h, state := 1, vendor := v, serial := s }).count 0x1B6 0x858 1
        let (a, d) := d.addDefault x
        let d := d.resetPegs x
        let d := match hit with
          | some e => d.startRanging x e.chan e.q
          | none => d
        let st := match d.term? x with | some y => y.state | none => 0
        d.createdCmd c t h st a)) d

/-- Whether a node lies on or below terminal `x`'s node. -/
def Device.belowTerm (d : Device) (x : Nat) : Nat → Nat → Bool
  | 0, _ => false
  | f + 1, k =>
    if k = nodeKey 1 x then true
    else if keyLevel k ≤ 1 then false
    else
      let n := d.node k
      Device.belowTerm d x f (nodeKey n.plevel n.parent)

/-- Whether something of a terminal stops its destroy (R258). -/
def Device.termDepends (d : Device) (x : Nat) : Bool :=
  let under (k : Nat) : Bool := d.belowTerm x 5 k
  let named (r : Nat) : Bool :=
    if handleKind r = 0 then under (nodeKey (bits r 26 2) (bits r 0 20))
    else match d.queueIdx r with
      | some i => match d.queue? i with | some q => under (nodeKey q.level q.parent) | none => false
      | none => false
  d.fret.allocs.any (fun e => e.2.term = x && decide (512 ≤ e.1 % 4096))
    || d.svc.chans.any (fun e => handleIdx e.2.term = x)
    || d.traffic.nodes.any (fun e => e.2.enable && decide (1 < keyLevel e.1) && under e.1)
    || d.cells.queues.any (fun e => under (nodeKey e.2.level e.2.parent))
    || d.traffic.shapers.any (fun e => named e.2.target)
    || d.traffic.gates.any (fun e => named e.2.node)

/-- TERMINAL_DESTROY (R241, R258): the terminal goes to LEAVING; the command commits at FREE. -/
def terminalDestroy (t n : Nat) (d : Device) : Device :=
  Device.run 0x11 t n (fun c d =>
    match d.termOf (Cmd.handle c) with
    | none => d.staleTerm c t
    | some x =>
      if d.termDepends x then d.refuseCmd c stBusy t
      else
        match d.term? x with
        | none => d
        | some y =>
          let d := if y.state = 5 then d else if y.state = 4 then d.setState x 5 else (d.deactivate x).setState x 5
          d.workCmd c) d

/-- TERMINAL_DISABLE (R241, R657). -/
def terminalDisable (t n : Nat) (d : Device) : Device :=
  Device.run 0x12 t n (fun c d =>
    match d.termOf (Cmd.handle c) with
    | none => d.staleTerm c t
    | some x =>
      match d.term? x with
      | none => d
      | some y =>
        if y.state = 5 then d.refuseCmd c stBusy t
        else if y.state = 4 then d.endCmd c stOk t false (Cmd.handle c) 0 0
        else d.commit c (fun d => (d.disableTerm x).okCmd c t 0 0)) d

/-- TERMINAL_ENABLE (R241, R657). -/
def terminalEnable (t n : Nat) (d : Device) : Device :=
  Device.run 0x13 t n (fun c d =>
    match d.termOf (Cmd.handle c) with
    | none => d.staleTerm c t
    | some x =>
      match d.term? x with
      | none => d
      | some y =>
        if y.state = 5 then d.refuseCmd c stBusy t
        else if y.state ≠ 4 then d.endCmd c stOk t false (Cmd.handle c) 0 0
        else d.commit c (fun d => (d.enableTerm x).okCmd c t 0 0)) d

/-- TERMINAL_FREE (R241, R258, R259): a LEAVING terminal with no outstanding item reaches FREE; its destroy commits. -/
def terminalFree (t x : Nat) (d : Device) : Device :=
  match d.term? x with
  | none => d
  | some y =>
    if y.state ≠ 5 ∨ d.termBusy x then d
    else
      let cmds := d.svc.cmds.filter (fun c => Cmd.opcode c = 0x11 && Cmd.isWorking c && Cmd.handle c = y.handle)
      let r := d.rng
      let d := { d with rng := { r with terms := r.terms.erase x, shadow := r.shadow.erase x,
                                        wants := r.wants.filter (fun q => q.term ≠ x), ploamAsk := r.ploamAsk.filter (· ≠ x),
                                        ploamTries := r.ploamTries.erase x } }
      let d := d.count 0x1B6 0x860 1
      let tr := d.traffic
      let d := { d with traffic := { tr with nodes := tr.nodes.erase (nodeKey 1 x), termBuckets := tr.termBuckets.erase x,
                                             omci := tr.omci.erase x } }
      let d := { d with fret := { d.fret with allocs := d.fret.allocs.erase (4096 * termTree x + x % 512) } }
      let ch := d.bursts.charges.filter (fun e => !(e.1 % 512 = x % 512 && treeOf (e.1 / 512) = termTree x))
      let d := { d with bursts := { d.bursts with charges := ch } }
      forEach cmds (fun c d => if t ≤ Cmd.deadline c then d.okCmd c t 0 0 else d.refuseCmd c stTimeout (Cmd.deadline c)) d

/-! ### Allocations (R149, R150, R259) -/

/-- The allocation an ALLOC_CREATE asks for on terminal `x`. -/
def Cmd.allocation (c : Cmd) (x : Nat) : Alloc :=
  let a := Cmd.arg c 0
  { handle := 0, cls := bits a 16 2, reportEvery := bits a 18 4, allocId := bits a 0 14, rate := Cmd.arg c 1,
    weight := Cmd.arg c 2, reportMax := Cmd.arg c 3, term := x }

/-- An allocation index is free when none has it and no item of its last allocation is outstanding (R150). -/
def Device.allocFree (d : Device) (i : Nat) : Bool :=
  (Tbl.get? d.fret.allocs i).isNone && !d.fret.slots.any (fun p => Slot.holds p.2 && (Slot.open_ p.2).any (fun j => j.alloc = i))
    && !d.fret.plans.any (fun p => p.2.items.any (fun j => j.alloc = i))

/-- Why an ALLOC_CREATE on terminal `x` is refused, or the index it would take (R149, R162, R259, R309). -/
def Device.allocPlan (d : Device) (c : Cmd) (x : Nat) : Sum Nat Nat :=
  let a := Cmd.allocation c x
  let tree := termTree x
  if a.allocId < 1024 ∨ d.fret.allocs.any (fun e => termTree e.2.term = tree && e.2.allocId = a.allocId)
      ∨ 8 < a.reportEvery ∨ 2 ^ 24 ≤ a.rate ∨ a.weight = 0 ∨ 65535 < a.weight ∨ 2 ^ 24 ≤ a.reportMax
      ∨ (a.cls = 0 ∧ a.rate < 16) then .inl stArg
  else if d.leaving x then .inl stBusy
  else
    match firstFree d.allocFree 3584 (4096 * tree + 512) with
    | none => .inl stLimit
    | some i =>
      let d' := { d with fret := { d.fret with allocs := Tbl.set d.fret.allocs i a } }
      if a.cls = 0 ∧ !d'.treeFixedOk tree then .inl stLimit else .inr i

/-- ALLOC_CREATE (R149, R316): checked now; it commits at the next build start of the home channel. -/
def allocCreate (t n : Nat) (d : Device) : Device :=
  Device.run 0x20 t n (fun c d =>
    match d.termOf (Cmd.parent c) with
    | none => d.staleTerm c t
    | some x =>
      match d.allocPlan c x with
      | .inl s => d.refuseCmd c s t
      | .inr _ => d.workCmd c) d

/-- ALLOC_DESTROY (R150, R259, R314): the allocation closes; the command commits at the next build start. -/
def allocDestroy (t n : Nat) (d : Device) : Device :=
  Device.run 0x21 t n (fun c d =>
    match d.allocOf (Cmd.handle c) with
    | none => d.refuseCmd c stStale t
    | some i =>
      if i % 4096 < 512 then d.refuseCmd c stArg t
      else if d.svc.chans.any (fun e => e.2.alloc = Cmd.handle c) then d.refuseCmd c stBusy t
      else
        let al := Tbl.modify d.fret.allocs i (fun a => { a with leaving := true })
        ({ d with fret := { d.fret with allocs := al } }).workCmd c) d

/-- An ALLOC_CREATE commits at a build start (R149, R316). -/
def Device.createAlloc (c : Cmd) (t : Nat) (d : Device) : Device :=
  match d.termOf (Cmd.parent c) with
  | none => d.staleTerm c t
  | some x =>
    match d.allocPlan c x with
    | .inl s => d.refuseCmd c s t
    | .inr i => d.commit c (fun d =>
      let (h, d) := d.issue .allocation i
      let a := { Cmd.allocation c x with handle := h, bornFrame := d.treeFrame (termTree x) t }
      let d := { d with fret := { d.fret with allocs := Tbl.set d.fret.allocs i a } }
      d.createdCmd c t h a.allocId 0)

/-- An ALLOC_DESTROY commits at a build start (R150). -/
def Device.destroyAlloc (c : Cmd) (t : Nat) (d : Device) : Device :=
  match d.allocOf (Cmd.handle c) with
  | none => d.refuseCmd c stStale t
  | some i => d.commit c (fun d =>
    ({ d with fret := { d.fret with allocs := d.fret.allocs.erase i } }).okCmd c t 0 0)

/-- The terminal whose home channel an allocation command waits for. -/
def Device.allocTerm (d : Device) (c : Cmd) : Option Nat :=
  if Cmd.opcode c = 0x20 then d.termOf (Cmd.parent c)
  else if Cmd.opcode c = 0x21 then
    match Tbl.get? d.fret.allocs (handleIdx (Cmd.handle c)) with
    | some a => some a.term
    | none => none
  else none

/-- The allocation commands that commit at the build start of channel `ch` at `t` (R150, R178, R309, R316): accepted before it, a destroy also at it, and
of a terminal whose home channel it is, or of a terminal of its tree that has none. -/
def Device.allocCommits (ch t : Nat) (d : Device) : Device :=
  forEach (d.svc.cmds.filter (fun c => Cmd.isWorking c && (decide (c.stamp < t) || decide (c.stamp = t ∧ Cmd.opcode c = 0x21)))) (fun c d =>
    match d.allocTerm c with
    | none => if Cmd.opcode c = 0x20 then d.createAlloc c t else if Cmd.opcode c = 0x21 then d.destroyAlloc c t else d
    | some x =>
      if ¬ (treeOf ch = termTree x ∧ (d.home x).getD ch = ch) then d
      else if Cmd.deadline c < t then d.refuseCmd c stTimeout (Cmd.deadline c)
      else if Cmd.opcode c = 0x20 then d.createAlloc c t else d.destroyAlloc c t) d

/-- MAP_BUILD_START (R139, R150): the commands of the channel's build start commit, then the build takes its
snapshot. -/
def mapBuildStart (t c : Nat) (d : Device) : Device := buildStart c (d.allocCommits c t)

/-- The service channel of an XGEM port, as the receiver of terminal `x`'s bursts looks it up (R204, R312), and whether it is in an allocation of the
burst. -/
def Device.portUse (d : Device) (x : Nat) (allocs : List Nat) (port : Nat) : PortUse :=
  if port = x % 512 then ⟨true, false⟩
  else
    match d.chanAt (termTree x) port with
    | some ch => if handleIdx ch.term = x && ch.us && allocs.contains (handleIdx ch.alloc) then ⟨true, ch.closed⟩ else ⟨false, false⟩
    | none => ⟨false, false⟩

/-- BURST_END (R201 to R211). -/
def burstEndCmd (_t c : Nat) (r : BurstRx) (d : Device) : Device := burstEnd c r (d.portUse r.term) d

end Sys2Proof.Machine
end

