-- ==== Sys2Proof/Machine/Services.lean ====
section
/-!
DEFINITION. The commands on service channels, queues, keys, pools, shapers, gate lists and OMCI (chapters 08, 10, 11,
12), their commits, and the punt and inject channels (R317 to R320).
-/

namespace Sys2Proof.Machine

/-! ### Nodes named by commands (R425) -/

/-- The number of indices of a scheduler level (R423). -/
def levelCount (l : Nat) : Nat := if l = 0 then 320 else if l = 1 then 49152 else if l = 2 then 131072 else if l = 3 then 262144 else 0

/-- The node a node reference names, or none where it is not accepted. -/
def Device.nodeByRef (d : Device) (r : Nat) : Option Nat :=
  let l := bits r 26 2
  let i := bits r 0 20
  if bits r 28 4 ≠ 0 ∨ bits r 20 6 ≠ 0 ∨ l = 0 ∨ (l = 1 ∧ i < 32768) ∨ levelCount l ≤ i then none
  else if d.nodeUp (nodeKey l i) then some (nodeKey l i) else none

/-- The node a LINK names: by a node reference, or a terminal node by its terminal's handle. -/
def Device.nodeByLink (d : Device) (r : Nat) : Option Nat :=
  if handleKind r = 0 then d.nodeByRef r else (d.termOf r).map (fun x => nodeKey 1 x)

/-- Whether a LINK names a LEAVING terminal (R302). -/
def Device.linkLeaving (d : Device) (r : Nat) : Bool := decide (handleKind r = 1) && d.leaving (handleIdx r)

/-! ### Service channels (R311, R312, R428) -/

/-- Whether an XGEM port is bound on a tree: by a service channel, or by a terminal's OMCI channel (R311, R312). -/
def Device.portBound (d : Device) (tree port : Nat) : Bool :=
  (d.chanAt tree port).isSome || d.rng.terms.any (fun e => termTree e.1 = tree && e.1 % 512 = port)

/-- Whether a queue lies below a terminal's node (R428). -/
def Device.queueBelow (d : Device) (x q : Nat) : Bool :=
  match d.queue? q with
  | some q => d.belowTerm x 5 (nodeKey q.level q.parent)
  | none => false

/-- The channel a CHANNEL_CREATE asks for. -/
def Cmd.channel (c : Cmd) : SvcChan :=
  let a := Cmd.arg c 0
  { handle := 0, term := Cmd.parent c, port := a % 65536, ds := bit a 16, us := bit a 17, dsQueue := Cmd.link c,
    usQueue := Cmd.arg c 1, alloc := Cmd.arg c 3 }

/-- Whether a CHANNEL_CREATE names a stale handle (R309, R311). -/
def Device.chanStale (d : Device) (c : Cmd) (x : Nat) : Bool :=
  let ch := Cmd.channel c
  let k := Cmd.arg c 2
  let allocBad := match d.allocOf ch.alloc with
    | some i => match Tbl.get? d.fret.allocs i with | some a => decide (a.term ≠ x) | none => true
    | none => true
  (decide (ch.dsQueue ≠ 0) && (d.queueIdx ch.dsQueue).isNone) || (decide (ch.usQueue ≠ 0) && (d.queueIdx ch.usQueue).isNone)
    || (decide (k ≠ 0) && (d.keyOf k).isNone) || (decide (ch.alloc ≠ 0) && allocBad)

/-- Whether an argument of a CHANNEL_CREATE is invalid (R311, R358, R428). -/
def Device.chanArgBad (d : Device) (c : Cmd) (x : Nat) : Bool :=
  let ch := Cmd.channel c
  let keyUsed := match d.keyOf (Cmd.arg c 2) with
    | some i => match d.key? i with | some k => k.everBound | none => false
    | none => false
  let usBad := match (d.queueIdx ch.usQueue).bind d.queue? with
    | some q => !d.netBound q
    | none => false
  decide (ch.port = 65535) || d.portBound (termTree x) ch.port || (!ch.ds && !ch.us)
    || (ch.ds && decide (ch.dsQueue = 0)) || (ch.us && (decide (ch.usQueue = 0) || decide (ch.alloc = 0)))
    || (decide (ch.dsQueue ≠ 0) && !d.queueBelow x (handleIdx ch.dsQueue)) || usBad || keyUsed

/-- CHANNEL_CREATE (R311, R358, R428). -/
def channelCreate (t n : Nat) (d : Device) : Device :=
  Device.run 0x30 t n (fun c d =>
    match d.termOf (Cmd.parent c) with
    | none => d.refuseCmd c stStale t
    | some x =>
      if d.chanStale c x then d.refuseCmd c stStale t
      else if d.chanArgBad c x then d.refuseCmd c stArg t
      else if d.leaving x then d.refuseCmd c stBusy t
      else if 524288 ≤ d.svc.chans.length + d.rng.terms.length then d.refuseCmd c stLimit t
      else
        match firstFree (fun i => (Tbl.get? d.svc.chans i).isNone) 524288 0 with
        | none => d.refuseCmd c stLimit t
        | some i => d.commit c (fun d =>
          let (h, d) := d.issue .channel i
          let ch := { Cmd.channel c with handle := h }
          let (ch, d) := match d.keyOf (Cmd.arg c 2) with
            | some k =>
              ({ ch with keys := [some k, none], active := some 1 },
               (d.count 0x1B4 0x870 1).modKey k (fun s => { s with st := if s.st = KeySt.erased then .erased else .active, pos := 1, everBound := true, chan := h }))
            | none => (ch, d)
          ({ d with svc := { d.svc with chans := Tbl.set d.svc.chans i ch } }).createdCmd c t h ch.port 0)) d

/-- CHANNEL_DESTROY (R315): the channel is closed; it commits after the drain. -/
def channelDestroy (t n : Nat) (d : Device) : Device :=
  Device.run 0x31 t n (fun c d =>
    match d.chan? (Cmd.handle c) with
    | none => d.refuseCmd c stStale t
    | some ch =>
      if 8 < Cmd.drain c then d.refuseCmd c stArg t
      else ({ d with svc := { d.svc with chans := Tbl.modify d.svc.chans (handleIdx ch.handle) (fun x => { x with closed := true }) } }).workCmd c) d

/-! ### Queues (R412, R427) -/

/-- The queue a QUEUE_CREATE asks for below node `k`, out of pool `p`. -/
def Cmd.queue (c : Cmd) (k p : Nat) : Queue :=
  { handle := 0, pool := p, maxCells := Cmd.arg c 0, level := keyLevel k, parent := keyIdx k, rank := bits (Cmd.arg c 1) 16 3,
    weight := Cmd.arg c 1 % 65536, lag := Cmd.arg c 2 % 256, rtPool := Cmd.arg c 3 }

/-- QUEUE_CREATE (R427). -/
def queueCreate (t n : Nat) (d : Device) : Device :=
  Device.run 0x40 t n (fun c d =>
    let rt := Cmd.arg c 3
    match d.poolOf (Cmd.parent c), d.nodeByLink (Cmd.link c) with
    | some p, some k =>
      if rt ≠ 0 ∧ (d.poolOf rt).isNone then d.refuseCmd c stStale t
      else
        let q := Cmd.queue c k p
        let rtBad : Bool := match (d.poolOf rt).bind d.pool? with | some r => !r.dram | none => false
        if q.maxCells < 39 ∨ q.weight = 0 ∨ bits (Cmd.arg c 1) 19 13 ≠ 0 ∨ bits (Cmd.arg c 2) 8 24 ≠ 0
            ∨ (q.lag ≠ 0 ∧ !d.netBound q) ∨ rtBad then d.refuseCmd c stArg t
        else if d.linkLeaving (Cmd.link c) then d.refuseCmd c stBusy t
        else
          match firstFree (fun i => (d.queue? i).isNone) 1048576 0 with
          | none => d.refuseCmd c stLimit t
          | some i => d.commit c (fun d =>
            let (h, d) := d.issue .queue i
            let cs := d.cells
            let d := { d with cells := { cs with queues := Tbl.set cs.queues i { q with handle := h }, flushed := cs.flushed.filter (· ≠ i) } }
            d.createdCmd c t h 0 0)
    | _, _ => d.refuseCmd c stStale t) d

/-- QUEUE_DESTROY (R314, R315): the queue is closed; it commits after the drain. One refused opens again the queue that its acceptance closed (R303). -/
def queueDestroy (t n : Nat) (d : Device) : Device :=
  Device.run 0x41 t n (fun c d =>
    match d.queueIdx (Cmd.handle c) with
    | none => d.refuseCmd c stStale t
    | some i =>
      if 8 < Cmd.drain c then d.refuseCmd c stArg t
      else if d.queueNamed (Cmd.handle c) then (d.when c.closer (Device.setClosed c false)).refuseCmd c stBusy t
      else (d.modQueue i (fun q => { q with closed := true, flush := q.flush || Cmd.flush c })).workCmd c) d

/-- QUEUE_FLUSH (R412): the flush bit is set; it commits once the tail is final. -/
def queueFlush (t n : Nat) (d : Device) : Device :=
  Device.run 0x42 t n (fun c d =>
    match d.queueIdx (Cmd.handle c) with
    | none => d.refuseCmd c stStale t
    | some i => (d.modQueue i (fun q => { q with flush := true })).workCmd c) d

/-- A queue's chain goes back whole and its flushed packets are counted (R404, R412). -/
def Device.flushQueue (i : Nat) (d : Device) : Nat × Device :=
  let (n, d) := d.spliceQueue i
  (n, (d.count 0x1B1 0x848 n).endTurns)

/-- A queue's destroy commits: its handle is stale and its index free (R315, R412). -/
def Device.removeQueue (i : Nat) (d : Device) : Device :=
  let cs := d.cells
  let tr := d.traffic
  { d with cells := { cs with queues := cs.queues.erase i, flushed := i :: cs.flushed.filter (· ≠ i) },
           traffic := { tr with deficits := tr.deficits.erase (nodeKey 4 i), picked := tr.picked.filter (fun e => e.2 ≠ i) } }

/-- A command under way whose Capo or deadline is gone does not commit. -/
def Device.lateWork (c : Cmd) (t : Nat) (d : Device) : Option Device :=
  if !d.capo then some (d.refuseCmd c stNotActive t)
  else if Cmd.deadline c < t then some (d.refuseCmd c stTimeout (Cmd.deadline c))
  else none

/-- Whether the wait of a destroy is over: FLUSH, nothing queued, or the drain frames have passed (R315). -/
def Cmd.drained (c : Cmd) (t queued : Nat) : Bool :=
  Cmd.flush c || decide (queued = 0) || decide (c.stamp + Cmd.drain c * 125000 ≤ t)

/-- The commit of a queue's destroy, once its tail is final. -/
def Device.commitQueueDestroy (c : Cmd) (i t : Nat) (d : Device) : Device :=
  let d := d.modQueue i (fun q => { q with flush := true })
  match d.queue? i with
  | none => d
  | some q =>
    if !d.tailFinal q then d
    else d.commit c (fun d =>
      let (n, d) := d.flushQueue i
      let d := d.count 0x001 0x938 n
      (d.removeQueue i).okCmd c t c.sent n)

/-- DESTROY_COMMIT (R315): the destroy of a closed channel or queue commits. -/
def destroyCommit (t n : Nat) (d : Device) : Device :=
  match d.cmd? n with
  | none => d
  | some c =>
    if !Cmd.isWorking c ∨ t < c.stamp then d
    else if Cmd.opcode c = 0x31 then
      match d.chan? (Cmd.handle c) with
      | none => d.refuseCmd c stStale t
      | some _ =>
        let left := d.chanQueued (Cmd.handle c)
        if !Cmd.drained c t left then d
        else
          match d.lateWork c t with
          | some d => d
          | none => d.commit c (fun d =>
            ({ d with svc := { d.svc with chans := d.svc.chans.erase (handleIdx (Cmd.handle c)) } }).okCmd c t c.sent left)
    else if Cmd.opcode c = 0x41 then
      match d.queueIdx (Cmd.handle c) with
      | none => d.refuseCmd c stStale t
      | some i =>
        match d.queue? i with
        | none => d
        | some q =>
          if !Cmd.drained c t q.pkts then d
          else
            match d.lateWork c t with
            | some d => d
            | none => d.commitQueueDestroy c i t
    else d

/-- FLUSH_COMMIT (R412): the tail of a flushed queue is final: its chain goes back and its depths are 0. -/
def flushCommit (t i : Nat) (d : Device) : Device :=
  match d.queue? i with
  | none => d
  | some q =>
    if !q.flush ∨ !d.tailFinal q then d
    else
      let mine (op : Nat) : List Cmd := d.svc.cmds.filter (fun c => Cmd.isWorking c && Cmd.opcode c = op && Cmd.handle c = q.handle)
      match mine 0x41 with
      | c :: _ =>
        (match d.lateWork c t with
        | some d => d
        | none => d.commitQueueDestroy c i t)
      | [] =>
        match mine 0x42 with
        | [] => d
        | c :: r =>
          match d.lateWork c t with
          | some d => d.modQueue i (fun q => { q with flush := false })
          | none => d.commit c (fun d =>
            let (k, d) := d.flushQueue i
            let d := (d.modQueue i (fun q => { q with flush := false })).count 0x001 0x938 (if q.closed then k else 0)
            forEach r (fun e d => d.okCmd e t 0 0) (d.okCmd c t k 0))

/-! ### Keys (R356 to R362, R375) -/

/-- The key bytes of a KEY_CREATE, first byte first (R309). -/
def Cmd.keyBytes (c : Cmd) : List Nat :=
  ((List.range (if Cmd.key256 c then 8 else 4)).map (fun i => toBytesBE 4 (Cmd.arg c i))).flatten

/-- The free position of a channel (R357, R358). -/
def SvcChan.freePos (c : SvcChan) : Option Nat :=
  if (SvcChan.pos c 1).isNone then some 1 else if (SvcChan.pos c 2).isNone then some 2 else none

/-- Whether position 1 of a channel holds a key that is not yet active (R362). -/
def Device.keyWaits (d : Device) (ch : SvcChan) : Bool := ((SvcChan.pos ch 1).bind d.key?).any (·.waiting)

/-- The frames until a new key of a channel is active: one where the active key no longer carries traffic (R360 to
R362). -/
def Device.activateDelay (d : Device) (ch : SvcChan) : Nat :=
  match (ch.active.bind (SvcChan.pos ch)).bind d.key? with
  | some k => if k.hard ∨ k.st = KeySt.erased then 1 else d.rdA CPE.ACTIVATE_DELAY_FRAMES
  | none => d.rdA CPE.ACTIVATE_DELAY_FRAMES

/-- KEY_CREATE (R358, R360 to R362, R375). -/
def keyCreate (t n : Nat) (d : Device) : Device :=
  Device.run 0x50 t n (fun c d =>
    let p := Cmd.parent c
    let slot := firstFree (fun i => (d.key? i).isNone) 65536 0
    if p ≠ 0 ∧ (d.chan? p).isNone then d.refuseCmd c stStale t
    else if d.on CPE.DEBUG_OPEN then d.refuseCmd c stArg t
    else
      match d.chan? p with
      | none =>
        (match slot with
        | none => d.refuseCmd c stLimit t
        | some i => d.commit c (fun d =>
          let (h, d) := d.issue .key i
          let k : KeySlot := { handle := h, key := Cmd.keyBytes c }
          ({ d with svc := { d.svc with keys := Tbl.set d.svc.keys i k } }).createdCmd c t h 0 0))
      | some ch =>
        if !ch.ds && !ch.us then d.refuseCmd c stArg t
        else if d.keyWaits ch then d.refuseCmd c stBusy t
        else
          match SvcChan.freePos ch, slot with
          | none, _ => d.refuseCmd c stBusy t
          | _, none => d.refuseCmd c stLimit t
          | some pos, some i => d.commit c (fun d =>
            let (h, d) := d.issue .key i
            let k : KeySlot := { handle := h, st := .inactive, key := Cmd.keyBytes c, pos := pos, everBound := true, chan := p,
                                 activateAt := frameOf t + d.activateDelay ch, waiting := true }
            let d := { d with svc := { d.svc with keys := Tbl.set d.svc.keys i k } }
            (d.modChan (handleIdx p) (fun x => { x with keys := x.keys.set (pos - 1) (some i) })).createdCmd c t h 0 0)) d

/-- KEY_DESTROY (R314, R359). -/
def keyDestroy (t n : Nat) (d : Device) : Device :=
  Device.run 0x51 t n (fun c d =>
    match d.keyOf (Cmd.handle c) with
    | none => d.refuseCmd c stStale t
    | some i =>
      if d.svc.chans.any (fun e => decide ((e.2.active.bind (SvcChan.pos e.2)) = some i)) then d.refuseCmd c stBusy t
      else d.commit c (fun d =>
        let chans := d.svc.chans.map (fun e => (e.1, { e.2 with keys := e.2.keys.map (fun k => if k = some i then none else k) }))
        ({ d with svc := { d.svc with keys := d.svc.keys.erase i, chans := chans } }).okCmd c t 0 0)) d

/-! ### Pools (R395, R396, R314) -/

/-- The pool a POOL_CREATE asks for. -/
def Cmd.pool (c : Cmd) : Pool :=
  let a := Cmd.arg c 0
  { handle := 0, dram := bit a 0, wait := bit a 1, waitNs := bits a 16 16, minU := Cmd.arg c 1, maxU := Cmd.arg c 2, bpU := Cmd.arg c 3 }

/-- POOL_CREATE (R395, R396). -/
def poolCreate (t n : Nat) (d : Device) : Device :=
  Device.run 0x60 t n (fun c d =>
    let p := Cmd.pool c
    if bits (Cmd.arg c 0) 2 14 ≠ 0 ∨ p.maxU = 0 ∨ p.maxU < p.minU ∨ regionCells p.dram / 64 < p.maxU ∨ p.maxU < p.bpU
        ∨ (p.wait ∧ p.waitNs = 0) then d.refuseCmd c stArg t
    else
      match firstFree (fun i => (d.pool? i).isNone) 256 0 with
      | none => d.refuseCmd c stLimit t
      | some i =>
        if d.shared p.dram < p.minU * 64 then d.refuseCmd c stLimit t
        else d.commit c (fun d =>
          let (h, d) := d.issue .pool i
          ({ d with cells := { d.cells with pools := Tbl.set d.cells.pools i { p with handle := h } } }).createdCmd c t h (p.minU * 64) 0)) d

/-- Whether something names a pool (R314). -/
def Device.poolNamed (d : Device) (i h : Nat) : Bool :=
  d.cells.queues.any (fun e => e.2.pool = i || e.2.rtPool = h) || d.cells.waiters.any (fun w => w.pool = i)
    || (match d.pool? i with | some p => decide (p.held ≠ 0) | none => false)

/-- POOL_DESTROY (R314). -/
def poolDestroy (t n : Nat) (d : Device) : Device :=
  Device.run 0x61 t n (fun c d =>
    match d.poolOf (Cmd.handle c) with
    | none => d.refuseCmd c stStale t
    | some i =>
      if d.poolNamed i (Cmd.handle c) then d.refuseCmd c stBusy t
      else d.commit c (fun d =>
        (({ d with cells := { d.cells with pools := d.cells.pools.erase i } }).okCmd c t 0 0).serve)) d

/-! ### Shapers (R436, R314) -/

/-- SHAPER_CREATE (R436): LINK names a queue, or a node of level 1 to 3. -/
def shaperCreate (t n : Nat) (d : Device) : Device :=
  Device.run 0x70 t n (fun c d =>
    let l := Cmd.link c
    let ok := if handleKind l = 0 then (d.nodeByRef l).isSome else (d.queueIdx l).isSome
    let adj := Cmd.arg c 2
    let burst := Cmd.arg c 1
    if !ok then d.refuseCmd c stStale t
    else if Cmd.arg c 0 = 0 ∨ burst < 64 ∨ 2 ^ 24 ≤ burst ∨ 256 ≤ adj ∨ (64 ≤ adj ∧ adj < 192) ∨ Cmd.arg c 3 ≠ 0 then d.refuseCmd c stArg t
    else if d.traffic.shapers.any (fun e => e.2.target = l) then d.refuseCmd c stBusy t
    else
      match firstFree (fun i => (Tbl.get? d.traffic.shapers i).isNone) 1048576 0 with
      | none => d.refuseCmd c stLimit t
      | some i => d.commit c (fun d =>
        let (h, d) := d.issue .shaper i
        let s : Shaper := { handle := h, rate := Cmd.arg c 0, burst := burst, adj := adj, target := l, bucket := ⟨bucketMax burst, t, none⟩ }
        ({ d with traffic := { d.traffic with shapers := Tbl.set d.traffic.shapers i s } }).createdCmd c t h 0 0)) d

/-- Whether what a shaper shapes still stands, and so names it (R314). -/
def Device.shaperNamed (d : Device) (s : Shaper) : Bool :=
  if handleKind s.target = 0 then (d.nodeByRef s.target).isSome else (d.queueIdx s.target).isSome

/-- SHAPER_DESTROY (R309, R314). -/
def shaperDestroy (t n : Nat) (d : Device) : Device :=
  Device.run 0x71 t n (fun c d =>
    match (d.shaperAt (Cmd.handle c)).bind (fun i => (Tbl.get? d.traffic.shapers i).map (fun s => (i, s))) with
    | none => d.refuseCmd c stStale t
    | some (i, s) =>
      if d.shaperNamed s then d.refuseCmd c stBusy t
      else d.commit c (fun d =>
        ({ d with traffic := { d.traffic with shapers := d.traffic.shapers.erase i } }).okCmd c t 0 0)) d

/-! ### Gate lists (R441, R442, R444) -/

/-- The payload of a command. -/
def Cmd.payload (c : Cmd) : List Nat := match c.pay with | .bytes l => l | _ => []

/-- The little-endian words of a payload. -/
def payWord (bs : List Nat) (i : Nat) : Nat := ofWords [((List.range 4).map (fun j => bs.getD (4 * i + j) 0 % 256 * 2 ^ (8 * j))).sum]

/-- The entries of a gate list's payload: duration and open ranks. -/
def gateEntries (bs : List Nat) (n : Nat) : List (Nat × Nat) :=
  (List.range n).map (fun e => (payWord bs (8 + 2 * e), payWord bs (9 + 2 * e)))

/-- Whether a gate list's payload is out of range (R441, R442). -/
def gateBad (len : Nat) (bs : List Nat) : Bool :=
  let w3 := payWord bs 3
  let n := w3 % 512
  let es := gateEntries bs n
  let cyc := payWord bs 2
  decide (len ≠ 32 + 8 * n) || decide (bs.length < len) || decide (n = 0) || decide (256 < n) || decide (bits w3 9 7 ≠ 0) || decide (bits w3 18 14 ≠ 0)
    || (List.range 4).any (fun i => decide (payWord bs (4 + i) ≠ 0)) || decide (cyc < 1000) || decide (1000000000 < cyc)
    || es.any (fun e => decide (e.1 < 64) || decide (256 ≤ e.2)) || decide ((es.map (·.1)).sum ≠ cyc)

/-- The start of a gate list (R444): the smallest n, and the start. -/
def gateStart (base cycle bound : Nat) : Nat × Nat :=
  let n := if bound ≤ base then 0 else ceilDiv (bound - base) cycle
  (n, base + n * cycle)

/-- GATE_LIST_INSTALL (R441, R442, R444). -/
def gateListInstall (t n : Nat) (d : Device) : Device :=
  Device.run 0x80 t n (fun c d =>
    let bs := Cmd.payload c
    match d.nodeByLink (Cmd.link c) with
    | none => d.refuseCmd c stStale t
    | some k =>
      if gateBad (Cmd.bufLen c) bs then d.refuseCmd c stArg t
      else if d.traffic.gates.any (fun e => e.2.node = nodeRef k && decide (e.2.st = .scheduled)) || d.linkLeaving (Cmd.link c) then
        d.refuseCmd c stBusy t
      else
        match firstFree (fun i => (Tbl.get? d.traffic.gates i).isNone) 1024 0 with
        | none => d.refuseCmd c stLimit t
        | some i =>
          let w3 := payWord bs 3
          let base := payWord bs 0 + 2 ^ 32 * payWord bs 1
          let (m, s) := gateStart base (payWord bs 2) (t + d.rdA TMG.SETUP_MARGIN_NS)
          if m ≠ 0 ∧ bit w3 16 then ((d.refuseCmd c stArg t).count 0x1B2 0x840 1).count 0x1B2 0x848 1
          else d.commit c (fun d =>
            let (h, d) := d.issue .gateList i
            let g : GateList := { handle := h, node := nodeRef k, start := s, cycle := payWord bs 2, guard := bit w3 17,
                                  entries := gateEntries bs (w3 % 512) }
            let d := { d with traffic := { d.traffic with gates := Tbl.set d.traffic.gates i g } }
            (d.countIf (decide (m ≠ 0)) 0x1B2 0x840).createdCmd c t h (s % 2 ^ 32) (s / 2 ^ 32 % 2 ^ 32))) d

/-- GATE_LIST_DESTROY (R314, R445). -/
def gateListDestroy (t n : Nat) (d : Device) : Device :=
  Device.run 0x81 t n (fun c d =>
    match (d.gateAt (Cmd.handle c)).bind (fun i => (Tbl.get? d.traffic.gates i).map (fun g => (i, g))) with
    | none => d.refuseCmd c stStale t
    | some (i, g) =>
      if g.st = .inForce then d.refuseCmd c stBusy t
      else d.commit c (fun d =>
        ({ d with traffic := { d.traffic with gates := d.traffic.gates.erase i } }).okCmd c t 0 0)) d

/-! ### OMCI (R104, R309, R312) -/

/-- OMCI_SEND (R309): the payload enters the terminal's OMCI queue. -/
def omciSend (t n : Nat) (d : Device) : Device :=
  Device.run 0x90 t n (fun c d =>
    match d.termOf (Cmd.parent c) with
    | none => d.staleTerm c t
    | some x =>
      if Cmd.bufLen c < 48 ∨ 1980 < Cmd.bufLen c then d.refuseCmd c stArg t
      else if d.leaving x then d.refuseCmd c stBusy t
      else
        d.commit c (fun d =>
          let l := d.omciOf x ++ [(Cmd.payload c).take (Cmd.bufLen c)]
          ({ d with traffic := { d.traffic with omci := Tbl.set d.traffic.omci x l } }).okCmd c t 0 0)) d

/-! ### Punt and inject channels (R317 to R320) -/

/-- PUNT_CHANNEL_DISABLE (R318): a write of PC_EN = 0 returns every unused buffer of punt channel `p`. -/
def puntChannelDisable (t : Nat) (m : Master) (p : Nat) (d : Device) : Device :=
  d.asMaster m .k1 0x001 (fun d =>
    let n := (d.rd (HIF.FB_PI p) + 65536 - d.rd (HIF.FB_CI p)) % 65536
    let on := d.on (HIF.PC_EN p) && d.hostUp
    let d := d.wr (HIF.PC_EN p) 0
    if on then forEach (List.range n) (fun _ d => d.writePunt p true 0 { kind := 0, port := 0 } t []) d else d)

/-- The statuses of an inject completion (R319). -/
def injOk : Nat := 0
def injStale : Nat := 1
def injFull : Nat := 2
def injDma : Nat := 3
def injLength : Nat := 4
def injNotActive : Nat := 5
def injFlushed : Nat := 6

/-- Take the next inject descriptor of channel `i` and write its completion (R319). -/
def Device.injectDone (i tag status t : Nat) (d : Device) : Device :=
  let size := 2 ^ d.rd (HIF.IC_SIZE_LOG2 i)
  let ci := d.rd (HIF.IR_CI i)
  let pi := d.rd (HIF.ICQ_PI i)
  let ws := [tag % 65536 + status * 2 ^ 16 + d.phase (8 + i) pi size * 2 ^ 31, ci % size, t % 2 ^ 32, t / 2 ^ 32 % 2 ^ 32]
  let o := Out.injectDone i (pi % size) ws
  let d := { d with hif := { d.hif with recent := d.hif.recent ++ [(d.now, o)] } }
  ((((d.emit o).wr (HIF.IR_CI i) (ci + 1)).wr (HIF.ICQ_PI i) (pi + 1)).count 0x001 (if status = injOk then 0x958 else 0x960) 1).countIf
    (decide (status = injDma)) 0x001 0x968

/-- INJECT_DESCRIPTOR (R319, R621): the HIF takes the descriptor `ws` from inject channel `i` and reads the packet's bytes;
`dok` and `pok` tell whether the reads of the descriptor and of the packet succeed. -/
def injectDescriptor (t i : Nat) (ws : List Nat) (dok pok : Bool) (bs : List Nat) (d : Device) : Device :=
  if !d.injectReady i || !d.dmaTurn t 3 then d
  else
    let d := d.dmaServed 3
    let len := wordAt ws 2 % 2 ^ 14
    let tag := wordAt ws 4
    let h := wordAt ws 3
    if !dok then d.injectDone i 0 injDma t
    else if !d.capo then d.injectDone i tag injNotActive t
    else if len < 60 ∨ 9600 < len then d.injectDone i tag injLength t
    else if bit (wordAt ws 2) 16 then
      match d.chan? h with
      | none => d.injectDone i tag injStale t
      | some _ =>
        if !pok ∨ bs.length < len then d.injectDone i tag injDma t
        else (d.newPkt { src := { kind := 2, port := i, chan := h }, bytes := bs.take len, stamp := t }).2.injectDone i tag injOk t
    else
      match (d.queueIdx h).bind d.queue? with
      | none => d.injectDone i tag injStale t
      | some q =>
        if q.maxCells ≤ q.cells then d.injectDone i tag injFull t
        else if !pok ∨ bs.length < len then d.injectDone i tag injDma t
        else
          let x : Pkt := { src := { kind := 2, port := i }, bytes := bs.take len, stamp := t, stage := .handed, queue := h }
          ((d.newPkt x).2.handledPacket).injectDone i tag injOk t

/-- INJECT_CHANNEL_DISABLE (R320): a write of IC_EN = 0 completes the waiting descriptors of inject channel `i`, whose tags
are `tags`, as FLUSHED. -/
def injectChannelDisable (t : Nat) (m : Master) (i : Nat) (tags : List Nat) (d : Device) : Device :=
  d.asMaster m .k1 0x001 (fun d =>
    let n := (d.rd (HIF.IR_PI i) + 65536 - d.rd (HIF.IR_CI i)) % 65536
    let on := d.on (HIF.IC_EN i) && d.hostUp
    let d := d.wr (HIF.IC_EN i) 0
    if on then forEach (List.range n) (fun k d => d.injectDone i (tags.getD k 0) injFlushed t) d else d)

end Sys2Proof.Machine
end

