-- ==== Sys2Proof/Machine/Ports.lean ====
section
/-!
DEFINITION. Network ports, FlexE and line framing (chapter 13), and the stamps of PTP event messages (R502, R503).
-/

namespace Sys2Proof.Machine

/-! ### Pages and counters (R487) -/

/-- The pages of FlexE and of a quad, and the offsets of a port slot's and a lane's counters. -/
def flxPage : Nat := 0x190
def npcPage (q : Nat) : Nat := 0x180 + q
def portCtr (s off : Nat) : Nat := 0x810 + 0xA0 * s + off
def laneCtr (l off : Nat) : Nat := 0xA90 + 0x20 * l + off

/-- The Ethernet port that counts for a network port: itself, or the lowest PHY of its FlexE client's group. -/
def Device.countPort (d : Device) (p : Nat) : Nat :=
  if p < 64 then p else FlxGroup.lowPhy (d.group (d.client (p - 64)).group)

/-- Count on a network port. -/
def Device.countNet (p off n : Nat) (d : Device) : Device :=
  let e := d.countPort p
  d.count (npcPage (quadOf e)) (portCtr (slotOf e) off) n

/-- Set a field of an Ethernet port. -/
def Device.wrPort (f : Nat → Nat → Fld) (p v : Nat) (d : Device) : Device := d.wr (f (quadOf p) (slotOf p)) v
def Device.rdPort (d : Device) (f : Nat → Nat → Fld) (p : Nat) : Nat := d.rd (f (quadOf p) (slotOf p))
def Device.onPort (d : Device) (f : Nat → Nat → Fld) (p : Nat) : Bool := d.on (f (quadOf p) (slotOf p))

/-! ### Bring-up (R459 to R463) -/

/-- The bring-up states (R459). -/
def buDisabled : Nat := 0
def buAn : Nat := 1
def buTrain : Nat := 2
def buLock : Nat := 3
def buStep : Nat := 4
def buUp : Nat := 5
def buUpLow : Nat := 6

/-- UP falls (R461). -/
def Device.portFalls (p : Nat) (d : Device) : Device :=
  if d.onPort NPC.UP p then (d.wrPort NPC.UP p 0).countNet p 0x80 1 else d

/-- Whether a lane of a port sends a test pattern (R464). -/
def Device.portPrbs (d : Device) (p : Nat) : Bool := (d.portLanes p).any (fun l => decide (d.rd (NPC.PRBS_GEN (quadOf p) l) ≠ 0))

/-- Whether UP may be 1 at instant `t`: states 5 and 6, with no port-down defect for UP_HOLD_US and no test pattern (R461, R464). -/
def Device.mayUp (d : Device) (t p : Nat) : Bool :=
  let x := d.port p
  d.portOn p && decide (5 ≤ d.rdPort NPC.BRINGUP p) && decide (x.conds &&& portDownMask = 0) && !d.portPrbs p
    && decide (x.clearAt + d.rdA (NPC.UP_HOLD_US (quadOf p)) * 1000 ≤ t)

/-- UP becomes 1 where it may (R461). -/
def Device.raiseUp (p : Nat) (d : Device) : Device := if d.mayUp d.now p then d.wrPort NPC.UP p 1 else d

/-- A port runs at a step: state 5 or 6 (R459, R461). -/
def Device.enterUp (p st : Nat) (d : Device) : Device := (d.wrPort NPC.BRINGUP p st).raiseUp p

/-- Start the training of the current step, or its lock where no training runs (R460, R462). -/
def Device.startTraining (p : Nat) (d : Device) : Device :=
  (d.setPort p { d.port p with tries := 0, tryAt := d.now }).wrPort NPC.BRINGUP p (if d.onPort NPC.TRAIN_EN p then buTrain else buLock)

/-- Start over: auto-negotiation, or training where there is none (R460). -/
def Device.startBringup (p : Nat) (d : Device) : Device :=
  let d := d.setPort p { d.port p with tries := 0, atFull := false, fullAgreed := !d.onPort NPC.AN_EN p }
  if d.onPort NPC.AN_EN p then d.wrPort NPC.BRINGUP p buAn else d.startTraining p

/-- PORT_BRINGUP (R460): a write of PORT_EN = 1. -/
def portBringup (_t : Nat) (m : Master) (p : Nat) (d : Device) : Device :=
  d.asMaster m .k1 (npcPage (quadOf p)) (fun d =>
    let was := d.onPort NPC.PORT_EN p
    let d := d.wrPort NPC.PORT_EN p 1
    if was || !modeHas (d.portMode p) (slotOf p) then d
    else d.startBringup p)

/-- A port is disabled: a write of PORT_EN = 0 (R459). The conditions of its defects go on (R479). -/
def Device.portDisable (p : Nat) (d : Device) : Device :=
  let d := (d.portFalls p).setPort p { conds := (d.port p).conds, clearAt := (d.port p).clearAt }
  ((((d.wrPort NPC.PORT_EN p 0).wrPort NPC.BRINGUP p buDisabled).wrPort NPC.PAUSED p 0).wrPort NPC.PAUSE_IGNORED p 0).wrPort NPC.PAUSE_SENDING p 0

/-- QUAD_MODE changes: the quad's new ports hold no defect yet (log entry 58). -/
def Device.quadChanged (q : Nat) (d : Device) : Device :=
  forEach ((List.range 4).map (fun s => 4 * q + s)) (fun p d => (d.setPort p {}).wrPort NPC.DEFECTS p 0) d

/-- AUTONEG_COMPLETE (R460): Clause 73 ends with a common technology or without, `full` where the partner advertised the
full-rate technology. -/
def autonegComplete (_t p : Nat) (common full : Bool) (d : Device) : Device :=
  if d.rdPort NPC.BRINGUP p ≠ buAn ∨ !d.portOn p ∨ d.spm.dead.contains (quadOf p) then d
  else if !common then d.countNet p 0x90 1
  else (d.setPort p { d.port p with fullAgreed := full, atFull := false }).startTraining p

/-- The step a port runs at is its full rate (R455, R460). -/
def Device.stepFull (d : Device) (p : Nat) : Bool := (d.port p).atFull || decide (3 < d.portMode p)

/-- After the lock at the current step (R460). -/
def Device.locked (p : Nat) (d : Device) : Device :=
  let x := d.port p
  if d.stepFull p then d.enterUp p buUp
  else if x.fullAgreed then (d.setPort p { x with tries := 0, tryAt := d.now }).wrPort NPC.BRINGUP p buStep
  else if d.onPort NPC.ALLOW_LOW p then d.enterUp p buUpLow
  else d.startBringup p

/-- Count a failed training on the lanes that failed (R460, R487). -/
def Device.trainFails (p mask : Nat) (d : Device) : Device :=
  forEach ((d.portLanes p).filter (fun l => bit mask l)) (fun l d => d.count (npcPage (quadOf p)) (laneCtr l 0x10) 1) d

/-- The lanes of a port's quad that failed a try that ends at `t`: those named, or all where it took longer than TRAIN_TIMEOUT_MS (R460). -/
def Device.tryFailed (d : Device) (t p failed : Nat) : Nat :=
  if (d.port p).tryAt + d.rdA (NPC.TRAIN_TIMEOUT_MS (quadOf p)) * 1000000 < t then 15 else failed

/-- LINK_TRAINING_COMPLETE (R460, R462): a training try of port `p` ends: `lost` names the lanes of the quad that failed, `lock`
tells whether FEC and PCS locked; `taps` are the transmit FIR taps of the port's lanes in order, four a lane. -/
def linkTrainingComplete (t p lost : Nat) (lock : Bool) (taps : List Nat) (d : Device) : Device :=
  if !d.portOn p || d.spm.dead.contains (quadOf p) then d
  else
    let st := d.rdPort NPC.BRINGUP p
    let q := quadOf p
    let failed := if st = buLock then lost else d.tryFailed t p lost
    let ok := (d.portLanes p).all (fun l => !bit failed l)
    let lanes := d.portLanes p
    let tapped (d : Device) : Device :=
      if d.onPort NPC.TRAIN_EN p && decide (taps.length = 4 * lanes.length) then
        forEach (List.range lanes.length) (fun i d =>
          let l := lanes.getD i 0
          (((d.wr (NPC.TX_C_M2 q l) (taps.getD (4 * i) 0)).wr (NPC.TX_C_M1 q l) (taps.getD (4 * i + 1) 0)).wr (NPC.TX_C_0 q l)
            (taps.getD (4 * i + 2) 0)).wr (NPC.TX_C_P1 q l) (taps.getD (4 * i + 3) 0)) d
      else d
    let x := d.port p
    let more := decide (x.tries + 1 < d.rdA (NPC.TRAIN_RETRIES q))
    if st = buTrain then
      if ok then
        let d := tapped d
        if lock then d.locked p else d.wrPort NPC.BRINGUP p buLock
      else if more then d.setPort p { x with tries := x.tries + 1, tryAt := t }
      else
        let d := d.trainFails p failed
        if d.onPort NPC.AN_EN p then d.startBringup p else d.setPort p { x with tries := 0, tryAt := t }
    else if st = buLock then
      if lock && ok then d.locked p else d.startTraining p
    else if st = buStep then
      if ok && lock then (((tapped d).setPort p { x with atFull := true }).enterUp p buUp).count (npcPage q) 0xB18 1
      else if more then d.setPort p { x with tries := x.tries + 1, tryAt := t }
      else
        let d := d.count (npcPage q) 0xB20 1
        if d.onPort NPC.ALLOW_LOW p then d.enterUp p buUpLow else d.startBringup p
    else d

/-! ### Defects (R461, R479) -/

/-- PORT_DEFECT_CHANGE (R461, R479): defect condition `b` of port `p` is raised or cleared; loss of signal and of CDR lock name
the quad lane. -/
def portDefectChange (t p b lane : Nat) (on : Bool) (d : Device) : Device :=
  let q := quadOf p
  let d := if b = 0 then d.wr (NPC.SIGNAL q lane) (b2n (!on))
    else if b = 1 then (d.wr (NPC.CDR_LOCK q lane) (b2n (!on))).countIf (on && d.on (NPC.CDR_LOCK q lane)) (npcPage q) (laneCtr lane 0x18)
    else d
  if !modeHas (d.portMode p) (slotOf p) then d
  else
    let x := d.port p
    let conds := if on then x.conds ||| 2 ^ b else if bit x.conds b then x.conds - 2 ^ b else x.conds
    let freed : Bool := decide (x.conds &&& portDownMask ≠ 0) && decide (conds &&& portDownMask = 0)
    let d := d.setPort p { x with conds := conds, clearAt := if freed then t else x.clearAt }
    let d := d.wrPort NPC.DEFECTS p (lowestBit conds)
    if !d.portOn p then d
    else if on && decide (b < 6) then
      let st := d.rdPort NPC.BRINGUP p
      let d := d.portFalls p
      if 5 ≤ st then (d.setPort p { d.port p with tries := 0, tryAt := t }).wrPort NPC.BRINGUP p buTrain else d
    else d.raiseUp p

/-- Whether a port sends Remote Fault (R479, R482). -/
def Device.remoteFault (d : Device) (p : Nat) : Bool :=
  decide ((d.port p).conds % 32 ≠ 0) || (!d.capo && d.on (NPC.STANDBY_RF (quadOf p)))

/-- UP_HOLD_EXPIRY (R461, R483): no port-down defect has held for UP_HOLD_US. -/
def upHoldExpiry (t p : Nat) (d : Device) : Device := if d.mayUp t p then d.wrPort NPC.UP p 1 else d

/-- A lane's pattern generator starts or stops: its port falls, or is up again (R461, R464). -/
def Device.prbsChanged (q l : Nat) (d : Device) : Device :=
  forEach ((List.range 4).map (fun s => 4 * q + s)) (fun p d =>
    if !(d.portOn p && (d.portLanes p).contains l) then d
    else if d.portPrbs p then d.portFalls p else d.raiseUp p) d

/-! ### PTP event messages (R502, R503) -/

/-- Skip at most two VLAN tags: the EtherType and the offset behind it. -/
def etherAt (bs : List Nat) : Nat × Nat :=
  let e0 := ofBytesBE ((bs.drop 12).take 2)
  let tag (e : Nat) : Bool := decide (e = 0x8100 ∨ e = 0x88A8)
  if !tag e0 then (e0, 14)
  else
    let e1 := ofBytesBE ((bs.drop 16).take 2)
    if !tag e1 then (e1, 18) else (ofBytesBE ((bs.drop 20).take 2), 22)

/-- The offset of a PTP event message in a frame, and whether it rides on EtherType 0x88F7 (R502). -/
def ptpEvent (bs : List Nat) : Option (Nat × Bool) :=
  let (e, o) := etherAt bs
  let found (o : Nat) (eth : Bool) : Option (Nat × Bool) := if o + 34 ≤ bs.length ∧ bs.getD o 0 % 16 ≤ 3 then some (o, eth) else none
  let udp (u : Nat) : Option (Nat × Bool) := if ofBytesBE ((bs.drop (u + 2)).take 2) = 319 then found (u + 8) false else none
  if e = 0x88F7 then found o true
  else if e = 0x0800 ∧ bs.getD (o + 9) 0 = 17 then udp (o + bs.getD o 0 % 16 * 4)
  else if e = 0x86DD ∧ bs.getD (o + 6) 0 = 17 then udp (o + 40)
  else none

/-- PTP time: device time plus TIME_OFFSET (R501). -/
def Device.timeOffset (d : Device) : Int := signed 64 (d.rd TMU.TIME_OFFSET_LO + 2 ^ 32 * d.rd TMU.TIME_OFFSET_HI)
def Device.ptpTime (d : Device) (t : Int) : Int := t + d.timeOffset

/-- Write a transmitted event message's stamp to the TMU's window 1 (R503). -/
def Device.txStamp (p : Nat) (stamp : Int) (bs : List Nat) (o : Nat) (d : Device) : Device :=
  let n := d.rd TMU.TXS_PRODUCED
  if unread n (d.rd TMU.TXS_CONSUMED) 512 = 256 then d.count 0x004 0x830 1
  else
    let s := unsign 64 stamp
    let e := [s % 2 ^ 32, s / 2 ^ 32, p + bs.getD o 0 % 16 * 2 ^ 8 + bs.getD (o + 4) 0 * 2 ^ 16, ofBytesBE ((bs.drop (o + 30)).take 2)]
    (({ d with tmu := { d.tmu with txs := Tbl.set d.tmu.txs (n % 256) e } }).wr TMU.TXS_PRODUCED (n + 1)).count 0x004 0x828 1

/-- Set the originTimestamp of a Sync message to the PTP time of its stamp (R503). -/
def setOrigin (bs : List Nat) (o : Nat) (ptp : Int) : List Nat :=
  let ns := unsign 64 ptp
  bs.take (o + 34) ++ toBytesBE 6 (ns / 1000000000) ++ toBytesBE 4 (ns % 1000000000) ++ bs.drop (o + 44)

/-! ### Frames (R458, R466, R482) -/

/-- NETWORK_FRAME_RECEIVE (R458, R466, R482): a frame with its FCS is received on port `p`. `whole` tells that the elastic
buffer held, `room` that the crossing had room; `del` and `ins` count the idle blocks deleted
and inserted before it, `fc`, `fu` and `fs` the FEC codewords corrected and uncorrectable and the symbols corrected. -/
def networkFrameReceive (t p : Nat) (bs : List Nat) (whole room : Bool) (del ins fc fu fs : Nat) (d : Device) : Device :=
  if !d.portConfigured p || !d.portUp p then d
  else
    let e := d.countPort p
    let d := ((d.countNet p 0x38 fc).countNet p 0x40 fu).countNet p 0x48 fs
    let d := if p < 64 then (d.countNet p 0x50 del).countNet p 0x58 ins else (d.count flxPage 0x840 ins).count flxPage 0x848 del
    let body := bs.take (bs.length - 4)
    if !d.capo then d.countNet p 0x88 1
    else if !whole then d.countNet p 0x60 1
    else if bs.length < 4 ∨ toBytesLE 4 (crc32 body) ≠ bs.drop (bs.length - 4) then d.countNet p 0x10 1
    else if d.rdA (NPC.MAX_FRAME_BYTES (quadOf e)) < bs.length then (d.countNet p 0x18 1).logNet p 0x41
    else if bs.length < 64 then (d.countNet p 0x20 1).logNet p 0x42
    else if !room then d.count (npcPage (quadOf e)) 0xB10 1
    else
      let stamp := if p < 64 ∧ (ptpEvent body).isSome then ((t : Int) + signed 16 (d.rd (TMU.RX_ADJ_NS p))).toNat else t
      let d := (d.newPkt { src := { kind := 1, port := p }, bytes := body, stamp := stamp }).2
      (d.countNet p 0x00 1).countNet p 0x08 body.length

/-- Send one packet on a port (R458, R502, R503). -/
def Device.sendFrame_ (t p : Nat) (e : Egress) (d : Device) : Device :=
  let bs := e.bytes ++ List.replicate (60 - e.bytes.length) 0
  let stamp := (t : Int) + signed 16 (d.rd (TMU.TX_ADJ_NS p))
  let ev := if p < 64 then ptpEvent bs else none
  let (bs, d) := match ev with
    | some (o, eth) =>
      let d := d.txStamp p stamp bs o
      let one := eth && decide (bs.getD o 0 % 16 = 0) && bit (d.rd (TMU.ONE_STEP (p / 32))) (p % 32)
      (if one then setOrigin bs o (d.ptpTime stamp) else bs, d)
    | none => (bs, d)
  let d := (d.emit (.netFrame p bs (crc32 bs))).popEgress (64 + p)
  ((d.countNet p 0x28 1).countNet p 0x30 (bs.length + 4)).traceFate e.tagged 0 true

/-- NETWORK_FRAME_TRANSMIT (R458, R474, R482, R502, R503): port `p` sends the packet handed to it; before it, the shim of a FlexE client inserted
`ins` idle blocks and deleted `del`. -/
def networkFrameTransmit (t p ins del : Nat) (d : Device) : Device :=
  match Tbl.getD d.traffic.egress (64 + p) [] with
  | [] => d
  | e :: _ =>
    if d.portConfigured p && d.portUp p && !d.portPaused p && d.netMaySend then
      (if p < 64 then d else (d.count flxPage 0x840 ins).count flxPage 0x848 del).sendFrame_ t p e
    else d

/-! ### Pause (R467 to R469) -/

/-- The nanoseconds of `quanta` at a rate in Gbit/s, rounded up. -/
def quantaNs (quanta rate : Nat) : Nat := if rate = 0 then 0 else ceilDiv (quanta * 512) rate

/-- Pause from the partner ends. -/
def Device.pauseEnds (p : Nat) (d : Device) : Device := (d.wrPort NPC.PAUSED p 0).wrPort NPC.PAUSE_IGNORED p 0

/-- PAUSE_RECEIVE (R467, R468, R482, R483): a PAUSE frame is received on an Ethernet port. -/
def pauseReceive (t p quanta : Nat) (d : Device) : Device :=
  if !d.portConfigured p || !d.portUp p then d
  else if !d.capo then d.countNet p 0x88 1
  else
    let d := d.countNet p 0x68 1
    if !d.onPort NPC.PAUSE_RX_EN p then d
    else
      let x := d.port p
      if quanta = 0 then (d.setPort p { x with pauseUntil := t }).pauseEnds p
      else
        let until_ := t + quantaNs quanta (d.portRate p)
        let since := if d.onPort NPC.PAUSED p then x.pauseSince else t
        (d.setPort p { x with pauseUntil := until_, pauseSince := since }).wrPort NPC.PAUSED p 1

/-- PAUSE_QUANTA_EXPIRY (R467, R468): the quanta of the last PAUSE have run out. -/
def pauseQuantaExpiry (t p : Nat) (d : Device) : Device :=
  if d.onPort NPC.PAUSED p && decide ((d.port p).pauseUntil ≤ t) then d.pauseEnds p else d

/-- PAUSE_HOLD_LIMIT (R468): pause has held without a break for PAUSE_MAX_FRAMES. `released` tells that a PAUSE of quanta 0 is stamped at this instant:
at the limit itself it is in time (R37). -/
def pauseHoldLimit (t p : Nat) (released : Bool) (d : Device) : Device :=
  if d.onPort NPC.PAUSED p && !d.onPort NPC.PAUSE_IGNORED p
      && !(released && decide ((d.port p).pauseSince + d.rdA (NPC.PAUSE_MAX_FRAMES (quadOf p)) * 125000 = t))
      && decide ((d.port p).pauseSince + d.rdA (NPC.PAUSE_MAX_FRAMES (quadOf p)) * 125000 ≤ t) then
    ((d.wrPort NPC.PAUSE_IGNORED p 1).countNet p 0x78 1).logNet p 0x40
  else d

/-- Whether a port generates pause: its pool stands and has BP = 1 (R469). -/
def Device.wantsPause (d : Device) (p : Nat) : Bool :=
  d.onPort NPC.PAUSE_GEN_EN p && d.portConfigured p && d.portUp p && d.netMaySend &&
    (match (d.poolOf (d.rdPort NPC.PAUSE_POOL p)).bind d.pool? with
    | some x => d.poolBp x
    | none => false)

/-- PAUSE_GENERATE (R469): the port sends PAUSE, sends it again at half its quanta, or ends. -/
def pauseGenerate (t p : Nat) (d : Device) : Device :=
  let x := d.port p
  let sending := d.onPort NPC.PAUSE_SENDING p
  if !d.wantsPause p then d.wrPort NPC.PAUSE_SENDING p 0
  else if t < x.genQuiet then d
  else if sending && decide (x.genSince + d.rdA (NPC.PAUSE_MAX_FRAMES (quadOf p)) * 125000 ≤ t) then
    (((d.setPort p { x with genQuiet := t + 125000 }).wrPort NPC.PAUSE_SENDING p 0).emit (.pause p 0)).countNet p 0x70 1
  else if sending && decide (t < x.genNext) then d
  else
    let n := d.rdPort NPC.PAUSE_QUANTA p
    let d := d.setPort p { x with genSince := if sending then x.genSince else t, genNext := t + ceilDiv (n * 256) (max 1 (d.portRate p)) }
    ((d.wrPort NPC.PAUSE_SENDING p 1).emit (.pause p n)).countNet p 0x70 1

/-! ### Lanes (R463 to R465) -/

/-- A lane reports its eye margin (R463). -/
def Device.setEye (lane v h : Nat) (d : Device) : Device :=
  (d.wr (NPC.EYE_V (lane / 4) (lane % 4)) v).wr (NPC.EYE_H (lane / 4) (lane % 4)) h

/-- INJECT_ONE (R465): a write of INJECT_ONE = 1 inverts one bit of a generated pattern, and hardware clears it. -/
def injectOne (_t : Nat) (m : Master) (lane : Nat) (d : Device) : Device :=
  d.asMaster m .k1 (npcPage (lane / 4)) (fun d =>
    let d := if d.rd (NPC.PRBS_GEN (lane / 4) (lane % 4)) = 0 then d else d.emit (.bitFlip lane)
    d.wr (NPC.INJECT_ONE (lane / 4) (lane % 4)) 0)

/-- PRBS_LOCK_CHANGE (R464): a lane's checker gains or loses alignment; `n` bits and `errs` errors were checked since the
last change. -/
def prbsLockChange (_t lane : Nat) (on : Bool) (n errs : Nat) (d : Device) : Device :=
  let q := lane / 4
  let l := lane % 4
  if d.rd (NPC.PRBS_CHK q l) = 0 then d.wr (NPC.PRBS_LOCK q l) 0
  else ((d.wr (NPC.PRBS_LOCK q l) (b2n on)).count (npcPage q) (laneCtr l 0x00) n).count (npcPage q) (laneCtr l 0x08) errs

/-! ### FlexE (R475 to R481) -/

/-- A violation of a group (R481). -/
def Device.groupViolation (g code ctr : Nat) (d : Device) : Device :=
  (d.count flxPage ctr 1).logNet (FlxGroup.lowPhy (d.group g)) code

/-- Change an instance of a group. -/
def Device.setInst (g i : Nat) (x : FlxInst) (d : Device) : Device :=
  d.setGroup g { d.group g with insts := Tbl.put {} (d.group g).insts i x }
def Device.inst (d : Device) (g i : Nat) : FlxInst := Tbl.getD (d.group g).insts i {}

/-- Set or clear a condition bit. -/
def setBit (x b : Nat) (on : Bool) : Nat := if on then x ||| 2 ^ b else if bit x b then x - 2 ^ b else x

/-- FLEXE_OH_CANDIDATE (R475): a candidate first overhead block of an instance out of alignment is judged. -/
def flexeOhCandidate (_t g i : Nat) (ok : Bool) (d : Device) : Device :=
  if !(d.group g).en || decide (d.groupInsts g ≤ i) || (d.inst g i).aligned then d
  else if ok then d.setInst g i { aligned := true } else d.count flxPage 0x810 1

/-- FLEXE_OH_MISSING (R475): the expected first overhead block of an aligned instance is missing. -/
def flexeOhMissing (_t g i : Nat) (d : Device) : Device :=
  let x := d.inst g i
  if !x.aligned then d
  else if 4 ≤ x.missing then (d.setInst g i {}).count flxPage 0x818 1
  else d.setInst g i { x with missing := x.missing + 1 }

/-- FLEXE_OH_FRAME_RECEIVE (R476, R478, R480, R481): an overhead frame of instance `i` of group `g` ends: whether its CRC checks, its
fields, and whether the instances' skew exceeds 1 us. -/
def flexeOhFrameReceive (_t g i : Nat) (crc : Bool) (oh : FlxOh) (skew : Bool) (d : Device) : Device :=
  let x := d.inst g i
  if !(d.group g).en || !x.aligned then d
  else if !crc then
    let n := x.badCrc + 1
    let d := d.setInst g i { x with missing := 0, badCrc := n }
    let d := d.count flxPage 0x820 1
    if n = 8 then d.logNet (FlxGroup.lowPhy (d.group g)) 0x47 else d
  else
    let d := d.setInst g i { x with missing := 0, badCrc := 0 }
    let y := d.group g
    let gid : Bool := decide (oh.number ≠ y.number)
    let phy : Bool := decide (oh.map ≠ 2 ^ (FlxGroup.phys y).length - 1)
    let conds := setBit (setBit (setBit (setBit y.conds 2 gid) 3 phy) 4 skew) 5 oh.rpf
    let change : Bool := decide (oh.c ≠ y.rxCal)
    let stray : Bool := oh.ca && !y.crSent
    let d := d.setGroup g { y with conds := conds, rxCal := oh.c % 2, peerCr := oh.cr, caSeen := y.caSeen || (oh.ca && y.crSent) }
    let d := if gid then d.groupViolation g 0x43 0x850 else d
    let d := if phy then d.groupViolation g 0x44 0x858 else d
    let d := if change then (d.count flxPage 0x830 1).bumpBoundary flxPage else d
    let d := if change && !y.peerCr then d.groupViolation g 0x45 0x860 else d
    if stray then d.groupViolation g 0x46 0x868 else d

/-- Whether the standby transmit page of a group passes the checks of R477. -/
def Device.calOk (d : Device) (g : Nat) : Bool :=
  let y := d.group g
  let lo := connKey 0 (1 - y.txCal) g 0
  (d.net.conn.filter (fun e => lo ≤ e.1 && e.1 < lo + 640)).all (fun e =>
    decide (e.1 - lo < 20 * d.groupInsts g) && (d.client e.2).en && decide ((d.client e.2).group = g))

/-- CAL_REQ of a group written (R477, R483). -/
def Device.writeCalReq (t g : Nat) (v : Bool) (d : Device) : Device :=
  let y := d.group g
  if y.switchAt = some t then (if v then d else d.writeLost flxPage 1)
  else if v then (if d.calOk g then d.setGroup g { y with calReq := true } else d.refuse flxPage)
  else d.setGroup g { y with calReq := false, crSent := false, caSeen := false, crFrames := 0 }

/-- CAL_REQ (R477): a write of CAL_REQ. -/
def calReq (t : Nat) (m : Master) (g : Nat) (v : Bool) (d : Device) : Device :=
  d.asMaster m .k1 flxPage (fun d => d.writeCalReq t g v)

/-- Whether a group's overhead carries RPF = 1 (R480, R482). -/
def Device.groupRpf (d : Device) (g : Nat) : Bool :=
  d.groupDown g || (!d.capo && d.on (NPC.STANDBY_RF (quadOf (FlxGroup.lowPhy (d.group g)))))

/-- TX_OH_FRAME_BOUNDARY (R477, R478): the group switches its transmit calendar on a taken CA, times out, or sends CR; the
frame that begins is shown. -/
def txOhFrameBoundary (t g : Nat) (d : Device) : Device :=
  let y := d.group g
  if !y.en then d
  else
    let d :=
      if y.calReq && y.crSent && y.caSeen then
        let y' := { y with txCal := 1 - y.txCal, calReq := false, crSent := false, caSeen := false, crFrames := 0,
                           switchFrame := d.frame % 2 ^ 32, switchAt := some t }
        ((d.setGroup g y').count flxPage 0x828 1).bumpBoundary flxPage
      else if y.calReq && y.crSent && decide (d.rd FLX.CA_TIMEOUT_OHF ≤ y.crFrames) then
        (d.setGroup g { y with calReq := false, crSent := false, caSeen := false, crFrames := 0 }).count flxPage 0x838 1
      else if y.calReq then d.setGroup g { y with crSent := true, crFrames := y.crFrames + 1 }
      else d
    let z := d.group g
    d.emit (.flexeOh g z.crSent z.peerCr (d.groupRpf g) z.txCal)

/-- Count the clients that fell since `d0` (R489). -/
def Device.countClientFalls (d0 : Device) (d : Device) : Device :=
  let fell := (d.net.clients.filter (fun e => d0.clientUp e.1 && !d.clientUp e.1)).length
  if fell = 0 then d else d.count flxPage 0x870 fell

end Sys2Proof.Machine
end

