-- ==== Sys2Proof/Machine/Clock.lean ====
section
/-!
DEFINITION. Device time and synchronization (chapter 14): the start of device time, its discipline, holdover, PTP time,
time of day, event inputs and pulse outputs.
-/

namespace Sys2Proof.Machine

/-- The page of the TMU. -/
def tmuPage : Nat := 0x004

/-! ### Device time (R491, R492, R497) -/

/-- Device time advances. -/
def Device.running (d : Device) : Bool := d.on TMU.RUNNING

/-- Whether the device follows its partner's time (R500). -/
def Device.follows (d : Device) : Bool := d.on TMU.PAIR_FOLLOW && !d.capo

/-- The largest magnitude of FREQ_APPLIED and FREQ_ADJ in ppt (R497). -/
def freqMax : Int := 10000000

/-- FREQ_APPLIED, FREQ_ADJ and the remaining phase. -/
def Device.freqApplied (d : Device) : Int := signed 32 (d.rd TMU.FREQ_APPLIED)
def Device.freqAdj (d : Device) : Int := signed 32 (d.rd TMU.FREQ_ADJ)
def Device.phaseLeft (d : Device) : Int := signed 32 (d.rd TMU.PHASE_ADJ_NS)

/-- Apply a frequency: it is held to 10 ppm. -/
def Device.setFreq (f : Int) (d : Device) : Device :=
  let f := clampInt (-freqMax) freqMax f
  if f = d.freqApplied then d
  else
    let d := { d with tmu := { d.tmu with applied := d.tmu.applied ++ [(d.now, f)] } }
    d.wr TMU.FREQ_APPLIED (unsign 32 f)

/-- The phase slew in ppt: SLEW_PPB toward the remaining correction, reduced so that the limit holds (R497). -/
def Device.slewPpt (d : Device) : Int :=
  let full : Int := 1000 * (d.rd TMU.SLEW_PPB : Int)
  let p := d.phaseLeft
  if p = 0 then 0
  else if 0 < p then min full (freqMax - d.freqAdj)
  else max (-full) (-freqMax - d.freqAdj)

/-- Whether the slew is reduced. -/
def Device.slewClamped (d : Device) : Bool :=
  decide (d.phaseLeft ≠ 0) && decide (d.slewPpt.natAbs ≠ 1000 * d.rd TMU.SLEW_PPB)

/-- Whether the software servo or the fixed frequency sets FREQ_APPLIED: not in holdover, not following (R496). -/
def Device.ownFreq (d : Device) : Bool :=
  !d.on TMU.HOLDOVER && !d.follows && decide (d.rd TMU.TIME_SOURCE ≠ 1)

/-- FREQ_APPLIED of the software servo and of free run (R496). -/
def Device.refreq (d : Device) : Device :=
  if !d.ownFreq then d
  else if d.rd TMU.TIME_SOURCE = 0 then d.setFreq (d.freqAdj + d.slewPpt) else d.setFreq d.freqAdj

/-- Slew the phase over `dt` ns of device time (R497). -/
def Device.slew (dt : Nat) (d : Device) : Device :=
  if d.phaseLeft = 0 ∨ !d.ownFreq ∨ d.rd TMU.TIME_SOURCE ≠ 0 ∨ dt = 0 then d
  else
    let d := { d with tmu := { d.tmu with clamped := d.tmu.clamped || d.slewClamped } }
    let acc := d.tmu.phaseAcc + d.slewPpt.natAbs * dt
    let n := min (acc / 1000000000000) d.phaseLeft.natAbs
    let p : Int := if 0 < d.phaseLeft then d.phaseLeft - (n : Int) else d.phaseLeft + (n : Int)
    let d := { d with tmu := { d.tmu with phaseAcc := if p = 0 then 0 else acc % 1000000000000 } }
    if n = 0 then d else (d.wr TMU.PHASE_ADJ_NS (unsign 32 p)).refreq

/-- Set device time at its start. -/
def Device.startAt (t : Nat) (d : Device) : Device :=
  let d := { d with core := { d.core with time := t }, tmu := { d.tmu with waitEdge := false, servoAt := t, lastPps := t, applied := [(t, d.freqApplied)] } }
  d.wr TMU.RUNNING 1

/-- The value of TIME_LOAD. -/
def Device.timeLoad (d : Device) : Nat := d.rd TMU.TIME_LOAD_LO + 2 ^ 32 * d.rd TMU.TIME_LOAD_HI

/-- TIME_RUN (R492): a write of TIME_RUN = 1; `partner` is the partner's device time, where it answers on Soundpost. -/
def timeRun (_t : Nat) (m : Master) (partner : Option Nat) (d : Device) : Device :=
  d.asMaster m .k1 tmuPage (fun d =>
    if d.on TMU.TIME_RUN then d
    else
      let d := d.wr TMU.TIME_RUN 1
      match d.on TMU.PAIR_FOLLOW, partner with
      | true, some n => { d.startAt n with tmu := { (d.startAt n).tmu with following := true } }
      | _, _ =>
        if d.on TMU.LOAD_ON_PPS then { d with tmu := { d.tmu with waitEdge := true } } else d.startAt d.timeLoad)

/-! ### Event inputs and 1PPS (R496, R498, R499, R506) -/

/-- Saturate to a signed 16-bit field. -/
def sat16 (x : Int) : Nat := unsign 16 (clampInt (-32768) 32767 x)

/-- The signed distance of an instant of PTP time from the nearest whole second. -/
def secErr (x : Int) : Int :=
  let r := x % 1000000000
  if 500000000 < r then r - 1000000000 else r

/-- A frequency the spec does not give: the second-order loop of R496, or the pair exchange of R500. Free, within
10 ppm. -/
def Device.drawFreq (d : Device) : Device :=
  let (v, d) := d.draw
  d.setFreq ((v % 20000001 : Nat) - freqMax)

/-- An EV0 edge as 1PPS (R496, R498). -/
def Device.ppsEdge (t : Nat) (d : Device) : Device :=
  if d.rd TMU.TIME_SOURCE ≠ 1 ∨ d.follows then d
  else
    let e := secErr (d.ptpTime t)
    let d := d.wr TMU.PPS_ERR_NS (sat16 e)
    let bad := decide (1000 < e.natAbs)
    let n := if bad then 0 else d.tmu.goodEdges + 1
    let d := { d with tmu := { d.tmu with lastPps := t, goodEdges := n, badEdge := bad } }
    if bad then d
    else
      let d := if d.on TMU.HOLDOVER && decide (2 ≤ n) then d.wr TMU.HOLDOVER 0 else d
      if d.on TMU.HOLDOVER then d else d.drawFreq

/-- Put an entry into window 0 behind the entries before it; edges of one nanosecond stand in the order of their inputs (R508). `u` entries are
not yet consumed. -/
def placeEdge (t i : Nat) (e : List Nat) : Nat → Nat → Tbl (List Nat) → Tbl (List Nat)
  | 0, n, l => Tbl.set l (n % 256) e
  | u + 1, n, l =>
    let x := Tbl.getD l ((n + 511) % 256) []
    if wordAt x 0 + 2 ^ 32 * wordAt x 1 = t ∧ i < wordAt x 2 % 8 then placeEdge t i e u (n + 511) (Tbl.set l (n % 256) x)
    else Tbl.set l (n % 256) e

/-- Stamp an edge into window 0 (R506). -/
def Device.stampEdge (t i : Nat) (falling : Bool) (d : Device) : Device :=
  let fast := match Tbl.get? d.tmu.lastEdge i with | some l => decide (t < l + 1000) | none => false
  if fast then d.count tmuPage 0x820 1
  else
    let n := d.rd TMU.EVT_PRODUCED
    if unread n (d.rd TMU.EVT_CONSUMED) 512 = 256 then d.count tmuPage 0x818 1
    else
      let e := [t % 2 ^ 32, t / 2 ^ 32 % 2 ^ 32, i + b2n falling * 8, 0]
      let d := { d with tmu := { d.tmu with evt := placeEdge t i e (min 7 (unread n (d.rd TMU.EVT_CONSUMED) 512)) n d.tmu.evt, lastEdge := Tbl.set d.tmu.lastEdge i t } }
      (d.wr TMU.EVT_PRODUCED (n + 1)).count tmuPage 0x810 1

/-- Whether EDGE selects an edge. -/
def edgeSel (sel : Nat) (falling : Bool) : Bool := decide (sel = 3) || (if falling then decide (sel = 2) else decide (sel = 1))

/-- EVENT_EDGE (R506): an edge on input `i`, after its level had held for `held` ns. -/
def eventEdge (t i : Nat) (falling : Bool) (held : Nat) (d : Device) : Device :=
  if !edgeSel (d.rd (TMU.EDGE i)) falling ∨ held < d.rd (TMU.FILTER_NS i) then d
  else if d.tmu.waitEdge ∧ i = 0 then
    let d := d.startAt d.timeLoad
    d.stampEdge d.now i falling
  else if !d.running then d
  else
    let d := d.stampEdge t i falling
    if i = 0 then d.ppsEdge t else d

/-- EVT_CONSUMED and TXS_CONSUMED (R512): a write releases entries, or is refused as R235 gives. -/
def evtConsumed (_t : Nat) (m : Master) (v : Nat) (d : Device) : Device :=
  d.asMaster m .k1 tmuPage (fun d =>
    let p := d.rd TMU.EVT_PRODUCED
    if unread p (v % 512) 512 ≤ 256 then d.wr TMU.EVT_CONSUMED v else d.refuse tmuPage)
def txsConsumed (_t : Nat) (m : Master) (v : Nat) (d : Device) : Device :=
  d.asMaster m .k1 tmuPage (fun d =>
    let p := d.rd TMU.TXS_PRODUCED
    if unread p (v % 512) 512 ≤ 256 then d.wr TMU.TXS_CONSUMED v else d.refuse tmuPage)

/-! ### The servo and holdover (R497, R498) -/

/-- A servo write ends a holdover of source 0 (R498). -/
def Device.servoWrite (d : Device) : Device :=
  let d := { d with tmu := { d.tmu with servoAt := d.now } }
  if d.on TMU.HOLDOVER && decide (d.rd TMU.TIME_SOURCE = 0) && !d.follows then d.wr TMU.HOLDOVER 0 else d

/-- PHASE_ADJ (R497, R508): a write of PHASE_ADJ_NS. -/
def phaseAdj (t : Nat) (m : Master) (v : Nat) (d : Device) : Device :=
  d.asMaster m .k1 tmuPage (fun d =>
    if d.tmu.holdAt = some t then d.writeLost tmuPage 1
    else
      let d := (d.servoWrite).wr TMU.PHASE_ADJ_NS v
      ({ d with tmu := { d.tmu with phaseAcc := 0 } }).refreq)

/-- FREQ_ADJ (R497): a write of FREQ_ADJ. -/
def freqAdjWrite (_t : Nat) (m : Master) (v : Nat) (d : Device) : Device :=
  d.asMaster m .k1 tmuPage (fun d =>
    if freqMax < (signed 32 v).natAbs then d.refuse tmuPage
    else ((d.servoWrite).wr TMU.FREQ_ADJ v).refreq)

/-- The integral of a frequency over the last `span` ns before `t`, from its values with their starts, latest first. -/
def freqIntegral (lo : Nat) : Nat → List (Nat × Int) → Int
  | _, [] => 0
  | hi, (s, f) :: r => if s ≤ lo then f * ((hi - lo : Nat) : Int) else f * ((hi - s : Nat) : Int) + freqIntegral lo s r

/-- The mean frequency applied over the last HOLDOVER_AVG_S seconds (R498). -/
def Device.freqMean (d : Device) (t : Nat) : Int :=
  let first := match d.tmu.applied.head? with | some e => e.1 | none => t
  let lo := max first (t - d.rd TMU.HOLDOVER_AVG_S * 1000000000)
  if t ≤ lo then d.freqApplied else nearest (freqIntegral lo t d.tmu.applied.reverse) (t - lo)

/-- Whether the time source is lost (R498). -/
def Device.sourceLost (d : Device) (t : Nat) : Bool :=
  if d.follows then !d.on MRU.PARTNER_PRESENT
  else if d.rd TMU.TIME_SOURCE = 0 then decide (d.tmu.servoAt + d.rd TMU.SERVO_TIMEOUT_MS * 1000000 ≤ t)
  else if d.rd TMU.TIME_SOURCE = 1 then d.tmu.badEdge || decide (d.tmu.lastPps + 1100000000 < t)
  else false

/-- LOCKED (R499). -/
def Device.timeLocked (d : Device) : Bool :=
  !d.on TMU.HOLDOVER &&
    (if d.follows then d.tmu.following && decide ((signed 16 (d.rd TMU.PAIR_DIFF_NS)).natAbs ≤ 4)
     else if d.rd TMU.TIME_SOURCE = 0 then d.on TMU.SW_LOCKED
     else if d.rd TMU.TIME_SOURCE = 1 then decide (0 < d.tmu.goodEdges) && decide ((signed 16 (d.rd TMU.PPS_ERR_NS)).natAbs ≤ 100)
     else false)

/-! ### Time of day (R504, R505) -/

/-- HOLDOVER_ENTRY (R498): the source is lost. -/
def holdoverEntry (t : Nat) (d : Device) : Device :=
  if d.on TMU.HOLDOVER ∨ !d.running ∨ !d.sourceLost t then d
  else
    let f := d.freqMean t
    let ok := d.follows && d.timeLocked
    let d := { d with mru := { d.mru with followOk := ok } }
    let d := ((d.setFreq f).wr TMU.HOLDOVER 1).wr TMU.PHASE_ADJ_NS 0
    ({ d with tmu := { d.tmu with holdAt := some t, goodEdges := 0, badEdge := false, phaseAcc := 0 } }).count tmuPage 0x838 1

/-- TIME_EXCHANGE (R500): the two-way exchange over Soundpost finds that the device is `diff` ns off its partner. -/
def timeExchange (_t : Nat) (diff : Int) (d : Device) : Device :=
  if !d.on MRU.SP_UP then d
  else if !d.follows then d.hear
  else
    let d := d.hear
    let d := (d.wr TMU.PAIR_DIFF_NS (sat16 diff)).wr TMU.HOLDOVER 0
    ({ d with tmu := { d.tmu with following := true } }).drawFreq

/-- TIME_REFERENCE_CHANGE (R510): the time reference input moves outside or back inside 200 ppm either way. -/
def timeReferenceChange (_t : Nat) (ok : Bool) (d : Device) : Device :=
  (d.wr TMU.REF_OK (b2n ok)).countIf (d.on TMU.REF_OK && !ok) tmuPage 0x868

/-- The words of a time-of-day entry (R512) for tree frame `k`, whose full number stands behind them. -/
def Device.todWords (d : Device) (c asym k : Nat) : List Nat :=
  let x := unsign 64 (d.ptpTime (d.treeFrameStart (treeOf c) k) + signed 16 asym)
  [asym % 65536, k % 2 ^ 32, x % 1000000000, x / 1000000000 % 2 ^ 32, x / 1000000000 / 2 ^ 32 % 65536, k]

/-- TOD_ENTRY_UPDATE (R505): the enabled channels of a tree at the start of tree frame `k`. -/
def Device.todUpdate (tree k : Nat) (d : Device) : Device :=
  if d.rd TMU.TOD_EVERY_FRAMES = 0 ∨ k % d.rd TMU.TOD_EVERY_FRAMES ≠ 0 then d
  else
    forEach ((List.range 4).map (fun w => 4 * tree + w)) (fun c d =>
      if d.on (TPE.TREE_EN tree) && d.on (CH.CH_EN c) then
        let asym := wordAt (Tbl.getD d.tmu.tod c []) 0
        { d with tmu := { d.tmu with tod := Tbl.set d.tmu.tod c (d.todWords c asym k) } }
      else d) d

/-- Recompute every entry that a tree frame has written (R505). -/
def Device.todRecompute (d : Device) : Device :=
  let l := d.tmu.tod.map (fun e => if e.2.length = 6 then (e.1, d.todWords e.1 (wordAt e.2 0) (wordAt e.2 5)) else e)
  { d with tmu := { d.tmu with tod := l } }

/-! ### Pulse outputs (R507) -/

/-- START of a pulse output, and the present instant in its time base. -/
def Device.pulseStart (d : Device) (o : Nat) : Int := ((d.rd (TMU.START_LO o) + 2 ^ 32 * d.rd (TMU.START_HI o) : Nat) : Int)
def Device.pulseNow (d : Device) (o t : Nat) : Int := if d.on (TMU.TIMEBASE o) then d.ptpTime t else t

/-- The smallest pulse number whose instant is at or after `x`. -/
def Device.pulseFrom (d : Device) (o : Nat) (x : Int) : Nat :=
  ceilDiv (x - d.pulseStart o).toNat (max 1 (d.rd (TMU.PERIOD_NS o)))

/-- The instant of pulse `n` of an output, in its time base. -/
def Device.pulseAt (d : Device) (o n : Nat) : Int := d.pulseStart o + n * d.rd (TMU.PERIOD_NS o)

def Device.setPulse (o n : Nat) (d : Device) : Device := { d with tmu := { d.tmu with pulseN := Tbl.set d.tmu.pulseN o n } }

/-- PO_EN (R507): a write of PO_EN. -/
def poEn (t : Nat) (m : Master) (o : Nat) (v : Bool) (d : Device) : Device :=
  d.asMaster m .k1 tmuPage (fun d =>
    if !v then d.wr (TMU.PO_EN o) 0
    else if d.on (TMU.PO_EN o) then d
    else if d.rd (TMU.PERIOD_NS o) ≤ d.rd (TMU.WIDTH_NS o) then d.refuse tmuPage
    else
      let n := d.pulseFrom o (d.pulseNow o t + 1000)
      ((d.wr (TMU.PO_EN o) 1).setPulse o n).countIf (decide (0 < n)) tmuPage 0x858)

/-- The level at which a pulse output rests outside a pulse and while PO_EN is 0 (R507, R509): high where its pulses drive low. -/
def Device.pulseRest (d : Device) (o : Nat) : Bool := d.on (TMU.PO_ACTIVE_LOW o)

/-- The instant of pulse `n` of an output in device time. -/
def Device.pulseTime (d : Device) (o n : Nat) : Nat := (d.pulseAt o n - (if d.on (TMU.TIMEBASE o) then d.timeOffset else 0)).toNat

/-- PULSE_OUTPUT (R507): the instant of the output's next pulse has come. -/
def pulseOutput (t o : Nat) (d : Device) : Device :=
  let n := Tbl.getD d.tmu.pulseN o 0
  if d.on (TMU.PO_EN o) && d.running && decide (d.pulseAt o n ≤ d.pulseNow o t) then
    ((d.emit (.pulse o (d.pulseTime o n) (d.rd (TMU.WIDTH_NS o)) (d.pulseRest o))).setPulse o (n + 1)).count tmuPage 0x850 1
  else d

/-- Pulses in PTP time that a TIME_OFFSET write moves into the past are skipped (R507). -/
def Device.skipPulses (t o : Nat) (d : Device) : Device :=
  if d.on (TMU.PO_EN o) && d.on (TMU.TIMEBASE o) then
    let n := Tbl.getD d.tmu.pulseN o 0
    let n' := max n (d.pulseFrom o (d.pulseNow o t))
    (d.setPulse o n').count tmuPage 0x860 (n' - n)
  else d

/-- TIME_OFFSET (R501, R505, R507, R508): a write of TIME_OFFSET_HI applies both words; a pulse due at that instant uses the old offset. -/
def timeOffsetHi (t : Nat) (m : Master) (v : Nat) (d : Device) : Device :=
  d.asMaster m .k1 tmuPage (fun d =>
    let d := forEach ((List.range 4).filter (fun o => d.on (TMU.TIMEBASE o))) (fun o d => pulseOutput t o d) d
    let d := match d.tmu.offsetLo with | some l => d.wr TMU.TIME_OFFSET_LO l | none => d
    let d := (d.wr TMU.TIME_OFFSET_HI v).count tmuPage 0x840 1
    let d := ({ d with tmu := { d.tmu with offsetLo := none } }).todRecompute
    forEach (List.range 4) (fun o d => d.skipPulses t o) d)

/-- A device frame of the TMU: the frame before counts where its slew was reduced (R497). -/
def Device.tmuFrame (d : Device) : Device :=
  if d.tmu.clamped then ({ d with tmu := { d.tmu with clamped := false } }).count tmuPage 0x848 1 else d

end Sys2Proof.Machine
end

