-- ==== Sys2Proof/Machine/Mirror.lean ====
section
/-!
DEFINITION. Soundpost mirroring and the Capo lease (chapter 15): what an epoch carries, the replay log and bulk resync,
renewals and fences, and taking the Capo.
-/

namespace Sys2Proof.Machine

/-- The page of the MRU. -/
def mruPage : Nat := 0x005

/-! ### What is mirrored (R518, R519) -/

/-- The changed entries of a table. -/
def deltaOf {α : Type} [DecidableEq α] (old new : Tbl α) : Delta α :=
  (new.filter (fun p => decide (Tbl.get? old p.1 ≠ some p.2))).map (fun p => (p.1, some p.2))
    ++ (old.filter (fun p => (Tbl.get? new p.1).isNone)).map (fun p => (p.1, none))

/-- A table with changed entries taken. -/
def applyDelta {α : Type} (t : Tbl α) (x : Delta α) : Tbl α := x.foldl (fun t p => Tbl.setOpt t p.1 p.2) t

/-- A map as it is carried: what its own receivers saw stays behind. -/
def Slot.bare (s : Slot) : Slot :=
  { s with items := s.items.map (fun i => { i with delims := [], shift := 0, decoded := false, uncorrected := 0, report := none }) }

/-- Queues, pools and shapers as they are carried: no contents, no cells, a full bucket (R519). -/
def Queue.bare (q : Queue) : Queue :=
  { q with flush := false, cut := false, head := 0, tail := 0, pkts := 0, cells := 0, sample := 0, delayLast := 0, delayMax := 0,
           delayRun := 0, pushes := 0, probe := none }
def Pool.bare (p : Pool) : Pool := { p with held := 0 }
def Shaper.bare (s : Shaper) : Shaper := { s with bucket := ⟨bucketMax s.burst, 0, none⟩ }

/-- The mirrored tables of the device. -/
def Device.tables (d : Device) : Tables :=
  { courses := d.trees.courses, allocs := d.fret.allocs, terms := d.rng.terms,
    slots := (d.fret.slots.filter (fun p => p.2.mapped)).map (fun p => (p.1, Slot.bare p.2)),
    keys := d.svc.keys, exact := d.pkt.exact, ternary := d.pkt.ternary, actions := d.pkt.actions, domains := d.pkt.domains,
    nodes := d.traffic.nodes, queues := d.cells.queues.map (fun p => (p.1, Queue.bare p.2)),
    shapers := d.traffic.shapers.map (fun p => (p.1, Shaper.bare p.2)), gates := d.traffic.gates, lag := d.traffic.lag,
    pools := d.cells.pools.map (fun p => (p.1, Pool.bare p.2)), chans := d.svc.chans, gens := d.gens }

/-- Pools taken from the mirror keep the cells this device holds of them. -/
def Device.withHeld (d : Device) (ps : Tbl Pool) : Tbl Pool :=
  ps.map (fun p => (p.1, { p.2 with held := match Tbl.get? d.cells.pools p.1 with | some o => o.held | none => 0 }))

/-- A map taken on a standby, by whether it has left (R176): `c` its channel. -/
def Device.placed (d : Device) (c : Nat) (s : Slot) : Slot :=
  let s := { s with upfDelay := d.rd (GEN.UPF_DELAY_NS (treeOf c)) }
  if s.st = .sealed ∧ d.treeFrameStart (treeOf c) s.frame ≤ d.now then { s with st := if s.items = [] then .closed else .inFlight } else s

/-- A terminal table taken from the mirror: the shadow samples of a terminal that went, or whose index was issued again, go with it (R253). -/
def Device.takeTerms (ts : Tbl Term) (d : Device) : Device :=
  let same (x : Nat) : Bool := match d.term? x, Tbl.get? ts x with
    | some o, some n => decide (o.handle = n.handle)
    | none, some _ => true
    | _, none => false
  { d with rng := { d.rng with terms := ts, shadow := d.rng.shadow.filter (fun p => same p.1) } }

/-- A key slot as an epoch brings it, where the device holds `o` (R375): an erasure by an alarm or a debug unlock is this device's or the other's own, and
does not cross. -/
def KeySlot.take (chans : Tbl SvcChan) (o : Option KeySlot) (n : KeySlot) : KeySlot :=
  match o with
  | none => n
  | some o =>
    if o.handle ≠ n.handle then n
    else if o.st = .erased then { n with key := o.key, st := .erased }
    else if n.st = .erased then
      let active := (Tbl.get? chans (handleIdx n.chan)).any (fun c => decide (c.handle = n.chan ∧ c.active = some n.pos))
      { n with key := o.key, st := if n.pos = 0 then .unbound else if active then .active else .inactive }
    else n

/-- Replace every mirrored table (R530, R539). -/
def Device.setTables (x : Tables) (d : Device) : Device :=
  { d with gens := x.gens, trees := { d.trees with courses := x.courses },
           fret := { d.fret with allocs := x.allocs, slots := x.slots.map (fun p => (p.1, d.placed (p.1 / 8) p.2)) },
           rng := (d.takeTerms x.terms).rng, svc := { d.svc with keys := x.keys, chans := x.chans },
           pkt := { d.pkt with exact := x.exact, ternary := x.ternary, actions := x.actions, domains := x.domains },
           traffic := { d.traffic with nodes := x.nodes, shapers := x.shapers, gates := x.gates, lag := x.lag },
           cells := { d.cells with queues := x.queues, pools := d.withHeld x.pools } }

/-- Take the changed entries of an epoch. -/
def Device.applyTables (e : Epoch) (d : Device) : Device :=
  let x := d.tables
  let chans := applyDelta d.svc.chans e.chans
  let keys := (applyDelta d.svc.keys e.keys).map (fun p => (p.1, KeySlot.take chans (d.key? p.1) p.2))
  { d with gens := applyDelta d.gens e.gens, trees := { d.trees with courses := applyDelta d.trees.courses e.courses },
           fret := { d.fret with allocs := applyDelta d.fret.allocs e.allocs },
           rng := (d.takeTerms (applyDelta d.rng.terms e.terms)).rng,
           svc := { d.svc with keys := keys, chans := chans },
           pkt := { d.pkt with exact := applyDelta d.pkt.exact e.exact, ternary := applyDelta d.pkt.ternary e.ternary,
                               actions := applyDelta d.pkt.actions e.actions, domains := applyDelta d.pkt.domains e.domains },
           traffic := { d.traffic with nodes := applyDelta d.traffic.nodes e.nodes, shapers := applyDelta d.traffic.shapers e.shapers,
                                       gates := applyDelta d.traffic.gates e.gates, lag := applyDelta d.traffic.lag e.lag },
           cells := { d.cells with queues := applyDelta d.cells.queues e.queues, pools := d.withHeld (applyDelta x.pools e.pools) } }

/-! ### The epoch of a frame (R518, R520, R522) -/

/-- Whether the device streams epochs (R534: also while fenced). -/
def Device.streaming (d : Device) : Bool := d.on MRU.MIRROR_EN && decide (d.rd MRU.ROLE = 1 ∨ d.rd MRU.ROLE = 3)

/-- The maps sealed in a frame: slot by slot, those the frame before did not hold. -/
def mapsOf (old new : Tbl Slot) : List (Nat × Slot) :=
  new.filter (fun p => match Tbl.get? old p.1 with | some o => decide (o.frame ≠ p.2.frame) | none => true)

/-- The records posted in a frame: the items without a record before that have one, or that a reclaim closed by force. -/
def recsOf (old new : Tbl Slot) : List (Nat × Nat × Nat × RecKind) :=
  old.flatMap (fun p =>
    let n := match Tbl.get? new p.1 with | some s => if s.frame = p.2.frame then some s else none | none => none
    (List.range p.2.items.length).filterMap (fun i =>
      match (p.2.items[i]?).bind (·.done) with
      | some _ => none
      | none => match n with
        | some s => ((s.items[i]?).bind (·.done)).map (fun k => (p.1 / 8, p.2.frame, i, k))
        | none => if p.2.st = .inFlight then some (p.1 / 8, p.2.frame, i, .noShow) else none))

/-- The completions of the commands whose commit points fall in frame `w`, in acceptance order (R307). -/
def Device.cplsOf (d : Device) (w : Nat) : List Cpl :=
  d.svc.cmds.filterMap (fun c => match c.st with
    | .done status stamp effect handle a b =>
      if effect ∧ frameOf stamp = w then some ⟨c.cq, c.cqSlot, d.cplWords c status stamp effect handle a b⟩ else none
    | _ => none)

/-- The ring indices that a compatibility-mode epoch carries (R547): CR_CI by ring, and by 16 + ring the reserved slots of a
completion ring. -/
def Device.ringIdx (d : Device) : Tbl Nat :=
  (List.range 16).map (fun r => (r, d.rd (HIF.CR_CI r))) ++ (List.range 16).map (fun q => (16 + q, Tbl.getD d.svc.reserved q 0))

/-- The commands that a compatibility-mode epoch `w` carries: accepted, and not done by the end of its frame (R56, R547, log entry 67). -/
def Device.cmdsOf (d : Device) (w : Nat) : List Cmd :=
  d.svc.cmds.filter (fun c => match c.st with
    | .done _ stamp _ _ _ _ => decide (w < frameOf stamp)
    | _ => true)

/-- The counters that travel in the header: the GEN page's, those at zero too (R186, R522). -/
def Device.genCounters (d : Device) : Tbl Nat :=
  ((List.range 14).map (fun i => 0x810 + 8 * i)).map (fun o => (0x1000 * 0x1B5 + o, d.ctr 0x1B5 o))

/-- Whether a page's counters are swept (R522). The GEN page's travel in the header. -/
def sweptPage (p : Nat) : Bool := decide (0x040 ≤ p ∧ p < 0x180) || decide (p = 0x1B0 ∨ p = 0x1B1 ∨ p = 0x1B2 ∨ p = 0x1B3 ∨ p = 0x1B4 ∨ p = 0x1B6)

/-- The counters that epoch `w` sweeps in its turn: those of every page whose number leaves the rest of `w` in 64, and with rest 1 the command counters,
so that each is carried once in 64 epochs (R522, DESIGN CHOICE, log entry 91). -/
def sweepCtrs (w : Nat) : List Nat :=
  ((List.range 7).map (fun i => 64 * i + w % 64)).flatMap (fun p =>
    if sweptPage p then (List.range (pageInfo p).counters).map (fun i => 0x1000 * p + 0x810 + 8 * i) else [])
    ++ (if w % 64 = 1 then (List.range 8).map (fun i => 0x1000 * 0x001 + 0x900 + 8 * i) else [])

/-- The queues that epoch `w` sweeps in its turn. -/
def Device.sweepQueues (d : Device) (w : Nat) : List Nat := (d.cells.queues.map (·.1)).filter (fun q => decide (q % 64 = w % 64))

/-- Epoch `w`, with the swept counters and queues: those of its turn and those named, which the link had time for (R522). -/
def Device.makeEpoch (w : Nat) (cs qs : List Nat) (d : Device) : Epoch :=
  let x := d.tables
  let o := d.mru.prev
  let compat := d.on MRU.COMPAT
  { num := w, logEpochs := d.rd MRU.LOG_EPOCHS, posted := d.mru.posted, compat := compat, zeroize := d.mru.zeroized,
    genCtrs := d.genCounters, maps := mapsOf o.slots x.slots, recs := recsOf o.slots x.slots,
    courses := deltaOf o.courses x.courses, allocs := deltaOf o.allocs x.allocs, terms := deltaOf o.terms x.terms,
    keys := deltaOf o.keys x.keys, exact := deltaOf o.exact x.exact, ternary := deltaOf o.ternary x.ternary,
    actions := deltaOf o.actions x.actions, domains := deltaOf o.domains x.domains, nodes := deltaOf o.nodes x.nodes,
    queues := deltaOf o.queues x.queues, shapers := deltaOf o.shapers x.shapers, gates := deltaOf o.gates x.gates,
    lag := deltaOf o.lag x.lag, pools := deltaOf o.pools x.pools, chans := deltaOf o.chans x.chans, gens := deltaOf o.gens x.gens,
    ctrs := (sweepCtrs w ++ cs).map (fun k => (k, Tbl.getD d.ctrs k 0)),
    depths := (d.sweepQueues w ++ qs).filterMap (fun q => (d.queue? q).map (fun y => (q, y.pkts))),
    cpls := if compat then d.cplsOf w else [], cmds := if compat then d.cmdsOf w else [], crIdx := if compat then d.ringIdx else [] }

/-! ### The replay log and bulk resync (R527 to R530) -/

/-- The kinds of Soundpost messages shown. -/
def spEpoch : Nat := 0
def spAck : Nat := 1
def spRewind : Nat := 2
def spResyncRequest : Nat := 3
def spResyncRequired : Nat := 4
def spBase : Nat := 5
def spReplay : Nat := 6

/-- The rewind mark (R528), held above a base (R530). -/
def Device.rewindMark (d : Device) : Nat := max d.mru.acked (d.mru.base.getD 0) + 1

/-- Start a bulk resync from base epoch `b`. -/
def Device.startResync (b : Nat) (d : Device) : Device :=
  (({ d with mru := { d.mru with base := some b, baseAsked := false, replay := none } }).wr MRU.RESYNC 1).wr MRU.REPLAYING 0

/-- EPOCH_STREAM_START (R517, R518, R528): at the start of a frame the active device takes the epoch of the frame before. `ack` is an acknowledgement
stamped at this instant, which comes before an overtaking (R37, R548). -/
def Device.epochBoundary (cs qs : List Nat) (ack : Option Nat) (d : Device) : Device :=
  let w := d.frame - 1
  let n := d.rd MRU.LOG_EPOCHS
  let mark := max d.rewindMark (ack.elim 0 (· + 1))
  let d :=
    if !d.streaming then d
    else
      let d :=
        if d.mru.baseAsked then d.startResync w
        else if n + mark ≤ w then
          (((d.countIf (d.on MRU.RESYNC) mruPage 0x850).count mruPage 0x840 1).emit (.soundpost spResyncRequired w)).startResync w
        else d
      let e := d.makeEpoch w cs qs
      let log := if d.mru.logCells = 0 then [] else Tbl.set (d.mru.log.filter (fun p => decide (w < p.1 + n))) w e
      { d with mru := { d.mru with log := log, written := w, toSend := some w, zeroized := false } }
  let prev := if d.rd MRU.ROLE = 1 ∨ d.rd MRU.ROLE = 3 then d.tables else d.mru.prev
  { d with mru := { d.mru with prev := prev, change := 0, deferred := [] } }

/-- Send the next `n` epochs of a replay. -/
def Device.replayN : Nat → Device → Device
  | 0, d => d
  | n + 1, d =>
    match d.mru.replay with
    | none => d
    | some e =>
      let live := match d.mru.toSend with | some w => w | none => d.mru.written + 1
      if live ≤ e then { d with mru := { d.mru with replay := none } }
      else Device.replayN n (({ d with mru := { d.mru with replay := if live ≤ e + 1 then none else some (e + 1) } }).count mruPage 0x838 1 |>.emit (.soundpost spReplay e))

/-- The most bytes an epoch carries (R44). -/
def epochMax : Nat := 12500000

/-- EPOCH_MARKER_SEND (R44, R523, R529, R530): the live epoch's marker goes out with `bytes` of payload in the epoch; in the link time
left, `n` epochs of a replay, or a base of `base` KiB comes to its marker. -/
def epochMarkerSend (_t bytes n : Nat) (base : Option Nat) (d : Device) : Device :=
  if !d.streaming || !d.on MRU.SP_UP then d
  else
    let d := match d.mru.toSend with
      | some w =>
        let d := { d with mru := { d.mru with toSend := none } }
        (((d.wr MRU.EPOCH_SENT w).wr MRU.LAST_EPOCH_BYTES (min bytes epochMax)).count mruPage 0x810 1).emit (.soundpost spEpoch w)
      | none => d
    if d.on MRU.RESYNC then
      match base with
      | some kib => (((d.wr MRU.RESYNC 0).wr MRU.BASE_KIB kib).count mruPage 0x848 1).emit (.soundpost spBase (d.mru.base.getD 0))
      | none => d
    else
      let d := d.replayN n
      d.wr MRU.REPLAYING (b2n d.mru.replay.isSome)

/-- EPOCH_ACK_RECEIVE (R524, R528, R546): the standby acknowledged epoch `k`. -/
def epochAckReceive (_t k : Nat) (d : Device) : Device :=
  if !d.streaming || !d.on MRU.SP_UP then d
  else
    let d := d.hear
    if d.mru.acked < k ∧ k ≤ d.mru.written then
      ({ d with mru := { d.mru with acked := k, posted := max d.mru.posted k } }).wr MRU.EPOCH_ACKED k
    else d

/-- REWIND (R529): the standby asks for epoch `e` and those after it. -/
def rewind (_t e : Nat) (d : Device) : Device :=
  if !d.streaming || !d.on MRU.SP_UP then d
  else
    let d := d.hear.count mruPage 0x830 1
    let live := match d.mru.toSend with | some w => w | none => d.mru.written + 1
    if d.on MRU.RESYNC ∨ live ≤ e then d
    else if (Tbl.get? d.mru.log e).isNone then { d with mru := { d.mru with baseAsked := true } }
    else
      let e' := match d.mru.replay with | some r => min r e | none => e
      ({ d with mru := { d.mru with replay := some e' } }).wr MRU.REPLAYING 1

/-- RESYNC_REQUEST (R530, R538): the standby asks for a base, which is that of the next epoch written. -/
def resyncRequest (_t : Nat) (d : Device) : Device :=
  if !d.streaming || !d.on MRU.SP_UP then d
  else
    let d := d.hear
    { d with mru := { d.mru with baseAsked := true } }

/-! ### The standby (R523 to R526, R531) -/

/-- LAG (R525): the epochs since it became standby whose deadline has passed and that it has not applied. -/
def Device.lag (d : Device) : Nat :=
  if d.rd MRU.ROLE ≠ 2 then 0
  else (d.now - 120001) / 125000 - max (match d.mru.applied with | some a => a + 1 | none => 0) d.mru.since

/-- READY (R531). -/
def Device.ready (d : Device) : Bool :=
  decide (d.rd MRU.ROLE = 2) && d.on MRU.MIRROR_EN && d.mru.resynced && !d.mru.overtaken
    && d.follows && (d.timeLocked || (d.on TMU.HOLDOVER && d.mru.followOk))
    && decide (d.on MRU.COMPAT = d.mru.hdrCompat) && !d.on PTM.TRIPPED && (!d.mru.unacked || decide (d.lag = 0))

/-- The replay after a base has caught up (R530), and LAG is 0 again (R531). -/
def Device.caughtUp (d : Device) : Device :=
  if d.lag ≠ 0 then d
  else
    let d := { d with mru := { d.mru with unacked := false } }
    if d.on MRU.RESYNC ∧ d.mru.applied.isSome then
      (({ d with mru := { d.mru with resynced := true, overtaken := false } }).wr MRU.RESYNC 0).count mruPage 0x848 1
    else d

/-- A committed map joins the standby's Fretboard, and the bursts kept for it give their shadow samples (R176, R252, R526). -/
def Device.takeMap (p : Nat × Slot) (d : Device) : Device :=
  let c := p.1 / 8
  let s := d.placed c p.2
  let d := { d with fret := { d.fret with slots := Tbl.set d.fret.slots p.1 s } }
  forEach (d.bursts.kept.filter (fun k => k.chan = c && k.x.clean)) (fun k d =>
    d.whenSome (s.items.find? (fun i => decide (i.term = k.x.term ∧ i.kind = .grant))) (fun i d => d.shadowSample c s i k.x.stamp)) d

/-- A carried record closes its item (R176, R519). -/
def Device.takeRec (r : Nat × Nat × Nat × RecKind) (d : Device) : Device :=
  let s := d.slot r.1 r.2.1
  match s.items[r.2.2.1]? with
  | some i =>
    if s.mapped ∧ s.frame = r.2.1 then
      let items := s.items.set r.2.2.1 { i with done := some r.2.2.2 }
      d.setSlot r.1 r.2.1 { s with items := items, st := if items.all (fun j => j.done.isSome) then .closed else s.st }
    else d
  | none => d

/-- The swept depths left once an epoch's queues are taken: those of queues that went, or whose index was issued again, go with them (R45). -/
def Device.depthsAfter (d : Device) (e : Epoch) : Tbl Nat :=
  d.mru.sweptDepths.filter (fun p => match Tbl.get? e.queues p.1 with
    | some (some q) => decide ((d.queue? p.1).map (·.handle) = some q.handle)
    | some none => false
    | none => true)

/-- Apply an epoch (R518, R524). -/
def Device.applyEpoch (e : Epoch) (d : Device) : Device :=
  let depths := d.depthsAfter e
  let d := if e.zeroize then d.eraseKeys 0x8A8 else d
  let d := forEach e.recs Device.takeRec (forEach e.maps Device.takeMap (d.applyTables e))
  let m := d.mru
  { d with mru := { m with applied := some e.num, hdrLog := e.logEpochs, hdrCompat := e.compat, hdrPosted := e.posted, genCtrs := e.genCtrs,
                           sweptCtrs := applyDelta m.sweptCtrs (e.ctrs.map (fun p => (p.1, some p.2))),
                           sweptDepths := applyDelta depths (e.depths.map (fun p => (p.1, some p.2))),
                           carried := (m.carried.filter (fun p => decide (e.posted < p.1))) ++ e.cpls.map (fun x => (e.num, x)),
                           cutOff := if e.compat then e.cmds else m.cutOff, crIdx := if e.compat then e.crIdx else m.crIdx } }

/-- Whether epoch `k` may commit: the epoch before it has, and its marker is in time (R523). -/
def Device.mayCommit (d : Device) (k t : Nat) (replay : Bool) : Bool :=
  decide (d.mru.applied = some (k - 1)) && decide (0 < k) && (replay || decide (t ≤ (k + 1) * 125000 + 120000))

/-- EPOCH_COMMIT (R523, R524): the commit marker of an epoch arrives; `whole` tells that every record came and the marker's
CRC and byte count match, `replay` that it is replayed. -/
def epochCommit (t : Nat) (e : Epoch) (whole replay : Bool) (d : Device) : Device :=
  if d.rd MRU.ROLE ≠ 2 ∨ !d.on MRU.MIRROR_EN ∨ !d.on MRU.SP_UP then d
  else
    let d := d.hear
    if !whole || !d.mayCommit e.num t replay then d
    else
      let d := ((d.applyEpoch e).wr MRU.EPOCH_APPLIED e.num).wr MRU.LAST_EPOCH_BYTES e.bytes
      ((d.count mruPage 0x818 1).emit (.soundpost spAck e.num)).caughtUp

/-- EPOCH_DEADLINE (R525, R528): epoch `k` was not committed by its deadline. -/
def epochDeadline (t k : Nat) (d : Device) : Device :=
  let done : Bool := match d.mru.applied with | some a => decide (k ≤ a) | none => false
  if d.rd MRU.ROLE ≠ 2 ∨ !d.on MRU.MIRROR_EN ∨ t ≤ (k + 1) * 125000 + 120000 ∨ done = true ∨ k < max d.mru.since d.mru.judged then d
  else
    let d := ({ d with mru := { d.mru with judged := k + 1 } }).count mruPage 0x820 1
    let d := if d.on MRU.SP_UP then d.emit (.soundpost spRewind k) else d
    if d.mru.hdrLog ≤ d.lag then { d with mru := { d.mru with overtaken := true } } else d

/-- Free every queued packet: the packets lost (R538). -/
def Device.freeQueues (d : Device) : Nat × Device :=
  d.cells.queues.foldl (fun r q => let (n, d') := r.2.spliceQueue q.1; (r.1 + n, d')) (0, d)

/-- BASE_MARKER_RECEIVE (R530, R538): the base of epoch `b` is there, its marker good or not. -/
def baseMarkerReceive (_t b : Nat) (x : Tables) (good : Bool) (d : Device) : Device :=
  if d.rd MRU.ROLE ≠ 2 ∨ !d.on MRU.MIRROR_EN ∨ !d.on MRU.SP_UP then d
  else
    let d := d.hear
    if !good then d.emit (.soundpost spResyncRequest 0)
    else
      let (n, d) := d.freeQueues
      let same (p : Nat × Nat) : Bool := decide ((d.queue? p.1).map (·.handle) = (Tbl.get? x.queues p.1).map (·.handle))
      let d := { d with mru := { d.mru with sweptDepths := d.mru.sweptDepths.filter same } }
      let d := (d.count mruPage 0x8B0 n).setTables x
      let d := ({ d with mru := { d.mru with applied := some b } }).wr MRU.EPOCH_APPLIED b
      ((d.wr MRU.RESYNC 1).emit (.soundpost spRewind (b + 1))).caughtUp

/-! ### Fencing and renewal (R532 to R536, R540) -/

/-- A message of this device to its partner (R516): its side and its lease terms stand in every kind. -/
def Device.leaseMsg (d : Device) (kind frame : Nat) (release ready unacked : Bool) : PairMsg :=
  { kind := kind, side := d.on MRU.PAIR_SIDE, release := release, lease := d.rdA MRU.LEASE_FRAMES, margin := d.rdA MRU.MARGIN_FRAMES, ready := ready,
    unacked := unacked, frame := frame % 2 ^ 32 }

/-- A message goes out on the pins, unless its readback differs, and on Soundpost while it is up (R515, R517, R532). -/
def Device.sendLease (bad : Bool) (x : PairMsg) (d : Device) : Device :=
  d.emit (.lease (if bad then none else some (PairMsg.word x)) (if d.on MRU.SP_UP then some x else none))

/-- The pins were driven; `bad` tells that the readback of the message differs (R515). -/
def Device.pinSent (bad : Bool) (d : Device) : Device :=
  ({ d with mru := { d.mru with pinFault := bad } }).countIf bad mruPage 0x878

/-- PINS_OK (R515). -/
def Device.pinsOk (d : Device) : Bool :=
  !d.mru.pinFault && (match d.mru.heardPins with | some h => decide (d.now ≤ h + d.rdA MRU.LEASE_FRAMES * 125000) | none => false)

/-- A renewal instant passes without a renewal (R534): no more are made, and the fence is set at lease end minus margin. A tree
whose boundary has passed goes idle at once. -/
def Device.missRenewal (d : Device) : Device :=
  let x := match d.mru.end_ with
    | some e => if d.on MRU.PAIR_EN then e - d.mru.margin * 125000 else d.now
    | none => d.now
  let d := { d with mru := { d.mru with fenceAt := some x } }
  let late (c : Nat) : Bool := decide (x < d.treeFrameStart (treeOf c) (d.treeFrame (treeOf c) d.now + 1))
  let d := forEach (d.trees.cfr.filter (fun p => p.2.sending && late p.1)) (fun p d =>
    (d.setCfr p.1 { p.2 with sending := false, fenceIdle := true }).count (chanPage p.1) 0x848 1) d
  if x ≤ d.now + 1000 then d.becomeFenced else d

/-- Make the renewal of frame `k` (R532). -/
def Device.renew (k : Nat) (bad : Bool) (d : Device) : Device :=
  let e := k + d.rdA MRU.LEASE_FRAMES
  let rel := d.on MRU.RELEASE
  let d := d.postUnacked k
  let m := d.mru
  let d := { d with mru := { m with end_ := some (e * 125000 + 5000), margin := d.rdA MRU.MARGIN_FRAMES, releasing := m.releasing || rel } }
  let d := (((d.wr MRU.LEASE_END_FRAME e).wr MRU.RELEASE 0).count mruPage 0x860 1)
  d.sendLease bad (d.leaseMsg 0 e rel false (d.on MRU.COMPAT && decide (m.acked < m.early)))

/-- CAPO_RENEWAL (R517, R532, R534, R537, R540): the instant k + 5 us. `bad` tells that the readback of the message on the pins
differs. -/
def capoRenewal (_t : Nat) (bad : Bool) (d : Device) : Device :=
  let k := d.frame
  if d.on MRU.CLAIMING then (d.pinSent bad).sendLease bad (d.leaseMsg 2 k false false false)
  else if d.rd MRU.ROLE ≠ 1 ∨ d.mru.fenceAt.isSome then d
  else if !d.on MRU.PAIR_EN then (if d.on MRU.FORCE_FENCE then d.missRenewal else d)
  else if d.mru.releasing ∨ (d.on MRU.FORCE_FENCE ∧ ¬ d.on MRU.RELEASE) then d.missRenewal
  else
    let d := d.pinSent bad
    if bad && !d.on MRU.SP_UP then d.missRenewal else d.renew k bad

/-- FENCE_EGRESS_STOP (R534): a holder that missed its renewal stops at lease end minus margin minus 1 us. -/
def fenceEgressStop (t : Nat) (d : Device) : Device :=
  match d.mru.fenceAt with
  | some x => if x ≤ t + 1000 then d.becomeFenced else d
  | none => d

/-- BEACON (R517): the instant k + 65 us. -/
def beacon (_t : Nat) (bad : Bool) (d : Device) : Device :=
  if !d.on MRU.PAIR_EN ∨ d.rd MRU.ROLE = 1 then d
  else (d.pinSent bad).sendLease bad (d.leaseMsg 1 (d.mru.applied.getD 0) false d.ready false)

/-- PARTNER_ABSENT (R52): no good message for a lease length. -/
def partnerAbsent (t : Nat) (d : Device) : Device :=
  if d.on MRU.PARTNER_PRESENT ∧ d.mru.heard + d.rdA MRU.LEASE_FRAMES * 125000 < t then d.wr MRU.PARTNER_PRESENT 0 else d

/-- A frame number from its low 32 bits, the nearest to the present frame. -/
def Device.fullFrame (d : Device) (low : Nat) : Nat :=
  let b := d.frame / 2 ^ 32 * 2 ^ 32 + low % 2 ^ 32
  if b + 2 ^ 31 < d.frame then b + 2 ^ 32 else if d.frame + 2 ^ 31 ≤ b ∧ 2 ^ 32 ≤ b then b - 2 ^ 32 else b

/-- A claim ends without the Capo (R537). -/
def Device.claimRefused (d : Device) : Device :=
  ((({ d with mru := { d.mru with claimEnd := none } }).wr MRU.CLAIM 0).wr MRU.CLAIMING 0).count mruPage 0x8A0 1

/-- An IDLE or FENCED device becomes STANDBY (R538). -/
def Device.becomeStandby (d : Device) : Device :=
  let d := if d.mru.claimEnd.isSome then d.claimRefused else d
  let m := d.mru
  let d := { d with mru := { m with fenceAt := none, releasing := false, resynced := false, overtaken := false, unacked := false, followOk := false,
                                    since := d.frame, judged := 0, applied := none, toSend := none, replay := none, base := none, baseAsked := false } }
  let d := ((d.wr MRU.ROLE 2).wr MRU.CAPO 0).wr MRU.REPLAYING 0
  if d.on MRU.MIRROR_EN then
    let d := d.wr MRU.RESYNC 1
    if d.on MRU.SP_UP then d.emit (.soundpost spResyncRequest 0) else d
  else d.wr MRU.RESYNC 0

/-- A good renewal arrives (R533, R536 to R538). -/
def Device.receiveRenewal (x : PairMsg) (d : Device) : Device :=
  if !d.on MRU.PAIR_EN then d
  else
    let key := (x.frame, x.lease)
    let fresh := decide (d.mru.lastRenewal ≠ some key)
    let d := { d with mru := { d.mru with lastRenewal := some key } }
    if d.rd MRU.ROLE = 1 then
      let d := d.countIf fresh mruPage 0x898
      if d.on MRU.PAIR_SIDE then d.fenceNow else d
    else
      let d := d.countIf fresh mruPage 0x868
      let d := if d.rd MRU.ROLE = 2 then d else d.becomeStandby
      let m := d.mru
      let d := { d with mru := { m with end_ := some (d.fullFrame x.frame * 125000 + 5000), margin := x.margin, releaseSeen := x.release, blocked := false,
                                        unacked := m.unacked || (x.unacked && d.on MRU.COMPAT && decide (d.lag ≠ 0)) } }
      d.wr MRU.LEASE_END_FRAME x.frame

/-- A claim of the partner arrives (R537). -/
def Device.receiveClaim (side : Bool) (d : Device) : Device :=
  if d.on MRU.CLAIMING ∧ (side = d.on MRU.PAIR_SIDE ∨ (d.on MRU.PAIR_SIDE ∧ ¬ side)) then d.claimRefused else d

/-- A good message of the lease is delivered (R516). -/
def Device.deliver (x : PairMsg) (d : Device) : Device :=
  if x.kind = 0 then d.receiveRenewal x
  else if x.kind = 1 then d.wr MRU.PARTNER_READY (b2n x.ready)
  else if x.kind = 2 then d.receiveClaim x.side
  else d

/-- PIN_MESSAGE_RECEIVE (R515, R516): the 64 bits of a pin message. -/
def pinMessageReceive (t w : Nat) (d : Device) : Device :=
  let x := leaseFields w
  if !leaseGood w || decide (2 < x.kind) then d.count mruPage 0x870 1
  else
    let d := { d with mru := { d.mru with heardPins := some t } }
    d.hear.deliver x

/-- RENEWAL_RECEIVE (R533, R536): a good renewal on the pins or on Soundpost. -/
def renewalReceive (t : Nat) (pins : Bool) (x : PairMsg) (d : Device) : Device :=
  if !pins && !d.on MRU.SP_UP then d
  else
    let d := { d with mru := { d.mru with heardPins := if pins then some t else d.mru.heardPins } }
    d.hear.receiveRenewal x

/-- SOUNDPOST_RECORD_RECEIVE (R514): a record; `good` tells that its CRC checks, `required` that it is a resync required (R528),
and `x` the message of the lease it may carry. -/
def soundpostRecordReceive (_t : Nat) (good required : Bool) (x : Option PairMsg) (d : Device) : Device :=
  if !d.on MRU.SP_UP then d
  else if !good then d.count mruPage 0x828 1
  else
    let d := d.hear
    let d := if required && decide (d.rd MRU.ROLE = 2) then
        ({ d with mru := { d.mru with overtaken := true, resynced := false } }).wr MRU.RESYNC 1
      else d
    d.whenSome x Device.deliver

/-! ### Taking the Capo (R535, R537, R542, R543, R547) -/

/-- Whether LOG_POOL can hold the log (R527). -/
def Device.logPool (d : Device) : Option Nat :=
  (d.poolOf (d.rd MRU.LOG_POOL)).bind (fun i => (d.pool? i).bind (fun p =>
    if p.dram ∧ d.rd MRU.LOG_EPOCHS * 794 ≤ p.minU then some i else none))

/-- The Ulubry cluster takes the log's cells (R527), counted and not named. -/
def Device.takeLog (i : Nat) (d : Device) : Device :=
  let n := d.rd MRU.LOG_EPOCHS * 50816
  let d := (d.modPool i (fun p => { p with held := p.held + n })).useCells true (fun u => u + n)
  { d with mru := { d.mru with logCells := n } }

/-- The log's cells go back. -/
def Device.dropLog (d : Device) : Device :=
  let n := d.mru.logCells
  let d := match d.poolOf (d.rd MRU.LOG_POOL) with
    | some i => d.modPool i (fun p => { p with held := p.held - n })
    | none => d
  let d := d.useCells true (fun u => u - n)
  { d with mru := { d.mru with logCells := 0, log := [], toSend := none, replay := none, base := none, baseAsked := false } }

/-- The Capo is held from now on; the takeover is counted and its record written (R535, R553). -/
def Device.holdCapo (cause leaseEnd loss sw : Nat) (d : Device) : Device :=
  let d := ((d.wr MRU.CAPO 1).wr MRU.ROLE 1).count mruPage 0x888 1
  let k := d.ctr mruPage 0x888 % 8
  let last := d.mru.applied.getD 0
  let r := [d.frame % 2 ^ 32, d.now % 125000 + cause * 2 ^ 17, last % 2 ^ 32, leaseEnd, loss % 2 ^ 32, loss / 2 ^ 32, sw, 0]
  let m := d.mru
  let d := { d with mru := { m with records := Tbl.set m.records k r, fenceAt := none, releasing := false, end_ := none, resynced := false,
                                    overtaken := false, unacked := false, written := d.frame - 1, posted := d.frame - 1,
                                    base := none, replay := none, prev := d.tables },
                    tmu := { d.tmu with following := false } }
  let d := (d.wr MRU.RESYNC 0).wr MRU.REPLAYING 0
  if d.on MRU.MIRROR_EN ∧ d.mru.logCells = 0 then d.whenSome d.logPool Device.takeLog else d

/-- Freeze the common feeder offset of a tree whose COMMON_VALID is 1 (R254). -/
def Device.freeze (t : Nat) (d : Device) : Device :=
  match d.commonOffset t with
  | some c =>
    let d := { d with rng := { d.rng with frozen := Tbl.set d.rng.frozen t c } }
    (((d.wr (RGU.APPLIED t) 1).wr (RGU.COMMON_OFFSET_NS t) (unsign 20 c)).wr (RGU.COMMON_VALID t) 1)
  | none => d

/-- An item of a committed epoch as the new active device decides it (R254, R543): with its terminal's shadow offset, by the delimiters kept. -/
def Device.retaken (d : Device) (c : Nat) (s : Slot) (i : Item) : Item :=
  let i := { i with shift := (d.shadowOf i.term).getD 0 }
  let w : Int := wordsPerFrame s.rate
  let (lo, hi) := d.windowX c s i
  let mine := d.bursts.kept.filter (fun q =>
    decide (q.chan = c ∧ lo ≤ q.x.stamp * w ∧ (q.x.stamp : Int) * w ≤ hi + d.rdA GEN.LATE_SPAN_NS * w))
  let unc := if i.decoded then i.uncorrected else (mine.map (·.unc)).sum
  { i with delims := mine.map (·.x), uncorrected := unc, decoded := i.decoded || mine.any (·.ended) }

/-- Items of maps from committed epochs are matched anew at takeover (R254, R543). -/
def Device.shiftItems (d : Device) : Device :=
  let sl := d.fret.slots.map (fun p => (p.1, { p.2 with items := p.2.items.map (fun i => if i.done.isSome then i else d.retaken (p.1 / 8) p.2 i) }))
  { d with fret := { d.fret with slots := sl } }

/-- Each terminal in RANGING returns to AWAITING_SN (R255). -/
def Device.dropRanging (d : Device) : Device :=
  forEach ((d.rng.terms.filter (fun p => p.2.state = 2)).map (·.1)) Device.deactivate d

/-- GEN_GRANTS_SEALED is loaded with the records counted, UNMAPPED apart, and the items outstanding (R174, R176). -/
def Device.balanceSealed (d : Device) : Device :=
  d.setCtr 0x1B5 0x810 (([0x818, 0x820, 0x828, 0x830, 0x838].map (fun o => d.ctr 0x1B5 o)).sum + d.outstanding)

/-- The swept counters and the GEN counters take their last carried values (R176, R535). -/
def Device.loadCounters (d : Device) : Device :=
  forEach (d.mru.sweptCtrs ++ d.mru.genCtrs) (fun p d => d.setCtr (p.1 / 0x1000) (p.1 % 0x1000) p.2) d

/-- CMD_ACCEPTED is loaded with the completions counted and the commands outstanding, so that R298 holds on the new active device (DESIGN CHOICE, log
entry 36). -/
def Device.balanceAccepted (d : Device) : Device :=
  d.setCtr 0x001 0x900 (([0x908, 0x910, 0x918, 0x920].map (fun o => d.ctr 0x001 o)).sum + d.svc.cmds.length + d.hif.held.length)

/-- The items whose settle points have passed, in settle-point order: channel, tree frame and item (R543). -/
def Device.settled (d : Device) (t : Nat) : List (Nat × Nat × Nat) :=
  let l := d.fret.slots.flatMap (fun p =>
    if p.2.st ≠ .inFlight then []
    else (List.range p.2.items.length).filterMap (fun i => (p.2.items[i]?).bind (fun it =>
      let w := wordsPerFrame p.2.rate
      let x := d.settleX (p.1 / 8) p.2 it
      if it.done.isNone ∧ x ≤ (t : Int) * w then some (x.toNat * 1000 / w, p.1 / 8, p.2.frame, i) else none)))
  (sortBy (fun e : Nat × Nat × Nat × Nat => e.1) l).map (·.2)

/-- Post the UNMAPPED records of the bursts kept in an unmapped span (R542). -/
def Device.postKept (d : Device) : Device :=
  let mine := d.bursts.kept.filter (fun k => k.ended && d.inUnmapped k.chan k.x.stamp)
  let d := forEach mine (fun k d => d.postUnmapped k.chan k.x.stamp k.x.term k.unc k.words) d
  { d with bursts := { d.bursts with kept := d.bursts.kept.filter (fun k => !mine.contains k) } }

/-- A completion of the failed device goes to its slot (R547). -/
def Device.rewrite (x : Cpl) (d : Device) : Device :=
  if d.hostUp then (d.wr (HIF.CQ_PI x.cq) x.slot).writeCpl x else { d with hif := { d.hif with held := d.hif.held ++ [x] } }

/-- A command that the failed device had accepted, and whose commit the last applied epoch does not hold, completes as SWITCHOVER in its own slot (R56). -/
def Device.switchCarried (c : Cmd) (d : Device) : Device :=
  d.rewrite ⟨c.cq, c.cqSlot, d.cplWords c stSwitchover d.now false (Cmd.handle c) 0 0⟩

/-- A descriptor after the carried CR_CI completes as SWITCHOVER (R56, R547). -/
def Device.switchOne (x : Nat × List Nat) (p : Nat × Device) : Nat × Device :=
  let d := p.2
  let r := x.1 % 16
  if d.rd (HIF.CR_CI r) = d.rd (HIF.CR_PI r) ∨ !d.cqFree r then p
  else
    let q := d.rd (HIF.CR_CQ r)
    let ws := (List.range 16).map (fun i => wordAt x.2 i % 2 ^ 32)
    let c : Cmd := { seq := 0, stamp := d.now, ring := r, slot := d.rd (HIF.CR_CI r) % 2 ^ d.rd (HIF.CR_SIZE_LOG2 r), cq := q,
                     cqSlot := Tbl.getD d.svc.reserved q 0, words := ws }
    let y : Cpl := ⟨q, c.cqSlot, d.cplWords c stSwitchover d.now false (Cmd.handle c) 0 0⟩
    let d := { d with svc := { d.svc with reserved := Tbl.put 0 d.svc.reserved q ((c.cqSlot + 1) % 65536) } }
    (p.1 + 1, (d.wr (HIF.CR_CI r) (d.rd (HIF.CR_CI r) + 1)).rewrite y)

/-- The commands of the failed device in compatibility mode (R547): the number of SWITCHOVER completions. -/
def Device.recoverCmds (ds : List (Nat × List Nat)) (d : Device) : Nat × Device :=
  if !d.on MRU.COMPAT then (0, d)
  else
    let d := forEach (List.range 16) (fun r d => match Tbl.get? d.mru.crIdx r with | some v => d.wr (HIF.CR_CI r) v | none => d) d
    let res := (List.range 16).foldl (fun t q => match Tbl.get? d.mru.crIdx (16 + q) with | some v => Tbl.put 0 t q v | none => t) d.svc.reserved
    let d := { d with svc := { d.svc with reserved := res } }
    let d := forEach (d.mru.carried.filter (fun p => decide (d.mru.hdrPosted < p.1))) (fun p d => d.rewrite p.2) d
    let d := forEach d.mru.cutOff Device.switchCarried d
    ds.foldl (fun p x => Device.switchOne x p) (d.mru.cutOff.length, d)

/-- The takeover at T, in the order of R535. -/
def Device.takeover (t : Nat) (ds : List (Nat × List Nat)) (d : Device) : Device :=
  let cause := b2n d.mru.releaseSeen
  let le := d.rd MRU.LEASE_END_FRAME
  let loss := (d.mru.sweptDepths.map (·.2)).sum
  let (sw, d) := d.loadCounters.recoverCmds ds
  let d := d.holdCapo cause le loss sw
  let d := (forEach (List.range 64) Device.freeze d).shiftItems.dropRanging
  let d := { d with era := d.era + 1 }
  let d := d.balanceSealed.balanceAccepted.count mruPage 0x8B0 loss
  let m := d.mru
  let fr := d.fret
  let tr := d.traffic
  let d := { d with mru := { m with sweptDepths := [], sweptCtrs := [], carried := [], cutOff := [] }, fret := { fr with took := true, firstOwn := [] },
                    traffic := { tr with deficits := [], termBuckets := [], rounds := [],
                                         shapers := tr.shapers.map (fun (p : Nat × Shaper) => (p.1, { p.2 with bucket := ⟨bucketMax p.2.burst, t, none⟩ })),
                                         gates := tr.gates.map (fun (p : Nat × GateList) => (p.1, GateList.turned p.2 t)) } }
  forEach (d.settled t) (fun x d => grantRecordPost t x.1 x.2.1 x.2.2 {} d) d.postKept

/-- CAPO_TAKEOVER (R535): T has come. `ds` are the descriptors the new active device finds (R547): ring and words; `renewed` tells that a renewal's
receipt is stamped at this instant, which moves T (R37). -/
def capoTakeover (t : Nat) (ds : List (Nat × List Nat)) (renewed : Bool) (d : Device) : Device :=
  match d.mru.end_ with
  | none => d
  | some e =>
    if d.rd MRU.ROLE ≠ 2 ∨ t < e + d.mru.margin * 125000 ∨ (renewed = true ∧ t = e + d.mru.margin * 125000) ∨ d.mru.blocked then d
    else if d.ready && d.on MRU.AUTO_TAKEOVER then d.takeover t ds
    else ({ d with mru := { d.mru with blocked := true } }).count mruPage 0x890 1

/-- CLAIM (R537): a write of CLAIM. -/
def claim (t : Nat) (m : Master) (v : Bool) (d : Device) : Device :=
  d.asMaster m .k1 mruPage (fun d =>
    if !v || d.on MRU.CLAIM then d
    else if !d.on MRU.PAIR_EN ∧ d.rd MRU.ROLE ≠ 1 then
      ({ d with mru := { d.mru with claimEnd := some (d.frame + 1) } }).wr MRU.CLAIM 1
    else if d.rd MRU.ROLE = 0 then
      let k := if t % 125000 ≤ 5000 then d.frame else d.frame + 1
      let e := k + d.rdA MRU.LEASE_FRAMES + d.rdA MRU.MARGIN_FRAMES
      (({ d with mru := { d.mru with claimEnd := some e } }).wr MRU.CLAIM 1).wr MRU.CLAIMING 1
    else d.count mruPage 0x8A0 1)

/-- CLAIM_END (R537): a claim has run its frames, and the Capo is taken at the frame boundary. -/
def claimEnd (t : Nat) (d : Device) : Device :=
  match d.mru.claimEnd with
  | some f =>
    if t < f * 125000 then d
    else
      let d := ((({ d with mru := { d.mru with claimEnd := none } }).wr MRU.CLAIM 0).wr MRU.CLAIMING 0)
      d.holdCapo 2 (d.rd MRU.LEASE_END_FRAME) 0 0
  | none => d

/-- COLD_START (R539): a write of COLD_START. The items it takes off the Fretboard leave GEN_GRANTS_SEALED with them, so that R174 holds on the IDLE
device (DESIGN CHOICE, log entry 87). -/
def coldStart (_t : Nat) (m : Master) (v : Bool) (d : Device) : Device :=
  d.asMaster m .k1 mruPage (fun d =>
    if !v then d
    else if d.capo then d.refuse mruPage
    else
      let (_, d) := d.freeQueues
      let d := d.setTables {}
      let mr := d.mru
      let fr := d.fret
      let d := { d with fret := { fr with took := false, firstOwn := [] },
                        mru := { mr with end_ := none, fenceAt := none, releasing := false, resynced := false, applied := none, sweptCtrs := [],
                                         sweptDepths := [], genCtrs := [], carried := [], cutOff := [], crIdx := [], blocked := false } }
      ((d.wr MRU.ROLE 0).wr MRU.RESYNC 0).balanceSealed)

/-- A write of RELEASE = 1 by software or by the HIF (R540, R627). -/
def Device.askRelease (d : Device) : Device :=
  if d.rd MRU.ROLE = 1 ∧ d.on MRU.PAIR_EN ∧ d.on MRU.PARTNER_READY ∧ d.mru.fenceAt = none ∧ ¬ d.mru.releasing then d.wr MRU.RELEASE 1
  else d.count mruPage 0x8A8 1

/-- RELEASE (R540): a write of RELEASE. -/
def release (_t : Nat) (m : Master) (v : Bool) (d : Device) : Device :=
  d.asMaster m .k1 mruPage (fun d => if v then d.askRelease else d)

/-- FORCE_FENCE (R540): a write of FORCE_FENCE. -/
def forceFence (_t : Nat) (m : Master) (v : Bool) (d : Device) : Device :=
  d.asMaster m .k1 mruPage (fun d => d.wr MRU.FORCE_FENCE (b2n v))

/-- MIRROR_EN (R527, R513): a write of MIRROR_EN. A device without the Capo keeps no log, and its write needs no pool. -/
def mirrorEn (_t : Nat) (m : Master) (v : Bool) (d : Device) : Device :=
  d.asMaster m .k1 mruPage (fun d =>
    if v = d.on MRU.MIRROR_EN then d
    else if v then
      if d.capo then
        match d.logPool with
        | none => d.refuse mruPage
        | some i =>
          let d := (d.wr MRU.MIRROR_EN 1).takeLog i
          { d with mru := { d.mru with prev := d.tables } }
      else d.wr MRU.MIRROR_EN 1
    else (((d.dropLog.wr MRU.MIRROR_EN 0).wr MRU.SP_UP 0).wr MRU.RESYNC 0).wr MRU.REPLAYING 0)

/-- SOUNDPOST_TRAINING_COMPLETE (R513). -/
def soundpostTrainingComplete (_t : Nat) (d : Device) : Device := if d.on MRU.MIRROR_EN then d.wr MRU.SP_UP 1 else d

/-- SOUNDPOST_LINK_DOWN (R513). -/
def soundpostLinkDown (_t : Nat) (d : Device) : Device := d.wr MRU.SP_UP 0

end Sys2Proof.Machine
end

