-- ==== Sys2Proof/Machine/Trust.lean ====
section
/-!
DEFINITION. Boot, fuses, measurements, attestation and debug unlock (chapter 17).
-/

namespace Sys2Proof.Machine

/-- The page of the SEC. -/
def secPage : Nat := 0x002

/-- The bytes of words. -/
def wordBytes (ws : List Nat) : List Nat := ws.flatMap (toBytesLE 4)

/-- Extend measurement register `n` by a digest (R581). -/
def Device.extend (n : Nat) (digest : List Nat) (d : Device) : Device :=
  { d with sec := { d.sec with meas := d.sec.meas.set n (sha256 (d.sec.meas.getD n [] ++ digest)) } }

/-! ### The image and the boot (R575, R576) -/

def Image.word (x : Image) (i : Nat) : Nat := wordAt x.words i % 2 ^ 32
def Image.wordsAt (x : Image) (i n : Nat) : List Nat := (List.range n).map (fun j => Image.word x (i + j))
def Image.version (x : Image) : Nat := if x.readable then Image.word x 2 else 0
def Image.sections (x : Image) : Nat := Image.word x 5
def Image.pubkey (x : Image) : List Nat := wordBytes (Image.wordsAt x 8 15)
def Image.header (x : Image) : List Nat := wordBytes (Image.wordsAt x 0 256)
def Image.sec (x : Image) (e i : Nat) : Nat := Image.word x (32 + 12 * e + i)
def Image.digest (x : Image) (e : Nat) : List Nat := wordBytes (Image.wordsAt x (32 + 12 * e + 4) 8)

/-- Whether a section of the image lies where it may (R575). -/
def Image.sectionOk (x : Image) (e : Nat) : Bool :=
  let off := Image.sec x e 0
  let addr := Image.sec x e 1
  let len := Image.sec x e 2
  let role := Image.sec x e 3
  decide (0x2400 ≤ off) && decide (off + len ≤ 2 ^ 24) && decide (addr + len ≤ 2 ^ 24) && decide (role < 8)
    && (if bit role 0 then decide (addr + len ≤ 0x200000) else decide (0x200000 ≤ addr))

/-- Whether the layout rules hold (R575). -/
def Image.layoutOk (x : Image) : Bool :=
  let n := Image.sections x
  let es := List.range n
  let free := [7] ++ (List.range 9).map (· + 23) ++ (List.range (224 - 12 * n)).map (· + (32 + 12 * n))
  decide (1 ≤ n ∧ n ≤ 16) && decide (Image.word x 3 < 64 ∧ Image.word x 4 < 4) && free.all (fun i => decide (Image.word x i = 0))
    && es.all (Image.sectionOk x) && decide ((es.map (fun e => Image.sec x e 2)).sum ≤ 12 * 2 ^ 20)
    && decide (Image.word x 6 = es.foldl (fun m e => max m (Image.sec x e 0 + Image.sec x e 2)) 0) && decide (Image.word x 256 ≤ 8188)

/-- The failure code of a slot, 0 for none (R576, R589). -/
def Device.bootCheck (d : Device) (x : Image) : Nat :=
  let slot := Image.word x 4
  if !x.readable then 1
  else if Image.word x 0 ≠ 0x46657272 ∨ Image.word x 1 ≠ 1 then 2
  else if !Image.layoutOk x then 3
  else if d.fuses.rootState.getD slot 0 ≠ 1 then 4
  else if sha256 (Image.pubkey x) ≠ d.fuses.rootHash.getD slot [] then 5
  else if Image.word x 3 < d.fuses.svn then 6
  else if !Config.verify (Image.pubkey x) (Image.header x) ((wordBytes (Image.wordsAt x 257 2047)).take (Image.word x 256)) then 7
  else if (List.range (Image.sections x)).any (fun e => decide (x.found.getD e [] ≠ Image.digest x e)) then 8
  else 0

/-- The image of slot `b` runs (R576, R581). -/
def Device.runImage (b : Bool) (x : Image) (d : Device) : Device :=
  let es := List.range (Image.sections x)
  let d := (d.extend 0 (Config.romDigest (d.fuses.rootState ++ [d.fuses.svn, d.fuses.policy]))).extend 1 (sha256 (Image.header x))
  let d := forEach es (fun e d => d.extend 2 (Image.digest x e)) d
  let secs := es.map (fun e => ({ addr := Image.sec x e 1, length := Image.sec x e 2, digest := Image.digest x e } : Section))
  let d := { d with sec := { d.sec with sections := secs } }
  ((((d.wr SEC.BOOT_STATE 2).wr SEC.BOOT_SLOT (b2n b)).wr SEC.ROOT_SLOT_USED (Image.word x 4)).wr SEC.IMAGE_VERSION (Image.word x 2)).wr
    SEC.IMAGE_SVN (Image.word x 3)

/-- Try a slot: its failure is written to its error field. -/
def Device.trySlot (b : Bool) (x : Image) (d : Device) : Device :=
  let e := d.bootCheck x
  if e = 0 then d.runImage b x else d.wr (if b then SEC.BOOT_ERROR_B else SEC.BOOT_ERROR_A) e

/-- BOOT (R576): the keeper core verifies, loads and measures one of the slots `a` and `b`, or fails. -/
def boot (_t : Nat) (a b : Image) (d : Device) : Device :=
  if d.rd SEC.BOOT_STATE ≠ 0 then d
  else
    let bFirst := decide (Image.version a < Image.version b)
    let d := if bFirst then d.trySlot true b else d.trySlot false a
    let d := if d.rd SEC.BOOT_STATE = 2 then d else (if bFirst then d.trySlot false a else d.trySlot true b)
    if d.rd SEC.BOOT_STATE = 2 then d else d.wr SEC.BOOT_STATE 3

/-! ### Fuse burns (R573, R577, R578, R604) -/

/-- The first waiting burn starts where it may (R573, R607); FUSE_BUSY is 1 while one runs. -/
def Device.startBurn (d : Device) : Device := if d.sec.burns ≠ [] ∧ d.mayBurn then d.wr SEC.FUSE_BUSY 1 else d

/-- Ask for a burn; burns are served one at a time (R587). -/
def Device.askBurn (x : Burn) (d : Device) : Device :=
  Device.startBurn { d with sec := { d.sec with burns := d.sec.burns ++ [x] } }

/-- The lowest leaf block from `b` whose bit is 0 (R583). -/
def Device.freeBlock (d : Device) (b : Nat) : Option Nat := ((List.range 1024).filter (fun i => decide (b ≤ i))).find? (fun i => !d.fuses.leaf.contains i)

/-- An attestation request ends with a status. -/
def Device.attestEnds (status : Nat) (d : Device) : Device :=
  let d := { d with sec := { d.sec with signing := none } }
  ((d.wr SEC.ATTEST_GO 0).wr SEC.ATTEST_BUSY 0).wr SEC.ATTEST_STATUS status

/-- The next leaf of the held block signs the report (R583). -/
def Device.takeLeaf (d : Device) : Device :=
  let n := d.sec.next
  ({ d with sec := { d.sec with signing := some n, next := n + 1 } }).wr SEC.NEXT_LEAF (n + 1)

/-- Reserve the lowest free block from `b`, or end as EXHAUSTED (R583). -/
def Device.reserve (b : Nat) (d : Device) : Device :=
  match d.freeBlock b with
  | some i => d.askBurn (.leaf i false)
  | none => d.attestEnds 2

/-- What a burn that is done, or that read back 0 twice, leads to. -/
def Device.burned (x : Burn) (ok : Bool) (d : Device) : Device :=
  let fs := d.fuses
  let d := d.countIf (!ok) secPage 0x820
  match x with
  | .leaf b _ =>
    let d := if ok then ({ d with fuses := { fs with leaf := fs.leaf ++ [b] } }).count secPage 0x818 1 else d
    if !d.on SEC.ATTEST_BUSY then d
    else if ok then ({ d with sec := { d.sec with held := some b, next := 1024 * b } }).takeLeaf
    else d.reserve (b + 1)
  | .revoke s _ =>
    let d := if ok then { d with fuses := { fs with rootState := fs.rootState.set s 3 } } else d
    d.wr SEC.REVOKE_GO 0
  | .svn n _ =>
    let d := if ok then { d with fuses := { fs with svn := max fs.svn n } } else d
    d.wr SEC.SVN_GO 0
  | .repair e _ => if ok then ({ d with fuses := { fs with repair := fs.repair ++ [e] } }).count 0x006 0x848 1 else d

/-- The same burn once more. -/
def Burn.retry : Burn → Option Burn
  | .leaf b false => some (.leaf b true)
  | .revoke s false => some (.revoke s true)
  | .svn n false => some (.svn n true)
  | .repair e false => some (.repair e true)
  | _ => none

/-- FUSE_BURN_COMPLETE (R573, R583, R587, R607): the burn in progress ends and reads back 1 or 0. One that an alarm stopped and
that reads 0 waits to burn again. -/
def fuseBurnComplete (_t : Nat) (ok : Bool) (d : Device) : Device :=
  match d.sec.burns with
  | [] => d
  | x :: r =>
    if !d.on SEC.FUSE_BUSY then d
    else
      let d := d.wr SEC.FUSE_BUSY 0
      let again := if ok then none else if d.mayBurn then Burn.retry x else some x
      match again with
      | some y => Device.startBurn { d with sec := { d.sec with burns := y :: r } }
      | none => (({ d with sec := { d.sec with burns := r } }).burned x ok).startBurn

/-- REVOKE_GO (R578): a write of REVOKE_GO. -/
def revokeGo (_t : Nat) (m : Master) (v : Bool) (d : Device) : Device :=
  d.asMaster m .k2 secPage (fun d =>
    if !v || d.on SEC.REVOKE_GO then d
    else
      let s := d.rd SEC.REVOKE_SLOT
      let others := (List.range 3).any (fun i => decide (i ≠ s) && decide (d.fuses.rootState.getD i 0 = 1))
      if 3 ≤ s ∨ !others ∨ (d.rd SEC.BOOT_STATE = 2 ∧ s = d.rd SEC.ROOT_SLOT_USED) then d.count secPage 0x838 1
      else if !d.mayBurn then d
      else (d.wr SEC.REVOKE_GO 1).askBurn (.revoke s false))

/-- SVN_GO (R577): a write of SVN_GO. -/
def svnGo (_t : Nat) (m : Master) (v : Bool) (d : Device) : Device :=
  d.asMaster m .k2 secPage (fun d =>
    if !v || d.on SEC.SVN_GO then d
    else
      let n := d.rd SEC.SVN_RAISE_TO
      if d.rd SEC.IMAGE_SVN < n then d.count secPage 0x838 1
      else if !d.mayBurn ∨ n ≤ d.fuses.svn then d
      else (d.wr SEC.SVN_GO 1).askBurn (.svn n false))

/-! ### Attestation (R582 to R584) -/

/-- ATTEST_GO (R583, R587): a write of ATTEST_GO. -/
def attestGo (_t : Nat) (m : Master) (v : Bool) (d : Device) : Device :=
  d.asMaster m .k1 secPage (fun d =>
    if d.on SEC.ATTEST_BUSY then d.lockedWrite secPage
    else if !v then d
    else
      let d := (d.wr SEC.ATTEST_GO 1).wr SEC.ATTEST_BUSY 1
      if d.rd SEC.DEBUG_LEVEL = 2 then d.attestEnds 3
      else match d.sec.held with
        | some b => if d.sec.next < 1024 * (b + 1) then d.takeLeaf else d.reserve 0
        | none => d.reserve 0)

/-- Words w0 to w95 of a report signed with `leaf` (R584). -/
def Device.reportBody (d : Device) (leaf : Nat) : List Nat :=
  [1, d.fuses.serial % 2 ^ 32, d.fuses.serial / 2 ^ 32, 0xB001, d.rd SEC.IMAGE_VERSION, d.rd SEC.IMAGE_SVN + d.fuses.svn * 2 ^ 8,
   d.rd SEC.ROOT_SLOT_USED + d.rd SEC.DEBUG_LEVEL * 4 + d.rd MRU.ROLE * 16 + b2n d.capo * 64, leaf, d.now % 2 ^ 32, d.now / 2 ^ 32 % 2 ^ 32, 0, 0]
    ++ (List.range 8).map (fun i => Tbl.getD d.sec.input i 0)
    ++ d.sec.meas.flatMap (fun m => (List.range 8).map (fun i => ((List.range 4).map (fun j => m.getD (4 * i + j) 0 * 2 ^ (8 * j))).sum))
    ++ List.replicate 12 0

/-- ATTEST_REPORT_READY (R583): the report is signed. -/
def attestReportReady (_t : Nat) (d : Device) : Device :=
  match d.sec.signing with
  | none => d
  | some leaf =>
    let body := d.reportBody leaf
    let sg := Config.sign d.fuses.uds leaf body
    let d := { d with sec := { d.sec with report := body ++ (List.range 1269).map (fun i => wordAt sg i % 2 ^ 32) } }
    (d.attestEnds 1).count secPage 0x810 1

/-! ### Debug unlock (R585, R586) -/

/-- The words of the challenge in force. -/
def Device.challenge (d : Device) : List Nat := (List.range 8).map (fun i => Config.challengeWord d.sec.challenge i % 2 ^ 32)

/-- Debug access opens at level `l` (R586). -/
def Device.unlock (l : Nat) (token : List Nat) (d : Device) : Device :=
  let d := d.count secPage 0x828 1
  if l = 0 then d
  else
    let d := ((d.eraseKeys 0x8A0).extend 3 (Config.tokenDigest l token)).wr CPE.DEBUG_OPEN 1
    let d := d.wr SEC.DEBUG_LEVEL (max l (d.rd SEC.DEBUG_LEVEL))
    if l < 2 then d
    else
      let secs := d.sec.sections.filter (fun s => decide (0x200000 ≤ s.addr))
      let d := ({ d with sec := { d.sec with sections := secs, held := none, next := 0 } }).wr SEC.NEXT_LEAF 0
      if d.on SEC.ATTEST_BUSY then d.attestEnds 4 else d

/-- DEBUG_GO (R585): a write of DEBUG_GO; the token of window 1 asks for `level`. -/
def debugGo (_t : Nat) (m : Master) (v : Bool) (level : Nat) (d : Device) : Device :=
  d.asMaster m .k1 secPage (fun d =>
    if !v then d
    else
      let token := (List.range 2048).map (fun i => Tbl.getD d.sec.input i 0)
      let msg := wordBytes d.challenge ++ toBytesLE 8 d.fuses.serial ++ [level]
      let ok := (List.range 3).any (fun i => decide (d.fuses.rootState.getD i 0 = 1) && Config.verifyToken (d.fuses.rootHash.getD i []) msg token)
      let d := if !ok || decide (d.fuses.policy < level) then d.count secPage 0x830 1 else d.unlock level token
      { d with sec := { d.sec with challenge := d.sec.challenge + 1 } })

end Sys2Proof.Machine
end

