-- ==== Sys2Proof/Machine/Spares.lean ====
section
/-!
DEFINITION. Spares and wear (chapter 18): wear indicators, exchanges, copies, the repair map, and what happens when a
kind runs out.
-/

namespace Sys2Proof.Machine

/-- The page of the SPM. -/
def spmPage : Nat := 0x006

/-! ### Units (R592, R604) -/

/-- The key of a unit. A DFE slice's unit is 16 x lane + slice. -/
def unitKey (kind u : Nat) : Nat := kind * 2 ^ 20 + u

/-- The spares that may replace a unit, lowest first (R592). -/
def sparesFor (kind u : Nat) : List Nat :=
  if kind = 1 then [32, 33, 34, 35] else if kind = 2 then [32, 33] else if kind = 3 then [8]
  else if kind = 4 then [34 * (u / 34) + 32, 34 * (u / 34) + 33] else if kind = 5 then [64, 65]
  else if kind = 6 then [32] else if kind = 7 then [32] else if kind = 8 then [3 * (u / 3) + 2]
  else if kind = 9 then (if u / 16 < 64 then [16 * (u / 16) + 12, 16 * (u / 16) + 13] else [16 * (u / 16) + 8, 16 * (u / 16) + 9])
  else []

/-- Whether a unit is in service at first boot. -/
def baseUnit (kind u : Nat) : Bool :=
  if kind = 1 ∨ kind = 2 ∨ kind = 6 ∨ kind = 7 then decide (u < 32) else if kind = 3 then decide (u < 8)
  else if kind = 4 then decide (u < 272 ∧ u % 34 < 32) else if kind = 5 then decide (u < 64)
  else if kind = 8 then decide (u < 96 ∧ u % 3 < 2)
  else if kind = 9 then decide (u / 16 < 320) && (if u / 16 < 64 then decide (u % 16 < 12) else decide (u % 16 < 8)) else false

/-- Whether a unit is in service. -/
def Device.inService (d : Device) (kind u : Nat) : Bool :=
  (baseUnit kind u || d.spm.brought.contains (unitKey kind u)) && !d.spm.retired.contains (unitKey kind u)

/-- The lowest-numbered spare for a unit that was never brought in. -/
def Device.spareFor (d : Device) (kind u : Nat) : Option Nat :=
  (sparesFor kind u).find? (fun x => !d.spm.brought.contains (unitKey kind x))

/-- A repair map entry (R604). -/
def repairEntry (kind u x : Nat) : Nat :=
  if kind = 9 then kind * 2 ^ 28 + (u / 16) * 2 ^ 14 + (u % 16) * 2 ^ 8 + x % 16 else kind * 2 ^ 28 + u * 2 ^ 14 + x

/-- Bring a spare in. -/
def Device.bring (kind x : Nat) (d : Device) : Device := { d with spm := { d.spm with brought := d.spm.brought ++ [unitKey kind x] } }

/-- Take a unit out of service. -/
def Device.retire (kind u : Nat) (d : Device) : Device := { d with spm := { d.spm with retired := d.spm.retired ++ [unitKey kind u] } }

/-- Whether a worn unit of a kind may be exchanged now (R595, R608). -/
def Device.mayExchange (d : Device) (kind : Nat) : Bool :=
  d.on SPM.SPM_EN && decide (Tbl.get? d.spm.lastExch kind ≠ some d.frame)

/-- Note that an exchange of a kind started. -/
def Device.started (kind : Nat) (d : Device) : Device := { d with spm := { d.spm with lastExch := Tbl.set d.spm.lastExch kind d.frame } }

/-- Record an exchange: its counters and its repair map entry, or a full map (R604, R611). A failed unit's exchange starts now (R595). -/
def Device.recordExchange (kind u x : Nat) (failed : Bool) (d : Device) : Device :=
  let waits := (d.sec.burns.filter (fun b => match b with | .repair _ _ => true | _ => false)).length
  let d := (d.count spmPage 0x810 1).countIf failed spmPage 0x818
  let d := if failed then d.started kind else d
  if 256 ≤ d.fuses.repair.length + waits then (d.wr SPM.MAP_FULL 1).count spmPage 0x850 1
  else d.askBurn (.repair (repairEntry kind u x) false)

/-- A worn unit finds no spare (R606): counted once. -/
def Device.noSpare (kind u : Nat) (d : Device) : Device :=
  if d.spm.seen.contains (unitKey kind u) then d
  else
    let d := { d with spm := { d.spm with seen := unitKey kind u :: d.spm.seen } }
    (d.wr SPM.EXHAUSTED (d.rd SPM.EXHAUSTED ||| 2 ^ (kind - 1))).count spmPage 0x830 1

/-! ### Slices (R594, R596, R606) -/

/-- Write a staged field in both copies. -/
def Device.wrBoth (f : Fld) (v : Nat) (d : Device) : Device :=
  let d := d.wr f v
  { d with regs := Tbl.put f.reset d.regs (fkeyA f) (v % 2 ^ f.width) }

/-- Move the spread entries that name slice `s`, each to the slice `dest` names for it (R327, R596). `dest` counts the entries moved
so far. An entry in force on `s` moves in both copies, one that only its shadow names there in the shadow (DEDUCED, log entry 81). -/
def Device.moveSpread (s : Nat) (dest : Nat → Nat) (d : Device) : Device :=
  ((List.range 256).foldl (fun (p : Nat × Device) e =>
    let f := spreadField e
    if p.2.rdA f = s then
      let d := p.2.wrBoth f (dest p.1)
      (p.1 + 1, d.leaveSlice e s)
    else if p.2.rd f = s then (p.1 + 1, p.2.wr f (dest p.1))
    else p) (0, d)).2

/-- The quarter degrees above 85 of slice `s`'s sensor (R269, R594). -/
def Device.overHot (d : Device) (s : Nat) : Nat := (d.pow.temps.getD s 0 - 340).toNat

/-- Whether the pace of spare slice `x` is at least its rating: that of R329 at the voltage in force, derated above 85 degrees (R596). -/
def Device.rated (d : Device) (x pace : Nat) : Bool :=
  decide (Config.ratedPace (d.rd PTM.VCORE_MV) * (4096 - 2 * d.overHot x) ≤ 4096 * pace)

/-- The wear ratio of a slice is below its threshold (R593, R594): the mean of its pace over the last PACE_AVG_FRAMES
publications against its fused reference, derated above 85 degrees. -/
def Device.sliceWorn (d : Device) (s : Nat) : Bool :=
  let n := d.rdA SPM.PACE_AVG_FRAMES
  let h := d.spm.paceHist.take n
  decide (h.length = n) &&
    decide (100 * 4096 * (h.map (fun p => p.getD s 0)).sum
      < (100 - d.rdA SPM.PACE_WEAR_PCT) * Config.paceRef s (d.rd PTM.VCORE_MV) * (4096 - 2 * d.overHot s) * n)

/-- WEAR_CHECK (R594, R596): at a publication the pace joins the history, and the lowest worn slice gets a spare whose pace reads
`pace` at least its rating. -/
def Device.wearCheck (pace : Nat) (d : Device) : Device :=
  let h := (d.pow.pace :: d.spm.paceHist).take 65535
  let d := { d with spm := { d.spm with paceHist := h } }
  let worn := d.slices.filter (fun s => d.sliceWorn s && !d.spm.exch.any (fun x => x.slice = s))
  let well := (d.slices.filter (fun s => !d.sliceWorn s)).map (unitKey 1)
  let d := { d with spm := { d.spm with seen := d.spm.seen.filter (fun k => !well.contains k) } }
  match (sortBy id worn).head? with
    | none => d
    | some s =>
      match d.spareFor 1 s with
      | none => forEach worn (Device.noSpare 1) d
      | some x =>
        if !d.mayExchange 1 || !d.rated x pace then d
        else
          let d := (d.bring 1 x).started 1
          ({ d with spm := { d.spm with exch := d.spm.exch ++ [(⟨s, x, d.frame + 9⟩ : Exch)] } }).wr SPM.EXCHANGING 1

/-- ENVELOPE_PUBLICATION (R277 to R281, R594): `watts` is the regulator's telemetry, `pace` the pace of the slice powered for an
exchange. -/
def envelopePublication (_t watts pace : Nat) (d : Device) : Device := publish watts (d.wearCheck pace)

/-- EXCHANGING is 1 while an exchange runs. -/
def Device.exchanging (d : Device) : Device := d.wr SPM.EXCHANGING (b2n (!d.spm.exch.isEmpty || !d.spm.copies.isEmpty))

/-- SLICE_EXCHANGE (R596): the exchange frame of slice `s` has come. -/
def sliceExchange (t s : Nat) (d : Device) : Device :=
  match d.spm.exch.find? (fun x => x.slice = s) with
  | none => d
  | some x =>
    if t < x.frame * 125000 then d
    else
      let d := { d with spm := { d.spm with exch := d.spm.exch.filter (fun y => y.slice ≠ s) }, slices := d.slices.map (fun z => if z = s then x.spare else z) }
      (((d.moveSpread s (fun _ => x.spare)).retire 1 s).recordExchange 1 s x.spare false).exchanging

/-- The packets of a failed slice's FIFO are dropped (R596, R603). -/
def Device.dropFifo (s : Nat) (d : Device) : Device :=
  forEach (d.fifo s) (fun n d =>
    match d.pkt? n with
    | some x => ((d.dropPkt n).traceFate x.tagged 5 false).count spmPage 0x820 1
    | none => d) d

/-- A slice fails (R596, R606). -/
def Device.failSlice (s : Nat) (d : Device) : Device :=
  let powered := d.spm.exch.find? (fun y => y.slice = s)
  let d := { d with spm := { d.spm with exch := d.spm.exch.filter (fun y => y.slice ≠ s ∧ y.spare ≠ s) } }
  let was := d.slices.contains s
  let d := (d.dropFifo s).retire 1 s
  if !was then d.exchanging
  else match (powered.map (·.spare)).or (d.spareFor 1 s) with
  | some x =>
    let d := { d with slices := d.slices.map (fun z => if z = s then x else z) }
    ((((d.when powered.isNone (Device.bring 1 x)).moveSpread s (fun _ => x)).recordExchange 1 s x true).exchanging)
  | none =>
    let rest := d.slices.filter (· ≠ s)
    let order := sortBy id rest
    let d := { d with slices := rest }
    if rest = [] then d else (d.moveSpread s (fun i => order.getD (i % order.length) 0)).exchanging

/-! ### AES lanes (R372, R597) -/

/-- The LANE_MAP entry of slots s with s mod 32 = e. -/
def laneField (e : Nat) : Fld :=
  if e % 4 = 0 then CPE.LANE_MAP0 (e / 4) else if e % 4 = 1 then CPE.LANE_MAP1 (e / 4)
  else if e % 4 = 2 then CPE.LANE_MAP2 (e / 4) else CPE.LANE_MAP3 (e / 4)

/-- Rewrite the LANE_MAP entries that name a lane (log entry 81). -/
def Device.moveLane (l : Nat) (dest : Nat → Nat) (d : Device) : Device :=
  ((List.range 32).foldl (fun (p : Nat × Device) e =>
    let f := laneField e
    if p.2.rdA f = l then (p.1 + 1, p.2.wrBoth f (dest p.1)) else if p.2.rd f = l then (p.1 + 1, p.2.wr f (dest p.1)) else p) (0, d)).2

/-- AES_LANE_EXCHANGE (R597): worn lane `l` goes at a packet boundary. -/
def aesLaneExchange (_t l : Nat) (d : Device) : Device :=
  if !d.inService 2 l || !d.mayExchange 2 then d
  else match d.spareFor 2 l with
    | none => d.noSpare 2 l
    | some x => ((((d.bring 2 x).retire 2 l).moveLane l (fun _ => x)).recordExchange 2 l x false).started 2

/-- The lane that serves key slot `s` (R372). -/
def Device.laneOf (d : Device) (s : Nat) : Nat := d.rdA (laneField (s % 32))

/-- The upstream packets in decryption on a lane, by number: no more than 64 frames (R603). -/
def Device.inLane (d : Device) (l : Nat) : List Nat :=
  ((d.pkt.pkts.filter (fun e => e.2.needTag && e.2.tag.isNone && !e.2.erased && e.2.keySlot.any (fun s => decide (d.laneOf s = l)))).map (·.1)).take 64

/-- A lane fails (R603, R606): the frames on it are dropped as at erasure, upstream ones with status VOID; `lost` downstream ones were in encryption. -/
def Device.failLane (l lost : Nat) (d : Device) : Device :=
  let up := d.inLane l
  let n := min 64 (up.length + lost)
  let p := d.pkt
  let d := { d with pkt := { p with pkts := p.pkts.map (fun (e : Nat × Pkt) => if up.contains e.1 then (e.1, { e.2 with erased := true }) else e) } }
  let d := ((d.retire 2 l).count 0x1B4 0x860 n).count spmPage 0x820 n
  match d.spareFor 2 l with
  | some x => ((d.bring 2 x).moveLane l (fun _ => x)).recordExchange 2 l x true
  | none =>
    let rest := (List.range 34).filter (fun y => d.inService 2 y)
    if rest = [] then d else d.moveLane l (fun i => rest.getD (i % rest.length) 0)

/-! ### Memory regions (R391, R593, R598) -/

/-- The index of R391 of a unit of kinds 4 to 6. -/
def regionIdx (kind u : Nat) : Nat := if kind = 4 then u else if kind = 5 then 272 + u else 338 + u

/-- The logical region that a physical one serves. -/
def Device.logicalOf (d : Device) (r : Nat) : Nat :=
  match d.cells.region.find? (fun e => e.2 = r) with
  | some e => e.1
  | none => r

/-- Map a logical region to the spare that takes the place of `r`. -/
def Device.remap (r x : Nat) (d : Device) : Device :=
  { d with cells := { d.cells with region := Tbl.set d.cells.region (d.logicalOf r) x } }

/-- A region of a worn unit has had too many corrected reads in the last hour (R593). -/
def Device.regionWorn (d : Device) (kind u : Nat) : Bool :=
  let lim := if kind = 4 then d.rdA SPM.DRAM_CE_PER_HOUR else d.rdA SPM.SRAM_CE_PER_HOUR
  let n := ((Tbl.getD d.cells.ceTimes (regionIdx kind u) []).filter (fun x => decide (d.now < x + 3600000000000))).length
  decide (lim ≠ 0) && (decide (kind = 7) || decide (lim < n))

/-- REGION_COPY_START (R598): worn unit `u` of kind 4 to 7 begins copying to its spare. -/
def regionCopyStart (_t kind u : Nat) (d : Device) : Device :=
  if kind < 4 ∨ 7 < kind ∨ !d.inService kind u ∨ !d.mayExchange kind ∨ !d.regionWorn kind u ∨ d.spm.copies.any (fun c => c.kind = kind && c.unit = u) then d
  else match d.spareFor kind u with
    | none => d.noSpare kind u
    | some x =>
      let d := (d.bring kind x).started kind
      (({ d with spm := { d.spm with copies := d.spm.copies ++ [({ kind := kind, unit := u, spare := x } : Copy)] } }).wr SPM.COPYING 1).exchanging

/-- COPYING is 1 while a copy runs. -/
def Device.copying (d : Device) : Device := d.wr SPM.COPYING (b2n (d.spm.copies.any (fun c => c.ended.isNone)))

/-- REGION_COPY_COMPLETE (R598). -/
def regionCopyComplete (t kind u : Nat) (d : Device) : Device :=
  let cs := d.spm.copies.map (fun c => if c.kind = kind ∧ c.unit = u ∧ c.ended.isNone then { c with ended := some t } else c)
  ({ d with spm := { d.spm with copies := cs } }).copying

/-- REGION_REMAP (R598): at the first device frame boundary after the copy, the logical region maps to the spare. -/
def regionRemap (_t kind u : Nat) (d : Device) : Device :=
  match d.spm.copies.find? (fun c => decide (c.kind = kind) && decide (c.unit = u)) with
  | none => d
  | some c =>
    match c.ended with
    | none => d
    | some e =>
      if d.frame ≤ frameOf e then d
      else
        let d := { d with spm := { d.spm with copies := d.spm.copies.filter (fun y => !(decide (y.kind = kind) && decide (y.unit = u))) } }
        let d := if kind = 7 then d else d.remap (regionIdx kind u) (regionIdx kind c.spare)
        (((d.retire kind u).recordExchange kind u c.spare false).copying).exchanging

/-- The free chain of a logical cell region: one bank or pseudo-channel holds one chain whole (R383, R402). -/
def regionChain (r : Nat) : Nat := if r < 272 then 64 + r / 34 + 8 * (r % 34) else r - 272

/-- The contents of a cell region are lost (R389, R405, R598): they read as poisoned and its free chain is cut. -/
def Device.voidRegion (l : Nat) (d : Device) : Device :=
  let dram := decide (l < 272)
  let k := regionChain l
  let n := FreeChain.count dram (d.chain k)
  let d := (d.setChain k { stack := [], taken := chainLen dram }).loseCells dram n
  ({ d with cells := { d.cells with voided := Tbl.set d.cells.voided l [] } }).count spmPage 0x828 n

/-- A memory region fails (R598, R603, R606). `queues` are the queues whose entries a failed table bank held. -/
def Device.failRegion (kind u : Nat) (queues : List Nat) (d : Device) : Device :=
  let copy := d.spm.copies.find? (fun c => decide (c.kind = kind) && decide (c.unit = u))
  let l := d.logicalOf (regionIdx kind u)
  let d := { d with spm := { d.spm with copies := d.spm.copies.filter (fun c => !(decide (c.kind = kind) && decide (c.unit = u))) } }
  let d := (d.copying.exchanging).retire kind u
  let d := if kind = 4 ∨ kind = 5 then d.voidRegion l else if kind = 6 then forEach queues Device.cutQueue d else d
  let spare := match copy with | some c => some c.spare | none => d.spareFor kind u
  match spare with
  | none => d
  | some x =>
    let d := if copy.isSome then d else d.bring kind x
    let d := if kind = 7 then d else { d with cells := { d.cells with region := Tbl.set d.cells.region l (regionIdx kind x) } }
    d.recordExchange kind u x true

/-- ROW_REPAIR (R599): a DRAM row of stack `n` has had `reads` corrected reads within an hour and is repaired from ROW_CE_LIMIT on; `left`
tells that its die has a spare row. -/
def rowRepair (_t _n reads : Nat) (left : Bool) (d : Device) : Device :=
  d.countIf (left && decide (d.rdA SPM.ROW_CE_LIMIT ≤ reads)) spmPage 0x838

/-! ### PLLs and DFE slices (R600, R601) -/

/-- The lanes of a PLL's domain are disturbed (R600). -/
def Device.disturbPll (dom : Nat) (d : Device) : Device :=
  if dom < 16 then
    forEach (List.range 4) (fun i d =>
      let p := 4 * dom + i
      if d.portOn p ∧ buTrain ≤ d.rdPort NPC.BRINGUP p then (d.portFalls p).startTraining p else d) d
  else forEach (List.range 16) (fun i d =>
    let c := 16 * (dom - 16) + i
    d.setCfr c { d.cfr c with skipNext := true }) d

/-- A PLL is exchanged. -/
def Device.exchangePll (u : Nat) (failed : Bool) (d : Device) : Device :=
  match d.spareFor 8 u with
  | some x => ((((d.bring 8 x).retire 8 u).disturbPll (u / 3)).recordExchange 8 u x failed)
  | none =>
    if failed then
      let d := (d.retire 8 u).disturbPll (u / 3)
      { d with spm := { d.spm with dead := d.spm.dead ++ [u / 3] } }
    else d.noSpare 8 u

/-- PENDING names the lowest worn PLL that awaits approval. -/
def Device.showPending (d : Device) : Device :=
  match (sortBy id d.spm.wornPlls).head? with
  | some u => ((d.wr SPM.PENDING 1).wr SPM.PENDING_KIND 8).wr SPM.PENDING_UNIT u
  | none => ((d.wr SPM.PENDING 0).wr SPM.PENDING_KIND 0).wr SPM.PENDING_UNIT 0

/-- Exchange the pending PLL where it may be (R595, R600, R608). -/
def Device.pllDue (d : Device) : Device :=
  if d.on SPM.PENDING && (d.on SPM.APPROVE || d.on SPM.AUTO_PLL) && d.mayExchange 8 then
    let u := d.rd SPM.PENDING_UNIT
    let d := { d with spm := { d.spm with wornPlls := d.spm.wornPlls.filter (· ≠ u) } }
    (((d.exchangePll u false).started 8).wr SPM.APPROVE 0).showPending
  else d

/-- PLL_WORN (R593, R600): the control code of PLL `u` comes within 5 % of its range end. -/
def pllWorn (_t u : Nat) (d : Device) : Device :=
  if !d.inService 8 u || d.spm.wornPlls.contains u then d
  else if (d.spareFor 8 u).isNone then d.noSpare 8 u
  else ({ d with spm := { d.spm with wornPlls := u :: d.spm.wornPlls } }).showPending.pllDue

/-- APPROVE (R600): a write of APPROVE. -/
def approve (_t : Nat) (m : Master) (v : Bool) (d : Device) : Device :=
  d.asMaster m .k1 spmPage (fun d => (d.wr SPM.APPROVE (b2n v)).pllDue)

/-- Swap a DFE slice; on a network lane `unc` codewords, at most 2, are uncorrectable (R601). -/
def Device.swapDfe (u unc : Nat) (failed : Bool) (d : Device) : Device :=
  match d.spareFor 9 u with
  | none => if failed then d else d.noSpare 9 u
  | some x =>
    let d := (((d.bring 9 x).retire 9 u).recordExchange 9 u x failed).count spmPage 0x840 1
    if u / 16 < 64 then d.countNet (u / 16) 0x40 (min 2 unc) else d

/-- Whether the eye of a network lane has been too small for EYE_HOLD_MS (R593). -/
def Device.eyeWorn (d : Device) (lane : Nat) : Bool :=
  match Tbl.get? d.spm.eyeBad lane with
  | some s => decide (s + d.rdA SPM.EYE_HOLD_MS * 1000000 ≤ d.now)
  | none => false

/-- DFE_SWAP (R601): worn slice `u` of a lane is swapped. -/
def dfeSwap (_t lane s unc : Nat) (d : Device) : Device :=
  let u := 16 * lane + s
  if !d.inService 9 u || !d.mayExchange 9 || (decide (lane < 64) && !d.eyeWorn lane) then d else (d.swapDfe u unc false).started 9

/-- EYE_MEASURE (R463, R593): a lane measures and reports its eye margin. -/
def eyeMeasure (t lane v h : Nat) (d : Device) : Device :=
  let d := d.setEye lane v h
  let bad := decide (v < d.rdA SPM.EYE_V_MIN_MV) || decide (h < d.rdA SPM.EYE_H_MIN)
  let tbl := if !bad then Tbl.erase d.spm.eyeBad lane
    else match Tbl.get? d.spm.eyeBad lane with
      | some _ => d.spm.eyeBad
      | none => Tbl.set d.spm.eyeBad lane t
  { d with spm := { d.spm with eyeBad := tbl } }

/-! ### Failures (R595, R602, R606) -/

/-- Whether core `n` is the keeper: the lowest-numbered good one (R579). -/
def Device.isKeeper (d : Device) (n : Nat) : Bool :=
  decide (((List.range 9).find? (fun i => d.inService 3 i)) = some n)

/-- A normal core fails and its role restarts on the spare (R602). -/
def Device.failCore (n : Nat) (d : Device) : Device :=
  if d.isKeeper n then d
  else match d.spareFor 3 n with
    | some x => ((d.bring 3 x).retire 3 n).recordExchange 3 n x true
    | none => d.retire 3 n

/-- UNIT_FAILURE (R595): unit `u` of a kind fails and is exchanged at once. -/
def unitFailure (_t kind u lost : Nat) (queues : List Nat) (d : Device) : Device :=
  if !d.inService kind u then d
  else if kind = 1 then d.failSlice u
  else if kind = 2 then d.failLane u lost
  else if kind = 3 then d.failCore u
  else if kind ≤ 7 then d.failRegion kind u queues
  else if kind = 8 then
    let d := { d with spm := { d.spm with wornPlls := d.spm.wornPlls.filter (· ≠ u) } }
    (d.exchangePll u true).showPending
  else d.swapDfe u lost true

/-! ### The repair map at reset (R605) -/

/-- The unit that a repair map entry takes out of service, and the spare that it brings in (R604). -/
def repairUnit (e : Nat) : Nat := if e / 2 ^ 28 = 9 then 16 * bits e 14 14 + bits e 8 6 else bits e 14 14
def repairSpare (e : Nat) : Nat := if e / 2 ^ 28 = 9 then 16 * bits e 14 14 + e % 256 else e % 2 ^ 14

/-- Apply one entry of the repair map. -/
def Device.applyRepair (e : Nat) (d : Device) : Device :=
  let kind := e / 2 ^ 28
  let u := repairUnit e
  let x := repairSpare e
  let d := (d.bring kind x).retire kind u
  if kind = 1 then (({ d with slices := d.slices.map (fun z => if z = u then x else z) }).moveSpread u (fun _ => x)).setCtr 0x1B3 0x878 0
  else if kind = 2 then d.moveLane u (fun _ => x)
  else if kind = 4 ∨ kind = 5 ∨ kind = 6 then d.remap (regionIdx kind u) (regionIdx kind x)
  else d

end Sys2Proof.Machine
end

