-- ==== Sys2Proof/Machine/Flags.lean ====
section
/-!
DEFINITION. What the registers show: the live fields (class L) that the hardware drives from its state, the header's PAGE_STATE
and the counter watches, page interrupts, and the MSI-X vectors they keep live.
-/

namespace Sys2Proof.Machine

/-! ### The fields of a page (R58, R59, R82) -/

def PG.HEAD_ID (p : Nat) : Fld := ⟨p, 0x000, 0, 32, .L, .open, 0⟩
def PG.HEAD_CAP (p : Nat) : Fld := ⟨p, 0x004, 0, 32, .L, .open, 0⟩
def PG.HEAD_STATE (p : Nat) : Fld := ⟨p, 0x008, 0, 32, .L, .open, 0⟩
def PG.SELECT (p n : Nat) : Fld := ⟨p, 0x3C0 + 16 * n, 0, 7, .D, .k1, 0⟩
def PG.THRESH_LO (p n : Nat) : Fld := ⟨p, 0x3C8 + 16 * n, 0, 32, .D, .k1, 0xFFFFFFFF⟩
def PG.THRESH_HI (p n : Nat) : Fld := ⟨p, 0x3CC + 16 * n, 0, 32, .D, .k1, 0xFFFFFFFF⟩

/-- The registers of a window (R84); its data words are held apart. -/
def PG.WIN_ADDR (p w : Nat) : Fld := ⟨p, 0xC00 + 256 * w, 0, 32, .D, .k1, 0⟩
def PG.GO (p w : Nat) : Fld := ⟨p, 0xC04 + 256 * w, 0, 1, .H, .k1, 0⟩
def PG.OP (p w : Nat) : Fld := ⟨p, 0xC04 + 256 * w, 1, 2, .D, .k1, 0⟩
def PG.WORDS (p w : Nat) : Fld := ⟨p, 0xC04 + 256 * w, 4, 5, .D, .k1, 0⟩
def PG.WIN_BUSY (p w : Nat) : Fld := ⟨p, 0xC08 + 256 * w, 0, 1, .L, .open, 0⟩
def PG.LAST_FAILED (p w : Nat) : Fld := ⟨p, 0xC08 + 256 * w, 1, 1, .L, .open, 0⟩
def PG.WIN_DATA (p w i : Nat) : Fld := ⟨p, 0xC40 + 256 * w + 4 * i, 0, 32, .D, .k1, 0⟩

/-- The header fields and counter watches that stand at an offset below 0x400, and the window registers. -/
def frameFields (p off : Nat) : List Fld :=
  if off = 0x00C then [PG.IRQ_ENABLE p]
  else if off = 0x010 then [PG.BOUNDARY_COUNT p, PG.APPLY_COUNT p, PG.STAGE_PENDING p]
  else if off = 0x014 then
    (if (pageInfo p).staged = 0 then [] else [PG.ARM p]) ++ (if 0x040 ≤ p ∧ p < 0x080 then [PG.HOLD p] else [])
  else if off = 0x018 then [PG.WRITE_LOST p]
  else if 0x3C0 ≤ off ∧ off < 0x400 then
    let n := (off - 0x3C0) / 16
    if off % 16 = 0 then [PG.SELECT p n] else if off % 16 = 8 then [PG.THRESH_LO p n] else if off % 16 = 12 then [PG.THRESH_HI p n] else []
  else if 0xC00 ≤ off then
    let w := (off - 0xC00) / 256
    let o := (off - 0xC00) % 256
    if (pageInfo p).windows ≤ w then []
    else if o = 0 then [PG.WIN_ADDR p w]
    else if o = 4 then [PG.GO p w, PG.OP p w, PG.WORDS p w]
    else if o = 8 then [PG.WIN_BUSY p w, PG.LAST_FAILED p w]
    else if 0x40 ≤ o ∧ o < 0xC0 then [PG.WIN_DATA p w ((o - 0x40) / 4)]
    else []
  else []

/-- The fields of a block's own registers at an offset. -/
def blockFields (p off : Nat) : List Fld :=
  if p = 0x000 then DEV.fieldsAt off
  else if p = 0x001 then HIF.fieldsAt off
  else if p = 0x002 then SEC.fieldsAt off
  else if p = 0x003 then PTM.fieldsAt off
  else if p = 0x004 then TMU.fieldsAt off
  else if p = 0x005 then MRU.fieldsAt off
  else if p = 0x006 then SPM.fieldsAt off
  else if p = 0x007 then MON.fieldsAt off
  else if p < 0x040 then []
  else if p < 0x080 then TPE.fieldsAt (p - 0x040) off
  else if p < 0x180 then CH.fieldsAt (p - 0x080) off
  else if p < 0x190 then NPC.fieldsAt (p - 0x180) off
  else if p = 0x190 then FLX.fieldsAt off
  else if 0x1A0 ≤ p ∧ p < 0x1A8 then SKC.fieldsAt (p - 0x1A0) off
  else if p = 0x1B0 then BPM.fieldsAt off
  else if p = 0x1B1 then QMG.fieldsAt off
  else if p = 0x1B2 then TMG.fieldsAt off
  else if p = 0x1B3 then PCL.fieldsAt off
  else if p = 0x1B4 then CPE.fieldsAt off
  else if p = 0x1B5 then GEN.fieldsAt off
  else if p = 0x1B6 then RGU.fieldsAt off
  else []

/-- Every field of the word at an offset of a populated page, shadows at 0x400 and above among them. -/
def fieldsOf (p off : Nat) : List Fld := if populated p then frameFields p off ++ blockFields p off else []

/-! ### Live fields -/

/-- Live fields of a tree port (R125). -/
def Device.liveTpe (d : Device) (t off lo : Nat) : Option Nat :=
  if off ≠ 0x28 then none
  else if lo = 0 then some (b2n ((List.range 4).any (fun w => (d.cfr (4 * t + w)).sending)))
  else if lo = 1 then some (b2n ((List.range 4).any (fun w => (d.cfr (4 * t + w)).fenceIdle)))
  else if lo = 2 then some (b2n (decide (3 * 4194304 < 4 * d.groupHeld (t / 4))))
  else none

/-- Live fields of a channel (R130). -/
def Device.liveCh (d : Device) (c off lo : Nat) : Option Nat :=
  if off ≠ 0x24 then none
  else
    let x := d.cfr c
    if lo = 0 then some (b2n x.sending)
    else if lo = 1 then some (b2n (!x.sending))
    else if lo = 2 then some (b2n x.fenceIdle)
    else if lo = 3 then some (b2n (decide (x.ploamQ.length = 64)))
    else if lo = 4 then some (b2n (d.drained c))
    else none

/-- Live fields of GEN (R184, R137). -/
def Device.liveGen (d : Device) (off lo : Nat) : Option Nat :=
  if off = 0x24 then
    if lo = 0 then some (b2n (d.on GEN.GEN_EN && (List.range 256).any (fun c => d.on (CH.CH_EN c) && d.on (TPE.TREE_EN (treeOf c)))))
    else if lo = 1 then some (b2n (d.on PTM.EMERGENCY))
    else if lo = 3 then some (b2n (decide (d.ringCount = 65536)))
    else if lo = 4 then some (b2n (decide (d.ringCount ≠ 0)))
    else none
  else if off = 0x28 then some (d.outstanding % 2 ^ 20)
  else if 0x100 ≤ off ∧ off < 0x200 ∧ lo = 20 then some (horizonOf (d.upfDelay ((off - 0x100) / 4)) % 16)
  else none

/-- The unconsumed entries of the discovery list. -/
def Device.discCount (d : Device) : Nat := unread (d.rd RGU.DISC_PRODUCED) (d.rd RGU.DISC_CONSUMED) 1024

/-- The defects of a terminal shown: suppression of R260 applied. -/
def Device.anyDefect (d : Device) : Bool := d.rng.terms.any (fun e => decide (d.defectsOf e.1 ≠ 0))

/-- Live fields of the RGU (R253, R266). -/
def Device.liveRgu (d : Device) (off lo : Nat) : Option Nat :=
  if 0x200 ≤ off ∧ off < 0x300 ∧ lo < 21 then
    let t := (off - 0x200) / 4
    if d.on (RGU.APPLIED t) then none
    else match d.commonOffset t with
      | some c => some (if lo = 0 then unsign 20 c else 1)
      | none => some 0
  else if off ≠ 0x24 then none
  else if lo = 0 then some (b2n d.anyDefect)
  else if lo = 1 then some (b2n (decide (d.discCount ≠ 0)))
  else if lo = 2 then some (b2n (decide (d.discCount = 512)))
  else none

/-- Whether an enabled punt channel has no free buffer (R320). -/
def Device.puntStarved (d : Device) : Bool :=
  (List.range 4).any (fun p => d.on (HIF.PC_EN p) && decide (d.rd (HIF.FB_PI p) = d.rd (HIF.FB_CI p)))

/-- Live fields of the HIF (R320, R630). -/
def Device.liveHif (d : Device) (off lo : Nat) : Option Nat :=
  if off = 0x24 ∧ lo = 3 then some (b2n (!d.hif.held.isEmpty))
  else if off = 0x30 then some d.hif.held.length
  else if off = 0x244 then
    if lo = 0 then some (d.svc.cmds.length + d.hif.held.length)
    else if lo = 13 then some (b2n d.cqStalled)
    else if lo = 14 then some (b2n d.puntStarved)
    else none
  else none

/-- Whether a packet waits for its old slice (R327). -/
def Device.spreadMoving (d : Device) : Bool :=
  d.pkt.pkts.any (fun e => (Pkt.inSlice e.2).any (fun s => d.spreadWaits d.now s e.2))

/-- Live fields of the PCL (R352). -/
def Device.livePcl (d : Device) (off lo : Nat) : Option Nat :=
  if off ≠ 0x24 then none
  else if lo = 0 then some (b2n ((List.range 36).any (fun s => decide (512 ≤ (d.fifo s).length))))
  else if lo = 1 then some (b2n d.spreadMoving)
  else none

/-- Live fields of the CPE (R368, R379). -/
def Device.liveCpe (d : Device) (off lo : Nat) : Option Nat :=
  if off ≠ 0x24 then none
  else if lo = 0 then some (b2n (d.svc.keys.any (fun e => e.2.rekey)))
  else if lo = 1 then some (b2n (d.svc.keys.any (fun e => e.2.hard)))
  else if lo = 2 then some (b2n (decide (d.now < d.svc.erasingTo)))
  else none

/-- The unconsumed entries of the free fault log. -/
def Device.flogCount (d : Device) : Nat := unread (d.rd BPM.FLOG_PRODUCED) (d.rd BPM.FLOG_CONSUMED) 2048

/-- Live fields of the BPM (R415, R397). -/
def Device.liveBpm (d : Device) (off lo : Nat) : Option Nat :=
  if off = 0x24 then
    if lo = 0 then some (b2n (decide (d.flogCount ≠ 0)))
    else if lo = 1 then some (b2n (decide (d.flogCount = 1024)))
    else if lo = 2 then some (b2n (d.cells.pools.any (fun e => d.poolBp e.2)))
    else if lo = 3 then some (b2n (!d.cells.waiters.isEmpty))
    else if lo = 4 then some (b2n (!d.cells.clearing.isEmpty))
    else none
  else if off = 0x28 then some (d.shared false % 2 ^ 21)
  else if off = 0x2C then some (d.shared true / 64 % 2 ^ 28)
  else none

/-- Live fields of the QMG (R418). -/
def Device.liveQmg (d : Device) (off lo : Nat) : Option Nat :=
  if off = 0x24 then
    if lo = 0 then some (b2n (d.cells.queues.any (fun e => e.2.flush)))
    else if lo = 1 then some (b2n (d.cells.queues.any (fun e => e.2.cut)))
    else none
  else if off = 0x28 then some d.cells.queues.length
  else none

/-- Whether a queue holds a packet placed in its RT pool (R446). -/
def Device.rtActive (d : Device) : Bool :=
  d.cells.queues.any (fun e =>
    decide (e.2.rtPool ≠ 0) && (d.packetsFrom e.2.pkts e.2.head).any (fun p =>
      decide (Tbl.get? d.cells.bufPool p ≠ none) && decide (Tbl.get? d.cells.bufPool p = d.poolOf e.2.rtPool)))

/-- The ports that exist: 64 network ports and the FlexE clients. -/
def portNumbers : List Nat := List.range 256

/-- Whether a filled LAG slot names a queue of a down port (R435). -/
def Device.lagDegraded (d : Device) : Bool :=
  d.traffic.lag.any (fun e =>
    match (d.queueIdx e.2).bind d.queue? with
    | some q => decide (64 ≤ d.queueRoot q) && !d.portUp (d.queueRoot q - 64)
    | none => false)

/-- Live fields of the TMG (R452). -/
def Device.liveTmg (d : Device) (off lo : Nat) : Option Nat :=
  if off ≠ 0x24 then none
  else if lo = 0 then some (b2n (d.traffic.gates.any (fun e => decide (e.2.st = .scheduled))))
  else if lo = 1 then some (b2n d.rtActive)
  else if lo = 2 then some (b2n (portNumbers.any (fun p => d.portConfigured p && !d.portUp p)))
  else if lo = 3 then some (b2n d.lagDegraded)
  else none

/-- Live fields of the FlexE page (R489). -/
def Device.liveFlx (d : Device) (off lo : Nat) : Option Nat :=
  if off ≠ 0x24 then none
  else if lo = 0 then some (b2n (d.net.groups.any (fun e => e.2.en && d.groupDown e.1)))
  else if lo = 1 then some (b2n (d.net.groups.any (fun e => e.2.calReq)))
  else none

/-- Live fields of the TMU (R510). -/
def Device.liveTmu (d : Device) (off lo : Nat) : Option Nat :=
  if off = 0x24 then
    if lo = 1 then some (b2n d.timeLocked)
    else if lo = 4 then some (b2n (decide (d.rd TMU.EVT_PRODUCED ≠ d.rd TMU.EVT_CONSUMED)))
    else if lo = 5 then some (b2n (decide (d.rd TMU.TXS_PRODUCED ≠ d.rd TMU.TXS_CONSUMED)))
    else none
  else if off = 0x30 then some (d.now % 2 ^ 32)
  else if off = 0x34 then some (d.now / 2 ^ 32 % 2 ^ 32)
  else none

/-- Live fields of the MRU (R550). -/
def Device.liveMru (d : Device) (off lo : Nat) : Option Nat :=
  if off = 0x24 then
    if lo = 3 then some (b2n d.ready) else if lo = 7 then some (b2n d.pinsOk) else none
  else if off = 0x38 then some (min d.lag 65535)
  else none

/-- Live fields of the MON (R571). -/
def Device.liveMon (d : Device) (off lo : Nat) : Option Nat :=
  if off ≠ 0x24 then none
  else if lo = 0 then some (b2n (decide (d.traceCount ≠ 0)))
  else if lo = 1 then some (b2n (decide (d.traceCount = 4096)))
  else none

/-- Live fields of the SPM (R604, R609): a map of 256 entries is full. -/
def Device.liveSpm (d : Device) (off lo : Nat) : Option Nat :=
  if off = 0x24 ∧ lo = 3 ∧ 256 ≤ d.fuses.repair.length then some 1 else none

/-- Live fields of the SEC (R589), read from the fuses. -/
def Device.liveSec (d : Device) (off lo : Nat) : Option Nat :=
  if off = 0x24 ∧ lo = 12 then some (d.fuses.rootState.getD 0 0 + 4 * d.fuses.rootState.getD 1 0 + 16 * d.fuses.rootState.getD 2 0)
  else if off = 0x30 ∧ lo = 8 then some d.fuses.svn
  else if off = 0x34 then some d.fuses.leaf.length
  else none

/-- What the hardware drives into a field of class L from its state, or into a measurement: the lock of a quad's reference and PLL
(R485) and a stack's mean read latency (R416), which are free. -/
def Device.live (d : Device) (f : Fld) : Option Nat :=
  let p := f.page
  if p = 0x001 then d.liveHif f.off f.lo
  else if p = 0x002 then d.liveSec f.off f.lo
  else if p = 0x004 then d.liveTmu f.off f.lo
  else if p = 0x005 then d.liveMru f.off f.lo
  else if p = 0x006 then d.liveSpm f.off f.lo
  else if p = 0x007 then d.liveMon f.off f.lo
  else if p < 0x040 then none
  else if p < 0x080 then d.liveTpe (p - 0x040) f.off f.lo
  else if p < 0x180 then d.liveCh (p - 0x080) f.off f.lo
  else if p < 0x190 then
    if f.off = 0x24 then some (Config.measured (fkey f) d.now % 2) else none
  else if p = 0x190 then d.liveFlx f.off f.lo
  else if p < 0x1B0 then
    if f.off ≠ 0x28 then none
    else if f.lo = 16 then some (if d.frame = 0 then 0 else Config.measured (fkey f) d.frame % 65536)
    else if f.lo = 0 then some (unsign 8 (d.pow.temps.getD (64 + (p - 0x1A0)) 0 / 4))
    else none
  else if p = 0x1B0 then d.liveBpm f.off f.lo
  else if p = 0x1B1 then d.liveQmg f.off f.lo
  else if p = 0x1B2 then d.liveTmg f.off f.lo
  else if p = 0x1B3 then d.livePcl f.off f.lo
  else if p = 0x1B4 then d.liveCpe f.off f.lo
  else if p = 0x1B5 then d.liveGen f.off f.lo
  else if p = 0x1B6 then d.liveRgu f.off f.lo
  else none

/-- A field as it reads now. -/
def Device.show (d : Device) (f : Fld) : Nat := (d.live f).getD (d.rd f)

/-- Whether a live field of one bit is 1. -/
def Device.lit (d : Device) (f : Fld) : Bool := decide (d.show f = 1)

/-- The word the fields at an offset make. -/
def Device.word (d : Device) (fs : List Fld) : Nat := (fs.map (fun f => d.show f * 2 ^ f.lo)).sum

/-! ### PAGE_STATE, interrupts and vectors (R59, R60, R83, R619, R620) -/

/-- Whether counter watch `n` of page `p` is live (R83). -/
def Device.watch (d : Device) (p n : Nat) : Bool :=
  decide (d.rd (PG.THRESH_LO p n) + 2 ^ 32 * d.rd (PG.THRESH_HI p n) ≤ d.ctr p (0x800 + 8 * d.rd (PG.SELECT p n)))

/-- The low bits of the status word of a page. -/
def Device.statusBits (d : Device) (p n : Nat) : Nat := d.word (blockFields p 0x24) % 2 ^ n

/-- PAGE_STATE.SOURCE of a page, as the block's chapter gives it. -/
def Device.source (d : Device) (p : Nat) : Nat :=
  if p = 0x000 then b2n (decide (d.vlogCount ≠ 0)) + 2 * b2n (decide (d.vlogCount = 4096))
  else if p = 0x001 then d.statusBits p 4 + 2 ^ 8 * b2n d.cqStalled + 2 ^ 9 * b2n d.puntStarved
  else if p = 0x002 then
    b2n (decide (d.rd SEC.BOOT_STATE = 3)) + 2 * b2n (decide (d.rd SEC.ATTEST_STATUS = 1)) + 4 * b2n (decide (d.rd SEC.DEBUG_LEVEL ≠ 0))
  else if p = 0x003 ∨ p = 0x004 then d.statusBits p 6
  else if p = 0x005 then d.statusBits p 11
  else if p = 0x006 then d.statusBits p 13
  else if p = 0x007 then d.statusBits p 2
  else if p < 0x040 then 0
  else if p < 0x080 then d.word (blockFields p 0x28) % 2 ^ 3
  else if p < 0x180 then d.statusBits p 5 + 2 ^ 5 * (d.word (blockFields p 0x104) % 2 ^ 4)
  else if p < 0x190 then
    let q := p - 0x180
    ((List.range 4).map (fun s => d.rd (NPC.UP q s) * 2 ^ s + b2n (decide (d.rd (NPC.DEFECTS q s) ≠ 0)) * 2 ^ (4 + s))).sum
  else if p = 0x190 ∨ p = 0x1B1 ∨ p = 0x1B3 then d.statusBits p 2
  else if p < 0x1B0 ∨ p = 0x1B6 then d.statusBits p 3
  else if p = 0x1B0 ∨ p = 0x1B5 then d.statusBits p 5
  else d.statusBits p 4

/-- PAGE_STATE (R59). -/
def Device.pageState (d : Device) (p : Nat) : Nat :=
  d.source p + ((List.range 4).map (fun n => b2n (d.watch p n) * 2 ^ (28 + n))).sum

/-- Whether a page asserts its interrupt (R60). -/
def Device.pageIrq (d : Device) (p : Nat) : Bool :=
  decide (d.rd (PG.IRQ_ENABLE p) ≠ 0) && decide (d.pageState p &&& d.rd (PG.IRQ_ENABLE p) ≠ 0)

/-- Whether a vector is live: any of its sources is (R619, R620). -/
def Device.vectorLive (d : Device) (v : Nat) : Bool :=
  d.hif.irq.any (fun e => bit e.2 31 && decide (e.2 % 2048 = v) && d.pageIrq e.1)
    || (List.range 4).any (fun n =>
      (decide (d.rd (HIF.CQ_VECTOR n) = v) && decide (d.rd (HIF.CQ_PI n) ≠ d.rd (HIF.CQ_CI n)))
        || (decide (d.rd (HIF.PC_VECTOR n) = v) && decide (d.rd (HIF.PR_PI n) ≠ d.rd (HIF.PR_CI n)))
        || (decide (d.rd (HIF.IC_VECTOR n) = v) && decide (d.rd (HIF.ICQ_PI n) ≠ d.rd (HIF.ICQ_CI n))))

end Sys2Proof.Machine
end

