-- ==== Sys2Proof/Machine/Usb.lean ====
section
/-!
DEFINITION. The USB4 host attachment (chapter 19): the link and the loss and return of the host, function level reset, MSI-X
vectors, and the ends of DMA reads and writes.
-/

namespace Sys2Proof.Machine

/-- The page of the HIF. -/
def hifPage : Nat := 0x001

/-! ### MSI-X (R619, R620) -/

/-- Whether a message for vector `v` can go out: it is not masked and the host is there. -/
def Device.vectorOpen (d : Device) (v : Nat) : Bool := d.hif.unmasked.contains v && d.hostUp

/-- Send the message of vector `v`, or hold it as pending (R620). -/
def Device.message (v : Nat) (d : Device) : Device :=
  let pend := d.hif.pendingMsix.filter (· ≠ v)
  let told := Tbl.set d.hif.told v d.now
  if d.vectorOpen v then
    (({ d with hif := { d.hif with pendingMsix := pend, told := told } }).emit (.msix v)).count hifPage 0x838 1
  else ({ d with hif := { d.hif with pendingMsix := v :: pend, told := told } }).count hifPage 0x840 1

/-- A vector that is no longer live may become live again. -/
def Device.quietVectors (d : Device) : Device :=
  if d.hif.told.isEmpty then d
  else { d with hif := { d.hif with told := d.hif.told.filter (fun e => d.vectorLive e.1) } }

/-- MSIX_SEND (R620): vector `v` becomes live. -/
def msixSend (_t v : Nat) (d : Device) : Device :=
  if d.vectorLive v && (Tbl.get? d.hif.told v).isNone then d.message v else d

/-- MSIX_REPEAT (R620): IRQ_REPEAT_US passes with vector `v` still live. -/
def msixRepeat (t v : Nat) (d : Device) : Device :=
  let us := d.rd HIF.IRQ_REPEAT_US
  match Tbl.get? d.hif.told v with
  | none => d
  | some s => if us ≠ 0 ∧ d.vectorLive v ∧ s + us * 1000 ≤ t then d.message v else d

/-- A pending message goes out where its vector is open and still live, and is dropped where it is not live. -/
def Device.releasePending (v : Nat) (d : Device) : Device :=
  if !d.hif.pendingMsix.contains v || !d.vectorOpen v then d
  else if d.vectorLive v then d.message v
  else { d with hif := { d.hif with pendingMsix := d.hif.pendingMsix.filter (· ≠ v) } }

/-- MSIX_UNMASK (R620): the host writes the mask bit of vector `v`; `mask` false unmasks it. -/
def msixUnmask (_t v : Nat) (mask : Bool) (d : Device) : Device :=
  let l := d.hif.unmasked.filter (· ≠ v)
  if mask then { d with hif := { d.hif with unmasked := l } }
  else ({ d with hif := { d.hif with unmasked := v :: l } }).releasePending v

/-! ### The loss and return of the host (R625 to R627) -/

/-- Held completions are written in order; one whose ring is not enabled is discarded (R626). -/
def Device.writeHeld (d : Device) : Device :=
  let held := d.hif.held
  forEach held (fun x d => if d.on (HIF.CQ_EN x.cq) then d.writeCpl x else d.count hifPage 0x828 1)
    { d with hif := { d.hif with held := [] } }

/-- The writes issued in the 2 µs before the loss are written again (R626). -/
def Device.writeAgain (d : Device) : Device :=
  match d.hif.lossAt with
  | none => d
  | some a => forEach (d.hif.recent.filter (fun e => decide (a ≤ e.1 + 2000) && decide (e.1 ≤ a))) (fun e d => d.emit e.2) d

/-- The host returns. -/
def Device.hostReturns (d : Device) : Device :=
  let d := d.writeAgain.writeHeld
  let d := { d with hif := { d.hif with lossAt := none, released := false } }
  forEach d.hif.pendingMsix Device.releasePending d

/-- The host is lost. -/
def Device.hostLost (d : Device) : Device :=
  ({ d with hif := { d.hif with lossAt := some d.now, released := false } }).count hifPage 0x810 1

/-- A change of the link, the tunnel or Bus Master Enable, and what it makes of the host. -/
def Device.hostChange (f : Device → Device) (d : Device) : Device :=
  let e := f d
  if d.hostUp && !e.hostUp then e.hostLost else if !d.hostUp && e.hostUp then e.hostReturns else e

/-- USB4_LINK_CHANGE (R613, R614, R625): the link is up at generation `gen` or down, and the tunnel set up or not. -/
def usb4LinkChange (_t : Nat) (link tunnel : Bool) (gen : Nat) (d : Device) : Device :=
  if link && (gen < 2 || 4 < gen) then d
  else d.hostChange (fun d =>
    let fell := link && !d.on HIF.LINK_UP && decide (gen < 4)
    (((d.countIf fell hifPage 0x848).wr HIF.LINK_UP (b2n link)).wr HIF.TUNNEL_UP (b2n (link && tunnel))).wr HIF.LINK_GEN (if link then gen else 0))

/-- BUS_MASTER_ENABLE_CHANGE (R617, R625). -/
def busMasterEnableChange (_t : Nat) (v : Bool) (d : Device) : Device := d.hostChange (·.wr HIF.BUS_MASTER (b2n v))

/-- HOST_LOSS_TIMEOUT (R627): the loss has lasted HOST_LOSS_MS. -/
def hostLossTimeout (t : Nat) (d : Device) : Device :=
  match d.hif.lossAt with
  | none => d
  | some a =>
    if d.on HIF.HOST_LOSS_RELEASE && !d.hif.released && decide (a + d.rd HIF.HOST_LOSS_MS * 1000000 ≤ t) then
      ({ d with hif := { d.hif with released := true } }).askRelease
    else d

/-! ### Function level reset (R618) -/

/-- The completion ring number of a command whose ring an FLR took away. -/
def noRing : Nat := 4

/-- FUNCTION_LEVEL_RESET (R618): of PF0, or of PF1, whose configuration space the model does not hold. A completion of a command
accepted before is discarded when it comes. -/
def functionLevelReset (_t : Nat) (pf1 : Bool) (d : Device) : Device :=
  if pf1 then d
  else
    let lo := hifPage * 0x8000 + 0x100 * 8
    let hi := hifPage * 0x8000 + 0x380 * 8
    let sv := d.svc
    let hf := d.hif
    let d := (d.count hifPage 0x828 hf.held.length).count hifPage 0x818 1
    { d with
      regs := d.regs.filter (fun e => decide (e.1 < lo) || decide (hi ≤ e.1))
      hif := { hf with held := [], recent := [], unmasked := [], pendingMsix := [], told := [], lastPunt := [] }
      svc := { sv with cmds := sv.cmds.map (fun c => { c with cq := noRing }), reserved := [], passBase := [], turn := 0 } }

/-! ### DMA (R621, R624) -/

/-- A payload read ends: with the payload, or failed. -/
def Device.endRead (r : DmaRead) (data : Option (List Nat)) (d : Device) : Device :=
  let d := { d with hif := { d.hif with reads := d.hif.reads.filter (fun e => e.id ≠ r.id) } }
  match data with
  | some bs => d.modCmd r.cmd (fun c => { c with pay := .bytes bs })
  | none => (d.modCmd r.cmd (fun c => { c with pay := .failed })).count hifPage 0x968 1

/-- DMA_READ_COMPLETE (R624): read `id` completes with data, or with an error where `ok` is false. -/
def dmaReadComplete (t id : Nat) (ok : Bool) (bs : List Nat) (d : Device) : Device :=
  match d.hif.reads.find? (fun e => e.id = id) with
  | none => d
  | some r =>
    let len := match d.cmd? r.cmd with | some c => Cmd.bufLen c | none => 0
    if !d.on HIF.LINK_UP || !d.on HIF.TUNNEL_UP then d
    else if ok && decide (t ≤ r.stamp + 50000) && decide (len ≤ bs.length) then d.endRead r (some bs)
    else d.endRead r none

/-- DMA_TIMEOUT (R37, R624): read `id` is not answered within 50 µs; an answer stamped at the 50 µs still counts. -/
def dmaTimeout (t id : Nat) (d : Device) : Device :=
  match d.hif.reads.find? (fun e => e.id = id) with
  | none => d
  | some r => if r.stamp + 50000 < t then d.endRead r none else d

/-- DMA_WRITE_REFUSED (R624): the tunnel refuses a write; with `punt`, the data of the packet last punted on that channel, whose
record is then RETURNED. -/
def dmaWriteRefused (_t : Nat) (punt : Option Nat) (d : Device) : Device :=
  if !d.hostUp then d
  else
    let d := d.count hifPage 0x968 1
    match punt with
    | none => d
    | some ch =>
      match Tbl.get? d.hif.lastPunt ch with
      | none => d
      | some (slot, fb) =>
        let size := 2 ^ d.rd (HIF.PC_SIZE_LOG2 ch)
        let pi := (d.rd (HIF.PR_PI ch) + 65535) % 65536
        let ws := [fb + 2 ^ 15, 0, 0, 0, d.phase (4 + ch) pi size * 2 ^ 31, 0, 0, 0]
        let d := { d with hif := { d.hif with lastPunt := d.hif.lastPunt.erase ch } }
        (d.emit (.punt ch slot ws [])).setCtr hifPage 0x940 (d.ctr hifPage 0x940 - 1)

end Sys2Proof.Machine
end

