-- ==== Sys2Proof/Machine/PowerUp.lean ====
section
/-!
DEFINITION. Reset (chapter 20): PORST_N falls and rises, the straps, and what the fuses bring back.
-/

namespace Sys2Proof.Machine

/-- What the burn that PORST_N cut short leaves in the fuses: its effect where it reads back burned (R587, R642). -/
def Fuses.cut (f : Fuses) (x : Option Burn) (took : Bool) : Fuses :=
  if !took then f
  else match x with
    | none => f
    | some (.leaf b _) => { f with leaf := f.leaf ++ [b] }
    | some (.revoke s _) => { f with rootState := f.rootState.set s 3 }
    | some (.svn n _) => { f with svn := max f.svn n }
    | some (.repair e _) => { f with repair := f.repair ++ [e] }

/-- The whole device in reset (R642): every register, key, table and cell at its reset value; only the fuses and the sensors' latest readings (R644)
stay. The next challenge is a fresh one (R585). -/
def Device.inResetState (d : Device) (took : Bool) : Device :=
  { core := { free := d.core.free }
    pow := { temps := d.pow.temps }
    fuses := Fuses.cut d.fuses (if d.on SEC.FUSE_BUSY then d.sec.burns.head? else none) took
    sec := { challenge := d.sec.challenge + 1 } }

/-- Whether a low pulse of `low` ns on PORST_N resets the device: not below 1 µs, always from 10 µs on; between them the spec leaves
it open (R642). -/
def Device.resets (low : Nat) (d : Device) : Bool × Device :=
  if low < 1000 then (false, d)
  else if 10000 ≤ low then (true, d)
  else let (v, d) := d.draw; (decide (v % 2 = 1), d)

/-- The device as PORST_N leaves it when it rises (R643, R646, R605): the straps are sampled, and the repair map is applied in its order. -/
def Device.released (side : Bool) (d : Device) : Device :=
  (forEach d.fuses.repair Device.applyRepair d).wr MRU.PAIR_SIDE (b2n side)

/-- PORST_ASSERT (R642): PORST_N falls for `low` ns. `took` tells whether a fuse burn it ends reads back burned. -/
def porstAssert (low : Nat) (took : Bool) (d : Device) (s : State) : State :=
  let (yes, d) := d.resets low
  if yes then { s with dev := d.inResetState took, inReset := true } else { s with dev := d }

/-- The sensors are read while PORST_N is low (R644, R652): THERMTRIP_N follows the readings, and nothing else of the device moves. -/
def State.senses (s : State) (temps : List Int) : State :=
  { s with dev := { s.dev with pow := { s.dev.pow with temps := temps.take 72 } } }

/-- PORST_RELEASE (R643, R646): PORST_N rises. With STRAP_TEST at 1 the device stays in reset. -/
def porstRelease (side test : Bool) (d : Device) (s : State) : State :=
  if !s.inReset || test then { s with dev := d } else { s with dev := d.released side, inReset := false }

end Sys2Proof.Machine
end

