-- ==== Sys2Proof/Machine/Windows.lean ====
section
/-!
DEFINITION. Indirect windows (R84, R85): the words each entry shows, what a write does to it, and the four commands that start and
complete a window operation. An entry is a list of words, first word first; none stands for an address outside the window.
-/

namespace Sys2Proof.Machine

/-! ### What entries show -/

/-- Pad or cut a list of words to `n`. -/
def padTo (n : Nat) (l : List Nat) : List Nat := (l ++ List.replicate n 0).take n

/-- A course entry (R128). -/
def Course.show (c : Course) : List Nat :=
  [c.members + c.home * 16 + b2n c.ext * 64 + b2n c.valid * 128, c.dsNext + c.usExpected * 65536]

/-- A peg store entry (R234). -/
def Device.pegWords (d : Device) (c n : Nat) : List Nat :=
  let p := d.peg c n
  [p.w0, p.w1, p.phase + b2n p.captured * 2 ^ 8 + b2n p.forceStale * 2 ^ 9 + b2n (d.pegStale c n).isNone * 2 ^ 10,
   p.frame, unsign 16 p.temp + p.residual * 65536, 0, 0, 0]

/-- The words of a PLOAM message: those written, or G.9804's own bits. -/
def ploamWords (m : Ploam) : List Nat :=
  match m with
  | .raw ws => padTo 12 ws
  | m => (List.range 12).map (fun i => Config.ploamWord m i % 2 ^ 32)

/-- A violation log entry (R236). -/
def VEntry.show (e : VEntry) : List Nat :=
  [e.frame, e.offset + e.code * 2 ^ 24, e.source, e.port + e.kind * 2 ^ 16 + e.answer * 2 ^ 18 + e.repeats * 2 ^ 20]

/-- An allocation entry (R187). -/
def Alloc.show (a : Alloc) : List Nat :=
  [a.handle, a.cls + a.reportEvery * 4 + a.allocId * 256, a.rate, a.weight, a.reportMax, a.estimate, a.credit, a.term]

/-- A channel timing entry (R188). -/
def Timing.show (x : Timing) : List Nat := [x.guard + x.delim * 65536, x.short + x.long * 65536]

/-- A ledger entry (R189); its FRAME reads 0 until the first publication. -/
def Device.ledgerWords (d : Device) (j : Nat) : List Nat :=
  let l := d.led j
  [if d.fret.ledger = [] then 0 else j % 2 ^ 32, l.env, l.forecast, l.committed.sum, d.quotaLeft j 3]

/-- The kind code of a record (R190). -/
def recCode : RecKind → Nat
  | .received => 0 | .damaged => 1 | .noShow => 2 | .late => 3 | .collided => 4 | .unmapped => 5

/-- A completion record (R190). -/
def Rec.show (r : Rec) : List Nat :=
  [r.handle, recCode r.kind + b2n r.forced * 8 + b2n r.report.isSome * 16 + r.chan * 256 + r.frame % 65536 * 65536,
   match r.offset with | some x => unsign 32 x | none => 0x80000000,
   r.report.getD 0 % 2 ^ 24 + min r.uncorrected 255 * 2 ^ 24]

/-- A terminal entry (R267). -/
def Device.termWords (d : Device) (x : Nat) : List Nat :=
  match d.term? x with
  | none => List.replicate 16 0
  | some t =>
    let wc (w : Nat) : TermWc := t.wc.getD w {}
    let mean (w : Nat) : Int := if (wc w).samples = [] then 0 else nearest (wc w).samples.sum (wc w).samples.length
    [t.handle, t.state + t.homeWc * 8 + b2n t.homeSet * 32 + d.defectsOf x * 256 + t.rangeFails * 65536, t.vendor, t.serial]
      ++ (List.range 4).map (fun w => (wc w).eqd % 2 ^ 20)
      ++ (List.range 4).map (fun w => unsign 16 (mean w) + unsign 16 (wc w).cum * 65536)
      ++ [t.rho % 2 ^ 20, (match d.shadowOf x with | some s => unsign 20 s + 2 ^ 20 | none => 0), 0, 0]

/-- A discovery entry (R268). -/
def DiscEntry.show (e : DiscEntry) : List Nat := [e.vendor, e.serial, e.frame, e.chan + e.q * 256 + e.seen * 2 ^ 28]

/-- A plan row (R294). -/
def PlanRow.show (r : PlanRow) : List Nat := [r.frame % 2 ^ 32, r.mv + r.floor * 65536, unsign 12 r.tPred, r.env % 2 ^ 32]

/-- Entry `n` of the plan window (R290, R294): the row of frame current + 1 + n; 0 before the first publication. From a frame's start to its publication
entry 7 is a frame not yet planned: it shows its number alone (DESIGN CHOICE, log entry 88). -/
def Device.planEntry (d : Device) (n : Nat) : PlanRow :=
  if d.pow.plan = [] then {} else (d.planRow (d.frame + 1 + n)).getD { frame := d.frame + 1 + n }

/-- A slice's pace (R271, R294). -/
def Device.paceWords (d : Device) (s : Nat) : List Nat :=
  let ref (i : Nat) : Nat := Config.paceRef s (600 + 25 * i)
  [d.pow.pace.getD s 0 % 65536 + b2n (d.slices.contains s) * 65536]
    ++ (List.range 6).map (fun i => ref (2 * i) % 65536 + (if i = 5 then 0 else ref (2 * i + 1) % 65536 * 65536)) ++ [0]

/-- The code of a key slot's state (R382). -/
def keyCode : KeySt → Nat
  | .unbound => 1 | .active => 2 | .inactive => 3 | .erased => 4

/-- A key table entry (R382). -/
def KeySlot.show (k : KeySlot) : List Nat :=
  [k.handle,
   keyCode k.st + b2n (decide (k.key.length = 32)) * 8 + k.pos * 16 + b2n k.rekey * 64 + b2n k.hard * 128 + b2n k.everBound * 256,
   k.chan, k.activateAt % 2 ^ 32, k.use_ % 2 ^ 32, k.use_ / 2 ^ 32 % 512, k.highFrame.getD 0 % 2 ^ 32, k.segNext % 2 ^ 18]

/-- A pool entry (R417). -/
def Device.poolWords (d : Device) (i : Nat) : List Nat :=
  match d.pool? i with
  | none => List.replicate 8 0
  | some p =>
    [p.handle, b2n p.dram + b2n p.wait * 2 + b2n (d.poolBp p) * 4 + b2n (d.cells.waiters.any (fun w => w.pool = i)) * 8 + p.waitNs * 65536,
     p.minU, p.maxU, p.bpU, p.held % 2 ^ 32, p.held / 2 ^ 32 % 4, 0]

/-- A free fault log entry (R417). -/
def FEntry.show (e : FEntry) : List Nat :=
  [e.frame, e.offset + e.kind * 2 ^ 17 + e.req * 2 ^ 24, e.ptr % 2 ^ 32, e.ptr / 2 ^ 32 + e.gen * 16 + e.foundGen * 2 ^ 10,
   e.owner, e.foundOwner, 0, 0]

/-- A queue entry (R420). -/
def Device.queueWords (d : Device) (i : Nat) : List Nat :=
  match d.queue? i with
  | none => [0, b2n (d.cells.flushed.contains i) * 256, 0, 0, 0, 0, 0, 0]
  | some q =>
    let head := if q.pkts = 0 then 3 else d.hdrStatus q.head
    [q.handle,
     q.pool + b2n q.flush * 256 + b2n q.closed * 512 + head * 1024 + b2n (decide (q.maxCells ≤ q.cells)) * 4096 + b2n q.cut * 8192,
     q.head % 2 ^ 32, q.tail % 2 ^ 32, q.head / 2 ^ 32 + q.tail / 2 ^ 32 * 16, q.pkts, q.cells, q.maxCells]

/-- A node entry (R453). A root or terminal node shows whether it exists. -/
def Device.nodeWords (d : Device) (k : Nat) : List Nat :=
  let n := d.node k
  let term := decide (keyLevel k = 1) && decide (keyIdx k < 32768)
  let up := d.nodeUp k
  let gate := match d.gateOf k with | some g => g.handle | none => 0
  [(if term then termTree (keyIdx k) else n.parent) + (if term then 0 else n.plevel) * 2 ^ 20 + b2n up * 2 ^ 31,
   n.weight + n.rank * 2 ^ 16 + b2n n.comp * 2 ^ 19, d.aw 4 k % 2 ^ 32, gate, n.rate, n.burst + n.adj * 2 ^ 24]

/-- A queue's scheduling entry (R453). -/
def Device.queueSched (d : Device) (i : Nat) : List Nat :=
  match d.queue? i with
  | none => List.replicate 7 0
  | some q =>
    [q.handle, q.parent + q.level * 2 ^ 20 + q.rank * 2 ^ 22, q.weight + q.lag * 65536, q.rtPool, q.sample, q.delayLast % 2 ^ 32, q.delayMax % 2 ^ 32]

/-- A shaper entry (R453): its bucket in whole bytes now. -/
def Device.shaperWords (d : Device) (i : Nat) : List Nat :=
  match Tbl.get? d.traffic.shapers i with
  | none => List.replicate 5 0
  | some s => [s.handle, s.rate, s.burst + s.adj * 2 ^ 24, s.target, unsign 32 (Bucket.at s.bucket s.rate s.burst d.now / 8000000)]

/-- A gate list entry (R453). -/
def Device.gateWords (d : Device) (i : Nat) : List Nat :=
  match Tbl.get? d.traffic.gates i with
  | none => List.replicate 6 0
  | some g =>
    let st := match g.st with | .scheduled => 1 | .inForce => 2 | .idle => 3
    [g.handle, g.node, st + (if g.st = .inForce then g.cur else 0) * 256, g.start % 2 ^ 32, g.start / 2 ^ 32 % 2 ^ 32, g.cycle]

/-- A FlexE group entry (R490). -/
def Device.groupWords (d : Device) (g : Nat) : List Nat :=
  let x := d.group g
  [x.number + b2n x.en * 2 ^ 31,
   x.mask + x.chiplet * 2 ^ 16 + x.txCal * 2 ^ 18 + x.rxCal * 2 ^ 19 + b2n x.calReq * 2 ^ 20 + b2n x.crSent * 2 ^ 21 + b2n x.caSeen * 2 ^ 22,
   (if x.en then d.groupConds g % 64 else 0), x.switchFrame % 2 ^ 32, 0, 0, 0, 0]

/-- Whether an address of window 1 of the FlexE page names a row (R490). -/
def connRowOk (a : Nat) : Bool := decide (a < 65536) && decide (a % 512 < 160)

/-- A row of a connection memory (R490). -/
def Device.connWords (d : Device) (a : Nat) : List Nat :=
  [((List.range 4).map (fun k => Tbl.getD d.net.conn (4 * a + k) 0xFF * 2 ^ (8 * k))).sum]

/-- A FlexE client entry (R490). -/
def Device.clientWords (d : Device) (k : Nat) : List Nat :=
  let c := d.client k
  [c.id + c.group * 65536 + b2n c.en * 2 ^ 31, d.txSlots k + d.rxSlots k * 2 ^ 10 + b2n (d.clientUp k) * 2 ^ 20]

/-- One word of a window of the SEC (R591). -/
def Device.secWord (d : Device) (w a : Nat) : Option Nat :=
  let le (bs : List Nat) (i : Nat) : Nat := ((List.range 4).map (fun j => bs.getD (4 * i + j) 0 % 256 * 2 ^ (8 * j))).sum
  if w = 0 then (if a < 64 then some (le (d.sec.meas.getD (a / 8) []) (a % 8)) else none)
  else if w = 1 then
    (if a < 2048 then some (Tbl.getD d.sec.input a 0) else if a < 2056 then some (d.challenge.getD (a - 2048) 0) else none)
  else if w = 2 then (if a < 1365 then some (le d.sec.report a) else none)
  else if a < 15 then some (le (Config.identityPub d.fuses.uds) a)
  else if a = 16 ∨ a = 17 then some (bits d.fuses.serial (32 * (a - 16)) 32)
  else none

/-- Units in service and spares left of a kind (R592, R612). -/
def Device.spareWords (d : Device) (kind : Nat) : List Nat :=
  let base := [0, 32, 32, 8, 256, 64, 32, 32, 64, 2816].getD kind 0
  let spares := [0, 4, 2, 1, 16, 2, 1, 1, 32, 640].getD kind 0
  let n (l : List Nat) : Nat := (l.filter (fun u => decide (u / 2 ^ 20 = kind))).length
  [(base + n d.spm.brought - n d.spm.retired) + (spares - n d.spm.brought) * 65536]

/-- The entry at an address of a window, for a read; the windows of SEC and of cell contents are read apart. -/
def Device.entryAt (d : Device) (p w a : Nat) : Option (List Nat) :=
  let ok (n : Nat) (l : List Nat) : Option (List Nat) := if a < n then some l else none
  if p = 0x000 then ok 4096 (match Tbl.get? d.bursts.vlog a with | some e => VEntry.show e | none => [])
  else if p = 0x001 then ok 0x1B7 [Tbl.getD d.hif.irq a 0]
  else if p = 0x003 then
    if w = 0 then ok 8 (PlanRow.show (d.planEntry a))
    else if w = 1 then ok 36 (d.paceWords a)
    else ok 72 [unsign 12 (d.pow.temps.getD a 0)]
  else if p = 0x004 then
    if w = 0 then ok 256 (Tbl.getD d.tmu.evt a []) else if w = 1 then ok 256 (Tbl.getD d.tmu.txs a [])
    else ok 256 ((Tbl.getD d.tmu.tod a []).take 5)
  else if p = 0x005 then ok 8 (Tbl.getD d.mru.records a [])
  else if p = 0x006 then
    if w = 0 then (if a = 0 then none else ok 10 (d.spareWords a)) else ok 256 [d.fuses.repair.getD a 0]
  else if p = 0x007 then ok 4096 (Tbl.getD d.mon.ring a [])
  else if 0x040 ≤ p ∧ p < 0x080 then ok 512 (Course.show (d.course (512 * (p - 0x040) + a)))
  else if 0x080 ≤ p ∧ p < 0x180 then
    if w = 0 then ((d.cfr (p - 0x080)).ploamQ[a]?).map ploamWords else ok 512 (d.pegWords (p - 0x080) a)
  else if p = 0x190 then
    if w = 0 then ok 32 (d.groupWords a)
    else if w = 1 then (if connRowOk a then some (d.connWords a) else none)
    else ok 192 (d.clientWords a)
  else if p = 0x1B0 then
    if w = 0 then ok 256 (d.poolWords a)
    else if w = 1 then ok 1024 (match Tbl.get? d.cells.flog a with | some e => FEntry.show e | none => [])
    else if w = 2 then ok 371 (let x := Tbl.getD d.cells.errs a (0, 0); [x.1 % 2 ^ 32, x.2 % 2 ^ 32])
    else none
  else if p = 0x1B1 then ok 1048576 (d.queueWords a)
  else if p = 0x1B2 then
    if w = 0 then (if keyIdx a < levelCount (keyLevel a) ∧ keyLevel a < 4 then some (d.nodeWords a) else none)
    else if w = 1 then ok 1048576 (d.queueSched a)
    else if w = 2 then ok 1048576 (d.shaperWords a)
    else if a < 1024 then some (d.gateWords a)
    else if 1040 ≤ a ∧ a < 5120 then some [Tbl.getD d.traffic.lag (a - 1024) 0]
    else none
  else if p = 0x1B3 then
    if w = 0 then ok 4194304 (padTo 6 (Tbl.getD d.pkt.exact a []))
    else if w = 1 then ok 131072 (padTo 32 (Tbl.getD d.pkt.ternary a []))
    else if w = 2 then ok 1048576 (padTo 4 (Tbl.getD d.pkt.actions a []))
    else ok 1572864 [d.domainEntry a]
  else if p = 0x1B4 then ok 65536 (match d.key? a with | some k => KeySlot.show k | none => List.replicate 8 0)
  else if p = 0x1B5 then
    if w = 0 then ok 262144 (match Tbl.get? d.fret.allocs a with | some x => Alloc.show x | none => [0, 0, 0, 1, 0xFFFFFF, 0, 0, 0])
    else if w = 1 then ok 256 (Timing.show (d.timing a))
    else if w = 2 then ok 8 (d.ledgerWords (d.frame + 1 + a))
    else ok 65536 (match Tbl.get? d.fret.ring a with | some r => Rec.show r | none => [])
  else if p = 0x1B6 then
    if w = 0 then ok 32768 (d.termWords a)
    else ok 512 (match Tbl.get? d.rng.disc a with | some e => DiscEntry.show e | none => [])
  else none

/-- The word at CELL_ADDR + 8 x `a`, low half first (R417), and whether it is poisoned. -/
def Device.cellWords (errs : Tbl CodeRead) (a : Nat) (d : Device) : List Nat × Bool × Device :=
  let (v, p, d) := d.rdWord errs (d.rd BPM.CELL_ADDR_LO + 2 ^ 32 * d.rd BPM.CELL_ADDR_HI + 8 * a)
  ([v % 2 ^ 32, v / 2 ^ 32 % 2 ^ 32], p, d)

/-! ### Writes: whether the write is taken, and the device after it -/

/-- A write taken, or refused and counted. -/
def taken (d : Device) : Bool × Device := (true, d)
def Device.winRefused (p : Nat) (d : Device) : Bool × Device := (false, d.refuse p)

/-- A list with its first words replaced: a write of fewer words than the entry has leaves the rest. -/
def overlay (ws old : List Nat) : List Nat := (ws ++ old.drop ws.length).take old.length

/-- A course table write (R120, R128, R129, R162, R247). -/
def Device.writeCourse (x : Nat) (ws : List Nat) (d : Device) : Bool × Device :=
  let p := treePage (termTree x)
  let o := d.course x
  let w := wordAt ws 0
  let n : Course := { o with members := bits w 0 4, home := bits w 4 2, ext := bit w 6, valid := bit w 7 }
  if n.valid ∧ (n.members = 0 ∨ !bit n.members n.home) then d.winRefused p
  else
    let h := d.home x
    let e := d.setCourse x n
    let fixed := d.fret.allocs.any (fun a => decide (a.2.cls = 0) && decide (a.2.term = x))
    if fixed && decide (e.home x ≠ h) && !e.treeFixedOk (termTree x) then d.winRefused p
    else if o.valid && !n.valid then taken (e.clearCourse x) else if n.valid then taken (e.rangeAgain x) else taken e

/-- A write to window 0 of a channel page: a PLOAM message for the queue (R100, R132). -/
def Device.writePloam (c : Nat) (ws : List Nat) (d : Device) : Bool × Device :=
  let x := d.cfr c
  if ws.length ≠ 12 then d.winRefused (chanPage c)
  else if 64 ≤ x.ploamQ.length then (false, d.count (chanPage c) 0x830 1)
  else taken (d.setCfr c { x with ploamQ := x.ploamQ ++ [.raw ws] })

/-- A write to a peg store entry (R234). -/
def Device.writePeg (c n : Nat) (ws : List Nat) (d : Device) : Bool × Device :=
  let p := d.peg c n
  let w := wordAt ws 2
  taken (d.setPeg c n { p with w0 := wordAt ws 0 % 2 ^ 30, w1 := bits (wordAt ws 1) 0 18 + bits (wordAt ws 1) 18 8 * 2 ^ 18,
                               phase := w % 128, captured := bit w 8, forceStale := bit w 9 })

/-- A write to an allocation entry (R162, R187). -/
def Device.writeAlloc (i : Nat) (ws : List Nat) (d : Device) : Bool × Device :=
  match Tbl.get? d.fret.allocs i with
  | none => d.winRefused 0x1B5
  | some a =>
    let w := wordAt ws 1
    let n : Alloc := { a with cls := bits w 0 2, reportEvery := bits w 2 4, rate := wordAt ws 2 % 2 ^ 24, weight := wordAt ws 3 % 65536,
                              reportMax := wordAt ws 4 % 2 ^ 24, was := some (d.now, ⟨a.cls, a.reportEvery, a.rate, a.weight, a.reportMax⟩) }
    let e := { d with fret := { d.fret with allocs := Tbl.set d.fret.allocs i n } }
    if wordAt ws 0 ≠ a.handle then (false, d.count 0x1B5 0x878 1)
    else if (n.cls = 0 ∧ a.cls ≠ 0) ∨ (n.cls ≠ 0 ∧ a.cls = 0) ∨ 8 < n.reportEvery ∨ n.weight = 0 then d.winRefused 0x1B5
    else if n.cls = 0 ∧ n.rate ≠ a.rate ∧ !e.treeFixedOk (termTree a.term) then d.winRefused 0x1B5
    else taken e

/-- A write to a channel timing entry (R162, R188). -/
def Device.writeTiming (c : Nat) (ws : List Nat) (d : Device) : Bool × Device :=
  let w := wordAt ws 0
  let v := wordAt ws 1
  let n : Timing := { guard := w % 65536, delim := bits w 16 4, short := v % 65536, long := v / 65536 % 65536 }
  let e := { d with fret := { d.fret with timing := Tbl.put {} d.fret.timing c n } }
  if d.on (CH.CH_EN c) || !d.drained c then (false, d.lockedWrite 0x1B5)
  else if !e.fixedOk c then d.winRefused 0x1B5
  else taken e

/-- Keep a classifier entry, or drop one that is all zero. -/
def putWords (t : Tbl (List Nat)) (i : Nat) (ws : List Nat) : Tbl (List Nat) := if ws.all (· = 0) then t.erase i else t.set i ws

/-- Whether a reserved bit of a PCL window entry is set (R355). -/
def pclReserved (w a : Nat) (ws : List Nat) : Bool :=
  if w = 0 then decide (bits (wordAt ws 4) 20 8 ≠ 0) || decide (wordAt ws 5 ≠ 0)
  else if w = 1 then decide (bits (wordAt ws 30) 20 11 ≠ 0) || decide (wordAt ws 31 ≠ 0)
  else if w = 2 then decide (bits (wordAt ws 0) 18 14 ≠ 0) || decide (bits (wordAt ws 2) 19 13 ≠ 0) || decide (wordAt ws 3 ≠ 0)
  else decide (bits (wordAt ws 0) 17 15 ≠ 0) || (decide (524288 ≤ a) && bit (wordAt ws 0) 16)

/-- A write to a PCL window (R339, R341, R349, R355). -/
def Device.writePcl (w a : Nat) (ws : List Nat) (d : Device) : Bool × Device :=
  if !d.capo || (decide (w = 2) && (decide (5 ≤ bits (wordAt ws 0) 0 4) || decide (6 ≤ bits (wordAt ws 2) 0 4))) then
    (d.count 0x1B3 0x888 1).winRefused 0x1B3
  else if pclReserved w a ws then d.winRefused 0x1B3
  else
    let k := d.pkt
    if w = 0 then taken { d with pkt := { k with exact := putWords k.exact a ws } }
    else if w = 1 then taken { d with pkt := { k with ternary := putWords k.ternary a ws } }
    else if w = 2 then taken { d with pkt := { k with actions := putWords k.actions a ws } }
    else taken { d with pkt := { k with domains := Tbl.put 0 k.domains a (wordAt ws 0) } }

/-- A refused TMG window write (R447, R453). -/
def Device.tmgRefused (d : Device) : Bool × Device := (d.count 0x1B2 0x868 1).winRefused 0x1B2

/-- Whether R423 allows a node at key `k` the parent at key `q`. -/
def parentAllowed (k q : Nat) : Bool :=
  decide (keyLevel q < keyLevel k) && decide (keyIdx q < levelCount (keyLevel q))
    && (decide (keyLevel k ≠ 1) || (decide (keyLevel q = 0) && decide (64 ≤ keyIdx q)))

/-- Whether something stands below a node, or shapes or gates it (R424). -/
def Device.nodeUsed (d : Device) (k : Nat) : Bool :=
  (d.childNodes k).any d.nodeUp || !(d.childQueues k).isEmpty || (d.shaperOf k).isSome || d.traffic.gates.any (fun e => e.2.node = nodeRef k)

/-- A write to the node table (R423, R424, R453). -/
def Device.writeNode (k : Nat) (ws : List Nat) (d : Device) : Bool × Device :=
  let o := d.node k
  let w0 := wordAt ws 0
  let w1 := wordAt ws 1
  let n : TNode := { o with weight := w1 % 65536, rank := bits w1 16 3, comp := bit w1 19 }
  if n.weight = 0 then d.tmgRefused
  else if keyLevel k = 0 then taken (d.setNode k n)
  else if keyLevel k = 1 ∧ keyIdx k < 32768 then
    let n := { n with rate := wordAt ws 4, burst := wordAt ws 5 % 2 ^ 24, adj := bits (wordAt ws 5) 24 8 }
    if n.burst < 64 then d.tmgRefused
    else
      let x := keyIdx k
      let b := d.termBucket x
      let b : Bucket := { b with level := if o.rate = 0 then bucketMax n.burst else min (Bucket.at b o.rate o.burst d.now) (bucketMax n.burst), at_ := d.now }
      let tr := d.traffic
      taken (({ d with traffic := { tr with termBuckets := Tbl.set tr.termBuckets x b } }).setNode k n)
  else
    let n := { n with parent := w0 % 2 ^ 20, plevel := bits w0 20 2, enable := bit w0 31 }
    let q := nodeKey n.plevel n.parent
    let moved := decide (n.parent ≠ o.parent ∨ n.plevel ≠ o.plevel)
    let below := (d.childNodes k).any d.nodeUp || !(d.childQueues k).isEmpty
    if n.enable && (!o.enable || moved) && (!parentAllowed k q || !d.nodeUp q) then d.tmgRefused
    else if o.enable && !n.enable && d.nodeUsed k then d.tmgRefused
    else if o.enable && n.enable && moved && below then d.tmgRefused
    else taken (d.setNode k n)

/-- A write to a queue's scheduling entry (R453). -/
def Device.writeSched (i : Nat) (ws : List Nat) (d : Device) : Bool × Device :=
  if (d.queue? i).isNone ∨ wordAt ws 2 % 65536 = 0 then d.tmgRefused
  else taken (d.modQueue i (fun q => { q with rank := bits (wordAt ws 1) 22 3, weight := wordAt ws 2 % 65536 }))

/-- A write to a shaper entry (R436, R437, R453). -/
def Device.writeShaper (i : Nat) (ws : List Nat) (d : Device) : Bool × Device :=
  match Tbl.get? d.traffic.shapers i with
  | none => d.tmgRefused
  | some s =>
    let rate := wordAt ws 1
    let burst := wordAt ws 2 % 2 ^ 24
    let adj := bits (wordAt ws 2) 24 8
    if rate = 0 ∨ burst < 64 ∨ (64 ≤ adj ∧ adj < 192) then d.tmgRefused
    else
      let b : Bucket := { s.bucket with level := min (Bucket.at s.bucket s.rate s.burst d.now) (bucketMax burst), at_ := d.now }
      let n : Shaper := { s with rate := rate, burst := burst, adj := adj, bucket := b }
      taken { d with traffic := { d.traffic with shapers := Tbl.set d.traffic.shapers i n } }

/-- A write to a LAG slot: empty, or a network-bound queue (R435, R453). -/
def Device.writeLag (i h : Nat) (d : Device) : Bool × Device :=
  let ok := match (d.queueIdx h).bind d.queue? with | some q => d.netBound q | none => decide (h = 0)
  if ok then taken { d with traffic := { d.traffic with lag := Tbl.put 0 d.traffic.lag i h } } else d.tmgRefused

/-- A write to a TMG window (R447, R453). -/
def Device.writeTmg (w a : Nat) (ws : List Nat) (d : Device) : Bool × Device :=
  if !d.capo then d.tmgRefused
  else if w = 0 then d.writeNode a ws
  else if w = 1 then d.writeSched a ws
  else if w = 2 then d.writeShaper a ws
  else if a < 1024 then taken d
  else d.writeLag (a - 1024) (wordAt ws 0)

/-- A write to a FlexE group entry (R470, R490). -/
def Device.writeGroup (t g : Nat) (ws : List Nat) (d : Device) : Bool × Device :=
  let o := d.group g
  let w1 := wordAt ws 1
  if o.en then
    let v := bit w1 20
    if v && !d.calOk g then d.winRefused 0x190 else taken (d.writeCalReq t g v)
  else
    let n : FlxGroup := { o with number := wordAt ws 0 % 2 ^ 20, en := bit (wordAt ws 0) 31, mask := w1 % 65536, chiplet := bits w1 16 2 }
    let ps := FlxGroup.phys n
    let other := d.net.groups.any (fun e => decide (e.1 ≠ g) && e.2.en && (FlxGroup.phys e.2).any (fun p => ps.contains p))
    let bad := n.number = 0 ∨ 1048575 ≤ n.number ∨ ps = []
      ∨ ps.any (fun p => !d.on (NPC.FLEXE_EN (quadOf p)) || !modeHas (d.portMode p) (slotOf p) || decide (d.portMode p ≠ d.portMode (ps.headD 0))) = true
    let d' := d.setGroup g n
    if (n.en ∧ (other ∨ bad)) ∨ (bit w1 20 ∧ !d'.calOk g) then d.winRefused 0x190 else taken (d'.writeCalReq t g (bit w1 20))

/-- A write of `ws.length` rows of a connection memory (R472, R490). -/
def Device.writeConn (a : Nat) (ws : List Nat) (d : Device) : Bool × Device :=
  let g := bits a 9 5
  let x := d.group g
  let used := x.en && decide (bits a 14 1 = (if bit a 15 then x.rxCal else x.txCal))
  let cs := ws.flatMap (fun w => (List.range 4).map (fun k => bits w (8 * k) 8))
  if used || !connRowOk (a + ws.length - 1) || decide ((a + ws.length - 1) / 512 ≠ a / 512) || cs.any (fun c => decide (192 ≤ c) && decide (c ≠ 255)) then
    d.winRefused 0x190
  else
    let t := (List.range cs.length).foldl (fun t i => Tbl.put 0xFF t (4 * a + i) (cs.getD i 0xFF)) d.net.conn
    taken { d with net := { d.net with conn := t } }

/-- A write to a FlexE client entry (R470, R490). -/
def Device.writeClient (k : Nat) (ws : List Nat) (d : Device) : Bool × Device :=
  let w := wordAt ws 0
  let n : FlxClient := { id := w % 65536, group := bits w 16 5, en := bit w 31 }
  if n.en ∧ (n.id = 0 ∨ n.id = 65535) then d.winRefused 0x190
  else taken { d with net := { d.net with clients := Tbl.put {} d.net.clients k n } }

/-- A write to a window of the SEC (R581, R591). -/
def Device.writeSec (m : Master) (w a : Nat) (ws : List Nat) (d : Device) : Bool × Device :=
  if w = 0 then
    if mayWrite m .k2 && decide (ws.length = 8) && decide (a % 8 = 0) && decide (32 ≤ a ∧ a < 64) then taken (d.extend (a / 8) (wordBytes ws))
    else d.winRefused 0x002
  else if w = 1 ∧ a + ws.length ≤ 2048 then
    let t := (List.range ws.length).foldl (fun t i => Tbl.put 0 t (a + i) (wordAt ws i)) d.sec.input
    taken { d with sec := { d.sec with input := t } }
  else d.winRefused 0x002

/-- A write of `ws` to the entry at `a` of window `w` of page `p`; windows not named here are read-only. -/
def Device.writeEntry (t : Nat) (m : Master) (p w a : Nat) (ws : List Nat) (d : Device) : Bool × Device :=
  if p = 0x002 then d.writeSec m w a ws
  else if 0x080 ≤ p ∧ p < 0x180 ∧ w = 0 then d.writePloam (p - 0x080) ws
  else if p = 0x190 ∧ w = 1 then d.writeConn a ws
  else match d.entryAt p w a with
    | none => if p = 0x1B2 then d.tmgRefused else d.winRefused p
    | some old =>
      let es := overlay ws old
      if p = 0x001 then
        taken { d with hif := { d.hif with irq := Tbl.put 0 d.hif.irq a (wordAt ws 0 % 2048 + b2n (bit (wordAt ws 0) 31) * 2 ^ 31) } }
      else if p = 0x004 ∧ w = 2 then
        let e := Tbl.getD d.tmu.tod a []
        let l := if e.length = 6 then d.todWords a (wordAt ws 0 % 65536) (wordAt e 5) else [wordAt ws 0 % 65536]
        taken { d with tmu := { d.tmu with tod := Tbl.set d.tmu.tod a l } }
      else if 0x040 ≤ p ∧ p < 0x080 then d.writeCourse (512 * (p - 0x040) + a) es
      else if 0x080 ≤ p ∧ p < 0x180 then d.writePeg (p - 0x080) a es
      else if p = 0x190 then (if w = 0 then d.writeGroup t a es else d.writeClient a es)
      else if p = 0x1B2 then d.writeTmg w a es
      else if p = 0x1B3 then d.writePcl w a es
      else if p = 0x1B5 ∧ w = 0 then d.writeAlloc a es
      else if p = 0x1B5 ∧ w = 1 then d.writeTiming a es
      else d.winRefused p

/-- An entry with its VALID field cleared, on the windows that have one (R85, R128, R355). -/
def clearValid (p w : Nat) (ws : List Nat) : Option (List Nat) :=
  if 0x040 ≤ p ∧ p < 0x080 then some (ws.set 0 (wordAt ws 0 - b2n (bit (wordAt ws 0) 7) * 128))
  else if p = 0x1B3 ∧ w = 0 then some (ws.set 4 (wordAt ws 4 % 2 ^ 31))
  else if p = 0x1B3 ∧ w = 1 then some (ws.set 30 (wordAt ws 30 % 2 ^ 31))
  else none

/-! ### The operations (R84, R85, R521) -/

/-- The key of a window's operation. -/
def winKey (p w : Nat) : Nat := 8 * p + w

/-- Whether a window's entries are mirrored (R519). -/
def winMirrored (p w : Nat) : Bool :=
  decide (0x040 ≤ p ∧ p < 0x080) || decide (p = 0x1B5 ∧ w = 0) || decide (p = 0x1B2) || decide (p = 0x1B3)

/-- A write of WIN_CTRL with GO = 1 (R84, R85): an operation of `n` + 1 words starts with the window's address and data. -/
def Device.winStart (m : Master) (p w op n : Nat) (d : Device) : Device :=
  if !populated p then d.count 0x000 0x810 1
  else d.asMaster m .k1 p (fun d =>
    if (pageInfo p).windows ≤ w then d
    else if d.on (PG.GO p w) then d.lockedWrite p
    else
      let x : WinOp := { op := op, addr := d.rd (PG.WIN_ADDR p w), words := (List.range (n + 1)).map (fun i => d.rd (PG.WIN_DATA p w i)), master := m }
      (((({ d with pages := { d.pages with winOps := Tbl.set d.pages.winOps (winKey p w) x } }).wr (PG.GO p w) 1).wr (PG.OP p w) op).wr
        (PG.WORDS p w) n).wr (PG.WIN_BUSY p w) 1)

/-- WINDOW_READ (R84). -/
def windowRead (_t : Nat) (m : Master) (p w n : Nat) (d : Device) : Device := d.winStart m p w 0 n
/-- WINDOW_WRITE (R85). -/
def windowWrite (_t : Nat) (m : Master) (p w n : Nat) (d : Device) : Device := d.winStart m p w 1 n
/-- WINDOW_READ_CLEAR_VALID (R85). -/
def windowReadClearValid (_t : Nat) (m : Master) (p w n : Nat) (d : Device) : Device := d.winStart m p w 2 n

/-- The operation ends: hardware clears GO. -/
def Device.winEnd (p w : Nat) (ok : Bool) (d : Device) : Device :=
  ((({ d with pages := { d.pages with winOps := d.pages.winOps.erase (winKey p w) } }).wr (PG.GO p w) 0).wr (PG.WIN_BUSY p w) 0).wr
    (PG.LAST_FAILED p w) (b2n (!ok))

/-- Deliver the words read into WIN_DATA. -/
def Device.winData (p w n : Nat) (ws : List Nat) (d : Device) : Device :=
  forEach (List.range n) (fun i d => d.wr (PG.WIN_DATA p w i) (wordAt ws i)) d

/-- A read completes. -/
def Device.finishRead (p w : Nat) (x : WinOp) (errs : Tbl CodeRead) (d : Device) : Device :=
  let n := x.words.length
  if p = 0x002 then
    match d.secWord w x.addr with
    | none => (d.refuse p).winEnd p w false
    | some _ => (d.winData p w n ((List.range n).map (fun i => (d.secWord w (x.addr + i)).getD 0))).winEnd p w true
  else if p = 0x1B0 ∧ w = 3 then
    if 32 ≤ x.addr then (d.refuse p).winEnd p w false
    else
      let (ws, bad, d) := d.cellWords errs x.addr
      (d.winData p w n ws).winEnd p w (!bad)
  else match d.entryAt p w x.addr with
    | none => (d.refuse p).winEnd p w false
    | some ws => (d.winData p w n ws).winEnd p w true

/-- A write completes, or waits for the next frame's CHANGE class where its table is mirrored (R521). -/
def Device.finishWrite (t p w : Nat) (x : WinOp) (ws : List Nat) (after : Device → Device) (d : Device) : Device :=
  let f (d : Device) : Device :=
    let (ok, d) := d.writeEntry t x.master p w x.addr ws
    ((if ok then after d else d)).winEnd p w ok
  if winMirrored p w && (d.writeEntry t x.master p w x.addr ws).1 then d.change (2 ^ 32 + winKey p w) (256 + p) (x.addr :: ws) f else f d

/-- Whether a window write meets a hardware update of the peg store entry it names (R214, R229). -/
def Device.pegClash (d : Device) (p w : Nat) (x : WinOp) : Bool :=
  decide (0x080 ≤ p ∧ p < 0x180 ∧ w = 1 ∧ x.op = 1) && (d.entryAt p w x.addr).isSome

/-- WINDOW_OPERATION_COMPLETE (R85): the operation of window `w` of page `p` completes. `clash` tells of a write of WIN_CTRL in the same
handshake window, `hw` of a hardware update of the peg entry the operation names (R214), `errs` what the reads of cell memory find. -/
def windowComplete (t p w : Nat) (clash hw : Bool) (errs : Tbl CodeRead) (d : Device) : Device :=
  match Tbl.get? d.pages.winOps (winKey p w) with
  | none => d
  | some x =>
    let d := if x.op = 0 then d.finishRead p w x errs
      else if hw && d.pegClash p w x then (d.writeLost p 1).winEnd p w false
      else if x.op = 1 then d.finishWrite t p w x x.words id
      else match (d.entryAt p w x.addr).bind (fun ws => (clearValid p w ws).map (fun cs => (ws, cs))) with
        | none => (d.refuse p).winEnd p w false
        | some (ws, cs) => d.finishWrite t p w x cs (·.winData p w x.words.length ws)
    if clash && !d.on (PG.GO p w) then d.writeLost p 1 else d

end Sys2Proof.Machine
end

