-- ==== Sys2Proof/Machine/Operands.lean ====
section
/-!
DEFINITION. The values a register write may carry: the range each field table states, the states outside which a field is locked
(R654), and the fields whose writes are commands of their own.
-/

namespace Sys2Proof.Machine

/-! ### Ranges -/

/-- A voltage of the grid (R273): 600 to 850 mV in steps of 25. -/
def onGrid (mv : Nat) : Bool := decide (600 ≤ mv ∧ mv ≤ 850 ∧ mv % 25 = 0)

/-- Whether a value lies in a closed range. -/
def inRange (lo hi v : Nat) : Bool := decide (lo ≤ v ∧ v ≤ hi)

/-- A tree port's fields (R125, R126). -/
def okTpe (t : Nat) (nv : Fld → Nat) (f : Fld) : Bool :=
  if f = TPE.OFFSET_NS t then decide (nv f ≤ 62499)
  else if f = TPE.I2C_SPEED t then decide (nv f ≠ 3)
  else if f = TPE.TIMEOUT_US t then inRange 20 500 (nv f)
  else if f = TPE.TERM_LIMIT t then inRange 1 128 (nv f)
  else true

/-- A channel's fields (R130, R232). -/
def okCh (c : Nat) (nv : Fld → Nat) (f : Fld) : Bool :=
  if f = CH.US_RATE c then decide (nv f ≠ 3)
  else if f = CH.WIDTH_NS c then inRange 2 200 (nv f)
  else if f = CH.PLOAM_PER_FRAME c then decide (nv f ≤ 4)
  else if f = CH.PEG_LEAD_NS c then inRange 8 200 (nv f)
  else if f = CH.STROBE_LEAD_NS c then decide (nv f ≤ 200)
  else if f = CH.PEG_MAX_AGE_FRAMES c ∨ f = CH.PEG_MAX_DRIFT c ∨ f = CH.LDPC_MAX_ITER c ∨ f = CH.ROGUE_CONFIRM_FRAMES c
      ∨ f = CH.LOS_FRAMES c then decide (nv f ≠ 0)
  else true

/-- The fields of GEN (R138, R184, R185). -/
def okGen (nv : Fld → Nat) (f : Fld) : Bool :=
  if f = GEN.ARRIVAL_TOL_NS then decide (4 ≤ nv f)
  else if f = GEN.LATE_SPAN_NS then decide (nv f ≤ 1000)
  else if f = GEN.WORK_BYTES then decide (64 ≤ nv f)
  else if f = GEN.MIN_PIECE_WORDS then decide (16 ≤ nv f)
  else if f = GEN.UPF_DELAY_NS ((f.off - 0x100) / 4) then inRange 40000 625000 (nv f)
  else true

/-- A tree's reach range (R238). -/
def reachOk (lo hi upf : Nat) : Bool :=
  decide (hi ≤ 60) && decide (lo ≤ hi) && decide (hi - lo ≤ 40) && decide (hi * 9800 + 36000 ≤ upf)

/-- The fields of the RGU (R238, R265). -/
def Device.okRgu (d : Device) (nv : Fld → Nat) (f : Fld) : Bool :=
  let n := (f.off - 0x100) / 4
  if f = RGU.REACH_MIN_KM n ∨ f = RGU.REACH_MAX_KM n then
    reachOk (nv (RGU.REACH_MIN_KM n)) (nv (RGU.REACH_MAX_KM n)) (d.rd (GEN.UPF_DELAY_NS n))
  else if f = RGU.DRIFT_THRESH_NS then inRange 1 (d.rdA GEN.ARRIVAL_TOL_NS) (nv f)
  else if f = RGU.DRIFT_AVG ∨ f = RGU.RANGE_RETRIES ∨ f = RGU.LOB_FRAMES ∨ f = RGU.LOST_FRAMES then decide (nv f ≠ 0)
  else true

/-- The fields of the PTM (R292). -/
def okPtm (nv : Fld → Nat) (f : Fld) : Bool :=
  if f = PTM.VCORE_PLAN_MAX_MV then onGrid (nv f) && decide (nv PTM.VCORE_MIN_MV ≤ nv f)
  else if f = PTM.VCORE_MIN_MV then onGrid (nv f)
  else if f = PTM.WARN_C ∨ f = PTM.LIMIT_C ∨ f = PTM.TRIP_HIGH_C then
    decide (nv PTM.WARN_C < nv PTM.LIMIT_C ∧ nv PTM.LIMIT_C < nv PTM.TRIP_HIGH_C ∧ nv PTM.TRIP_HIGH_C ≤ 110)
  else if f = PTM.HYST_C then inRange 1 20 (nv f)
  else if f = PTM.TRIP_LOW_C then decide (-40 ≤ signed 8 (nv f))
  else if f = PTM.TREND_CAP_C then decide (nv f ≤ 40)
  else if f = PTM.SHORTFALL_PCT then inRange 1 50 (nv f)
  else if f = PTM.EMERG_CLEAR_FRAMES then decide (nv f ≠ 0)
  else true

/-- Whether a completion ring's consumed index is ahead of its posted index, as counters modulo 65,536 (R320). -/
def cqAhead (pi ci : Nat) : Bool := decide (0 < (ci + 65536 - pi) % 65536 ∧ (ci + 65536 - pi) % 65536 < 32768)

/-- The fields of the HIF (R320, R630). -/
def Device.okHif (d : Device) (nv : Fld → Nat) (f : Fld) : Bool :=
  let r := (f.off - 0x100) / 16
  let q := (f.off - 0x200) / 16
  let p := (f.off - 0x280) / 32
  let i := (f.off - 0x300) / 32
  if f = HIF.CR_SIZE_LOG2 r ∨ f = HIF.CQ_SIZE_LOG2 q ∨ f = HIF.PC_SIZE_LOG2 p ∨ f = HIF.IC_SIZE_LOG2 i then inRange 6 15 (nv f)
  else if f = HIF.CQ_CI q then !cqAhead (d.rd (HIF.CQ_PI q)) (nv f)
  else if f = HIF.BUF_SIZE p then decide (nv f ≠ 3)
  else if f = HIF.HOST_LOSS_MS then decide (nv f ≠ 0)
  else true

/-- The fields of the PCL (R326, R353). -/
def Device.okPcl (d : Device) (nv : Fld → Nat) (f : Fld) : Bool :=
  if f = PCL.PARSE_DEPTH_HDRS then inRange 1 16 (nv f)
  else if f = PCL.PARSE_DEPTH_BYTES then inRange 64 256 (nv f)
  else if 0x420 ≤ f.off ∧ f.off < 0x440 then decide (nv f ≤ 14)
  else if 0x4E0 ≤ f.off ∧ f.off < 0x5E0 then d.slices.contains (nv f)
  else true

/-- The fields of the CPE (R380); an AES lane is a unit of kind 2 (R592). -/
def Device.okCpe (d : Device) (nv : Fld → Nat) (f : Fld) : Bool :=
  if f = CPE.SOFT_LIMIT_LOG2 then inRange 20 39 (nv f) && decide (nv f < nv CPE.HARD_LIMIT_LOG2)
  else if f = CPE.HARD_LIMIT_LOG2 then inRange 21 40 (nv f)
  else if f = CPE.ACTIVATE_DELAY_FRAMES then decide (nv f ≠ 0)
  else if 0x420 ≤ f.off ∧ f.off < 0x440 then decide (nv f ≤ 33) && d.inService 2 (nv f)
  else true

/-- The fields of a network quad (R455, R465, R469, R470, R485, R486). -/
def Device.okNpc (d : Device) (q : Nat) (nv : Fld → Nat) (f : Fld) : Bool :=
  let s := (f.off - 0x40) / 16
  let l := (f.off - 0x100) / 16
  if f = NPC.QUAD_MODE q ∨ f = NPC.FLEXE_EN q then
    decide (nv (NPC.QUAD_MODE q) ≠ 7) && !(decide (nv (NPC.QUAD_MODE q) = 1) && decide (nv (NPC.FLEXE_EN q) = 1))
  else if f = NPC.PAUSE_POOL q s then decide (nv f = 0) || (d.poolOf (nv f)).isSome
  else if f = NPC.PRBS_GEN q l ∨ f = NPC.PRBS_CHK q l then decide (nv f ≤ 3)
  else if f = NPC.INJECT_LOG2 q l then decide (nv f = 0) || inRange 10 40 (nv f)
  else if f = NPC.MAX_FRAME_BYTES q then inRange 1518 9604 (nv f)
  else if f = NPC.PAUSE_MAX_FRAMES q then inRange 1 8 (nv f)
  else if f = NPC.TRAIN_TIMEOUT_MS q then inRange 100 12000 (nv f)
  else if f = NPC.TRAIN_RETRIES q then decide (nv f ≠ 0)
  else true

/-- The fields of the TMU (R510). -/
def okTmu (nv : Fld → Nat) (f : Fld) : Bool :=
  if f = TMU.TIME_SOURCE then decide (nv f ≠ 3)
  else if f = TMU.SLEW_PPB then inRange 1 5000 (nv f)
  else if f = TMU.HOLDOVER_AVG_S then inRange 1 3600 (nv f)
  else if f = TMU.SERVO_TIMEOUT_MS ∨ f = TMU.TOD_EVERY_FRAMES then decide (nv f ≠ 0)
  else if f = TMU.PERIOD_NS ((f.off - 0xC0) / 32) then inRange 1000 4000000000 (nv f)
  else true

/-- The fields of the MRU (R550, R551). -/
def okMru (nv : Fld → Nat) (f : Fld) : Bool :=
  if f = MRU.LOG_EPOCHS then inRange 16 4096 (nv f)
  else if f = MRU.LEASE_FRAMES then inRange 3 15 (nv f) && decide (nv MRU.MARGIN_FRAMES + 2 ≤ nv f)
  else if f = MRU.MARGIN_FRAMES then inRange 1 4 (nv f) && decide (nv f + 2 ≤ nv MRU.LEASE_FRAMES)
  else true

/-- The source of a monitor counter (R557). -/
def srcOk (page item mode : Nat) : Bool :=
  populated page && !(decide (mode = 1) && (decide ((pageInfo page).counters + 1 < item) || decide (page = 0x007)))

/-- The fields of the MON (R557, R570). -/
def okMon (nv : Fld → Nat) (f : Fld) : Bool :=
  let n := (f.off - 0x400) / 4
  if f = MON.TAG_N then inRange 1 65536 (nv f)
  else if f = MON.TAG_SEED then decide (nv f ≠ 0)
  else if 0x400 ≤ f.off ∧ f.off < 0x500 then srcOk (nv (MON.PAGE n)) (nv (MON.ITEM n)) (nv (MON.MODE n))
  else true

/-- The fields of the SPM (R610). -/
def okSpm (nv : Fld → Nat) (f : Fld) : Bool :=
  if f = SPM.PACE_WEAR_PCT then inRange 1 50 (nv f)
  else if f = SPM.PACE_AVG_FRAMES ∨ f = SPM.EYE_HOLD_MS ∨ f = SPM.ROW_CE_LIMIT then decide (nv f ≠ 0)
  else true

/-- Whether a field may take the value a write gives it, where `nv` tells what the write makes of every field of its register. A value that
may not be taken is refused (R87). -/
def Device.valueOk (d : Device) (nv : Fld → Nat) (f : Fld) : Bool :=
  let p := f.page
  if p = 0x001 then (if f.off < 0x100 then decide (f ≠ HIF.HOST_LOSS_MS) || decide (nv f ≠ 0) else d.okHif nv f)
  else if p = 0x003 then okPtm nv f
  else if p = 0x004 then okTmu nv f
  else if p = 0x005 then okMru nv f
  else if p = 0x006 then okSpm nv f
  else if p = 0x007 then okMon nv f
  else if p < 0x040 then true
  else if p < 0x080 then okTpe (p - 0x040) nv f
  else if p < 0x180 then okCh (p - 0x080) nv f
  else if p < 0x190 then d.okNpc (p - 0x180) nv f
  else if p = 0x190 then decide (f ≠ FLX.CA_TIMEOUT_OHF) || decide (nv f ≠ 0)
  else if p < 0x1B0 then decide (f ≠ SKC.SCRUB_HOURS (p - 0x1A0)) || decide (nv f ≠ 0)
  else if p = 0x1B2 then
    (if f = TMG.QUANTUM_UNIT then inRange 64 16384 (nv f) else if f = TMG.SETUP_MARGIN_NS then inRange 1000 10000000 (nv f) else true)
  else if p = 0x1B3 then d.okPcl nv f
  else if p = 0x1B4 then d.okCpe nv f
  else if p = 0x1B5 then okGen nv f
  else if p = 0x1B6 then d.okRgu nv f
  else true

/-! ### Locks (R654) -/

/-- Whether tree `t` is quiet or its lanes are down (R288). -/
def Device.treeQuiet (d : Device) (t : Nat) : Bool :=
  bit (d.rd (PTM.QUIET_TREE (t / 32))) (t % 32) || bit (d.rd (PTM.LANES_DOWN (t / 32))) (t % 32)

/-- Whether tree `t` is disabled and drained (R108, R138). -/
def Device.treeIdle (d : Device) (t : Nat) : Bool := !d.on (TPE.TREE_EN t) && d.treeDrained t

/-- Whether a field may not be changed to `v` now (R108, R138, R288, R320, R348, R455, R492, R507, R544, R550). -/
def Device.fieldLocked (d : Device) (f : Fld) (v : Nat) : Bool :=
  let p := f.page
  if p = 0x001 then
    let r := (f.off - 0x100) / 16
    let q := (f.off - 0x200) / 16
    let k := (f.off - 0x280) / 32
    let i := (f.off - 0x300) / 32
    if f.off < 0x100 then false
    else if f.off < 0x200 then (if f = HIF.CR_BASE_LO r ∨ f = HIF.CR_BASE_HI r ∨ f = HIF.CR_CQ r then d.on (HIF.CR_EN r) else false)
    else if f.off < 0x280 then (if f = HIF.CQ_BASE_LO q ∨ f = HIF.CQ_BASE_HI q then d.on (HIF.CQ_EN q) else false)
    else if f.off < 0x300 then
      if f = HIF.FB_BASE_LO k ∨ f = HIF.FB_BASE_HI k ∨ f = HIF.PR_BASE_LO k ∨ f = HIF.PR_BASE_HI k then d.on (HIF.PC_EN k)
      else false
    else if f = HIF.IR_BASE_LO i ∨ f = HIF.IR_BASE_HI i ∨ f = HIF.ICQ_BASE_LO i ∨ f = HIF.ICQ_BASE_HI i then d.on (HIF.IC_EN i)
    else false
  else if p = 0x004 then
    let o := (f.off - 0xC0) / 32
    if f = TMU.TIME_LOAD_LO ∨ f = TMU.TIME_LOAD_HI then d.on TMU.TIME_RUN
    else if f = TMU.START_LO o ∨ f = TMU.START_HI o ∨ f = TMU.PERIOD_NS o ∨ f = TMU.TIMEBASE o then decide (o < 4) && d.on (TMU.PO_EN o)
    else false
  else if p = 0x005 then
    if f = MRU.PAIR_EN ∨ f = MRU.PAIR_SIDE then decide (d.rd MRU.ROLE ≠ 0)
    else if f = MRU.LOG_POOL ∨ f = MRU.LOG_EPOCHS then d.on MRU.MIRROR_EN
    else if f = MRU.COMPAT then d.on HIF.CMD_EN
    else false
  else if p < 0x040 then false
  else if p < 0x080 then
    let t := p - 0x040
    if f = TPE.OFFSET_NS t then !d.treeIdle t
    else if f = TPE.TREE_EN t then decide (v = 1) && d.treeQuiet t
    else false
  else if p < 0x180 then
    let c := p - 0x080
    if f = CH.TX_PAM4 c ∨ f = CH.US_RATE c ∨ f = CH.DELIM_LO c ∨ f = CH.DELIM_HI c then d.on (CH.CH_EN c) || !d.drained c else false
  else if p < 0x190 then
    let q := p - 0x180
    if f = NPC.QUAD_MODE q ∨ f = NPC.FLEXE_EN q then (List.range 4).any (fun s => d.on (NPC.PORT_EN q s)) else false
  else if p = 0x1B3 then (if f = PCL.EM_SEED_A ∨ f = PCL.EM_SEED_B then d.on PCL.PCL_EN else false)
  else if p = 0x1B5 then
    let t := (f.off - 0x100) / 4
    if f = GEN.UPF_DELAY_NS t then !d.treeIdle t else false
  else false

/-- Whether every write to the word at an offset is dropped now: window registers during their operation (R85), CELL_ADDR during a read of
window 3 (R386), the sideband word during its transaction (R124), and shadows while the page is armed (R73). -/
def Device.wordLocked (d : Device) (p off : Nat) : Bool :=
  if 0xC00 ≤ off then d.on (PG.GO p ((off - 0xC00) / 256))
  else if 0x400 ≤ off ∧ off < 0x600 then d.on (PG.ARM p)
  else if p = 0x1B0 ∧ (off = 0x38 ∨ off = 0x3C) then d.on (PG.GO 0x1B0 3)
  else if 0x040 ≤ p ∧ p < 0x080 ∧ off = 0x30 then d.on (TPE.I2C_BUSY (p - 0x040))
  else false

/-! ### Fields whose writes are commands of their own -/

/-- What a write of field `f` with value `v` does where it is more than the field's new value: the operation of the command that stands for it. `x`
tells what that command needs beside the value. ARM, GO and THRESH_HI stand on every page and are not among them. -/
def ownCommand (t : Nat) (m : Master) (x : Aside) (f : Fld) (v : Nat) : Option (Device → Device) :=
  let p := f.page
  let b : Bool := decide (v = 1)
  if p = 0x000 then (if f = DEV.VLOG_CONSUMED then some (vlogConsumed t m v) else none)
  else if p = 0x001 then
    if f.off < 0x280 then none
    else if f.off < 0x300 ∧ f = HIF.PC_EN ((f.off - 0x280) / 32) ∧ v = 0 then some (puntChannelDisable t m ((f.off - 0x280) / 32))
    else if f = HIF.IC_EN ((f.off - 0x300) / 32) ∧ v = 0 then some (injectChannelDisable t m ((f.off - 0x300) / 32) (x.tags.map (·.val)))
    else none
  else if p = 0x002 then
    if f = SEC.ATTEST_GO then some (attestGo t m b)
    else if f = SEC.DEBUG_GO then some (debugGo t m b x.level.val)
    else if f = SEC.REVOKE_GO then some (revokeGo t m b)
    else if f = SEC.SVN_GO then some (svnGo t m b)
    else none
  else if p = 0x003 then
    if f = PTM.TRIP_RELEASE then some (tripRelease t m b x.railOk)
    else if 0x100 ≤ f.off ∧ f.off < 0x120 then some (quietCh t m ((f.off - 0x100) / 4) v)
    else if 0x120 ≤ f.off ∧ f.off < 0x128 then some (quietTree t m ((f.off - 0x120) / 4) v)
    else none
  else if p = 0x004 then
    if f = TMU.TIME_RUN then some (if b then timeRun t m x.partner else id)
    else if f = TMU.FREQ_ADJ then some (freqAdjWrite t m v)
    else if f = TMU.PHASE_ADJ_NS then some (phaseAdj t m v)
    else if f = TMU.TIME_OFFSET_HI then some (timeOffsetHi t m v)
    else if f = TMU.EVT_CONSUMED then some (evtConsumed t m v)
    else if f = TMU.TXS_CONSUMED then some (txsConsumed t m v)
    else if f = TMU.PO_EN ((f.off - 0xC0) / 32) then some (poEn t m ((f.off - 0xC0) / 32) b)
    else none
  else if p = 0x005 then
    if f = MRU.MIRROR_EN then some (mirrorEn t m b)
    else if f = MRU.CLAIM then some (claim t m b)
    else if f = MRU.RELEASE then some (release t m b)
    else if f = MRU.FORCE_FENCE then some (forceFence t m b)
    else if f = MRU.COLD_START then some (coldStart t m b)
    else none
  else if p = 0x006 then (if f = SPM.APPROVE then some (approve t m b) else none)
  else if p = 0x007 then
    if f = MON.TAG_EN then some (tagEn t m b)
    else if f = MON.TRACE_CONSUMED then some (traceConsumed t m v)
    else none
  else if p < 0x040 then none
  else if p < 0x080 then
    if f = TPE.I2C_GO (p - 0x040) then some (i2cGo t m ((p - 0x040) / 4) b) else none
  else if p < 0x180 then none
  else if p < 0x190 then
    let q := p - 0x180
    if f = NPC.PORT_EN q ((f.off - 0x40) / 16) ∧ v = 1 then some (portBringup t m (4 * q + (f.off - 0x40) / 16))
    else if f = NPC.INJECT_ONE q ((f.off - 0x100) / 16) then some (if b then injectOne t m (4 * q + (f.off - 0x100) / 16) else id)
    else none
  else if p = 0x1B0 then
    if f = BPM.FLOG_CONSUMED then some (flogConsumed t m v)
    else if f = BPM.CELL_ADDR_HI then some (cellAddrHi t m v)
    else none
  else if p = 0x1B5 then (if f = GEN.RING_CONSUMED then some (ringConsumed t m v) else none)
  else if p = 0x1B6 then (if f = RGU.DISC_CONSUMED then some (discConsumed t m v) else none)
  else none

end Sys2Proof.Machine
end

