-- ==== Sys2Proof/Machine/Pages.lean ====
section
/-!
DEFINITION. Register pages (chapter 02): register and alias writes, 64-bit counters, counter watches, ARM and the boundary window,
and what a read returns.
-/

namespace Sys2Proof.Machine

/-! ### Who writes where (R64, R65, R86) -/

/-- A write that lands on page `p` by master `m`: dropped and counted where no page is populated or the master is PF1. -/
def Device.landing (m : Master) (p : Nat) (f : Device → Device) (d : Device) : Device :=
  if !populated p then d.count 0x000 0x810 1
  else if m = .pf1 then d.refuse p
  else f d

/-! ### Fields (R68) -/

/-- Write one field. A low word that waits for its high word is held (R82, R386, R501). -/
def Device.putField (f : Fld) (v : Nat) (d : Device) : Device :=
  if f = PG.THRESH_LO f.page ((f.off - 0x3C0) / 16) then
    { d with pages := { d.pages with threshLo := Tbl.set d.pages.threshLo (4 * f.page + (f.off - 0x3C0) / 16) v } }
  else if f = BPM.CELL_ADDR_LO then { d with cells := { d.cells with addrLo := v } }
  else if f = TMU.TIME_OFFSET_LO then { d with tmu := { d.tmu with offsetLo := some v } }
  else d.wr f v

/-- A field as a write finds it: a held low word, or the field. -/
def Device.before (d : Device) (f : Fld) : Nat :=
  if f = PG.THRESH_LO f.page ((f.off - 0x3C0) / 16) then
    (Tbl.get? d.pages.threshLo (4 * f.page + (f.off - 0x3C0) / 16)).getD (d.rd f)
  else if f = BPM.CELL_ADDR_LO then d.cells.addrLo
  else if f = TMU.TIME_OFFSET_LO then d.tmu.offsetLo.getD (d.rd f)
  else d.rd f

/-- The first pass after a ring's enable is pass 1 (R301, R318, R319). -/
def Device.ringEnabled (ring pi size : Nat) (d : Device) : Device :=
  { d with svc := { d.svc with passBase := Tbl.set d.svc.passBase ring (pi / size % 2) } }

/-- CH_EN of channel `c` is set now: a build that starts at this instant came before it (R647). -/
def Device.channelEnabled (c : Nat) (d : Device) : Device := d.setCfr c { d.cfr c with enabledAt := some d.now }

/-- What follows from a field's new value: a port or an isolation ends, a frequency or threshold is judged again, a ring starts a pass,
and APPLIED clears (R226, R254, R283, R301, R459, R464, R496). -/
def Device.written (f : Fld) (old new : Nat) (d : Device) : Device :=
  let p := f.page
  if p = 0x001 then
    let q := (f.off - 0x200) / 16
    let k := (f.off - 0x280) / 32
    let i := (f.off - 0x300) / 32
    if old = 0 ∧ new = 1 then
      if f = HIF.CQ_EN q ∧ q < 4 then d.ringEnabled q (d.rd (HIF.CQ_PI q)) (2 ^ d.rd (HIF.CQ_SIZE_LOG2 q))
      else if f = HIF.PC_EN k ∧ k < 4 then d.ringEnabled (4 + k) (d.rd (HIF.PR_PI k)) (2 ^ d.rd (HIF.PC_SIZE_LOG2 k))
      else if f = HIF.IC_EN i ∧ i < 4 then d.ringEnabled (8 + i) (d.rd (HIF.ICQ_PI i)) (2 ^ d.rd (HIF.IC_SIZE_LOG2 i))
      else d
    else d
  else if p = 0x003 then (if f = PTM.EMERG_FORCE ∧ new = 1 then d.thresholds else d)
  else if p = 0x004 then (if f = TMU.TIME_SOURCE ∨ f = TMU.PAIR_FOLLOW ∨ f = TMU.SLEW_PPB then d.refreq else d)
  else if p < 0x080 then d
  else if p < 0x180 then 
    (if f = CH.CH_EN (p - 0x080) ∧ old = 1 ∧ new = 0 then d.stopIsolation (p - 0x080)
     else if f = CH.CH_EN (p - 0x080) ∧ old = 0 ∧ new = 1 then d.channelEnabled (p - 0x080) else d)
  else if p < 0x190 then
    let q := p - 0x180
    if f = NPC.PORT_EN q ((f.off - 0x40) / 16) ∧ old = 1 ∧ new = 0 then d.portDisable (4 * q + (f.off - 0x40) / 16)
    else if f = NPC.PRBS_GEN q ((f.off - 0x100) / 16) then d.prbsChanged q ((f.off - 0x100) / 16)
    else if f = NPC.PRBS_CHK q ((f.off - 0x100) / 16) ∧ new = 0 then d.wr (NPC.PRBS_LOCK q ((f.off - 0x100) / 16)) 0
    else if f = NPC.QUAD_MODE q ∧ old ≠ new then d.quadChanged q
    else d
  else if p = 0x1B0 then (if f = BPM.BPM_EN ∧ new = 1 then d.serve else d)
  else if p = 0x1B5 then
    let t := (f.off - 0x100) / 4
    if f = GEN.UPF_DELAY_NS t ∧ !d.on (TPE.TREE_EN t) then d.wr (RGU.APPLIED t) 0 else d
  else d

/-! ### Counters (R69, R70, R653) -/

/-- Whether a counter stands at offset `off` of page `p`. -/
def counterAt (p off : Nat) : Bool :=
  populated p && decide (off % 8 = 0) && (decide (off = 0x800 ∨ off = 0x808) || (decide (0x810 ≤ off ∧ off < 0x810 + 8 * (pageInfo p).counters)
    && !(decide ((p = 0x001 ∨ 0x080 ≤ p ∧ p < 0x180) ∧ 0x850 ≤ off ∧ off < 0x900))
    && !(decide (0x180 ≤ p ∧ p < 0x190 ∧ off < 0xA90 ∧ (off - 0x810) % 0xA0 = 0x98))))

/-- Whether a write loads the counter at an offset: SLOT_PENDING of a slice ignores it (R563). -/
def counterWrites (p off : Nat) : Bool := counterAt p off && !(decide (0x010 ≤ p ∧ p < 0x034 ∧ off = 0x838))

/-- The 64-bit value that is read in two words at offset `off`: a counter, or TIME_NOW (R510). -/
def Device.wide (d : Device) (p off : Nat) : Nat :=
  if p = 0x004 ∧ off = 0x30 then d.now else if counterAt p off then d.ctr p off else 0

/-- A master's number. -/
def masterKey : Master → Nat
  | .keeper => 0
  | .core n => 1 + n.val
  | .pf0 => 10
  | .pf1 => 11

/-- The key of what a master captured or holds of the counter at an offset. -/
def heldKey (m : Master) (p off : Nat) : Nat := (masterKey m * 2 ^ 14 + p) * 2 ^ 12 + off

/-- Whether a master may read at all at an offset of page `p` (R65); the SEC's counters are K1 (R590). -/
def Device.mayReadAt (d : Device) (m : Master) (p off : Nat) : Bool :=
  decide (m ≠ .pf1) || (d.on MON.MON_USER_EN && (decide (p = 0x007) || (decide (0x800 ≤ off ∧ off < 0xC00) && !(decide (p = 0x002 ∧ 0x810 ≤ off)))))

/-- Put a word on the bus for the reading master. -/
def Device.answer (v : Nat) (d : Device) : Device := { d with core := { d.core with busData := BitVec.ofNat 32 v } }

/-- COUNTER_LOW_READ (R69): the high word is captured for the reading master. `w` is the low word's number in the page. -/
def counterLowRead (_t : Nat) (m : Master) (p w : Nat) (d : Device) : Device :=
  let off := 4 * w
  if d.mayReadAt m p off then
    let v := d.wide p off
    ({ d with pages := { d.pages with captured := Tbl.set d.pages.captured (heldKey m p off) (v / 2 ^ 32 % 2 ^ 32) } }).answer (v % 2 ^ 32)
  else d.answer 0

/-- COUNTER_HIGH_READ (R69): the captured high word, which it uses up, or the live one. `w` is the low word's number in the page. -/
def counterHighRead (_t : Nat) (m : Master) (p w : Nat) (d : Device) : Device :=
  let off := 4 * w
  if d.mayReadAt m p off then
    match Tbl.get? d.pages.captured (heldKey m p off) with
    | some h => ({ d with pages := { d.pages with captured := d.pages.captured.erase (heldKey m p off) } }).answer h
    | none => d.answer (d.wide p off / 2 ^ 32 % 2 ^ 32)
  else d.answer 0

/-- COUNTER_LOW_WRITE (R70): the word is held for the writing master. -/
def counterLowWrite (_t : Nat) (m : Master) (p w v : Nat) (d : Device) : Device :=
  d.landing m p (fun d =>
    if counterWrites p (4 * w) then { d with pages := { d.pages with held := Tbl.set d.pages.held (heldKey m p (4 * w)) v } } else d)

/-- The load of a counter's high word with the held low word, or alone (R70). -/
def Device.loadCounter (m : Master) (p off v : Nat) (d : Device) : Device :=
  if counterWrites p off ∧ m ≠ .pf1 then
    let lo := (Tbl.get? d.pages.held (heldKey m p off)).getD (d.ctr p off % 2 ^ 32)
    ({ d with pages := { d.pages with held := d.pages.held.erase (heldKey m p off) } }).setCtr p off (v * 2 ^ 32 + lo)
  else d

/-- COUNTER_HIGH_WRITE (R70, R80): all 64 bits load in one step; the window's `inc` increments are added after the load. -/
def counterHighWrite (_t : Nat) (m : Master) (p w v inc : Nat) (d : Device) : Device :=
  d.landing m p (fun d => if counterWrites p (4 * w) then (d.loadCounter m p (4 * w) v).count p (4 * w) inc else d)

/-! ### Counter watches (R82) -/

/-- WATCH_THRESHOLD_WRITE (R82): a write of THRESH_HI of watch `n` applies the held low word with it. -/
def watchThresholdWrite (_t : Nat) (m : Master) (p n hi : Nat) (d : Device) : Device :=
  d.landing m p (fun d =>
    let lo := d.before (PG.THRESH_LO p n)
    ((({ d with pages := { d.pages with threshLo := d.pages.threshLo.erase (4 * p + n) } }).wr (PG.THRESH_LO p n) lo).wr (PG.THRESH_HI p n) hi))

/-! ### ARM (R71, R73, R74) -/

/-- ARM (R71, R73, R74): a write of ARM on page `p`. `overlap` tells that its handshake window overlaps the page's boundary window. -/
def armWrite (_t : Nat) (m : Master) (p : Nat) (v overlap : Bool) (d : Device) : Device :=
  d.landing m p (fun d =>
    if (pageInfo p).staged = 0 then d
    else if overlap && d.pages.applied.contains p then d.writeLost p 1
    else d.wr (PG.ARM p) (b2n v))

/-! ### Register writes (R62 to R68, R79 to R81, R87, R654) -/

/-- Whether a class takes software writes at all: L ignores them (R68). -/
def writable (f : Fld) : Bool := decide (f.cls ≠ .L)

/-- What a write of field `f` does where it is more than the field's new value (R62 to R85): ARM, GO, THRESH_HI, and the fields whose writes are
commands of their own. `nv` tells what the write makes of every field of the register, `hw` the bits hardware updates in the same window. GO with the
reserved OP 3 starts nothing and reads 0 (the spec names no effect of it: DESIGN CHOICE, log entry 16). -/
def ownWrite (t : Nat) (m : Master) (x : Aside) (nv : Fld → Nat) (hw : Nat) (f : Fld) : Option (Device → Device) :=
  let p := f.page
  let w := (f.off - 0xC00) / 256
  let n := (f.off - 0x3C0) / 16
  if f = PG.ARM p then some (armWrite t m p (decide (nv f = 1)) (bit hw 0))
  else if f = PG.THRESH_HI p n then some (watchThresholdWrite t m p n (nv f))
  else if f = PG.GO p w then
    some (if nv f = 1 ∧ nv (PG.OP p w) ≠ 3 then Device.winStart m p w (nv (PG.OP p w)) (nv (PG.WORDS p w)) else id)
  else ownCommand t m x f (nv f)

/-- Count the refusals of one register write once (R87): `n` is PAGE_REFUSED before it, `more` tells that a field was refused. -/
def Device.refusedOnce (p n : Nat) (more : Bool) (d : Device) : Device :=
  if more || decide (d.ctr p 0x808 ≠ n) then d.setCtr p 0x808 (n + 1) else d

/-- Write the fields `fs` of one register: none where a locked field would change, else all but the refused ones (R87, R654). `nv` tells what the write
makes of a field, `hw` marks the bits hardware updates in the same window, which an H field of them loses to (R80), `inc` the increments of a
counting field. -/
def Device.putFields (t : Nat) (m : Master) (p : Nat) (nv : Fld → Nat) (hw inc : Nat) (x : Aside) (fs : List Fld) (d : Device) : Device :=
  let mine := fs.filter (fun f => mayWrite m f.rstr)
  if mine.any (fun f => d.fieldLocked f (nv f) && decide (nv f ≠ d.before f)) then d.lockedWrite p
  else
    let lost := mine.filter (fun f => decide (f.cls = .H) && decide (bits hw f.lo f.width ≠ 0) && decide (f ≠ PG.ARM p))
    let rest := mine.filter (fun f => !lost.contains f)
    let plain := rest.filter (fun f => (ownWrite t m x nv hw f).isNone)
    let kept := plain.filter (fun f => d.valueOk nv f)
    let olds := kept.map (fun f => (f, d.before f))
    let n := d.ctr p 0x808
    let d := forEach kept (fun f d => d.putField f (if f.cls = .C then nv f + inc else nv f)) d
    let d := forEach olds (fun e d => d.written e.1 e.2 (nv e.1)) d
    let d := forEach (rest.filterMap (ownWrite t m x nv hw)) (fun g d => g d) d
    let d := if lost.isEmpty then d else d.writeLost p lost.length
    d.refusedOnce p n (decide (mine.length < fs.length) || decide (kept.length < plain.length))

/-- BIT_ALIAS_WRITE (R62 to R64, R67, R81): master `m` writes the alias of bit `b` of the word at offset `off` of page `p`. `hw` tells that hardware
updates the bit in the same window. PF1 has no aliases (R65). -/
def bitAliasWrite (t : Nat) (m : Master) (p w b : Nat) (v full hw : Bool) (x : Aside) (d : Device) : Device :=
  let off := 4 * w
  if m = .pf1 then d
  else d.landing m p (fun d =>
    if !full then d.refuse p
    else match (fieldsOf p off).find? (fun f => decide (f.lo ≤ b ∧ b < f.lo + f.width)) with
    | none => d
    | some f =>
      let old := d.before f
      let bitVal := 2 ^ (b - f.lo)
      let new : Nat := if v then old ||| bitVal else if bit old (b - f.lo) then old - bitVal else old
      if f.cls = .L ∨ f.cls = .C then d
      else if d.wordLocked p off then d.lockedWrite p
      else
        let nv (g : Fld) : Nat := if g = f then new else d.before g
        d.putFields t m p nv (if hw then 2 ^ b else 0) 0 x [f])

/-- The page, word and bit whose alias stands at word `w` of page number `p` of BAR0 (R62). -/
def aliasAt (p w : Nat) : Option (Nat × Nat × Nat) :=
  if p < 0x2000 then none
  else
    let a := (p - 0x2000) * 0x1000 + 4 * w
    some (a / 0x8000, a % 0x8000 / 128, a % 128 / 4)

/-- One 32-bit write (R62, R64, R67, R68, R70, R73, R79, R80, R85, R87, R654): master `m` writes `b` at word `w` of page number `p` of BAR0. The words above
the pages are the bit aliases, which PF1 does not have. -/
def Device.writeWord (t : Nat) (m : Master) (p w : Nat) (b : BusWord) (x : Aside) (d : Device) : Device :=
  let off := 4 * w
  let v := b.v.toNat
  let hw := b.hw.toNat
  match (if m = .pf1 then none else aliasAt p w) with
  | some (q, o, i) => bitAliasWrite t m q o i (bit v 0) b.full (bit hw 0) x d
  | none =>
    d.landing m p (fun d =>
      if !b.full then d.refuse p
      else if counterAt p off then counterLowWrite t m p w v d
      else if counterAt p (off - 4) ∧ off % 8 = 4 then counterHighWrite t m p (w - 1) v b.inc d
      else
        let fs := (fieldsOf p off).filter writable
        let nv (f : Fld) : Nat := if f.off = off then bits v f.lo f.width else d.before f
        if fs.isEmpty then d
        else if d.wordLocked p off then d.lockedWrite p
        else d.putFields t m p nv hw b.inc x fs)

/-- REGISTER_WRITE (R67): one host write, of the word `lo` at word `w` of page number `p`, or of 64 bits there, applied as two writes, lower address
first. -/
def registerWrite (t : Nat) (m : Master) (p w : Nat) (lo : BusWord) (hi : Option BusWord) (x : Aside) (d : Device) : Device :=
  let d := d.writeWord t m p w lo x
  match hi with
  | some b => if w % 2 = 0 then d.writeWord t m p (w + 1) b x else d
  | none => d

/-- The load of a counter that such a write makes, which no monitor counts (R70, R556). -/
def hostLoads (m : Master) (p w : Nat) (lo : BusWord) (hi : Option BusWord) (d : Device) : Device :=
  if m = .pf1 then d
  else if w % 2 = 1 then (if lo.full then d.loadCounter m p (4 * (w - 1)) lo.v.toNat else d)
  else match hi with
    | some b =>
      if b.full ∧ counterWrites p (4 * w) then (if lo.full then counterLowWrite 0 m p w lo.v.toNat d else d).loadCounter m p (4 * w) b.v.toNat else d
    | none => d

/-! ### The boundary window (R71 to R78) -/

/-- Whether page `p` is in a tree block, and the tree (R75). -/
def treeBlock (p : Nat) : Option Nat :=
  if 0x040 ≤ p ∧ p < 0x080 then some (p - 0x040) else if 0x080 ≤ p ∧ p < 0x180 then some ((p - 0x080) / 4) else none

/-- Whether HOLD keeps page `p` from applying (R72). -/
def Device.heldBack (d : Device) (p : Nat) : Bool :=
  match treeBlock p with
  | some t => d.on (PG.HOLD (0x040 + t))
  | none => false

/-- The listed shadows of page `p`, moved to the keys of their applied copies. -/
def Device.shadows (d : Device) (p : Nat) : Tbl Nat :=
  (d.regs.filter (fun e => decide (p * 0x8000 + 0x2000 ≤ e.1 ∧ e.1 < p * 0x8000 + 0x3000))).map (fun e => (e.1 + 0x1000, e.2))

/-- The listed applied copies of page `p`. -/
def Device.appliedRegs (d : Device) (p : Nat) : Tbl Nat :=
  d.regs.filter (fun e => decide (p * 0x8000 + 0x3000 ≤ e.1 ∧ e.1 < p * 0x8000 + 0x4000))

/-- STAGE_PENDING: a shadow differs from its applied copy (R59). -/
def Device.stagePending (d : Device) (p : Nat) : Bool := decide (d.shadows p ≠ d.appliedRegs p)

/-- Copy every shadow of page `p` to its applied copy in one step. -/
def Device.copyStaged (p : Nat) (d : Device) : Device :=
  { d with regs := d.regs.filter (fun e => decide (e.1 < p * 0x8000 + 0x3000)) ++ d.shadows p
      ++ d.regs.filter (fun e => decide (p * 0x8000 + 0x4000 ≤ e.1)) }

/-- A spread entry that the applied set moves: counted, and its packets wait for their old slice (R327). -/
def Device.spreadMoved (d0 : Device) (e : Nat) (d : Device) : Device :=
  let old := d0.rdA (spreadField e)
  if d.rdA (spreadField e) = old then d
  else d.leaveSlice e old

/-- What the application of a page's set does beside the copy: moved spread entries (R327), key limits (R368), and monitor counters loaded with 0 (R558). -/
def Device.onApplied (d0 : Device) (p : Nat) (d : Device) : Device :=
  if p = 0x1B3 then forEach (List.range 256) (fun e d => Device.spreadMoved d0 e d) d
  else if p = 0x1B4 then d.rejudgeKeys
  else if p = 0x007 then
    forEach (List.range 64) (fun n d => if d.rdA (MON.CLEAR_ON_APPLY n) = 1 then d.setCtr 0x007 (0x810 + 8 * n) 0 else d) d
  else d

/-- The boundary window of one page (R72). -/
def Device.pageWindow (p : Nat) (d : Device) : Device :=
  let go := decide ((pageInfo p).staged ≠ 0) && d.on (PG.ARM p) && !d.heldBack p
  let rest := d.pages.applied.filter (fun x => x ≠ p)
  let d1 : Device := { d with pages := { d.pages with applied := if go then p :: rest else rest } }
  let d2 := if go then
      (Device.onApplied d p (((d1.copyStaged p).wr (PG.ARM p) 0).wr (PG.APPLY_COUNT p) (d.rd (PG.APPLY_COUNT p) + 1)))
    else d1
  d2.bumpBoundary p

/-- The pages whose boundary is page `p`'s: the tree block's five pages, or the page alone (R71, R75). The FlexE page's boundaries are its
calendar switches. -/
def windowPages (p : Nat) : List Nat :=
  match treeBlock p with
  | some t => (0x040 + t) :: (List.range 4).map (fun w => 0x080 + 4 * t + w)
  | none => if populated p ∧ p ≠ 0x190 then [p] else []

/-- Whether a page's boundary is one of device time: a frame, a tree frame or an epoch. No such boundary passes while device time stands
still (R492). -/
def timedPage (p : Nat) : Bool := [1, 2, 6].contains (pageInfo p).boundary

/-- BOUNDARY_WINDOW (R72, R75, R78): the boundary of page `p`. -/
def boundaryWindow (_t p : Nat) (d : Device) : Device :=
  if timedPage p && !d.running then d else forEach (windowPages p) Device.pageWindow d

/-! ### Reads (R58, R59, R65, R84, R87) -/

/-- PAGE_ID of page `p` (R59). -/
def pageId (p : Nat) : Nat := (pageInfo p).kind * 2 ^ 24 + (pageInfo p).instance_ * 2 ^ 16 + 0xB001

/-- PAGE_CAP of page `p` (R59, R653). -/
def pageCap (p : Nat) : Nat :=
  let i := pageInfo p
  i.counters * 2 ^ 16 + i.staged * 2 ^ 8 + i.windows * 2 ^ 4 + i.boundary

/-- Whether a master may read a field of this restriction (R65, R86). -/
def mayRead (m : Master) (k : Key) : Bool := decide (k = .open) || mayWrite m k

/-- A field as a read finds it (R68, R82): a low word that waits for its high word reads as written, a live field as it is. -/
def Device.readField (d : Device) (f : Fld) : Nat := if f.cls = .D then d.before f else d.show f

/-- The word a plain read of offset `off` of page `p` returns to master `m`, counters apart. There is no command for it. -/
def Device.readWord (d : Device) (m : Master) (p off : Nat) : Nat :=
  if !populated p || !d.mayReadAt m p off then 0
  else if off = 0x000 then pageId p
  else if off = 0x004 then pageCap p
  else if off = 0x008 then d.pageState p
  else
    let fs (o : Nat) : List Fld := (fieldsOf p o).filter (fun f => mayRead m f.rstr)
    if 0x600 ≤ off ∧ off < 0x800 then ((fs (off - 0x200)).map (fun f => d.rdA f * 2 ^ f.lo)).sum
    else ((fs off).map (fun f => d.readField f * 2 ^ f.lo)).sum + (if off = 0x010 ∧ d.stagePending p then 2 ^ 31 else 0)

/-- The word a plain read at word `w` of page number `p` of BAR0 returns to master `m`: a register, or above the pages a bit alias, which holds its bit in
bit 0 (R62 to R64). -/
def Device.readBar (d : Device) (m : Master) (p w : Nat) : Nat :=
  match aliasAt p w with
  | some (q, o, i) => if m = .pf1 then 0 else b2n (bit (d.readWord m q (4 * o)) i)
  | none => d.readWord m p (4 * w)

end Sys2Proof.Machine
end

