-- ==== Sys2Proof/Machine/Frames.lean ====
section
/-!
DEFINITION. Device frame boundaries and tree frame boundaries (R12, R94): what every block does at them. None passes while device time stands
still (R492).
-/

namespace Sys2Proof.Machine

/-- A device frame in which a command ring waited for a completion slot is counted as it ends (R297). -/
def Device.cqFrame (d : Device) : Device :=
  let d := d.countIf d.svc.cqFullFrame 0x001 0x930
  let stalled := d.cqStalled
  { d with svc := { d.svc with cqFullFrame := stalled } }

/-- FRAME_BOUNDARY (R12, R275, R297, R440, R497, R517): a device frame starts. `cs` and `qs` name the counters and queues that the sweep of
R522 carries in the epoch of the frame before, beside those of its turn; `ack` is an acknowledgement stamped at this instant (R548). -/
def frameBoundary (_t : Nat) (cs qs : List Nat) (ack : Option Nat) (d : Device) : Device :=
  if d.running then ((((d.lowerVcore).cqFrame).tmuFrame).epochBoundary cs qs ack).sampleQueues else d

/-- TREE_FRAME_BOUNDARY (R94, R97, R141, R505): a tree frame of tree `tree` starts. -/
def treeFrameBoundary (t tree : Nat) (d : Device) : Device :=
  let k := d.treeFrame tree t
  if d.running then ((framerBoundary tree k d).dueCorrections tree k).todUpdate tree k else d

end Sys2Proof.Machine
end

