-- ==== Sys2Proof/Machine/Run.lean ====
section
/-!
DEFINITION. How a command meets the device: device time comes to the command's instant, the command has its effect, and what follows at
once from the new state follows (monitor counters, falls of FlexE clients, a Capo let go, an exchange that was waiting).
-/

namespace Sys2Proof.Machine

/-! ### Monitor counters (R556 to R560) -/

/-- The monitor counters, by number. -/
def monitors : List Nat := List.range 64

/-- Whether monitor counter `n` counts in mode `m`. -/
def Device.monMode (d : Device) (n m : Nat) : Bool := decide (d.rdA (MON.MODE n) = m)

/-- The level of the PAGE_STATE bit that monitor counter `n` selects. -/
def Device.monLevel (d : Device) (n : Nat) : Bool := bit (d.pageState (d.rdA (MON.PAGE n))) (d.rdA (MON.ITEM n))

/-- Add to monitor counter `n`. -/
def Device.monAdd (n k : Nat) (d : Device) : Device := if k = 0 then d else d.count 0x007 (0x810 + 8 * n) k

/-- MODE 3: `dt` ns of device time pass with the levels as they stand. -/
def Device.monTime (dt : Nat) (d : Device) : Device :=
  forEach (monitors.filter (fun n => d.monMode n 3 && d.monLevel n)) (fun n d => d.monAdd n dt) d

/-- MODE 1: what block counters gained since `d0`. -/
def Device.monEvents (d0 : Device) (d : Device) : Device :=
  forEach (monitors.filter (fun n => d.monMode n 1)) (fun n d =>
    let p := d.rdA (MON.PAGE n)
    let off := 0x800 + 8 * d.rdA (MON.ITEM n)
    d.monAdd n (d.ctr p off - d0.ctr p off)) d

/-- Every slice in service offers its slots for `dt` ns, which monitors of MODE 1 may count (R556, R560). -/
def Device.slotTime (dt : Nat) (d : Device) : Device :=
  if d.pow.pace = [] then d else Device.monEvents d (forEach (d.slices.filter (fun s => decide (s < 36))) (Device.slotsOffered dt) d)

/-- MODE 2: rising edges since `d0`. -/
def Device.monEdges (d0 : Device) (own : Bool) (d : Device) : Device :=
  forEach (monitors.filter (fun n => d.monMode n 2 && (decide (d.rdA (MON.PAGE n) = 0x007) || !own) && !d0.monLevel n && d.monLevel n))
    (fun n d => d.monAdd n 1) d

/-! ### Before and after a command -/

/-- Device time comes to instant `t`, if it runs: levels and slots are counted, the phase slews (R497), and what the host's ring lost its
claim to be written again is forgotten (R625). The outputs of the command before are gone. -/
def Device.arrive (t : Nat) (d : Device) : Device :=
  let d := { d with core := { d.core with out := [] } }
  if d.running && decide (d.now < t) then
    let dt := t - d.now
    let d := ((d.monTime dt).slotTime dt).slew dt
    let d := { d with core := { d.core with time := t } }
    if d.hostUp then { d with hif := { d.hif with recent := d.hif.recent.filter (fun e => decide (t ≤ e.1 + 2000)) } } else d
  else d

/-- A stalled completion ring marks its frame (R297). -/
def Device.markStall (d : Device) : Device :=
  if d.cqStalled then { d with svc := { d.svc with cqFullFrame := true } } else d

/-- Every lane's measured light follows whether its channel receives (R191). -/
def Device.seeLights (d : Device) : Device := forEach ((d.bursts.brx.map (·.1)).filter (fun c => decide (c < 256))) Device.seeLight d

/-- What follows at once. `d0` is the device before the command, `base` the one whose counters monitors compare with. -/
def Device.after (d0 base : Device) (d : Device) : Device :=
  let d := ((Device.countClientFalls d0 d).markStall).seeLights
  let d := Device.noteLob d0 d
  let d := if d0.capo && !d.capo then d.cmdsLoseCapo else d
  let d := d.pllDue.quietVectors.startBurn
  let d1 := Device.monEvents base d
  let d2 := Device.monEdges d0 false d1
  Device.monEdges d1 true d2

/-! ### A command on the machine -/

/-- The machine after a command: `d0` is the device at the command's instant, `d` what the command made of it. -/
def State.ran (s : State) (base d : Device) : State := { s with dev := Device.after s.dev base d }

/-- The outcome of a command with effect `f` at instant `t`: a next state, whatever the command. While PORST_N is low no command but its own
reaches the device (R642). -/
def onDevice (t : Nat) (f : Device → Device) (s : State) : Host.Outcome State Fault Refusal :=
  if s.inReset then .next s else .next (s.ran (s.dev.arrive t) (f (s.dev.arrive t)))

/-- The same where the command first loads a counter with `load`, which no monitor counts (R556, R70). -/
def onLoaded (t : Nat) (load f : Device → Device) (s : State) : Host.Outcome State Fault Refusal :=
  if s.inReset then .next s else .next (s.ran (load (s.dev.arrive t)) (f (s.dev.arrive t)))

end Sys2Proof.Machine
end

