-- ==== Sys2Proof/Machine/BurstMeanings.lean ====
section
/-!
DEFINITION. The meanings of the commands of burst reception (chapter 05): each runs its effect on the device at its instant.
-/

namespace Sys2Proof.Machine

/-- PEG_LOAD (R193). -/
def execPegLoad (t : Nat) (c : Chan) (k ix : Nat) (s : State) : Host.Outcome State Fault Refusal :=
  onDevice t (fun d => pegLoad d.now c.val k ix d) s

/-- STROBE_PULSE (R194). -/
def execStrobePulse (t : Nat) (c : Chan) (k : Nat) (ix : Option Nat) (s : State) : Host.Outcome State Fault Refusal :=
  onDevice t (fun d => strobePulse d.now c.val k ix d) s

/-- DELIMITER_ACCEPT (R199). -/
def execDelimiterAccept (t : Nat) (c : Chan) (errs : Nat) (hec : Hec) (n : Fin 512) (dg sn : Bool) (s : State) : Host.Outcome State Fault Refusal :=
  onDevice t (fun d => delimiterAccept d.now c.val errs hec n.val dg sn d) s

/-- BURST_END (R211). -/
def execBurstEnd (t : Nat) (c : Chan) (r : BurstRx) (s : State) : Host.Outcome State Fault Refusal :=
  onDevice t (fun d => burstEndCmd d.now c.val r d) s

/-- SIGNAL_DETECT_CHANGE (R215). -/
def execSignalDetectChange (t : Nat) (c : Chan) (on : Bool) (s : State) : Host.Outcome State Fault Refusal :=
  onDevice t (fun d => signalDetectChange d.now c.val on d) s

/-- CONTINUOUS_LIGHT (R216). -/
def execContinuousLight (t : Nat) (c : Chan) (s : State) : Host.Outcome State Fault Refusal :=
  onDevice t (fun d => continuousLight d.now c.val d) s

/-- UPSTREAM_FRAME_END (R216). -/
def execUpstreamFrameEnd (t : Nat) (c : Chan) (k : Nat) (s : State) : Host.Outcome State Fault Refusal :=
  onDevice t (fun d => upstreamFrameEnd d.now c.val k d) s

/-- VLOG_CONSUMED (R235). -/
def execVlogConsumed (t : Nat) (m : Master) (v : Fin 8192) (s : State) : Host.Outcome State Fault Refusal :=
  onDevice t (fun d => vlogConsumed d.now m v.val d) s

/-- ROGUE_ISOLATION_START (R222). -/
def execRogueIsolationStart (t : Nat) (c : Chan) (s : State) : Host.Outcome State Fault Refusal :=
  onDevice t (fun d => rogueIsolationStart d.now c.val d) s

/-- QUIET_WINDOW_RESULT (R223). -/
def execQuietWindowResult (t : Nat) (c : Chan) (s : State) : Host.Outcome State Fault Refusal :=
  onDevice t (fun d => quietWindowResult d.now c.val d) s

/-- ROGUE_UNRESOLVED_CHECK (R226). -/
def execRogueUnresolvedCheck (t : Nat) (c : Chan) (s : State) : Host.Outcome State Fault Refusal :=
  onDevice t (fun d => rogueUnresolvedCheck d.now c.val d) s

/-- BURST_PROFILE_QUEUE (R196). -/
def execBurstProfileQueue (t : Nat) (c : Chan) (s : State) : Host.Outcome State Fault Refusal :=
  onDevice t (fun d => burstProfileQueue d.now c.val d) s

end Sys2Proof.Machine
end

