-- ==== Sys2Proof/Machine/CellMeanings.lean ====
section
/-!
DEFINITION. The meanings of the commands of cells, pools and queues (chapter 11): each runs its effect on the device at its instant.
-/

namespace Sys2Proof.Machine

/-- CELL_REQUEST (R397). -/
def execCellRequest (t win : Nat) (r : Fin 41) (pool : Fin 256) (pkt : Option Nat) (cut : Option Bool) (s : State) : Host.Outcome State Fault Refusal :=
  onDevice t (fun d => cellRequest d.now win r.val pool.val pkt cut d) s

/-- WAIT_TIMEOUT (R398). -/
def execWaitTimeout (t : Nat) (r : Fin 41) (s : State) : Host.Outcome State Fault Refusal :=
  onDevice t (fun d => waitTimeout d.now r.val d) s

/-- BUFFER_FREE (R402). -/
def execBufferFree (t : Nat) (r : Fin 41) (p : Nat) (owner : Fin 2097152) (gen : Fin 64) (errs : Tbl CodeRead) (s : State) : Host.Outcome State Fault Refusal :=
  onDevice t (fun d => bufferFree d.now r.val p owner.val gen.val errs d) s

/-- FLOG_CONSUMED (R403). -/
def execFlogConsumed (t : Nat) (m : Master) (v : Fin 2048) (s : State) : Host.Outcome State Fault Refusal :=
  onDevice t (fun d => flogConsumed d.now m v.val d) s

/-- CELL_ADDR (R386). -/
def execCellAddr (t : Nat) (m : Master) (v : Fin 4096) (s : State) : Host.Outcome State Fault Refusal :=
  onDevice t (fun d => cellAddrHi d.now m v.val d) s

/-- PACKET_PUSH (R407). -/
def execPacketPush (t n : Nat) (pop : Bool) (errs : Tbl CodeRead) (s : State) : Host.Outcome State Fault Refusal :=
  onDevice t (fun d => packetPush d.now n pop errs d) s

/-- PACKET_END (R407). -/
def execPacketEnd (t n : Nat) (whole : Bool) (s : State) : Host.Outcome State Fault Refusal :=
  onDevice t (fun d => packetEnd d.now n whole d) s

/-- PACKET_POP (R410). -/
def execPacketPop (t : Nat) (q : Fin 1048576) (errs : Tbl CodeRead) (s : State) : Host.Outcome State Fault Refusal :=
  onDevice t (fun d => packetPop d.now q.val errs d) s

/-- FLUSH_COMMIT (R412). -/
def execFlushCommit (t : Nat) (q : Fin 1048576) (s : State) : Host.Outcome State Fault Refusal :=
  onDevice t (fun d => flushCommit d.now q.val d) s

/-- SCRUB_READ (R390). -/
def execScrubRead (t : Nat) (at_ : ScrubAt) (e : CodeRead) (last : Bool) (s : State) : Host.Outcome State Fault Refusal :=
  onDevice t (fun d => scrubRead d.now at_ e last d) s

/-- DRAM_REFRESH (R393). -/
def execDramRefresh (t : Nat) (stack : Fin 8) (s : State) : Host.Outcome State Fault Refusal :=
  onDevice t (fun d => dramRefresh d.now stack.val d) s

/-- SKC_READY (R394). -/
def execSkcReady (t : Nat) (stack : Fin 8) (s : State) : Host.Outcome State Fault Refusal :=
  onDevice t (fun d => skcReady d.now stack.val d) s

/-- OWNER_CLEAR (R404). -/
def execOwnerClear (t : Nat) (s : State) : Host.Outcome State Fault Refusal :=
  onDevice t (fun d => ownerClear d.now d) s

end Sys2Proof.Machine
end

