-- ==== Sys2Proof/Machine/CipherMeanings.lean ====
section
/-!
DEFINITION. The meanings of the commands of the cipher engine (chapter 10): each runs its effect on the device at its instant.
-/

namespace Sys2Proof.Machine

/-- XGEM_ENCRYPT (R364). -/
def execXgemEncrypt (t : Nat) (tree : Tree) (s : State) : Host.Outcome State Fault Refusal :=
  onDevice t (fun d => xgemEncrypt d.now tree.val d) s

/-- XGEM_DECRYPT (R366). -/
def execXgemDecrypt (t : Nat) (c : Chan) (k : Nat) (x : TermIx) (port : Fin 65536) (ki : Fin 4) (options : Fin 262144) (word : Word32) (body : List Nat) (s : State) : Host.Outcome State Fault Refusal :=
  onDevice t (fun d => xgemDecrypt d.now c.val k x.val port.val ki.val options.val word.toNat body d) s

/-- TAG_RESULT (R370). -/
def execTagResult (t n : Nat) (s : State) : Host.Outcome State Fault Refusal :=
  onDevice t (fun d => tagResult d.now n d) s

/-- KEY_ACTIVATION (R360). -/
def execKeyActivation (t : Nat) (slot : Fin 65536) (s : State) : Host.Outcome State Fault Refusal :=
  onDevice t (fun d => keyActivation d.now slot.val d) s

/-- CLOCK_ALARM (R373). -/
def execClockAlarm (t : Nat) (s : State) : Host.Outcome State Fault Refusal :=
  onDevice t (fun d => clockAlarm d.now d) s

/-- GLITCH_ALARM (R373). -/
def execGlitchAlarm (t : Nat) (s : State) : Host.Outcome State Fault Refusal :=
  onDevice t (fun d => glitchAlarm d.now d) s

/-- TEMPERATURE_ALARM (R373). -/
def execTemperatureAlarm (t : Nat) (q : Int) (s : State) : Host.Outcome State Fault Refusal :=
  onDevice t (fun d => temperatureAlarm d.now q d) s

end Sys2Proof.Machine
end

