-- ==== Sys2Proof/Machine/ClockMeanings.lean ====
section
/-!
DEFINITION. The meanings of the commands of device time (chapter 14): each runs its effect on the device at its instant.
-/

namespace Sys2Proof.Machine

/-- TIME_RUN (R492). -/
def execTimeRun (t : Nat) (m : Master) (partner : Option Nat) (s : State) : Host.Outcome State Fault Refusal :=
  onDevice t (fun d => timeRun d.now m partner d) s

/-- EVENT_EDGE (R506). -/
def execEventEdge (t : Nat) (ix : Fin 8) (falling : Bool) (held : Nat) (s : State) : Host.Outcome State Fault Refusal :=
  onDevice t (fun d => eventEdge d.now ix.val falling held d) s

/-- EVT_CONSUMED (R512). -/
def execEvtConsumed (t : Nat) (m : Master) (v : Fin 512) (s : State) : Host.Outcome State Fault Refusal :=
  onDevice t (fun d => evtConsumed d.now m v.val d) s

/-- TXS_CONSUMED (R512). -/
def execTxsConsumed (t : Nat) (m : Master) (v : Fin 512) (s : State) : Host.Outcome State Fault Refusal :=
  onDevice t (fun d => txsConsumed d.now m v.val d) s

/-- PULSE_OUTPUT (R507). -/
def execPulseOutput (t : Nat) (o : Fin 4) (s : State) : Host.Outcome State Fault Refusal :=
  onDevice t (fun d => pulseOutput d.now o.val d) s

/-- PO_EN (R507). -/
def execPoEn (t : Nat) (m : Master) (o : Fin 4) (v : Bool) (s : State) : Host.Outcome State Fault Refusal :=
  onDevice t (fun d => poEn d.now m o.val v d) s

/-- PHASE_ADJ (R497). -/
def execPhaseAdj (t : Nat) (m : Master) (v : Word32) (hw : Bool) (s : State) : Host.Outcome State Fault Refusal :=
  onDevice t (fun d => d.colliding m .k1 tmuPage hw (phaseAdj d.now m v.toNat)) s

/-- FREQ_ADJ (R497). -/
def execFreqAdj (t : Nat) (m : Master) (v : Word32) (s : State) : Host.Outcome State Fault Refusal :=
  onDevice t (fun d => freqAdjWrite d.now m v.toNat d) s

/-- TIME_OFFSET (R501). -/
def execTimeOffset (t : Nat) (m : Master) (v : Word32) (s : State) : Host.Outcome State Fault Refusal :=
  onDevice t (fun d => timeOffsetHi d.now m v.toNat d) s

/-- HOLDOVER_ENTRY (R498). -/
def execHoldoverEntry (t : Nat) (s : State) : Host.Outcome State Fault Refusal :=
  onDevice t (fun d => holdoverEntry d.now d) s

/-- TIME_EXCHANGE (R500). -/
def execTimeExchange (t : Nat) (diff : Int) (s : State) : Host.Outcome State Fault Refusal :=
  onDevice t (fun d => timeExchange d.now diff d) s

/-- TIME_REFERENCE_CHANGE (R510). -/
def execTimeReferenceChange (t : Nat) (ok : Bool) (s : State) : Host.Outcome State Fault Refusal :=
  onDevice t (fun d => timeReferenceChange d.now ok d) s

end Sys2Proof.Machine
end

