-- ==== Sys2Proof/Machine/FretboardMeanings.lean ====
section
/-!
DEFINITION. The meanings of the commands of the Fretboard (chapter 04): each runs its effect on the device at its instant.
-/

namespace Sys2Proof.Machine

/-- MAP_BUILD_START (R139). -/
def execMapBuildStart (t : Nat) (c : Chan) (s : State) : Host.Outcome State Fault Refusal :=
  onDevice t (fun d => mapBuildStart d.now c.val d) s

/-- MAP_SEAL (R140). -/
def execMapSeal (t : Nat) (c : Chan) (s : State) : Host.Outcome State Fault Refusal :=
  onDevice t (fun d => mapSeal d.now c.val d) s

/-- GRANT_RECORD_POST (R168). -/
def execGrantRecordPost (t : Nat) (c : Chan) (k ix : Nat) (g : GrantDecode) (s : State) : Host.Outcome State Fault Refusal :=
  onDevice t (fun d => grantRecordPost d.now c.val k ix g d) s

/-- RING_CONSUMED (R190). -/
def execRingConsumed (t : Nat) (m : Master) (v : Fin 131072) (s : State) : Host.Outcome State Fault Refusal :=
  onDevice t (fun d => ringConsumed d.now m v.val d) s

end Sys2Proof.Machine
end

