-- ==== Sys2Proof/Machine/MirrorMeanings.lean ====
section
/-!
DEFINITION. The meanings of the commands of the mirror and the Capo (chapter 15): each runs its effect on the device at its instant.
-/

namespace Sys2Proof.Machine

/-- EPOCH_MARKER_SEND (R523). -/
def execEpochMarkerSend (t : Nat) (bytes : Fin 16777216) (n : Nat) (base : Option Word32) (s : State) : Host.Outcome State Fault Refusal :=
  onDevice t (fun d => epochMarkerSend d.now bytes.val n (base.map (·.toNat)) d) s

/-- SOUNDPOST_RECORD_RECEIVE (R514). -/
def execSoundpostRecordReceive (t : Nat) (good required : Bool) (x : Option PairMsg) (s : State) : Host.Outcome State Fault Refusal :=
  onDevice t (fun d => soundpostRecordReceive d.now good required x d) s

/-- EPOCH_COMMIT (R523). -/
def execEpochCommit (t : Nat) (e : Epoch) (whole replay : Bool) (s : State) : Host.Outcome State Fault Refusal :=
  onDevice t (fun d => epochCommit d.now e whole replay d) s

/-- EPOCH_DEADLINE (R525). -/
def execEpochDeadline (t k : Nat) (s : State) : Host.Outcome State Fault Refusal :=
  onDevice t (fun d => epochDeadline d.now k d) s

/-- EPOCH_ACK_RECEIVE (R528). -/
def execEpochAckReceive (t k : Nat) (s : State) : Host.Outcome State Fault Refusal :=
  onDevice t (fun d => epochAckReceive d.now k d) s

/-- REWIND (R529). -/
def execRewind (t e : Nat) (s : State) : Host.Outcome State Fault Refusal :=
  onDevice t (fun d => rewind d.now e d) s

/-- RESYNC_REQUEST (R530). -/
def execResyncRequest (t : Nat) (s : State) : Host.Outcome State Fault Refusal :=
  onDevice t (fun d => resyncRequest d.now d) s

/-- BASE_MARKER_RECEIVE (R530). -/
def execBaseMarkerReceive (t b : Nat) (x : Tables) (good : Bool) (s : State) : Host.Outcome State Fault Refusal :=
  onDevice t (fun d => baseMarkerReceive d.now b x good d) s

/-- CAPO_RENEWAL (R532). -/
def execCapoRenewal (t : Nat) (bad : Bool) (s : State) : Host.Outcome State Fault Refusal :=
  onDevice t (fun d => capoRenewal d.now bad d) s

/-- PIN_MESSAGE_RECEIVE (R515). -/
def execPinMessageReceive (t : Nat) (w : BitVec 64) (s : State) : Host.Outcome State Fault Refusal :=
  onDevice t (fun d => pinMessageReceive d.now w.toNat d) s

/-- RENEWAL_RECEIVE (R533). -/
def execRenewalReceive (t : Nat) (pins : Bool) (x : PairMsg) (s : State) : Host.Outcome State Fault Refusal :=
  onDevice t (fun d => renewalReceive d.now pins x d) s

/-- BEACON (R517). -/
def execBeacon (t : Nat) (bad : Bool) (s : State) : Host.Outcome State Fault Refusal :=
  onDevice t (fun d => beacon d.now bad d) s

/-- PARTNER_ABSENT (R52). -/
def execPartnerAbsent (t : Nat) (s : State) : Host.Outcome State Fault Refusal :=
  onDevice t (fun d => partnerAbsent d.now d) s

/-- CAPO_TAKEOVER (R535). -/
def execCapoTakeover (t : Nat) (ds : List (Nat × List Nat)) (renewed : Bool) (s : State) : Host.Outcome State Fault Refusal :=
  onDevice t (fun d => capoTakeover d.now ds renewed d) s

/-- CLAIM (R537). -/
def execClaim (t : Nat) (m : Master) (v hw : Bool) (s : State) : Host.Outcome State Fault Refusal :=
  onDevice t (fun d => d.colliding m .k1 mruPage hw (claim d.now m v)) s

/-- CLAIM_END (R537). -/
def execClaimEnd (t : Nat) (s : State) : Host.Outcome State Fault Refusal :=
  onDevice t (fun d => claimEnd d.now d) s

/-- COLD_START (R539). -/
def execColdStart (t : Nat) (m : Master) (v hw : Bool) (s : State) : Host.Outcome State Fault Refusal :=
  onDevice t (fun d => d.colliding m .k1 mruPage hw (coldStart d.now m v)) s

/-- RELEASE (R540). -/
def execRelease (t : Nat) (m : Master) (v hw : Bool) (s : State) : Host.Outcome State Fault Refusal :=
  onDevice t (fun d => d.colliding m .k1 mruPage hw (release d.now m v)) s

/-- FORCE_FENCE (R540). -/
def execForceFence (t : Nat) (m : Master) (v : Bool) (s : State) : Host.Outcome State Fault Refusal :=
  onDevice t (fun d => forceFence d.now m v d) s

/-- MIRROR_EN (R527). -/
def execMirrorEn (t : Nat) (m : Master) (v : Bool) (s : State) : Host.Outcome State Fault Refusal :=
  onDevice t (fun d => mirrorEn d.now m v d) s

/-- SOUNDPOST_TRAINING_COMPLETE (R513). -/
def execSoundpostTrainingComplete (t : Nat) (s : State) : Host.Outcome State Fault Refusal :=
  onDevice t (fun d => soundpostTrainingComplete d.now d) s

/-- SOUNDPOST_LINK_DOWN (R513). -/
def execSoundpostLinkDown (t : Nat) (s : State) : Host.Outcome State Fault Refusal :=
  onDevice t (fun d => soundpostLinkDown d.now d) s

/-- FENCE_EGRESS_STOP (R534). -/
def execFenceEgressStop (t : Nat) (s : State) : Host.Outcome State Fault Refusal :=
  onDevice t (fun d => fenceEgressStop d.now d) s

end Sys2Proof.Machine
end

