-- ==== Sys2Proof/Machine/MonitorMeanings.lean ====
section
/-!
DEFINITION. The meanings of the commands of tagging and tracing (chapter 16): each runs its effect on the device at its instant.
-/

namespace Sys2Proof.Machine

/-- TAG_EN (R564). -/
def execTagEn (t : Nat) (m : Master) (v : Bool) (s : State) : Host.Outcome State Fault Refusal :=
  onDevice t (fun d => tagEn d.now m v d) s

/-- TRACE_CONSUMED (R570). -/
def execTraceConsumed (t : Nat) (m : Master) (v : Fin 8192) (s : State) : Host.Outcome State Fault Refusal :=
  onDevice t (fun d => traceConsumed d.now m v.val d) s

end Sys2Proof.Machine
end

