-- ==== Sys2Proof/Machine/PacketMeanings.lean ====
section
/-!
DEFINITION. The meanings of the commands of packets (chapter 09): each runs its effect on the device at its instant.
-/

namespace Sys2Proof.Machine

/-- PACKET_INGRESS (R323). -/
def execPacketIngress (t n : Nat) (s : State) : Host.Outcome State Fault Refusal :=
  onDevice t (fun d => packetIngress d.now n d) s

/-- PACKET_CLASSIFY (R337). -/
def execPacketClassify (t : Nat) (sl : Fin 36) (s : State) : Host.Outcome State Fault Refusal :=
  onDevice t (fun d => packetClassify d.now sl.val d) s

end Sys2Proof.Machine
end

