-- ==== Sys2Proof/Machine/PageMeanings.lean ====
section
/-!
DEFINITION. The meanings of the commands of register pages (chapter 02): each runs its effect on the device at its instant.
-/

namespace Sys2Proof.Machine

/-- REGISTER_WRITE (R68). -/
def execRegisterWrite (t : Nat) (m : Master) (p : PageIx) (w : Fin 1024) (lo : BusWord) (hi : Option BusWord) (x : Aside) (s : State) : Host.Outcome State Fault Refusal :=
  onLoaded t (hostLoads m p.val w.val lo hi) (fun d => registerWrite d.now m p.val w.val lo hi x d) s

/-- BIT_ALIAS_WRITE (R63). -/
def execBitAliasWrite (t : Nat) (m : Master) (p : PageIx) (w : Fin 256) (b : Fin 32) (v full hw : Bool) (x : Aside) (s : State) : Host.Outcome State Fault Refusal :=
  onDevice t (fun d => bitAliasWrite d.now m p.val w.val b.val v full hw x d) s

/-- COUNTER_LOW_READ (R69). -/
def execCounterLowRead (t : Nat) (m : Master) (p : PageIx) (w : Fin 1024) (s : State) : Host.Outcome State Fault Refusal :=
  onDevice t (fun d => counterLowRead d.now m p.val w.val d) s

/-- COUNTER_HIGH_READ (R69). -/
def execCounterHighRead (t : Nat) (m : Master) (p : PageIx) (w : Fin 1024) (s : State) : Host.Outcome State Fault Refusal :=
  onDevice t (fun d => counterHighRead d.now m p.val w.val d) s

/-- COUNTER_LOW_WRITE (R70). -/
def execCounterLowWrite (t : Nat) (m : Master) (p : PageIx) (w : Fin 1024) (v : Word32) (s : State) : Host.Outcome State Fault Refusal :=
  onDevice t (fun d => counterLowWrite d.now m p.val w.val v.toNat d) s

/-- COUNTER_HIGH_WRITE (R70). -/
def execCounterHighWrite (t : Nat) (m : Master) (p : PageIx) (w : Fin 1024) (v : Word32) (inc : Nat) (s : State) : Host.Outcome State Fault Refusal :=
  onLoaded t (Device.loadCounter m p.val (4 * w.val) v.toNat) (fun d => counterHighWrite d.now m p.val w.val v.toNat inc d) s

/-- WATCH_THRESHOLD_WRITE (R82). -/
def execWatchThresholdWrite (t : Nat) (m : Master) (p : PageIx) (n : Fin 4) (hi : Word32) (s : State) : Host.Outcome State Fault Refusal :=
  onDevice t (fun d => watchThresholdWrite d.now m p.val n.val hi.toNat d) s

/-- ARM (R73). -/
def execArm (t : Nat) (m : Master) (p : PageIx) (v overlap : Bool) (s : State) : Host.Outcome State Fault Refusal :=
  onDevice t (fun d => armWrite d.now m p.val v overlap d) s

/-- BOUNDARY_WINDOW (R72). -/
def execBoundaryWindow (t : Nat) (p : PageIx) (s : State) : Host.Outcome State Fault Refusal :=
  onDevice t (fun d => boundaryWindow d.now p.val d) s

/-- WINDOW_READ (R84). -/
def execWindowRead (t : Nat) (m : Master) (p : PageIx) (win : Fin 4) (words : Fin 32) (s : State) : Host.Outcome State Fault Refusal :=
  onDevice t (fun d => windowRead d.now m p.val win.val words.val d) s

/-- WINDOW_WRITE (R85). -/
def execWindowWrite (t : Nat) (m : Master) (p : PageIx) (win : Fin 4) (words : Fin 32) (s : State) : Host.Outcome State Fault Refusal :=
  onDevice t (fun d => windowWrite d.now m p.val win.val words.val d) s

/-- WINDOW_READ_CLEAR_VALID (R85). -/
def execWindowReadClearValid (t : Nat) (m : Master) (p : PageIx) (win : Fin 4) (words : Fin 32) (s : State) : Host.Outcome State Fault Refusal :=
  onDevice t (fun d => windowReadClearValid d.now m p.val win.val words.val d) s

/-- WINDOW_OPERATION_COMPLETE (R85). -/
def execWindowOperationComplete (t : Nat) (p : PageIx) (win : Fin 4) (clash hw : Bool) (errs : Tbl CodeRead) (s : State) : Host.Outcome State Fault Refusal :=
  onDevice t (fun d => windowComplete d.now p.val win.val clash hw errs d) s

end Sys2Proof.Machine
end

