-- ==== Sys2Proof/Machine/PortMeanings.lean ====
section
/-!
DEFINITION. The meanings of the commands of network ports and FlexE (chapter 13): each runs its effect on the device at its instant.
-/

namespace Sys2Proof.Machine

/-- PORT_BRINGUP (R460). -/
def execPortBringup (t : Nat) (m : Master) (p : Fin 64) (s : State) : Host.Outcome State Fault Refusal :=
  onDevice t (fun d => portBringup d.now m p.val d) s

/-- AUTONEG_COMPLETE (R460). -/
def execAutonegComplete (t : Nat) (p : Fin 64) (common full : Bool) (s : State) : Host.Outcome State Fault Refusal :=
  onDevice t (fun d => autonegComplete d.now p.val common full d) s

/-- LINK_TRAINING_COMPLETE (R460). -/
def execLinkTrainingComplete (t : Nat) (p : Fin 64) (failed : Fin 16) (lock : Bool) (taps : List (Fin 64)) (s : State) : Host.Outcome State Fault Refusal :=
  onDevice t (fun d => linkTrainingComplete d.now p.val failed.val lock (taps.map (·.val)) d) s

/-- PORT_DEFECT_CHANGE (R479). -/
def execPortDefectChange (t : Nat) (p : Fin 64) (b : Fin 7) (lane : Fin 4) (on : Bool) (s : State) : Host.Outcome State Fault Refusal :=
  onDevice t (fun d => portDefectChange d.now p.val b.val lane.val on d) s

/-- UP_HOLD_EXPIRY (R461). -/
def execUpHoldExpiry (t : Nat) (p : Fin 64) (s : State) : Host.Outcome State Fault Refusal :=
  onDevice t (fun d => upHoldExpiry d.now p.val d) s

/-- NETWORK_FRAME_RECEIVE (R458). -/
def execNetworkFrameReceive (t : Nat) (p : Fin 256) (frame : List Byte) (whole room : Bool) (del ins fecCor fecUnc fecSym : Nat) (s : State) : Host.Outcome State Fault Refusal :=
  onDevice t (fun d => networkFrameReceive d.now p.val (frame.map (·.toNat)) whole room del ins fecCor fecUnc fecSym d) s

/-- NETWORK_FRAME_TRANSMIT (R458). -/
def execNetworkFrameTransmit (t : Nat) (p : Fin 256) (ins del : Nat) (s : State) : Host.Outcome State Fault Refusal :=
  onDevice t (fun d => networkFrameTransmit d.now p.val ins del d) s

/-- PAUSE_RECEIVE (R467). -/
def execPauseReceive (t : Nat) (p : Fin 64) (quanta : Fin 65536) (s : State) : Host.Outcome State Fault Refusal :=
  onDevice t (fun d => pauseReceive d.now p.val quanta.val d) s

/-- PAUSE_HOLD_LIMIT (R468). -/
def execPauseHoldLimit (t : Nat) (p : Fin 64) (released : Bool) (s : State) : Host.Outcome State Fault Refusal :=
  onDevice t (fun d => pauseHoldLimit d.now p.val released d) s

/-- PAUSE_GENERATE (R469). -/
def execPauseGenerate (t : Nat) (p : Fin 64) (s : State) : Host.Outcome State Fault Refusal :=
  onDevice t (fun d => pauseGenerate d.now p.val d) s

/-- EYE_MEASURE (R463). -/
def execEyeMeasure (t : Nat) (lane : Fin 64) (v h : Fin 256) (s : State) : Host.Outcome State Fault Refusal :=
  onDevice t (fun d => eyeMeasure d.now lane.val v.val h.val d) s

/-- INJECT_ONE (R465). -/
def execInjectOne (t : Nat) (m : Master) (lane : Fin 64) (hw : Bool) (s : State) : Host.Outcome State Fault Refusal :=
  onDevice t (fun d => d.colliding m .k1 (npcPage (lane.val / 4)) hw (injectOne d.now m lane.val)) s

/-- FLEXE_OH_FRAME_RECEIVE (R476). -/
def execFlexeOhFrameReceive (t : Nat) (g : Fin 32) (inst : Nat) (crc : Bool) (oh : FlxOh) (skew : Bool) (s : State) : Host.Outcome State Fault Refusal :=
  onDevice t (fun d => flexeOhFrameReceive d.now g.val inst crc oh skew d) s

/-- FLEXE_OH_CANDIDATE (R475). -/
def execFlexeOhCandidate (t : Nat) (g : Fin 32) (inst : Nat) (ok : Bool) (s : State) : Host.Outcome State Fault Refusal :=
  onDevice t (fun d => flexeOhCandidate d.now g.val inst ok d) s

/-- CAL_REQ (R477). -/
def execCalReq (t : Nat) (m : Master) (g : Fin 32) (v : Bool) (s : State) : Host.Outcome State Fault Refusal :=
  onDevice t (fun d => calReq d.now m g.val v d) s

/-- TX_OH_FRAME_BOUNDARY (R477). -/
def execTxOhFrameBoundary (t : Nat) (g : Fin 32) (s : State) : Host.Outcome State Fault Refusal :=
  onDevice t (fun d => txOhFrameBoundary d.now g.val d) s

/-- PAUSE_QUANTA_EXPIRY (R467). -/
def execPauseQuantaExpiry (t : Nat) (p : Fin 64) (s : State) : Host.Outcome State Fault Refusal :=
  onDevice t (fun d => pauseQuantaExpiry d.now p.val d) s

/-- FLEXE_OH_MISSING (R475). -/
def execFlexeOhMissing (t : Nat) (g : Fin 32) (inst : Nat) (s : State) : Host.Outcome State Fault Refusal :=
  onDevice t (fun d => flexeOhMissing d.now g.val inst d) s

/-- PRBS_LOCK_CHANGE (R464). -/
def execPrbsLockChange (t : Nat) (lane : Fin 64) (on : Bool) (n errs : Nat) (s : State) : Host.Outcome State Fault Refusal :=
  onDevice t (fun d => prbsLockChange d.now lane.val on n errs d) s

end Sys2Proof.Machine
end

