-- ==== Sys2Proof/Machine/PowerMeanings.lean ====
section
/-!
DEFINITION. The meanings of the commands of power and heat (chapter 07): each runs its effect on the device at its instant.
-/

namespace Sys2Proof.Machine

/-- PTM_SAMPLE (R269, R644): in reset the sensors alone are read. -/
def execPtmSample (t : Nat) (temps : List Int) (pace : List Nat) (s : State) : Host.Outcome State Fault Refusal :=
  if s.inReset then .next (s.senses temps) else onDevice t (fun d => ptmSample d.now temps pace d) s

/-- RAIL_ALARM (R272). -/
def execRailAlarm (t : Nat) (rail : Fin 7) (s : State) : Host.Outcome State Fault Refusal :=
  onDevice t (fun d => railAlarm d.now rail.val d) s

/-- ENVELOPE_PUBLICATION (R277). -/
def execEnvelopePublication (t : Nat) (watts : Fin 1024) (pace : Nat) (s : State) : Host.Outcome State Fault Refusal :=
  onDevice t (fun d => envelopePublication d.now watts.val pace d) s

/-- VOLTAGE_WRITE_RESULT (R274). -/
def execVoltageWriteResult (t : Nat) (ok status : Bool) (s : State) : Host.Outcome State Fault Refusal :=
  onDevice t (fun d => voltageWriteResult d.now ok status d) s

/-- TRIP_RELEASE (R285). -/
def execTripRelease (t : Nat) (m : Master) (v railOk hw : Bool) (s : State) : Host.Outcome State Fault Refusal :=
  onDevice t (fun d => d.colliding m .k1 0x003 hw (tripRelease d.now m v railOk)) s

/-- QUIET_CH (R286). -/
def execQuietCh (t : Nat) (m : Master) (ix : Fin 8) (v : Word32) (s : State) : Host.Outcome State Fault Refusal :=
  onDevice t (fun d => quietCh d.now m ix.val v.toNat d) s

/-- QUIET_TREE (R288). -/
def execQuietTree (t : Nat) (m : Master) (ix : Fin 2) (v : Word32) (s : State) : Host.Outcome State Fault Refusal :=
  onDevice t (fun d => quietTree d.now m ix.val v.toNat d) s

/-- TREE_LANES_READY (R288). -/
def execTreeLanesReady (t : Nat) (tree : Tree) (s : State) : Host.Outcome State Fault Refusal :=
  onDevice t (fun d => treeLanesReady d.now tree.val d) s

end Sys2Proof.Machine
end

