-- ==== Sys2Proof/Machine/PowerUpMeanings.lean ====
section
/-!
DEFINITION. The meanings of the commands of reset (chapter 20): each runs its effect on the device at its instant.
-/

namespace Sys2Proof.Machine

/-- PORST_ASSERT (R642). -/
def execPorstAssert (t low : Nat) (took : Bool) (s : State) : Host.Outcome State Fault Refusal :=
  .next (porstAssert low took (s.dev.arrive t) s)

/-- PORST_RELEASE (R643). -/
def execPorstRelease (t : Nat) (side test : Bool) (s : State) : Host.Outcome State Fault Refusal :=
  .next (porstRelease side test (s.dev.arrive t) s)

end Sys2Proof.Machine
end

