-- ==== Sys2Proof/Machine/RangingMeanings.lean ====
section
/-!
DEFINITION. The meanings of the commands of ranging and terminals (chapter 06): each runs its effect on the device at its instant.
-/

namespace Sys2Proof.Machine

/-- SERIAL_NUMBER_RECEIVED (R246). -/
def execSerialNumberReceived (t : Nat) (c : Chan) (k : Nat) (vendor serial : Word32) (s : State) : Host.Outcome State Fault Refusal :=
  onDevice t (fun d => serialNumberReceived d.now c.val k vendor.toNat serial.toNat d) s

/-- RANGING_TIME_ACK (R247). -/
def execRangingTimeAck (t : Nat) (x : TermIx) (c : Chan) (s : State) : Host.Outcome State Fault Refusal :=
  onDevice t (fun d => rangingTimeAck d.now x.val c.val d) s

/-- LOST_TIMEOUT (R241). -/
def execLostTimeout (t : Nat) (x : TermIx) (s : State) : Host.Outcome State Fault Refusal :=
  onDevice t (fun d => lostTimeout d.now x.val d) s

/-- TERMINAL_FREE (R241). -/
def execTerminalFree (t : Nat) (x : TermIx) (s : State) : Host.Outcome State Fault Refusal :=
  onDevice t (fun d => terminalFree d.now x.val d) s

/-- DISC_CONSUMED (R268). -/
def execDiscConsumed (t : Nat) (m : Master) (v : Fin 1024) (s : State) : Host.Outcome State Fault Refusal :=
  onDevice t (fun d => discConsumed d.now m v.val d) s

end Sys2Proof.Machine
end

