-- ==== Sys2Proof/Machine/ServiceMeanings.lean ====
section
/-!
DEFINITION. The meanings of the commands of commands, punt and inject (chapter 08): each runs its effect on the device at its instant.
-/

namespace Sys2Proof.Machine

/-- COMMAND_ACCEPT (R296). -/
def execCommandAccept (t : Nat) (ring : Fin 16) (desc : List Word32) (ok : Bool) (s : State) : Host.Outcome State Fault Refusal :=
  onDevice t (fun d => commandAccept d.now ring.val (desc.map (·.toNat)) ok d) s

/-- NOP (R309). -/
def execNop (t n : Nat) (s : State) : Host.Outcome State Fault Refusal :=
  onDevice t (fun d => nop d.now n d) s

/-- QUERY (R309). -/
def execQuery (t n : Nat) (s : State) : Host.Outcome State Fault Refusal :=
  onDevice t (fun d => query d.now n d) s

/-- KEY_ZEROIZE_ALL (R373). -/
def execKeyZeroizeAll (t n : Nat) (s : State) : Host.Outcome State Fault Refusal :=
  onDevice t (fun d => keyZeroizeAll d.now n d) s

/-- TERMINAL_CREATE (R256). -/
def execTerminalCreate (t n : Nat) (s : State) : Host.Outcome State Fault Refusal :=
  onDevice t (fun d => terminalCreate d.now n d) s

/-- TERMINAL_DESTROY (R258). -/
def execTerminalDestroy (t n : Nat) (s : State) : Host.Outcome State Fault Refusal :=
  onDevice t (fun d => terminalDestroy d.now n d) s

/-- TERMINAL_DISABLE (R241). -/
def execTerminalDisable (t n : Nat) (s : State) : Host.Outcome State Fault Refusal :=
  onDevice t (fun d => terminalDisable d.now n d) s

/-- TERMINAL_ENABLE (R241). -/
def execTerminalEnable (t n : Nat) (s : State) : Host.Outcome State Fault Refusal :=
  onDevice t (fun d => terminalEnable d.now n d) s

/-- ALLOC_CREATE (R149). -/
def execAllocCreate (t n : Nat) (s : State) : Host.Outcome State Fault Refusal :=
  onDevice t (fun d => allocCreate d.now n d) s

/-- ALLOC_DESTROY (R150). -/
def execAllocDestroy (t n : Nat) (s : State) : Host.Outcome State Fault Refusal :=
  onDevice t (fun d => allocDestroy d.now n d) s

/-- CHANNEL_CREATE (R311). -/
def execChannelCreate (t n : Nat) (s : State) : Host.Outcome State Fault Refusal :=
  onDevice t (fun d => channelCreate d.now n d) s

/-- CHANNEL_DESTROY (R315). -/
def execChannelDestroy (t n : Nat) (s : State) : Host.Outcome State Fault Refusal :=
  onDevice t (fun d => channelDestroy d.now n d) s

/-- QUEUE_CREATE (R427). -/
def execQueueCreate (t n : Nat) (s : State) : Host.Outcome State Fault Refusal :=
  onDevice t (fun d => queueCreate d.now n d) s

/-- QUEUE_DESTROY (R315). -/
def execQueueDestroy (t n : Nat) (s : State) : Host.Outcome State Fault Refusal :=
  onDevice t (fun d => queueDestroy d.now n d) s

/-- QUEUE_FLUSH (R412). -/
def execQueueFlush (t n : Nat) (s : State) : Host.Outcome State Fault Refusal :=
  onDevice t (fun d => queueFlush d.now n d) s

/-- KEY_CREATE (R358). -/
def execKeyCreate (t n : Nat) (s : State) : Host.Outcome State Fault Refusal :=
  onDevice t (fun d => keyCreate d.now n d) s

/-- KEY_DESTROY (R359). -/
def execKeyDestroy (t n : Nat) (s : State) : Host.Outcome State Fault Refusal :=
  onDevice t (fun d => keyDestroy d.now n d) s

/-- POOL_CREATE (R396). -/
def execPoolCreate (t n : Nat) (s : State) : Host.Outcome State Fault Refusal :=
  onDevice t (fun d => poolCreate d.now n d) s

/-- POOL_DESTROY (R314). -/
def execPoolDestroy (t n : Nat) (s : State) : Host.Outcome State Fault Refusal :=
  onDevice t (fun d => poolDestroy d.now n d) s

/-- SHAPER_CREATE (R436). -/
def execShaperCreate (t n : Nat) (s : State) : Host.Outcome State Fault Refusal :=
  onDevice t (fun d => shaperCreate d.now n d) s

/-- SHAPER_DESTROY (R309). -/
def execShaperDestroy (t n : Nat) (s : State) : Host.Outcome State Fault Refusal :=
  onDevice t (fun d => shaperDestroy d.now n d) s

/-- GATE_LIST_INSTALL (R444). -/
def execGateListInstall (t n : Nat) (s : State) : Host.Outcome State Fault Refusal :=
  onDevice t (fun d => gateListInstall d.now n d) s

/-- GATE_LIST_DESTROY (R309). -/
def execGateListDestroy (t n : Nat) (s : State) : Host.Outcome State Fault Refusal :=
  onDevice t (fun d => gateListDestroy d.now n d) s

/-- OMCI_SEND (R309). -/
def execOmciSend (t n : Nat) (s : State) : Host.Outcome State Fault Refusal :=
  onDevice t (fun d => omciSend d.now n d) s

/-- DESTROY_COMMIT (R315). -/
def execDestroyCommit (t n : Nat) (s : State) : Host.Outcome State Fault Refusal :=
  onDevice t (fun d => destroyCommit d.now n d) s

/-- COMMAND_TIMEOUT (R304). -/
def execCommandTimeout (t n : Nat) (s : State) : Host.Outcome State Fault Refusal :=
  onDevice t (fun d => commandTimeout d.now n d) s

/-- COMPLETION_POST (R305). -/
def execCompletionPost (t n : Nat) (s : State) : Host.Outcome State Fault Refusal :=
  onDevice t (fun d => completionPost d.now n d) s

/-- PUNT_CHANNEL_DISABLE (R318). -/
def execPuntChannelDisable (t : Nat) (m : Master) (p : Fin 4) (s : State) : Host.Outcome State Fault Refusal :=
  onDevice t (fun d => puntChannelDisable d.now m p.val d) s

/-- INJECT_DESCRIPTOR (R319). -/
def execInjectDescriptor (t : Nat) (ix : Fin 4) (desc : List Word32) (descOk bytesOk : Bool) (data : List Byte) (s : State) : Host.Outcome State Fault Refusal :=
  onDevice t (fun d => injectDescriptor d.now ix.val (desc.map (·.toNat)) descOk bytesOk (data.map (·.toNat)) d) s

/-- INJECT_CHANNEL_DISABLE (R320). -/
def execInjectChannelDisable (t : Nat) (m : Master) (ix : Fin 4) (tags : List (Fin 65536)) (s : State) : Host.Outcome State Fault Refusal :=
  onDevice t (fun d => injectChannelDisable d.now m ix.val (tags.map (·.val)) d) s

end Sys2Proof.Machine
end

