-- ==== Sys2Proof/Machine/SpareMeanings.lean ====
section
/-!
DEFINITION. The meanings of the commands of spares and wear (chapter 18): each runs its effect on the device at its instant.
-/

namespace Sys2Proof.Machine

/-- UNIT_FAILURE (R595). -/
def execUnitFailure (t : Nat) (kind : Fin 10) (u lost : Nat) (queues : List Nat) (s : State) : Host.Outcome State Fault Refusal :=
  onDevice t (fun d => unitFailure d.now kind.val u lost queues d) s

/-- SLICE_EXCHANGE (R596). -/
def execSliceExchange (t : Nat) (sl : Fin 36) (s : State) : Host.Outcome State Fault Refusal :=
  onDevice t (fun d => sliceExchange d.now sl.val d) s

/-- AES_LANE_EXCHANGE (R597). -/
def execAesLaneExchange (t : Nat) (l : Fin 34) (s : State) : Host.Outcome State Fault Refusal :=
  onDevice t (fun d => aesLaneExchange d.now l.val d) s

/-- REGION_COPY_START (R598). -/
def execRegionCopyStart (t : Nat) (kind : Fin 10) (u : Nat) (s : State) : Host.Outcome State Fault Refusal :=
  onDevice t (fun d => regionCopyStart d.now kind.val u d) s

/-- REGION_REMAP (R598). -/
def execRegionRemap (t : Nat) (kind : Fin 10) (u : Nat) (s : State) : Host.Outcome State Fault Refusal :=
  onDevice t (fun d => regionRemap d.now kind.val u d) s

/-- ROW_REPAIR (R599). -/
def execRowRepair (t : Nat) (n : Fin 8) (reads : Nat) (left : Bool) (s : State) : Host.Outcome State Fault Refusal :=
  onDevice t (fun d => rowRepair d.now n.val reads left d) s

/-- APPROVE (R600). -/
def execApprove (t : Nat) (m : Master) (v hw : Bool) (s : State) : Host.Outcome State Fault Refusal :=
  onDevice t (fun d => d.colliding m .k1 spmPage hw (approve d.now m v)) s

/-- DFE_SWAP (R601). -/
def execDfeSwap (t : Nat) (lane : Fin 320) (sl : Fin 16) (unc : Fin 3) (s : State) : Host.Outcome State Fault Refusal :=
  onDevice t (fun d => dfeSwap d.now lane.val sl.val unc.val d) s

/-- REGION_COPY_COMPLETE (R598). -/
def execRegionCopyComplete (t : Nat) (kind : Fin 10) (u : Nat) (s : State) : Host.Outcome State Fault Refusal :=
  onDevice t (fun d => regionCopyComplete d.now kind.val u d) s

/-- PLL_WORN (R593). -/
def execPllWorn (t : Nat) (u : Fin 96) (s : State) : Host.Outcome State Fault Refusal :=
  onDevice t (fun d => pllWorn d.now u.val d) s

end Sys2Proof.Machine
end

