-- ==== Sys2Proof/Machine/TrafficMeanings.lean ====
section
/-!
DEFINITION. The meanings of the commands of traffic management (chapter 12): each runs its effect on the device at its instant.
-/

namespace Sys2Proof.Machine

/-- EGRESS_REQUEST (R431). -/
def execEgressRequest (t : Nat) (root : Fin 320) (s : State) : Host.Outcome State Fault Refusal :=
  onDevice t (fun d => egressRequest d.now root.val d) s

/-- SHAPER_WHEEL_EXPIRY (R438). -/
def execShaperWheelExpiry (t : Nat) (terminal : Bool) (ix : Fin 1048576) (s : State) : Host.Outcome State Fault Refusal :=
  onDevice t (fun d => shaperWheelExpiry d.now terminal ix.val d) s

/-- GATE_ENTRY_CHANGE (R443). -/
def execGateEntryChange (t : Nat) (g : Fin 1024) (s : State) : Host.Outcome State Fault Refusal :=
  onDevice t (fun d => gateEntryChange d.now g.val d) s

/-- GATE_LIST_START (R445). -/
def execGateListStart (t : Nat) (g : Fin 1024) (s : State) : Host.Outcome State Fault Refusal :=
  onDevice t (fun d => gateListStart d.now g.val d) s

end Sys2Proof.Machine
end

