-- ==== Sys2Proof/Machine/TreeMeanings.lean ====
section
/-!
DEFINITION. The meanings of the commands of frames, tree ports and courses (chapters 01, 03): each runs its effect on the device at its instant.
-/

namespace Sys2Proof.Machine

/-- FRAME_BOUNDARY (R12). -/
def execFrameBoundary (t : Nat) (sweepCtr sweepQ : List Nat) (ack : Option Nat) (s : State) : Host.Outcome State Fault Refusal :=
  onDevice t (fun d => frameBoundary d.now sweepCtr sweepQ ack d) s

/-- TREE_FRAME_BOUNDARY (R94). -/
def execTreeFrameBoundary (t : Nat) (tree : Tree) (s : State) : Host.Outcome State Fault Refusal :=
  onDevice t (fun d => treeFrameBoundary d.now tree.val d) s

/-- FRAME_ASSEMBLY (R97). -/
def execFrameAssembly (t : Nat) (c : Chan) (k : Nat) (crossed : Bool) (s : State) : Host.Outcome State Fault Refusal :=
  onDevice t (fun d => frameAssembly d.now c.val k crossed d) s

/-- COURSE_XGEM_PLACE (R112). -/
def execCourseXgemPlace (t : Nat) (x : TermIx) (s : State) : Host.Outcome State Fault Refusal :=
  onDevice t (fun d => courseXgemPlace d.now x.val d) s

/-- REORDER_ARRIVAL (R113). -/
def execReorderArrival (t : Nat) (c : Chan) (x : TermIx) (options : Fin 262144) (stamp n : Nat) (s : State) : Host.Outcome State Fault Refusal :=
  onDevice t (fun d => reorderArrival d.now c.val x.val options.val stamp n d) s

/-- REORDER_GAP_DEADLINE (R113). -/
def execReorderGapDeadline (t : Nat) (x : TermIx) (s : State) : Host.Outcome State Fault Refusal :=
  onDevice t (fun d => reorderGapDeadline d.now x.val d) s

/-- I2C_GO (R124). -/
def execI2cGo (t : Nat) (m : Master) (g : Fin 16) (v hw : Bool) (s : State) : Host.Outcome State Fault Refusal :=
  onDevice t (fun d => d.colliding m .k1 (treePage (4 * g.val)) hw (i2cGo d.now m g.val v)) s

/-- I2C_TRANSACTION_END (R124). -/
def execI2cTransactionEnd (t : Nat) (g : Fin 16) (nack : Bool) (data : Fin 256) (clash : Bool) (s : State) : Host.Outcome State Fault Refusal :=
  onDevice t (fun d => i2cTransactionEnd d.now g.val nack data.val clash d) s

end Sys2Proof.Machine
end

