-- ==== Sys2Proof/Machine/TrustMeanings.lean ====
section
/-!
DEFINITION. The meanings of the commands of boot and trust (chapter 17): each runs its effect on the device at its instant.
-/

namespace Sys2Proof.Machine

/-- BOOT (R576). -/
def execBoot (t : Nat) (a b : Image) (s : State) : Host.Outcome State Fault Refusal :=
  onDevice t (fun d => boot d.now a b d) s

/-- ATTEST_GO (R583). -/
def execAttestGo (t : Nat) (m : Master) (v hw : Bool) (s : State) : Host.Outcome State Fault Refusal :=
  onDevice t (fun d => d.colliding m .k1 secPage hw (attestGo d.now m v)) s

/-- ATTEST_REPORT_READY (R583). -/
def execAttestReportReady (t : Nat) (s : State) : Host.Outcome State Fault Refusal :=
  onDevice t (fun d => attestReportReady d.now d) s

/-- DEBUG_GO (R585). -/
def execDebugGo (t : Nat) (m : Master) (v : Bool) (level : Fin 4) (hw : Bool) (s : State) : Host.Outcome State Fault Refusal :=
  onDevice t (fun d => d.colliding m .k1 secPage hw (debugGo d.now m v level.val)) s

/-- REVOKE_GO (R578). -/
def execRevokeGo (t : Nat) (m : Master) (v hw : Bool) (s : State) : Host.Outcome State Fault Refusal :=
  onDevice t (fun d => d.colliding m .k2 secPage hw (revokeGo d.now m v)) s

/-- SVN_GO (R577). -/
def execSvnGo (t : Nat) (m : Master) (v hw : Bool) (s : State) : Host.Outcome State Fault Refusal :=
  onDevice t (fun d => d.colliding m .k2 secPage hw (svnGo d.now m v)) s

/-- FUSE_BURN_COMPLETE (R573). -/
def execFuseBurnComplete (t : Nat) (ok : Bool) (s : State) : Host.Outcome State Fault Refusal :=
  onDevice t (fun d => fuseBurnComplete d.now ok d) s

end Sys2Proof.Machine
end

