-- ==== Sys2Proof/Machine/UsbMeanings.lean ====
section
/-!
DEFINITION. The meanings of the commands of the host attachment (chapter 19): each runs its effect on the device at its instant.
-/

namespace Sys2Proof.Machine

/-- USB4_LINK_CHANGE (R614). -/
def execUsb4LinkChange (t : Nat) (link tunnel : Bool) (gen : Fin 8) (s : State) : Host.Outcome State Fault Refusal :=
  onDevice t (fun d => usb4LinkChange d.now link tunnel gen.val d) s

/-- HOST_LOSS_TIMEOUT (R627). -/
def execHostLossTimeout (t : Nat) (s : State) : Host.Outcome State Fault Refusal :=
  onDevice t (fun d => hostLossTimeout d.now d) s

/-- FUNCTION_LEVEL_RESET (R618). -/
def execFunctionLevelReset (t : Nat) (pf1 : Bool) (s : State) : Host.Outcome State Fault Refusal :=
  onDevice t (fun d => functionLevelReset d.now pf1 d) s

/-- MSIX_SEND (R620). -/
def execMsixSend (t : Nat) (v : Fin 2048) (s : State) : Host.Outcome State Fault Refusal :=
  onDevice t (fun d => msixSend d.now v.val d) s

/-- MSIX_REPEAT (R620). -/
def execMsixRepeat (t : Nat) (v : Fin 2048) (s : State) : Host.Outcome State Fault Refusal :=
  onDevice t (fun d => msixRepeat d.now v.val d) s

/-- MSIX_UNMASK (R620). -/
def execMsixUnmask (t : Nat) (v : Fin 2048) (mask : Bool) (s : State) : Host.Outcome State Fault Refusal :=
  onDevice t (fun d => msixUnmask d.now v.val mask d) s

/-- DMA_READ_COMPLETE (R624). -/
def execDmaReadComplete (t id : Nat) (ok : Bool) (bs : List Byte) (s : State) : Host.Outcome State Fault Refusal :=
  onDevice t (fun d => dmaReadComplete d.now id ok (bs.map (·.toNat)) d) s

/-- DMA_TIMEOUT (R624). -/
def execDmaTimeout (t id : Nat) (s : State) : Host.Outcome State Fault Refusal :=
  onDevice t (fun d => dmaTimeout d.now id d) s

/-- DMA_WRITE_REFUSED (R624). -/
def execDmaWriteRefused (t : Nat) (punt : Option (Fin 4)) (s : State) : Host.Outcome State Fault Refusal :=
  onDevice t (fun d => dmaWriteRefused d.now (punt.map (·.val)) d) s

/-- BUS_MASTER_ENABLE_CHANGE (R617). -/
def execBusMasterEnableChange (t : Nat) (v : Bool) (s : State) : Host.Outcome State Fault Refusal :=
  onDevice t (fun d => busMasterEnableChange d.now v d) s

end Sys2Proof.Machine
end

