-- ==== Sys2Proof/Machine/Dispatch.lean ====
section
/-!
DEFINITION. The dispatcher: one arm for each command, each a call of its meaning.
-/

namespace Sys2Proof.Machine

def exec (i : Instr) (s : State) : Host.Outcome State Fault Refusal :=
  match i with
  | .registerWrite t m p w lo hi x => Sys2Proof.Machine.execRegisterWrite t m p w lo hi x s
  | .bitAliasWrite t m p w b v full hw x => Sys2Proof.Machine.execBitAliasWrite t m p w b v full hw x s
  | .counterLowRead t m p w => Sys2Proof.Machine.execCounterLowRead t m p w s
  | .counterHighRead t m p w => Sys2Proof.Machine.execCounterHighRead t m p w s
  | .counterLowWrite t m p w v => Sys2Proof.Machine.execCounterLowWrite t m p w v s
  | .counterHighWrite t m p w v inc => Sys2Proof.Machine.execCounterHighWrite t m p w v inc s
  | .watchThresholdWrite t m p n hi => Sys2Proof.Machine.execWatchThresholdWrite t m p n hi s
  | .arm t m p v overlap => Sys2Proof.Machine.execArm t m p v overlap s
  | .boundaryWindow t p => Sys2Proof.Machine.execBoundaryWindow t p s
  | .windowRead t m p win words => Sys2Proof.Machine.execWindowRead t m p win words s
  | .windowWrite t m p win words => Sys2Proof.Machine.execWindowWrite t m p win words s
  | .windowReadClearValid t m p win words => Sys2Proof.Machine.execWindowReadClearValid t m p win words s
  | .windowOperationComplete t p win clash hw errs => Sys2Proof.Machine.execWindowOperationComplete t p win clash hw errs s
  | .frameBoundary t sweepCtr sweepQ ack => Sys2Proof.Machine.execFrameBoundary t sweepCtr sweepQ ack s
  | .treeFrameBoundary t tree => Sys2Proof.Machine.execTreeFrameBoundary t tree s
  | .frameAssembly t c k crossed => Sys2Proof.Machine.execFrameAssembly t c k crossed s
  | .courseXgemPlace t x => Sys2Proof.Machine.execCourseXgemPlace t x s
  | .reorderArrival t c x options stamp n => Sys2Proof.Machine.execReorderArrival t c x options stamp n s
  | .reorderGapDeadline t x => Sys2Proof.Machine.execReorderGapDeadline t x s
  | .i2cGo t m g v hw => Sys2Proof.Machine.execI2cGo t m g v hw s
  | .i2cTransactionEnd t g nack data clash => Sys2Proof.Machine.execI2cTransactionEnd t g nack data clash s
  | .mapBuildStart t c => Sys2Proof.Machine.execMapBuildStart t c s
  | .mapSeal t c => Sys2Proof.Machine.execMapSeal t c s
  | .grantRecordPost t c k ix g => Sys2Proof.Machine.execGrantRecordPost t c k ix g s
  | .ringConsumed t m v => Sys2Proof.Machine.execRingConsumed t m v s
  | .pegLoad t c k ix => Sys2Proof.Machine.execPegLoad t c k ix s
  | .strobePulse t c k ix => Sys2Proof.Machine.execStrobePulse t c k ix s
  | .delimiterAccept t c errs hec n dg sn => Sys2Proof.Machine.execDelimiterAccept t c errs hec n dg sn s
  | .burstEnd t c r => Sys2Proof.Machine.execBurstEnd t c r s
  | .signalDetectChange t c on => Sys2Proof.Machine.execSignalDetectChange t c on s
  | .continuousLight t c => Sys2Proof.Machine.execContinuousLight t c s
  | .upstreamFrameEnd t c k => Sys2Proof.Machine.execUpstreamFrameEnd t c k s
  | .vlogConsumed t m v => Sys2Proof.Machine.execVlogConsumed t m v s
  | .rogueIsolationStart t c => Sys2Proof.Machine.execRogueIsolationStart t c s
  | .quietWindowResult t c => Sys2Proof.Machine.execQuietWindowResult t c s
  | .rogueUnresolvedCheck t c => Sys2Proof.Machine.execRogueUnresolvedCheck t c s
  | .burstProfileQueue t c => Sys2Proof.Machine.execBurstProfileQueue t c s
  | .serialNumberReceived t c k vendor serial => Sys2Proof.Machine.execSerialNumberReceived t c k vendor serial s
  | .rangingTimeAck t x c => Sys2Proof.Machine.execRangingTimeAck t x c s
  | .lostTimeout t x => Sys2Proof.Machine.execLostTimeout t x s
  | .terminalFree t x => Sys2Proof.Machine.execTerminalFree t x s
  | .discConsumed t m v => Sys2Proof.Machine.execDiscConsumed t m v s
  | .ptmSample t temps pace => Sys2Proof.Machine.execPtmSample t temps pace s
  | .railAlarm t rail => Sys2Proof.Machine.execRailAlarm t rail s
  | .envelopePublication t watts pace => Sys2Proof.Machine.execEnvelopePublication t watts pace s
  | .voltageWriteResult t ok status => Sys2Proof.Machine.execVoltageWriteResult t ok status s
  | .tripRelease t m v railOk hw => Sys2Proof.Machine.execTripRelease t m v railOk hw s
  | .quietCh t m ix v => Sys2Proof.Machine.execQuietCh t m ix v s
  | .quietTree t m ix v => Sys2Proof.Machine.execQuietTree t m ix v s
  | .commandAccept t ring desc ok => Sys2Proof.Machine.execCommandAccept t ring desc ok s
  | .nop t n => Sys2Proof.Machine.execNop t n s
  | .query t n => Sys2Proof.Machine.execQuery t n s
  | .keyZeroizeAll t n => Sys2Proof.Machine.execKeyZeroizeAll t n s
  | .terminalCreate t n => Sys2Proof.Machine.execTerminalCreate t n s
  | .terminalDestroy t n => Sys2Proof.Machine.execTerminalDestroy t n s
  | .terminalDisable t n => Sys2Proof.Machine.execTerminalDisable t n s
  | .terminalEnable t n => Sys2Proof.Machine.execTerminalEnable t n s
  | .allocCreate t n => Sys2Proof.Machine.execAllocCreate t n s
  | .allocDestroy t n => Sys2Proof.Machine.execAllocDestroy t n s
  | .channelCreate t n => Sys2Proof.Machine.execChannelCreate t n s
  | .channelDestroy t n => Sys2Proof.Machine.execChannelDestroy t n s
  | .queueCreate t n => Sys2Proof.Machine.execQueueCreate t n s
  | .queueDestroy t n => Sys2Proof.Machine.execQueueDestroy t n s
  | .queueFlush t n => Sys2Proof.Machine.execQueueFlush t n s
  | .keyCreate t n => Sys2Proof.Machine.execKeyCreate t n s
  | .keyDestroy t n => Sys2Proof.Machine.execKeyDestroy t n s
  | .poolCreate t n => Sys2Proof.Machine.execPoolCreate t n s
  | .poolDestroy t n => Sys2Proof.Machine.execPoolDestroy t n s
  | .shaperCreate t n => Sys2Proof.Machine.execShaperCreate t n s
  | .shaperDestroy t n => Sys2Proof.Machine.execShaperDestroy t n s
  | .gateListInstall t n => Sys2Proof.Machine.execGateListInstall t n s
  | .gateListDestroy t n => Sys2Proof.Machine.execGateListDestroy t n s
  | .omciSend t n => Sys2Proof.Machine.execOmciSend t n s
  | .destroyCommit t n => Sys2Proof.Machine.execDestroyCommit t n s
  | .commandTimeout t n => Sys2Proof.Machine.execCommandTimeout t n s
  | .completionPost t n => Sys2Proof.Machine.execCompletionPost t n s
  | .puntChannelDisable t m p => Sys2Proof.Machine.execPuntChannelDisable t m p s
  | .injectDescriptor t ix desc descOk bytesOk data => Sys2Proof.Machine.execInjectDescriptor t ix desc descOk bytesOk data s
  | .injectChannelDisable t m ix tags => Sys2Proof.Machine.execInjectChannelDisable t m ix tags s
  | .packetIngress t n => Sys2Proof.Machine.execPacketIngress t n s
  | .packetClassify t sl => Sys2Proof.Machine.execPacketClassify t sl s
  | .xgemEncrypt t tree => Sys2Proof.Machine.execXgemEncrypt t tree s
  | .xgemDecrypt t c k x port ki options word body => Sys2Proof.Machine.execXgemDecrypt t c k x port ki options word body s
  | .tagResult t n => Sys2Proof.Machine.execTagResult t n s
  | .keyActivation t slot => Sys2Proof.Machine.execKeyActivation t slot s
  | .clockAlarm t => Sys2Proof.Machine.execClockAlarm t s
  | .glitchAlarm t => Sys2Proof.Machine.execGlitchAlarm t s
  | .temperatureAlarm t q => Sys2Proof.Machine.execTemperatureAlarm t q s
  | .cellRequest t win r pool pkt cut => Sys2Proof.Machine.execCellRequest t win r pool pkt cut s
  | .waitTimeout t r => Sys2Proof.Machine.execWaitTimeout t r s
  | .bufferFree t r p owner gen errs => Sys2Proof.Machine.execBufferFree t r p owner gen errs s
  | .flogConsumed t m v => Sys2Proof.Machine.execFlogConsumed t m v s
  | .cellAddr t m v => Sys2Proof.Machine.execCellAddr t m v s
  | .packetPush t n pop errs => Sys2Proof.Machine.execPacketPush t n pop errs s
  | .packetEnd t n whole => Sys2Proof.Machine.execPacketEnd t n whole s
  | .packetPop t q errs => Sys2Proof.Machine.execPacketPop t q errs s
  | .flushCommit t q => Sys2Proof.Machine.execFlushCommit t q s
  | .scrubRead t at_ e last => Sys2Proof.Machine.execScrubRead t at_ e last s
  | .dramRefresh t stack => Sys2Proof.Machine.execDramRefresh t stack s
  | .skcReady t stack => Sys2Proof.Machine.execSkcReady t stack s
  | .egressRequest t root => Sys2Proof.Machine.execEgressRequest t root s
  | .shaperWheelExpiry t terminal ix => Sys2Proof.Machine.execShaperWheelExpiry t terminal ix s
  | .gateEntryChange t g => Sys2Proof.Machine.execGateEntryChange t g s
  | .gateListStart t g => Sys2Proof.Machine.execGateListStart t g s
  | .portBringup t m p => Sys2Proof.Machine.execPortBringup t m p s
  | .autonegComplete t p common full => Sys2Proof.Machine.execAutonegComplete t p common full s
  | .linkTrainingComplete t p failed lock taps => Sys2Proof.Machine.execLinkTrainingComplete t p failed lock taps s
  | .portDefectChange t p b lane on => Sys2Proof.Machine.execPortDefectChange t p b lane on s
  | .upHoldExpiry t p => Sys2Proof.Machine.execUpHoldExpiry t p s
  | .networkFrameReceive t p frame whole room del ins fecCor fecUnc fecSym => Sys2Proof.Machine.execNetworkFrameReceive t p frame whole room del ins fecCor fecUnc fecSym s
  | .networkFrameTransmit t p ins del => Sys2Proof.Machine.execNetworkFrameTransmit t p ins del s
  | .pauseReceive t p quanta => Sys2Proof.Machine.execPauseReceive t p quanta s
  | .pauseHoldLimit t p released => Sys2Proof.Machine.execPauseHoldLimit t p released s
  | .pauseGenerate t p => Sys2Proof.Machine.execPauseGenerate t p s
  | .eyeMeasure t lane v h => Sys2Proof.Machine.execEyeMeasure t lane v h s
  | .injectOne t m lane hw => Sys2Proof.Machine.execInjectOne t m lane hw s
  | .flexeOhFrameReceive t g inst crc oh skew => Sys2Proof.Machine.execFlexeOhFrameReceive t g inst crc oh skew s
  | .flexeOhCandidate t g inst ok => Sys2Proof.Machine.execFlexeOhCandidate t g inst ok s
  | .calReq t m g v => Sys2Proof.Machine.execCalReq t m g v s
  | .txOhFrameBoundary t g => Sys2Proof.Machine.execTxOhFrameBoundary t g s
  | .timeRun t m partner => Sys2Proof.Machine.execTimeRun t m partner s
  | .eventEdge t ix falling held => Sys2Proof.Machine.execEventEdge t ix falling held s
  | .evtConsumed t m v => Sys2Proof.Machine.execEvtConsumed t m v s
  | .txsConsumed t m v => Sys2Proof.Machine.execTxsConsumed t m v s
  | .pulseOutput t o => Sys2Proof.Machine.execPulseOutput t o s
  | .poEn t m o v => Sys2Proof.Machine.execPoEn t m o v s
  | .phaseAdj t m v hw => Sys2Proof.Machine.execPhaseAdj t m v hw s
  | .freqAdj t m v => Sys2Proof.Machine.execFreqAdj t m v s
  | .timeOffset t m v => Sys2Proof.Machine.execTimeOffset t m v s
  | .holdoverEntry t => Sys2Proof.Machine.execHoldoverEntry t s
  | .timeExchange t diff => Sys2Proof.Machine.execTimeExchange t diff s
  | .epochMarkerSend t bytes n base => Sys2Proof.Machine.execEpochMarkerSend t bytes n base s
  | .soundpostRecordReceive t good required x => Sys2Proof.Machine.execSoundpostRecordReceive t good required x s
  | .epochCommit t e whole replay => Sys2Proof.Machine.execEpochCommit t e whole replay s
  | .epochDeadline t k => Sys2Proof.Machine.execEpochDeadline t k s
  | .epochAckReceive t k => Sys2Proof.Machine.execEpochAckReceive t k s
  | .rewind t e => Sys2Proof.Machine.execRewind t e s
  | .resyncRequest t => Sys2Proof.Machine.execResyncRequest t s
  | .baseMarkerReceive t b x good => Sys2Proof.Machine.execBaseMarkerReceive t b x good s
  | .capoRenewal t bad => Sys2Proof.Machine.execCapoRenewal t bad s
  | .pinMessageReceive t w => Sys2Proof.Machine.execPinMessageReceive t w s
  | .renewalReceive t pins x => Sys2Proof.Machine.execRenewalReceive t pins x s
  | .beacon t bad => Sys2Proof.Machine.execBeacon t bad s
  | .partnerAbsent t => Sys2Proof.Machine.execPartnerAbsent t s
  | .capoTakeover t ds renewed => Sys2Proof.Machine.execCapoTakeover t ds renewed s
  | .claim t m v hw => Sys2Proof.Machine.execClaim t m v hw s
  | .claimEnd t => Sys2Proof.Machine.execClaimEnd t s
  | .coldStart t m v hw => Sys2Proof.Machine.execColdStart t m v hw s
  | .release t m v hw => Sys2Proof.Machine.execRelease t m v hw s
  | .forceFence t m v => Sys2Proof.Machine.execForceFence t m v s
  | .mirrorEn t m v => Sys2Proof.Machine.execMirrorEn t m v s
  | .soundpostTrainingComplete t => Sys2Proof.Machine.execSoundpostTrainingComplete t s
  | .tagEn t m v => Sys2Proof.Machine.execTagEn t m v s
  | .traceConsumed t m v => Sys2Proof.Machine.execTraceConsumed t m v s
  | .boot t a b => Sys2Proof.Machine.execBoot t a b s
  | .attestGo t m v hw => Sys2Proof.Machine.execAttestGo t m v hw s
  | .attestReportReady t => Sys2Proof.Machine.execAttestReportReady t s
  | .debugGo t m v level hw => Sys2Proof.Machine.execDebugGo t m v level hw s
  | .revokeGo t m v hw => Sys2Proof.Machine.execRevokeGo t m v hw s
  | .svnGo t m v hw => Sys2Proof.Machine.execSvnGo t m v hw s
  | .fuseBurnComplete t ok => Sys2Proof.Machine.execFuseBurnComplete t ok s
  | .unitFailure t kind u lost queues => Sys2Proof.Machine.execUnitFailure t kind u lost queues s
  | .sliceExchange t sl => Sys2Proof.Machine.execSliceExchange t sl s
  | .aesLaneExchange t l => Sys2Proof.Machine.execAesLaneExchange t l s
  | .regionCopyStart t kind u => Sys2Proof.Machine.execRegionCopyStart t kind u s
  | .regionRemap t kind u => Sys2Proof.Machine.execRegionRemap t kind u s
  | .rowRepair t n reads left => Sys2Proof.Machine.execRowRepair t n reads left s
  | .approve t m v hw => Sys2Proof.Machine.execApprove t m v hw s
  | .dfeSwap t lane sl unc => Sys2Proof.Machine.execDfeSwap t lane sl unc s
  | .usb4LinkChange t link tunnel gen => Sys2Proof.Machine.execUsb4LinkChange t link tunnel gen s
  | .hostLossTimeout t => Sys2Proof.Machine.execHostLossTimeout t s
  | .functionLevelReset t pf1 => Sys2Proof.Machine.execFunctionLevelReset t pf1 s
  | .msixSend t v => Sys2Proof.Machine.execMsixSend t v s
  | .msixRepeat t v => Sys2Proof.Machine.execMsixRepeat t v s
  | .msixUnmask t v mask => Sys2Proof.Machine.execMsixUnmask t v mask s
  | .dmaReadComplete t id ok bs => Sys2Proof.Machine.execDmaReadComplete t id ok bs s
  | .dmaTimeout t id => Sys2Proof.Machine.execDmaTimeout t id s
  | .porstAssert t low took => Sys2Proof.Machine.execPorstAssert t low took s
  | .porstRelease t side test => Sys2Proof.Machine.execPorstRelease t side test s
  | .soundpostLinkDown t => Sys2Proof.Machine.execSoundpostLinkDown t s
  | .pauseQuantaExpiry t p => Sys2Proof.Machine.execPauseQuantaExpiry t p s
  | .fenceEgressStop t => Sys2Proof.Machine.execFenceEgressStop t s
  | .ownerClear t => Sys2Proof.Machine.execOwnerClear t s
  | .timeReferenceChange t ok => Sys2Proof.Machine.execTimeReferenceChange t ok s
  | .treeLanesReady t tree => Sys2Proof.Machine.execTreeLanesReady t tree s
  | .regionCopyComplete t kind u => Sys2Proof.Machine.execRegionCopyComplete t kind u s
  | .pllWorn t u => Sys2Proof.Machine.execPllWorn t u s
  | .dmaWriteRefused t punt => Sys2Proof.Machine.execDmaWriteRefused t punt s
  | .busMasterEnableChange t v => Sys2Proof.Machine.execBusMasterEnableChange t v s
  | .flexeOhMissing t g inst => Sys2Proof.Machine.execFlexeOhMissing t g inst s
  | .prbsLockChange t lane on n errs => Sys2Proof.Machine.execPrbsLockChange t lane on n errs s

end Sys2Proof.Machine
end

