-- ==== Sys2Proof/Safety.lean ====
section
/-!
DEFINITION. What counts as a safe run, and the shapes in which claims about commands are said.
-/

namespace Sys2Proof.Safety

open Sys2Proof.Machine

/-- The device as reset holds it (R642): every register, table, key, packet and memory at its reset value. Only the fuses and the sensors' readings (R644)
stay, with the model's count of open values and of challenges drawn. -/
def AtReset (d : Device) : Prop :=
  d = { core := { free := d.core.free }, fuses := d.fuses, sec := { challenge := d.sec.challenge }, pow := { temps := d.pow.temps } }

/-- While PORST_N holds the machine in reset, the device stands at reset. -/
def HeldAtReset (s : State) : Prop := s.inReset = true → AtReset s.dev

/-! ### What a command makes of the device -/

/-- Command `c` completes on `s` at instant `t`: there is a next state, the queue as it was, and its device is what follows (`Device.after`) from
a device of which `E` holds, beside the device as the command finds it. -/
def Makes (c : Instr) (s : State) (t : Nat) (E : Device → Device → Prop) : Prop :=
  ∃ d, exec c s = .next (s.ran (s.dev.arrive t) d) ∧ E (s.dev.arrive t) d

/-- The same for a command that first loads a counter, which no monitor counts. -/
def MakesLoaded (load : Device → Device) (c : Instr) (s : State) (t : Nat) (E : Device → Device → Prop) : Prop :=
  ∃ d, exec c s = .next (s.ran (load (s.dev.arrive t)) d) ∧ E (s.dev.arrive t) d

/-! ### Frames -/

/-- Every field but those of `fs` and every counter but those of `cs` (page and offset) reads in `b` as in `a`. -/
def Kept (fs : List Fld) (cs : List (Nat × Nat)) (a b : Device) : Prop :=
  (∀ f, (∀ g ∈ fs, fkey f ≠ fkey g) → b.rd f = a.rd f) ∧ ∀ p o, (∀ c ∈ cs, ctrKey p o ≠ ctrKey c.1 c.2) → b.ctr p o = a.ctr p o

/-- Nothing of the device differs but those fields and counters: no table, no memory, no queue. -/
def Only (fs : List Fld) (cs : List (Nat × Nat)) (a b : Device) : Prop := b = { a with regs := b.regs, ctrs := b.ctrs } ∧ Kept fs cs a b

/-- The counter at offset `o` of page `p` counts `n`. -/
def Counts (p o n : Nat) (a b : Device) : Prop := b.ctr p o = (a.ctr p o + n) % 2 ^ 64

/-- A refused write: PAGE_REFUSED counts it and nothing else happens (R87). -/
def Refused (p : Nat) (a b : Device) : Prop := Counts p 0x808 1 a b ∧ Only [] [(p, 0x808)] a b

/-- A write dropped by a lock: PAGE_LOCKED_WRITES counts it and nothing else happens (R654). -/
def Locked (p : Nat) (a b : Device) : Prop := Counts p 0x800 1 a b ∧ Only [] [(p, 0x800)] a b

/-- A write lost to hardware: PAGE_WRITE_LOST counts it and nothing else happens (R80). -/
def Lost (p : Nat) (a b : Device) : Prop := b.rd (PG.WRITE_LOST p) = (a.rd (PG.WRITE_LOST p) + 1) % 2 ^ 32 ∧ Only [PG.WRITE_LOST p] [] a b

/-- A write where no page is populated: DEV_UNMAPPED_WRITES counts it and nothing else happens (R64). -/
def Unmapped (a b : Device) : Prop := Counts 0x000 0x810 1 a b ∧ Only [] [(0x000, 0x810)] a b

end Sys2Proof.Safety
end

