-- ==== Sys2Proof/Certificates/Slice0/Obligations.lean ====
section
/-!
DEFINITION. The statements for the provers: what the commands do to the device, chapter by chapter, and what holds of every step. In `Makes`, `a`
is the device as the command finds it at its instant and `b` the one it makes.
-/

open Sys2Proof Sys2Proof.Machine Sys2Proof.Safety

/-- The key under which a master's held or captured half of the counter at word `w` of page `p` stands. -/
abbrev halfOf (m : Master) (p : PageIx) (w : Fin 1024) : Nat := heldKey m p.val (4 * w.val)

/-- What WIN_CTRL with GO = 1 and operation `op` does (R84, R85). -/
def StartsWindow (m : Master) (p win op words : Nat) (a b : Device) : Prop :=
  (populated p = false → Unmapped a b) ∧ (populated p = true → m = .pf1 → Refused p a b) ∧
  (populated p = true → m ≠ .pf1 → (pageInfo p).windows ≤ win → b = a) ∧
  (populated p = true → m ≠ .pf1 → win < (pageInfo p).windows → a.on (PG.GO p win) = true → Locked p a b) ∧
  (populated p = true → m ≠ .pf1 → win < (pageInfo p).windows → a.on (PG.GO p win) = false →
    b.on (PG.GO p win) = true ∧ b.on (PG.WIN_BUSY p win) = true ∧ b.rd (PG.OP p win) = op ∧ b.rd (PG.WORDS p win) = words ∧
    Tbl.get? b.pages.winOps (winKey p win) = some {
      op := op, addr := a.rd (PG.WIN_ADDR p win),
      words := (List.range (words + 1)).map (fun i => a.rd (PG.WIN_DATA p win i)), master := m } ∧
    (∀ k, k ≠ winKey p win → Tbl.get? b.pages.winOps k = Tbl.get? a.pages.winOps k) ∧
    b = { a with regs := b.regs, pages := { a.pages with winOps := b.pages.winOps } } ∧
    Kept [PG.GO p win, PG.WIN_BUSY p win, PG.OP p win, PG.WORDS p win] [] a b)

/-- A register write by PF1, whatever command it is: its instant and the page it addresses. -/
def userWrite : Instr → Option (Nat × Nat)
  | .registerWrite t .pf1 p _ _ none _ => some (t, p.val)
  | .counterLowWrite t .pf1 p .. => some (t, p.val)
  | .counterHighWrite t .pf1 p .. => some (t, p.val)
  | .watchThresholdWrite t .pf1 p .. => some (t, p.val)
  | .arm t .pf1 p .. => some (t, p.val)
  | .windowRead t .pf1 p .. => some (t, p.val)
  | .windowWrite t .pf1 p .. => some (t, p.val)
  | .windowReadClearValid t .pf1 p .. => some (t, p.val)
  | .i2cGo t .pf1 g .. => some (t, treePage (4 * g.val))
  | .ringConsumed t .pf1 .. => some (t, 0x1B5)
  | .vlogConsumed t .pf1 .. => some (t, 0x000)
  | .discConsumed t .pf1 .. => some (t, 0x1B6)
  | .tripRelease t .pf1 .. => some (t, 0x003)
  | .quietCh t .pf1 .. => some (t, 0x003)
  | .quietTree t .pf1 .. => some (t, 0x003)
  | .puntChannelDisable t .pf1 .. => some (t, 0x001)
  | .injectChannelDisable t .pf1 .. => some (t, 0x001)
  | .flogConsumed t .pf1 .. => some (t, 0x1B0)
  | .cellAddr t .pf1 .. => some (t, 0x1B0)
  | .portBringup t .pf1 p .. => some (t, 0x180 + p.val / 4)
  | .injectOne t .pf1 p .. => some (t, 0x180 + p.val / 4)
  | .calReq t .pf1 .. => some (t, 0x190)
  | .timeRun t .pf1 .. => some (t, 0x004)
  | .evtConsumed t .pf1 .. => some (t, 0x004)
  | .txsConsumed t .pf1 .. => some (t, 0x004)
  | .poEn t .pf1 .. => some (t, 0x004)
  | .phaseAdj t .pf1 .. => some (t, 0x004)
  | .freqAdj t .pf1 .. => some (t, 0x004)
  | .timeOffset t .pf1 .. => some (t, 0x004)
  | .claim t .pf1 .. => some (t, 0x005)
  | .coldStart t .pf1 .. => some (t, 0x005)
  | .release t .pf1 .. => some (t, 0x005)
  | .forceFence t .pf1 .. => some (t, 0x005)
  | .mirrorEn t .pf1 .. => some (t, 0x005)
  | .tagEn t .pf1 .. => some (t, 0x007)
  | .traceConsumed t .pf1 .. => some (t, 0x007)
  | .attestGo t .pf1 .. => some (t, 0x002)
  | .debugGo t .pf1 .. => some (t, 0x002)
  | .revokeGo t .pf1 .. => some (t, 0x002)
  | .svnGo t .pf1 .. => some (t, 0x002)
  | .approve t .pf1 .. => some (t, 0x006)
  | _ => none

/-- A write of a ring's consumed index by `m` on page `p` releases entries, or is refused. -/
def Releases (m : Master) (p : Nat) (produced consumed : Fld) (size v : Nat) (a b : Device) : Prop :=
  (m = .pf1 → Refused p a b) ∧
  (m ≠ .pf1 → unread (a.rd produced) v (2 * size) ≤ size → b.rd consumed = v ∧ Only [consumed] [] a b) ∧
  (m ≠ .pf1 → size < unread (a.rd produced) v (2 * size) → Refused p a b)

/-- The command of the table that runs accepted command `n` with this opcode (R309). -/
def hostCommand (op t n : Nat) : Option Instr :=
  match op with
  | 0x01 => some (.nop t n) | 0x02 => some (.query t n) | 0x03 => some (.keyZeroizeAll t n)
  | 0x10 => some (.terminalCreate t n) | 0x11 => some (.terminalDestroy t n) | 0x12 => some (.terminalDisable t n) | 0x13 => some (.terminalEnable t n)
  | 0x20 => some (.allocCreate t n) | 0x21 => some (.allocDestroy t n) | 0x30 => some (.channelCreate t n) | 0x31 => some (.channelDestroy t n)
  | 0x40 => some (.queueCreate t n) | 0x41 => some (.queueDestroy t n) | 0x42 => some (.queueFlush t n)
  | 0x50 => some (.keyCreate t n) | 0x51 => some (.keyDestroy t n) | 0x60 => some (.poolCreate t n) | 0x61 => some (.poolDestroy t n)
  | 0x70 => some (.shaperCreate t n) | 0x71 => some (.shaperDestroy t n) | 0x80 => some (.gateListInstall t n) | 0x81 => some (.gateListDestroy t n)
  | 0x90 => some (.omciSend t n)
  | _ => none

/-- Accepted command `n` is `c`, of opcode `op`, and its turn to start has come (R299). -/
def Starts (d : Device) (op n : Nat) (c : Cmd) : Prop :=
  d.cmd? n = some c ∧ c.st = .waiting ∧ Cmd.opcode c = op ∧ d.mayStart c = true ∧ c.pay ≠ .reading ∧ c.stamp ≤ d.now

/-- It starts and nothing of R300, R304, R308 or R624 refuses it, so its own rules decide. -/
def Runs (d : Device) (op n : Nat) (c : Cmd) : Prop :=
  Starts d op n c ∧ d.now ≤ Cmd.deadline c ∧ (opFree op = true ∨ d.capo = true) ∧ Cmd.reserved c = false ∧ c.pay ≠ .failed

/-- The epoch has room for the change (R521), or nothing is mirrored. -/
def Room (d : Device) (c : Cmd) : Prop :=
  d.on MRU.MIRROR_EN = true → d.rd MRU.ROLE = 1 → d.mru.change + Config.changeBytes (Cmd.opcode c) c.words ≤ 2097152

/-- Command `c` has its completion (R301); every other command is as it was. -/
def Ended (c : Cmd) (status stamp : Nat) (effect : Bool) (handle x y : Nat) (a b : Device) : Prop :=
  b.svc.cmds = a.svc.cmds.map (fun e => if e.seq = c.seq then { e with st := .done status stamp effect handle x y } else e)

/-- Command `c` is under way; every other command is as it was. -/
def Works (c : Cmd) (a b : Device) : Prop := b.svc.cmds = a.svc.cmds.map (fun e => if e.seq = c.seq then { e with st := .working } else e)

/-- Command `c` is refused with a status, and nothing else happens. -/
def RefusedAs (c : Cmd) (status : Nat) (a b : Device) : Prop :=
  Ended c status a.now false (Cmd.handle c) 0 0 a b ∧ b = { a with svc := { a.svc with cmds := b.svc.cmds } }

/-- Accepted commands carry distinct numbers below the next one. -/
def Numbered (d : Device) : Prop := (∀ c ∈ d.svc.cmds, c.seq < d.svc.seq) ∧ d.svc.cmds.Pairwise (fun c e => c.seq ≠ e.seq)

/-- The status with which an inject descriptor completes (R319): 0 OK, 1 stale handle, 2 full, 3 DMA error, 4 length, 5 not active. -/
def injectStatus (d : Device) (ws : List Nat) (dok pok : Bool) (bytes : Nat) : Nat :=
  let len := wordAt ws 2 % 2 ^ 14
  if dok = false then 3
  else if d.capo = false then 5
  else if len < 60 ∨ 9600 < len then 4
  else if bit (wordAt ws 2) 16 then (if (d.chan? (wordAt ws 3)).isNone then 1 else if pok = false ∨ bytes < len then 3 else 0)
  else match (d.queueIdx (wordAt ws 3)).bind d.queue? with
    | none => 1
    | some q => if q.maxCells ≤ q.cells then 2 else if pok = false ∨ bytes < len then 3 else 0

/-- The state a bring-up of port `p` starts in (R460): auto-negotiation, training, or the lock where neither runs. -/
def firstState (d : Device) (p : Nat) : Nat := if d.onPort NPC.AN_EN p then 1 else if d.onPort NPC.TRAIN_EN p then 2 else 3

/-- Only network ports, registers and counters differ. -/
def PortsOnly (a b : Device) : Prop := b = { a with regs := b.regs, ctrs := b.ctrs, net := { a.net with ports := b.net.ports } }

/-- Port `p` counts `n` at an offset of R487. -/
def PortCounts (p off n : Nat) (a b : Device) : Prop := Counts (npcPage (quadOf (a.countPort p))) (portCtr (slotOf (a.countPort p)) off) n a b

/-- A worn unit finds no spare (R606): its kind is EXHAUSTED, counted once a unit. -/
def Exhausts (kind u : Nat) (a b : Device) : Prop :=
  if unitKey kind u ∈ a.spm.seen then b.rd SPM.EXHAUSTED = a.rd SPM.EXHAUSTED ∧ b.ctrs = a.ctrs
  else bit (b.rd SPM.EXHAUSTED) (kind - 1) = true ∧ unitKey kind u ∈ b.spm.seen ∧ Counts 0x006 0x830 1 a b

/-- Unit `u` goes out of service and its spare `x` comes in, counted (R595, R604). -/
def Exchanged (kind u x : Nat) (a b : Device) : Prop :=
  Counts 0x006 0x810 1 a b ∧ unitKey kind u ∈ b.spm.retired ∧ unitKey kind x ∈ b.spm.brought

/-- The effect of asking for a message on vector `v` (R620). -/
def Messages (v : Nat) (a b : Device) : Prop :=
  Tbl.get? b.hif.told v = some a.now ∧
  if a.vectorOpen v = true then b.core.out = a.core.out ++ [.msix v] ∧ v ∉ b.hif.pendingMsix ∧ Counts 0x001 0x838 1 a b else v ∈ b.hif.pendingMsix ∧ b.core.out = a.core.out ∧ Counts 0x001 0x840 1 a b

/-- The effect on a loss or a return of the host (R613, R617). -/
def HostTurns (a b : Device) : Prop :=
  (a.hostUp = true → b.hostUp = false → b.hif.lossAt = some a.now ∧ b.hif.released = false ∧ Counts 0x001 0x810 1 a b) ∧ (a.hostUp = false → b.hostUp = true → b.hif.lossAt = none ∧ b.hif.held = []) ∧
  (a.hostUp = b.hostUp → b.hif = a.hif ∧ b.core = a.core) ∧ b.cells = a.cells ∧ b.fret = a.fret ∧ b.rng = a.rng ∧ b.pkt = a.pkt ∧ b.svc = a.svc

/-- The DMA read `r`, found as `id`, ends, and its command gets payload `pay` (R618). -/
def DmaEnds (id : Nat) (r : DmaRead) (pay : Payload) (a b : Device) : Prop :=
  (∀ e ∈ b.hif.reads, e.id ≠ r.id) ∧ (∀ e ∈ a.hif.reads, e.id ≠ id → e ∈ b.hif.reads) ∧
  (∀ c, a.cmd? r.cmd = some c → b.cmd? r.cmd = some { c with pay := pay }) ∧ b.regs = a.regs ∧ b.cells = a.cells

/-- What one 32-bit write by master `m` of `x` at word `w` of page number `p` makes (R64, R65, R67, R68, R70, R73, R87). -/
def TakesWord (m : Master) (p w : Nat) (x : BusWord) (a b : Device) : Prop :=
  let off := 4 * w
  let fs := (fieldsOf p off).filter writable
  let nv (f : Fld) : Nat := if f.off = off then bits x.v.toNat f.lo f.width else a.before f
  let k := heldKey m p off
  let k' := heldKey m p (off - 4)
  (m = .pf1 ∨ p < 0x2000 → populated p = false → Unmapped a b) ∧ (populated p = true → m = .pf1 ∨ x.full = false → Refused p a b) ∧
  (populated p = true → m ≠ .pf1 → x.full = true →
    (counterWrites p off = true → Tbl.get? b.pages.held k = some x.v.toNat ∧ (∀ j, j ≠ k → Tbl.get? b.pages.held j = Tbl.get? a.pages.held j) ∧
      b = { a with pages := { a.pages with held := b.pages.held } }) ∧
    (off % 8 = 4 → counterWrites p (off - 4) = true →
      b.ctr p (off - 4) = (x.v.toNat * 2 ^ 32 + (Tbl.get? a.pages.held k').getD (a.ctr p (off - 4) % 2 ^ 32) + x.inc) % 2 ^ 64 ∧
      Tbl.get? b.pages.held k' = none ∧ (∀ j, j ≠ k' → Tbl.get? b.pages.held j = Tbl.get? a.pages.held j) ∧
      b = { a with ctrs := b.ctrs, pages := { a.pages with held := b.pages.held } } ∧ Kept [] [(p, off - 4)] a b) ∧
    (counterAt p off = false → ¬(off % 8 = 4 ∧ counterAt p (off - 4) = true) → fs = [] → b = a) ∧ (fs ≠ [] → a.wordLocked p off = true → Locked p a b) ∧
    (w = 3 → b.rd (PG.IRQ_ENABLE p) = x.v.toNat ∧ Only [PG.IRQ_ENABLE p] [] a b) ∧
    (0x400 ≤ off → off < 0x600 → fs ≠ [] → fs.all (fun f => decide (f.cls = .S)) = true → a.on (PG.ARM p) = false →
      (∀ f ∈ fs, b.rd f = if mayWrite m f.rstr = true ∧ a.valueOk nv f = true then nv f else a.rd f) ∧ (∀ f, b.rdA f = a.rdA f) ∧
      if fs.all (fun f => mayWrite m f.rstr && a.valueOk nv f) = true then Only fs [] a b else Counts p 0x808 1 a b ∧ Only fs [(p, 0x808)] a b))

/-- What a write by master `m` of the alias of bit `i` of word `w` of page `p` makes (R62, R63, R67, R81). `hw` tells that hardware updates the bit in the same
window. -/
def TakesBit (m : Master) (p w i : Nat) (v full hw : Bool) (a b : Device) : Prop :=
  let own (f : Fld) : Bool := decide (f.lo ≤ i ∧ i < f.lo + f.width)
  (m = .pf1 → b = a) ∧ (m ≠ .pf1 → populated p = false → Unmapped a b) ∧ (m ≠ .pf1 → populated p = true → full = false → Refused p a b) ∧
  (m ≠ .pf1 → populated p = true → full = true →
    ((∀ f ∈ fieldsOf p (4 * w), own f = true → f.cls = .L ∨ f.cls = .C) → b = a) ∧
    (∀ f ∈ fieldsOf p (4 * w), own f = true → f.cls = .S → a.on (PG.ARM p) = true → Locked p a b) ∧
    (∀ f ∈ fieldsOf p (4 * w), own f = true → f.cls = .S → f.width = 1 → mayWrite m f.rstr = true → a.on (PG.ARM p) = false →
      a.valueOk (fun g => if g = f then b2n v else a.before g) f = true → b.rd f = b2n v ∧ b.rdA f = a.rdA f ∧ Only [f] [] a b) ∧
    (∀ f ∈ fieldsOf p (4 * w), own f = true → f.cls = .H → f ≠ PG.ARM p → mayWrite m f.rstr = true → a.wordLocked p (4 * w) = false →
      hw = true → Lost p a b) ∧
    (w = 3 → (∀ j : Fin 32, (b.rd (PG.IRQ_ENABLE p)).testBit j.val = if j.val = i then v else (a.rd (PG.IRQ_ENABLE p)).testBit j.val) ∧
      Only [PG.IRQ_ENABLE p] [] a b))

/-- A window operation of page `p` ends on device `e`: GO and BUSY read 0, LAST_FAILED shows whether it failed, WIN_DATA holds the words delivered, a WIN_CTRL
write of the same window is lost and counted, and nothing else differs from `e` (R85). -/
def EndsWindow (p win : Nat) (ok : Bool) (ws : List Nat) (clash : Bool) (e b : Device) : Prop :=
  b.rd (PG.GO p win) = 0 ∧ b.rd (PG.WIN_BUSY p win) = 0 ∧ b.rd (PG.LAST_FAILED p win) = b2n (!ok) ∧ Tbl.get? b.pages.winOps (winKey p win) = none ∧
  (∀ i, i < ws.length → b.rd (PG.WIN_DATA p win i) = wordAt ws i % 2 ^ 32) ∧
  b.rd (PG.WRITE_LOST p) = (e.rd (PG.WRITE_LOST p) + b2n clash) % 2 ^ 32 ∧ (∀ k, k ≠ winKey p win → Tbl.get? b.pages.winOps k = Tbl.get? e.pages.winOps k) ∧
  b = { e with regs := b.regs, pages := { e.pages with winOps := b.pages.winOps } } ∧
  Kept ([PG.GO p win, PG.WIN_BUSY p win, PG.LAST_FAILED p win, PG.WRITE_LOST p] ++ (List.range ws.length).map (PG.WIN_DATA p win)) [] e b

/-- A message of the lease goes out: its 64 bits on the pins unless their readback differs, and the message on Soundpost while it is up. -/
def Sends (bad : Bool) (a b : Device) (kind frame : Nat) (release ready unacked : Bool) : Prop :=
  let x : PairMsg := { kind := kind, side := a.on MRU.PAIR_SIDE, release := release, lease := a.rdA MRU.LEASE_FRAMES, margin := a.rdA MRU.MARGIN_FRAMES, ready := ready, unacked := unacked, frame := frame % 2 ^ 32 }
  b.core.out = a.core.out ++ [.lease (if bad then none else some (PairMsg.word x)) (if a.on MRU.SP_UP then some x else none)]

/-- A step with command c at the front of the queue is exec of c on the state with the queue's rest; with an empty queue the step leaves the state as it
is (the model's choice: log entry 3). -/
def Obligations.StepTakesTheFrontCommand : Prop :=
  (∀ (c : Instr) (r : List Instr) (s : State), step { s with pending := c :: r } = exec c { s with pending := r }) ∧
  ∀ s : State, s.pending = [] → step s = .next s

/-- Every command on every state answers a next state: it leaves the queue as it was, and only PORST_ASSERT can bring the machine into reset and only
PORST_RELEASE out of it. On a machine in reset every other command changes nothing (R642), but for PTM_SAMPLE, which sets the sensors' readings alone
(R644). The spec gives R642 for the device; that a command reaches nothing in reset is the model's reading (log entry 77). -/
def Obligations.EveryCommandCompletes : Prop :=
  ∀ (c : Instr) (s : State), ∃ s', exec c s = .next s' ∧ s'.pending = s.pending ∧
    ((∀ t low took, c ≠ .porstAssert t low took) → s'.inReset = true → s.inReset = true ∧ s.dev.fuses = s'.dev.fuses) ∧
    ((∀ t side test, c ≠ .porstRelease t side test) → s.inReset = true → s'.inReset = true) ∧
    (s.inReset = true → (∀ t low took, c ≠ .porstAssert t low took) → (∀ t side test, c ≠ .porstRelease t side test) →
      (∀ t temps pace, c ≠ .ptmSample t temps pace) → s' = s) ∧
    ∀ t temps pace, s.inReset = true → c = .ptmSample t temps pace →
      s'.dev.pow.temps = temps.take 72 ∧ s' = { s with dev := { s.dev with pow := { s.dev.pow with temps := s'.dev.pow.temps } } }

/-- The machine right after reset is out of reset with an empty queue; every register field and every applied copy reads the field's reset value, every
counter reads 0, device time stands still (RUNNING 0), ROLE is 0, the device is not TRIPPED, no page has a pending set (R78), every slice of 0 to 31
is in service, and every byte of cell memory reads 0. The memory's value before R394's first write, and the register values no rule gives, are the
model's choice (log entries 1 and 4). -/
def Obligations.ResetState : Prop :=
  State.reset.inReset = false ∧ State.reset.pending = [] ∧ AtReset State.reset.dev ∧
  (∀ f, State.reset.dev.rd f = f.reset ∧ State.reset.dev.rdA f = f.reset) ∧ (∀ p o, State.reset.dev.ctr p o = 0) ∧
  State.reset.dev.running = false ∧ State.reset.dev.rd MRU.ROLE = 0 ∧ State.reset.dev.on PTM.TRIPPED = false ∧
  (∀ p, State.reset.dev.stagePending p = false) ∧ State.reset.dev.slices = List.range 32 ∧ ∀ x, Memory.read State.reset.dev.cells.mem x = 0

/-- In every state: if, while the machine is held in reset, its device stands at reset (every register, counter, table, key, packet and memory byte at
its reset value, the fuses and the sensors' readings apart), then after any step the same holds. No command reaches through the reset, and a burn that
the reset cut short touches only the fuses. -/
def Obligations.ResetHolds : Prop :=
  ∀ s s' : State, HeldAtReset s → step s = .next s' → HeldAtReset s'

/-- PORST_ASSERT with a low of 10 us or more puts the device at reset, holds it there, and keeps the fuses but for the burn it ends, whose read-back
decides (R642, R587), and the sensors' readings (R644); a low below 1 us changes nothing, and one between leaves the device at reset or as it was, by
an open value (log entry 77). PORST_RELEASE of a machine in reset samples STRAP_SIDE into PAIR_SIDE, takes every unit of the repair map out of service
and brings its replacement in (R605), and ends the reset, unless STRAP_TEST is 1 (R643); out of reset it changes nothing. -/
def Obligations.PorstResets : Prop :=
  (∀ t low took s, 10000 ≤ low → ∃ s', exec (.porstAssert t low took) s = .next s' ∧ s'.inReset = true ∧ s'.pending = s.pending ∧ AtReset s'.dev ∧
    s'.dev.sec.challenge = s.dev.sec.challenge + 1 ∧ s'.dev.pow.temps = s.dev.pow.temps ∧
    (took = false ∨ (s.dev.arrive t).on SEC.FUSE_BUSY = false ∨ s.dev.sec.burns = [] → s'.dev.fuses = s.dev.fuses) ∧
    (∀ x bs, took = true → (s.dev.arrive t).on SEC.FUSE_BUSY = true → s.dev.sec.burns = x :: bs → s'.dev.fuses =
      match x with
      | .leaf b _ => { s.dev.fuses with leaf := s.dev.fuses.leaf ++ [b] }
      | .revoke k _ => { s.dev.fuses with rootState := s.dev.fuses.rootState.set k 3 }
      | .svn n _ => { s.dev.fuses with svn := max s.dev.fuses.svn n }
      | .repair e _ => { s.dev.fuses with repair := s.dev.fuses.repair ++ [e] })) ∧
  (∀ t low took s, low < 1000 → exec (.porstAssert t low took) s = .next { s with dev := s.dev.arrive t }) ∧
  (∀ t low took s, 1000 ≤ low → low < 10000 → ∃ s', exec (.porstAssert t low took) s = .next s' ∧ s'.pending = s.pending ∧
    ((s'.inReset = true ∧ AtReset s'.dev) ∨
      s' = { s with dev := { s.dev.arrive t with core := { (s.dev.arrive t).core with free := s.dev.core.free + 1 } } })) ∧
  (∀ t side s, s.inReset = true → ∃ s', exec (.porstRelease t side false) s = .next s' ∧ s'.inReset = false ∧ s'.pending = s.pending ∧
    s'.dev.rd MRU.PAIR_SIDE = b2n side ∧ s'.dev.fuses = s.dev.fuses ∧
    (∀ e ∈ s.dev.fuses.repair, unitKey (e / 2 ^ 28) (repairUnit e) ∈ s'.dev.spm.retired ∧ unitKey (e / 2 ^ 28) (repairSpare e) ∈ s'.dev.spm.brought) ∧
    (s.dev.fuses.repair = [] → Only [MRU.PAIR_SIDE] [] (s.dev.arrive t) s'.dev)) ∧
  (∀ t side s, s.inReset = true → exec (.porstRelease t side true) s = .next { s with dev := s.dev.arrive t }) ∧
  ∀ t side test s, s.inReset = false → exec (.porstRelease t side test) s = .next { s with dev := s.dev.arrive t }

/-- When device time comes to a command's instant, nothing changes but the time itself, the outputs of the command before, the phase that slews, the
slots that the slices offered, the counters of slices and of the MON page that count time, and the record of late host writes; while device time
stands still only the outputs go; time never steps back. Whatever a command made of the device, what follows at once (Device.after: monitor counters,
falls of FlexE clients, a stalled completion ring, the light a receiver sees, the start of LOBi, a lost Capo, an exchange that was waiting, a burn
that may start) changes no field outside the SEC, SPM and network port pages, no counter outside the SPM, MON, network port and FlexE pages but the
unexpected light of a channel, of a terminal only the instant at which its LOBi began, and none of the other parts of the device; the commands' list
changes only if the Capo was lost. -/
def Obligations.TimeAndAftermathKeep : Prop :=
  (∀ (t : Nat) (d : Device), d.now ≤ (d.arrive t).now ∧ (d.arrive t).now ≤ max d.now t ∧
    (d.running = false → d.arrive t = { d with
      core := { d.core with out := [] } }) ∧
    d.arrive t = { d with
      core := { d.core with time := (d.arrive t).now, out := [] }, regs := (d.arrive t).regs, ctrs := (d.arrive t).ctrs,
      pkt := { d.pkt with slotAcc := (d.arrive t).pkt.slotAcc, slotUsed := (d.arrive t).pkt.slotUsed },
      tmu := { d.tmu with applied := (d.arrive t).tmu.applied, phaseAcc := (d.arrive t).tmu.phaseAcc, clamped := (d.arrive t).tmu.clamped },
      hif := { d.hif with recent := (d.arrive t).hif.recent } } ∧
    (∀ f, fkey f ≠ fkey TMU.PHASE_ADJ_NS → fkey f ≠ fkey TMU.FREQ_APPLIED → (d.arrive t).rd f = d.rd f) ∧
    ∀ p o, (let q := ctrKey p o / 0x1000; q ≠ 0x007 ∧ ¬(0x010 ≤ q ∧ q < 0x034)) → (d.arrive t).ctr p o = d.ctr p o) ∧
  ∀ d0 base d : Device,
    Device.after d0 base d = { d with
      regs := (Device.after d0 base d).regs, ctrs := (Device.after d0 base d).ctrs, svc := (Device.after d0 base d).svc,
      hif := (Device.after d0 base d).hif, net := (Device.after d0 base d).net, spm := (Device.after d0 base d).spm, sec := (Device.after d0 base d).sec,
      bursts := { d.bursts with brx := (Device.after d0 base d).bursts.brx }, rng := { d.rng with terms := (Device.after d0 base d).rng.terms },
      trees := { d.trees with cfr := (Device.after d0 base d).trees.cfr } } ∧
    (∀ f, (let p := fkey f / 0x8000; p ≠ 0x002 ∧ p ≠ 0x006 ∧ ¬(0x180 ≤ p ∧ p < 0x190)) → (Device.after d0 base d).rd f = d.rd f) ∧
    (∀ p o, (let k := ctrKey p o; k / 0x1000 ≠ 0x006 ∧ k / 0x1000 ≠ 0x007 ∧ ¬(0x180 ≤ k / 0x1000 ∧ k / 0x1000 ≤ 0x190) ∧
        ¬(0x080 ≤ k / 0x1000 ∧ k / 0x1000 < 0x180 ∧ k % 0x1000 = 0x9A8)) → (Device.after d0 base d).ctr p o = d.ctr p o) ∧
    (∀ x, ((Device.after d0 base d).term? x).map (fun u => { u with lobSince := 0 }) = (d.term? x).map (fun u => { u with lobSince := 0 })) ∧
    ((d0.capo = false ∨ d.capo = true) → (Device.after d0 base d).svc.cmds = d.svc.cmds)

/-- COUNTER_LOW_READ returns the low word of the counter and captures its high word for the reading master. COUNTER_HIGH_READ returns what that master
captured, which it uses up, or the live high word where it captured nothing. What other masters or other counters hold is untouched, and nothing else
changes. A master that may not read gets 0 and captures nothing. -/
def Obligations.CounterReads : Prop :=
  (∀ t m p w s, s.inReset = false → Makes (.counterLowRead t m p w) s t (fun a b =>
    let v := a.wide p.val (4 * w.val)
    b = { a with core := { a.core with busData := b.core.busData }, pages := { a.pages with captured := b.pages.captured } } ∧
    (a.mayReadAt m p.val (4 * w.val) = true → b.core.busData.toNat = v % 2 ^ 32 ∧ Tbl.get? b.pages.captured (halfOf m p w) = some (v / 2 ^ 32 % 2 ^ 32)) ∧
    (a.mayReadAt m p.val (4 * w.val) = false → b.core.busData = 0 ∧ b.pages.captured = a.pages.captured) ∧
    ∀ k, k ≠ halfOf m p w → Tbl.get? b.pages.captured k = Tbl.get? a.pages.captured k)) ∧
  ∀ t m p w s, s.inReset = false → Makes (.counterHighRead t m p w) s t (fun a b =>
    let v := a.wide p.val (4 * w.val)
    b = { a with core := { a.core with busData := b.core.busData }, pages := { a.pages with captured := b.pages.captured } } ∧
    (a.mayReadAt m p.val (4 * w.val) = true →
      (∀ h, Tbl.get? a.pages.captured (halfOf m p w) = some h → b.core.busData.toNat = h % 2 ^ 32 ∧ Tbl.get? b.pages.captured (halfOf m p w) = none) ∧
      (Tbl.get? a.pages.captured (halfOf m p w) = none → b.core.busData.toNat = v / 2 ^ 32 % 2 ^ 32)) ∧
    (a.mayReadAt m p.val (4 * w.val) = false → b.core.busData = 0 ∧ b.pages.captured = a.pages.captured) ∧
    ∀ k, k ≠ halfOf m p w → Tbl.get? b.pages.captured k = Tbl.get? a.pages.captured k)

/-- COUNTER_LOW_WRITE to a counter holds the word for the writing master and changes nothing else. COUNTER_HIGH_WRITE by that master loads all 64 bits in
one step, uses the held word up, and then adds the increments of its window; with no held word it leaves the low word. A write by PF1 is refused and
one to no page is counted as unmapped. -/
def Obligations.CounterLoads : Prop :=
  (∀ t m p w v s, s.inReset = false → Makes (.counterLowWrite t m p w v) s t (fun a b =>
    (populated p.val = false → Unmapped a b) ∧ (populated p.val = true → m = .pf1 → Refused p.val a b) ∧
    (m ≠ .pf1 → counterWrites p.val (4 * w.val) = true →
      b = { a with pages := { a.pages with held := b.pages.held } } ∧ Tbl.get? b.pages.held (halfOf m p w) = some v.toNat ∧
      ∀ k, k ≠ halfOf m p w → Tbl.get? b.pages.held k = Tbl.get? a.pages.held k))) ∧
  ∀ t m p w v inc s, s.inReset = false → MakesLoaded (Device.loadCounter m p.val (4 * w.val) v.toNat) (.counterHighWrite t m p w v inc) s t (fun a b =>
    (populated p.val = false → Unmapped a b) ∧ (populated p.val = true → m = .pf1 → Refused p.val a b) ∧
    (m ≠ .pf1 → counterWrites p.val (4 * w.val) = true →
      (∀ lo, Tbl.get? a.pages.held (halfOf m p w) = some lo → b.ctr p.val (4 * w.val) = (v.toNat * 2 ^ 32 + lo + inc) % 2 ^ 64) ∧
      (Tbl.get? a.pages.held (halfOf m p w) = none →
        b.ctr p.val (4 * w.val) = (v.toNat * 2 ^ 32 + a.ctr p.val (4 * w.val) % 2 ^ 32 + inc) % 2 ^ 64) ∧
      Tbl.get? b.pages.held (halfOf m p w) = none ∧ (∀ k, k ≠ halfOf m p w → Tbl.get? b.pages.held k = Tbl.get? a.pages.held k) ∧
      b = { a with ctrs := b.ctrs, pages := { a.pages with held := b.pages.held } } ∧ Kept [] [(p.val, 4 * w.val)] a b))

/-- A host write of one 32-bit word, REGISTER_WRITE: to no populated page it is counted in DEV_UNMAPPED_WRITES, by PF1 or with partial byte enables in
PAGE_REFUSED; the low word of a counter is held and the high word loads it; a word without a writable field ignores it; a locked word drops it and
counts it in PAGE_LOCKED_WRITES, an armed shadow word among them; PAGE_IRQ_MASK of every page takes the whole word; on a page that is not armed every
shadow field of the word takes its bits, or is refused and keeps its value, a refused write counting once, and no applied copy changes. A write of 64
bits is two such writes, the lower word first. BIT_ALIAS_WRITE, or a write of the alias's own address, writes one bit so; PF1 has no aliases; an H bit
that hardware updates in the same window is lost and counted. Nothing else of the device changes. Fields whose writes are commands of their own are
the statements of those commands. -/
def Obligations.RegisterWrites : Prop :=
  (∀ t m p w x hi y s, s.inReset = false → MakesLoaded (hostLoads m p.val w.val x hi) (.registerWrite t m p w x hi y) s t (fun a b =>
    (hi = none ∨ w.val % 2 = 1 → TakesWord m p.val w.val x a b ∧
      ∀ q o i, m ≠ .pf1 → aliasAt p.val w.val = some (q, o, i) → TakesBit m q o i (bit x.v.toNat 0) x.full (bit x.hw.toNat 0) a b) ∧
    ∀ z, hi = some z → w.val % 2 = 0 →
      TakesWord m p.val w.val x a (a.writeWord a.now m p.val w.val x y) ∧ TakesWord m p.val (w.val + 1) z (a.writeWord a.now m p.val w.val x y) b)) ∧
  ∀ t m p w i v full hw y s, s.inReset = false → Makes (.bitAliasWrite t m p w i v full hw y) s t (TakesBit m p.val w.val i.val v full hw)

/-- ARM by a privileged master on a page with a staged set reads as written, except that a write that overlaps a boundary window which applied the set is
lost and counted in PAGE_WRITE_LOST (R74); on a page without one it is ignored and not counted (R71). WATCH_THRESHOLD_WRITE applies the high word and
the low word held for it, or the low word in force, in one step. -/
def Obligations.ArmAndWatchWrites : Prop :=
  (∀ t m p v overlap s, s.inReset = false → Makes (.arm t m p v overlap) s t (fun a b =>
    (populated p.val = false → Unmapped a b) ∧ (populated p.val = true → m = .pf1 → Refused p.val a b) ∧
    (populated p.val = true → m ≠ .pf1 → (pageInfo p.val).staged = 0 → b = a) ∧
    (populated p.val = true → m ≠ .pf1 → (pageInfo p.val).staged ≠ 0 →
      if overlap = true ∧ p.val ∈ a.pages.applied then Lost p.val a b
      else b.on (PG.ARM p.val) = v ∧ Only [PG.ARM p.val] [] a b))) ∧
  ∀ t m p n hi s, s.inReset = false → Makes (.watchThresholdWrite t m p n hi) s t (fun a b =>
    (populated p.val = false → Unmapped a b) ∧ (populated p.val = true → m = .pf1 → Refused p.val a b) ∧
    (populated p.val = true → m ≠ .pf1 →
      b.rd (PG.THRESH_HI p.val n.val) = hi.toNat ∧
      b.rd (PG.THRESH_LO p.val n.val) = ((Tbl.get? a.pages.threshLo (4 * p.val + n.val)).getD (a.rd (PG.THRESH_LO p.val n.val))) % 2 ^ 32 ∧
      Tbl.get? b.pages.threshLo (4 * p.val + n.val) = none ∧
      b = { a with regs := b.regs, pages := { a.pages with threshLo := b.pages.threshLo } } ∧
      Kept [PG.THRESH_LO p.val n.val, PG.THRESH_HI p.val n.val] [] a b))

/-- BOUNDARY_WINDOW of a page: every page of that boundary (the five of a tree block, or the page alone) that is armed, has a staged set and is not held
copies every shadow to its applied copy in one step, clears ARM and adds 1 to APPLY_COUNT; every other page of it applies nothing and keeps ARM.
BOUNDARY_COUNT of each advances in either case. HOLD is that of the tree's TPE page. A boundary of device time needs device time to run (R492). -/
def Obligations.BoundaryAppliesArmedSets : Prop :=
  ∀ t (p : PageIx) s, s.inReset = false → Makes (.boundaryWindow t p) s t (fun a b =>
    (timedPage p.val = true → a.running = false → b = a) ∧
    ((timedPage p.val = true → a.running = true) → ∀ q ∈ windowPages p.val,
      b.rd (PG.BOUNDARY_COUNT q) = (a.rd (PG.BOUNDARY_COUNT q) + 1) % 2 ^ 24 ∧
      if a.on (PG.ARM q) = true ∧ (pageInfo q).staged ≠ 0 ∧ a.heldBack q = false then
        (∀ f : Fld, f.page = q → 0x400 ≤ f.off → f.off < 0x600 → f.lo < 32 → f.off % 4 = 0 → b.rdA f = a.rd f ∧ b.rd f = a.rd f) ∧
        b.rd (PG.ARM q) = 0 ∧ b.rd (PG.APPLY_COUNT q) = (a.rd (PG.APPLY_COUNT q) + 1) % 2 ^ 7
      else
        (∀ f : Fld, f.page = q → 0x400 ≤ f.off → f.off < 0x600 → f.lo < 32 → f.off % 4 = 0 → b.rdA f = a.rdA f ∧ b.rd f = a.rd f) ∧
        b.rd (PG.ARM q) = a.rd (PG.ARM q) ∧ b.rd (PG.APPLY_COUNT q) = a.rd (PG.APPLY_COUNT q)))

/-- WINDOW_READ, WINDOW_WRITE and WINDOW_READ_CLEAR_VALID by a privileged master on a populated window start operation 0, 1 or 2 with the address, the
words and the data the window holds: GO and BUSY read 1. While GO is 1 the write is dropped whole and counted in PAGE_LOCKED_WRITES. PF1 is refused.
Nothing else changes. WINDOW_OPERATION_COMPLETE with no operation changes nothing. A read delivers the words of the entry into WIN_DATA, also of a
window of the SEC and of the cell contents, where a poisoned word fails; an address without an entry is refused: LAST_FAILED reads 1 and PAGE_REFUSED
counts. A write does what the entry's page makes of it, fails where the page refuses it, and waits where its epoch has no room for the change (R521).
A peg entry that hardware updates in the same window keeps hardware's words: the write is lost and counted (R214). Operation 2 delivers the words as
they were and writes the entry with its VALID field 0; on a window whose entries have none it is refused. Hardware then clears GO and BUSY; a WIN_CTRL
write in the same window is lost and counted. -/
def Obligations.WindowsRun : Prop :=
  (∀ t m p win words s, s.inReset = false →
    Makes (.windowRead t m p win words) s t (StartsWindow m p.val win.val 0 words.val) ∧
    Makes (.windowWrite t m p win words) s t (StartsWindow m p.val win.val 1 words.val) ∧
    Makes (.windowReadClearValid t m p win words) s t (StartsWindow m p.val win.val 2 words.val)) ∧
  ∀ t (p : PageIx) (w : Fin 4) clash hw errs s, s.inReset = false → Makes (.windowOperationComplete t p w clash hw errs) s t (fun a b =>
    (Tbl.get? a.pages.winOps (winKey p.val w.val) = none → b = a) ∧
    ∀ x, Tbl.get? a.pages.winOps (winKey p.val w.val) = some x → x.words.length ≤ 32 →
      let mir : Bool := a.on MRU.MIRROR_EN && decide (a.rd MRU.ROLE = 1) && winMirrored p.val w.val
      let size (ws : List Nat) : Nat := a.mru.change + Config.changeBytes (256 + p.val) (x.addr :: ws)
      let waits (ws : List Nat) : Bool := mir && (a.writeEntry a.now x.master p.val w.val x.addr ws).1 && decide (2097152 < size ws)
      let noted (ws : List Nat) : Device := if mir && (a.writeEntry a.now x.master p.val w.val x.addr ws).1
        then { a with mru := { a.mru with change := size ws, deferred := a.mru.deferred.filter (· ≠ 2 ^ 32 + winKey p.val w.val) } } else a
      let wrote (ws : List Nat) : Bool × Device := (noted ws).writeEntry a.now x.master p.val w.val x.addr ws
      let refused : Prop := EndsWindow p.val w.val false [] clash (a.refuse p.val) b
      (x.op = 0 → p.val ≠ 0x002 → ¬(p.val = 0x1B0 ∧ w = 3) →
        match a.entryAt p.val w.val x.addr with
        | some ws => EndsWindow p.val w.val true ((List.range x.words.length).map (wordAt ws)) clash a b
        | none => refused) ∧
      (x.op = 0 → p.val = 0x002 → if (a.secWord w.val x.addr).isSome = true
        then EndsWindow p.val w.val true ((List.range x.words.length).map (fun i => (a.secWord w.val (x.addr + i)).getD 0)) clash a b else refused) ∧
      (x.op = 0 → p.val = 0x1B0 → w = 3 → if x.addr < 32 then
        EndsWindow p.val w.val (!(a.cellWords errs x.addr).2.1) ((List.range x.words.length).map (wordAt (a.cellWords errs x.addr).1)) clash
          (a.cellWords errs x.addr).2.2 b else refused) ∧
      (x.op = 1 → 0x080 ≤ p.val → p.val < 0x180 → w = 1 → x.addr < 512 → hw = true →
        EndsWindow p.val w.val false [] clash (a.writeLost p.val 1) b) ∧
      (x.op = 1 → ¬(0x080 ≤ p.val ∧ p.val < 0x180 ∧ w = 1 ∧ x.addr < 512 ∧ hw = true) → waits x.words = false →
        EndsWindow p.val w.val (wrote x.words).1 [] clash (wrote x.words).2 b) ∧
      (x.op = 2 → (∀ ws, a.entryAt p.val w.val x.addr = some ws → clearValid p.val w.val ws = none) → refused) ∧
      (x.op = 2 → ∀ ws cs, a.entryAt p.val w.val x.addr = some ws → clearValid p.val w.val ws = some cs → waits cs = false →
        EndsWindow p.val w.val (wrote cs).1 (if (wrote cs).1 = true then (List.range x.words.length).map (wordAt ws) else []) clash (wrote cs).2 b) ∧
      (x.op = 2 → 0x040 ≤ p.val → p.val < 0x080 → w = 0 → x.addr < 512 → mir = false →
        (b.course (512 * (p.val - 0x040) + x.addr)).valid = false ∧ b.rd (PG.LAST_FAILED p.val w.val) = 0) ∧
      (x.op = 1 → p.val = 0x001 → w = 0 → x.addr < 0x1B7 →
        Tbl.getD b.hif.irq x.addr 0 = wordAt x.words 0 % 2048 + b2n (bit (wordAt x.words 0) 31) * 2 ^ 31 ∧
        b.rd (PG.GO p.val w.val) = 0 ∧ b.rd (PG.LAST_FAILED p.val w.val) = 0) ∧
      (x.op = 1 → waits x.words = true → b.regs = a.regs ∨ clash = true ∧ a.on (PG.GO p.val w.val) = false) ∧
      (x.op = 1 → waits x.words = true → Tbl.get? b.pages.winOps (winKey p.val w.val) = some x ∧ b.pages = a.pages ∧ b.trees = a.trees ∧ b.fret = a.fret ∧
        b.traffic = a.traffic ∧ b.pkt = a.pkt ∧ b.cells = a.cells))

/-- Every command that is a register write by PF1, on every state out of reset, changes nothing: each 32-bit write is counted in PAGE_REFUSED of the
addressed page, or in DEV_UNMAPPED_WRITES where no page is populated; a write of 64 bits is two such writes. PF1 has no bit aliases, so a write to one
does nothing; and while MON_USER_EN is 0 its counter reads return 0 and capture nothing. -/
def Obligations.UserFunctionWritesNothing : Prop :=
  (∀ (c : Instr) t p s, userWrite c = some (t, p) → s.inReset = false →
    Makes c s t (fun a b => if populated p then Refused p a b else Unmapped a b)) ∧
  (∀ t p w x z y s, s.inReset = false → MakesLoaded id (.registerWrite t .pf1 p w x (some z) y) s t (fun a b =>
    let n := if w.val % 2 = 0 then 2 else 1
    if populated p.val then Counts p.val 0x808 n a b ∧ Only [] [(p.val, 0x808)] a b else Counts 0x000 0x810 n a b ∧ Only [] [(0x000, 0x810)] a b)) ∧
  (∀ t p w i v full hw y s, s.inReset = false → Makes (.bitAliasWrite t .pf1 p w i v full hw y) s t (fun a b => b = a)) ∧
  ∀ t p w s, s.inReset = false →
    Makes (.counterLowRead t .pf1 p w) s t (fun a b => a.on MON.MON_USER_EN = false → b = { a with core := { a.core with busData := 0 } }) ∧
    Makes (.counterHighRead t .pf1 p w) s t (fun a b => a.on MON.MON_USER_EN = false → b = { a with core := { a.core with busData := 0 } })

/-- FRAME_ASSEMBLY takes min(PLOAM_PER_FRAME, queued) messages, gives the frame the space its map and messages leave, and takes the offered frames in
order while the next fits whole; what does not fit still waits. A map that did not cross in time is missed (R99). COURSE_XGEM_PLACE puts the course's
first waiting frame on the member with the lowest fill that has room, the lowest channel on a tie, advances the terminal's downstream sequence modulo
65536 and counts it; without a waiting frame, or without room, nothing changes; a frame whose course is out of force is offered to the plain channel.
No other framer and nothing else of the device changes. That no frame is fragmented is the model's choice (log entry 82). -/
def Obligations.FramesAssemble : Prop :=
  (∀ t c k crossed s, s.inReset = false → Makes (.frameAssembly t c k crossed) s t (fun a b =>
    let x := a.cfr c.val; let n := min (a.rdA (CH.PLOAM_PER_FRAME c.val)) x.ploamQ.length
    (∃ f rest, b.cfr c.val = { x with copied := n, asm := some f, offered := rest } ∧ f.frame = k ∧
      f.space = xgemSpace (match a.sealedItems c.val k with | some l => if crossed then l.length else 0 | none => 0) n ∧
      f.xgems ++ rest = x.offered ∧ f.fill = (f.xgems.map (fun g => xgemBytes g.bytes.length)).sum ∧ f.fill ≤ f.space ∧
      (∀ g gs, rest = g :: gs → f.space < f.fill + xgemBytes g.bytes.length) ∧
      (f.missed = true ↔ (a.slot c.val k).st = .sealed ∧ (a.slot c.val k).frame = k ∧ crossed = false)) ∧
    (∀ w, w ≠ c.val → b.cfr w = a.cfr w) ∧ b = { a with trees := { a.trees with cfr := b.trees.cfr } })) ∧
  ∀ t x s, s.inReset = false → Makes (.courseXgemPlace t x) s t (fun a b =>
    (a.courseQ x.val = [] → b = a) ∧
    (∀ g rest, a.courseQ x.val = g :: rest → let n := xgemBytes g.bytes.length
      (a.courseExt x.val = false → b.cfr (a.ploamChan x.val) = { a.cfr (a.ploamChan x.val) with offered := (a.cfr (a.ploamChan x.val)).offered ++ [g] } ∧
        (∀ w, w ≠ a.ploamChan x.val → b.cfr w = a.cfr w) ∧ b.courseQ x.val = rest ∧
        b = { a with trees := { a.trees with cfr := b.trees.cfr, courseQ := b.trees.courseQ } }) ∧
      (a.courseExt x.val = true → (∀ c ∈ a.members x.val, ∀ f, (a.cfr c).asm = some f → f.space < f.fill + n) → b = a) ∧
      (∀ c f, a.courseExt x.val = true → c ∈ a.members x.val → (a.cfr c).asm = some f → f.fill + n ≤ f.space →
        (∀ c' h, c' ∈ a.members x.val → c' ≠ c → (a.cfr c').asm = some h → h.fill + n ≤ h.space → f.fill < h.fill ∨ (f.fill = h.fill ∧ c < c')) →
        b.cfr c = { a.cfr c with asm := some { f with fill := f.fill + n, xgems := f.xgems ++ [g] } } ∧ (∀ c', c' ≠ c → b.cfr c' = a.cfr c') ∧
        b.course x.val = { a.course x.val with dsNext := ((a.course x.val).dsNext + 1) % 65536 } ∧ b.courseQ x.val = rest ∧
        Counts (treePage (termTree x.val)) 0x810 1 a b)) ∧
    (∀ y, y ≠ x.val → b.course y = a.course y ∧ b.courseQ y = a.courseQ y) ∧
    b = { a with ctrs := b.ctrs, trees := { a.trees with cfr := b.trees.cfr, courses := b.trees.courses, courseQ := b.trees.courseQ } } ∧
    Kept [] [(treePage (termTree x.val), 0x810)] a b)

/-- TREE_FRAME_BOUNDARY starts the tree frame k that device time names. Each channel that may carry frames (enabled, not squelched, Capo held, not
fenced, its tree not past its fence boundary, its PLL alive, no skipped frame) sends the frame that was assembled for k with what was offered since
and still fits, or one with an empty map: it counts the frame, its XGEM region's bytes and frames, its PLOAM messages, the idle frames that fill what
is left (how many is open: log entry 82) and a missed map, and shows the region's bytes in LAST_XGEM_BYTES. Every other channel of the tree falls idle
and counts no frame; the one a PLL exchange silences counts a sealed map as missed. A map sealed for k goes in flight, or is closed at once where it
has no items. While device time stands still nothing happens. No channel of another tree starts or stops sending. -/
def Obligations.TreeFrameStarts : Prop :=
  ∀ t (tree : Tree) s, s.inReset = false → Makes (.treeFrameBoundary t tree) s t (fun a b =>
    (a.running = false → b = a) ∧
    (a.running = true → ∀ w : Fin 4, let c := 4 * tree.val + w.val; let k := a.treeFrame tree.val a.now; let x := a.cfr c
      let may := a.laneMaySend c && !a.pastFence tree.val k && !a.spm.dead.contains (16 + c / 16)
      (may = true → x.skipNext = false →
        let f := (Cfr.frameFor x k (a.sealedItems c k).isSome).1; let p := chanPage c
        (b.cfr c).sending = true ∧ (b.cfr c).asm = none ∧ (b.cfr c).copied = 0 ∧ (b.cfr c).offered = (Cfr.frameFor x k (a.sealedItems c k).isSome).2 ∧
        Counts p 0x810 1 a b ∧ Counts p 0x840 f.space a b ∧ Counts p 0x818 f.xgems.length a b ∧ Counts p 0x838 (b2n f.missed) a b ∧
        (if f.space ≤ f.fill then Counts p 0x820 0 a b else ∃ n, 0 < n ∧ n ≤ f.space - f.fill ∧ Counts p 0x820 n a b) ∧
        (f.space < 2 ^ 20 → b.rd (CH.LAST_XGEM_BYTES c) = f.space) ∧
        (x.copied ≤ x.ploamQ.length → Counts p 0x828 x.copied a b ∧
          .dsFrame c k (if f.missed then 0 else ((a.sealedItems c k).getD []).length) f.missed (x.ploamQ.take x.copied) f.xgems ∈ b.core.out)) ∧
      (may = false ∨ x.skipNext = true → (b.cfr c).sending = false ∧ (b.cfr c).asm = none ∧ (b.cfr c).copied = 0 ∧ Counts (chanPage c) 0x810 0 a b ∧
        Counts (chanPage c) 0x838 (b2n (may && (a.sealedItems c k).isSome)) a b) ∧
      (x.skipNext = true → (b.cfr c).skipNext = false) ∧
      ((a.slot c k).st = .sealed → (a.slot c k).frame = k → b.slot c k = { a.slot c k with st := if (a.slot c k).items = [] then .closed else .inFlight }) ∧
      ((a.slot c k).st ≠ .sealed ∨ (a.slot c k).frame ≠ k → b.slot c k = a.slot c k)) ∧
    (∀ c, c / 4 ≠ tree.val → (b.cfr c).sending = (a.cfr c).sending ∧ ∀ k, b.slot c k = a.slot c k) ∧
    b.cells = a.cells ∧ b.svc = a.svc ∧ b.pkt = a.pkt ∧ b.hif = a.hif ∧ b.net = a.net ∧ b.sec = a.sec ∧ b.fuses = a.fuses)

/-- REORDER_ARRIVAL of a terminal that holds nothing: the frame with the expected sequence number passes and the number advances modulo 65536; 1 to
4095 ahead it is held and a gap deadline set from its stamp; 4096 to 32767 ahead it is dropped and, by the holder of the Capo, counted and logged as
code 0x0A; further it passes where a skipped gap lacks it and its stamp was in time (R114), else it is counted as late and dropped. Where frames are
held and no deadline passed, one ahead within the limits joins them under the deadline that stands. On a channel that is none of the course's nothing
happens; a frame without the extension is counted and logged as 0x0C; a terminal without a course passes its frame as it comes, and one with the
extension is counted and logged as 0x0B (R117). The limits of R116 are assumed not to bind. -/
def Obligations.ReorderPasses : Prop :=
  ∀ t c x (o : Fin 262144) stamp n s, s.inReset = false → Makes (.reorderArrival t c x o stamp n) s t (fun a b =>
    let seq := o.val % 65536; let e := (a.course x.val).usExpected; let p := treePage (termTree x.val); let r := a.reorder x.val
    let at_ := min stamp a.now
    (a.courseExt x.val = true → a.onCourse x.val c.val = false → b = a) ∧
    (a.courseExt x.val = false → b.core.out = a.core.out ++ [.xgemUp x.val seq] ∧ b.trees = a.trees ∧
      (a.detects = true → 2 ^ 17 ≤ o.val → Counts p 0x838 1 a b) ∧ (a.detects = false ∨ o.val < 2 ^ 17 → b.ctrs = a.ctrs)) ∧
    (a.courseExt x.val = true → a.onCourse x.val c.val = true → o.val < 2 ^ 17 → if a.detects = true then Counts p 0x828 1 a b ∧ b.trees = a.trees else b = a) ∧
    (a.courseExt x.val = true → a.onCourse x.val c.val = true → 2 ^ 17 ≤ o.val → (∀ g, r.gap = some g → at_ ≤ g) →
      (r.held = [] → seqAhead seq e = 0 → b.core.out = a.core.out ++ [.xgemUp x.val seq] ∧ (b.course x.val).usExpected = (e + 1) % 65536 ∧ b.ctrs = a.ctrs) ∧
      (0 < seqAhead seq e → seqAhead seq e < 4096 → a.groupHeld (termTree x.val / 4) + n ≤ 4 * 2 ^ 20 →
        Reorder.bytes r + n ≤ a.rdA (TPE.TERM_LIMIT (termTree x.val)) * 4096 →
        b.reorder x.val = { r with held := r.held ++ [{ seq := seq, stamp := at_, bytes := n }], gap := some (r.gap.getD (at_ + a.gapTimeout x.val)) } ∧
        b = { a with trees := { a.trees with reorder := b.trees.reorder } }) ∧
      (4096 ≤ seqAhead seq e → seqAhead seq e < 32768 → if a.detects = true then Counts p 0x828 1 a b ∧ b.trees = a.trees else b = a) ∧
      (32768 ≤ seqAhead seq e → if Reorder.inTime r seq at_ = true then b.core.out = a.core.out ++ [.xgemUp x.val seq] ∧ b.ctrs = a.ctrs
        else Counts p 0x820 1 a b ∧ Only [] [(p, 0x820)] a b)) ∧
    (∀ y, y ≠ x.val → b.course y = a.course y ∨ termTree y / 4 = termTree x.val / 4) ∧
    b.cells = a.cells ∧ b.pkt = a.pkt ∧ b.svc = a.svc ∧ b.rng = a.rng)

/-- REORDER_GAP_DEADLINE changes nothing while no gap deadline lies before the instant. Where one frame is held behind a gap whose deadline passed,
the missing numbers are counted as skipped, the frame passes and the expected number is the one after it. Passing on what is in turn (R113) splits the
held frames into those passed, whose numbers are the consecutive ones from the expected one on, each as often as it was held, and those still held,
none of which bears the new expected number. -/
def Obligations.GapsSkip : Prop :=
  (∀ t x s, s.inReset = false → Makes (.reorderGapDeadline t x) s t (fun a b =>
    ((∀ g, (a.reorder x.val).gap = some g → a.now ≤ g) → b = a) ∧
    (∀ f g, (a.reorder x.val).held = [f] → (a.reorder x.val).gap = some g → g < a.now → f.seq < 65536 →
      let e := (a.course x.val).usExpected
      b.core.out = a.core.out ++ [.xgemUp x.val f.seq] ∧ (b.course x.val).usExpected = (f.seq + 1) % 65536 ∧
      (b.reorder x.val).held = [] ∧ (b.reorder x.val).gap = none ∧ Counts (treePage (termTree x.val)) 0x818 (seqAhead f.seq e) a b) ∧
    (∀ y, y ≠ x.val → b.course y = a.course y ∧ b.reorder y = a.reorder y) ∧
    b = { a with core := { a.core with out := b.core.out }, ctrs := b.ctrs, trees := { a.trees with courses := b.trees.courses, reorder := b.trees.reorder } } ∧
    Kept [] [(treePage (termTree x.val), 0x818)] a b)) ∧
  ∀ (h : List HeldXgem) (e : Nat), e < 65536 → (∀ f ∈ h, f.seq < 65536) →
    let r := passHeld h.length e h
    (∀ q, r.2.2.count q = if ∃ f ∈ r.2.1, f.seq = q then 0 else h.countP (fun f => f.seq = q)) ∧
    (∀ f, f ∈ r.2.1 ↔ f ∈ h ∧ f.seq ∉ r.2.2) ∧ (∀ q ∈ r.2.2, seqAhead q e < seqAhead r.1 e ∨ r.1 = e) ∧
    (r.2.2.map (fun q => seqAhead q e)).Pairwise (fun p q => p ≤ q) ∧
    (∀ i, i < seqAhead r.1 e → (e + i) % 65536 ∈ r.2.2) ∧ r.1 < 65536 ∧ ∀ f ∈ r.2.1, f.seq ≠ r.1

/-- I2C_GO with 1 sets GO and BUSY and sends the address, register and data the fields hold; while BUSY reads 1 a write is dropped and counted in
PAGE_LOCKED_WRITES; PF1 is refused; one in a window in which hardware updates the field is lost and counted. I2C_TRANSACTION_END clears GO and BUSY,
shows the NACK and counts it, and delivers the read data where the transaction was a read without a NACK; without a transaction it changes nothing. A
write of GO in the same window is lost and counted. -/
def Obligations.OpticsSideband : Prop :=
  (∀ t m g v hw s, s.inReset = false → Makes (.i2cGo t m g v hw) s t (fun a b =>
    let r := 4 * g.val
    (m = .pf1 → Refused (treePage r) a b) ∧ (m ≠ .pf1 → hw = true → Lost (treePage r) a b) ∧
    (m ≠ .pf1 → hw = false → a.on (TPE.I2C_BUSY r) = true → Locked (treePage r) a b) ∧
    (m ≠ .pf1 → hw = false → a.on (TPE.I2C_BUSY r) = false → v = false → b.rd (TPE.I2C_GO r) = 0 ∧ Only [TPE.I2C_GO r] [] a b) ∧
    (m ≠ .pf1 → hw = false → a.on (TPE.I2C_BUSY r) = false → v = true → b.rd (TPE.I2C_GO r) = 1 ∧ b.rd (TPE.I2C_BUSY r) = 1 ∧
      b.core.out = a.core.out ++ [.i2c g.val (a.on (TPE.I2C_READ r)) (a.rd (TPE.I2C_ADDR r)) (a.rd (TPE.I2C_REG r)) (a.rd (TPE.I2C_WDATA r))] ∧
      b = { a with core := { a.core with out := b.core.out }, regs := b.regs } ∧ Kept [TPE.I2C_GO r, TPE.I2C_BUSY r] [] a b))) ∧
  ∀ t g nack data clash s, s.inReset = false → Makes (.i2cTransactionEnd t g nack data clash) s t (fun a b =>
    let r := 4 * g.val
    (a.on (TPE.I2C_BUSY r) = false → b = a) ∧
    (a.on (TPE.I2C_BUSY r) = true → b.rd (TPE.I2C_GO r) = 0 ∧ b.rd (TPE.I2C_BUSY r) = 0 ∧ b.rd (TPE.I2C_NACK r) = b2n nack ∧
      (nack = true → Counts (treePage r) 0x840 1 a b) ∧ (nack = false → b.ctrs = a.ctrs) ∧
      b.rd (TPE.I2C_RDATA r) = (if nack = false ∧ a.on (TPE.I2C_READ r) = true then data.val else a.rd (TPE.I2C_RDATA r)) ∧
      b.rd (PG.WRITE_LOST (treePage r)) = (if clash then (a.rd (PG.WRITE_LOST (treePage r)) + 1) % 2 ^ 32 else a.rd (PG.WRITE_LOST (treePage r))) ∧
      Only [TPE.I2C_GO r, TPE.I2C_BUSY r, TPE.I2C_NACK r, TPE.I2C_RDATA r, PG.WRITE_LOST (treePage r)] [(treePage r, 0x840)] a b))

/-- RING_CONSUMED, VLOG_CONSUMED, DISC_CONSUMED, FLOG_CONSUMED, EVT_CONSUMED, TXS_CONSUMED and TRACE_CONSUMED take the written index where produced minus
it, modulo twice the ring, is at most the ring's size, and release the entries before it; otherwise, and for PF1, the write is refused and counted in
PAGE_REFUSED. Nothing else changes. -/
def Obligations.ConsumedIndices : Prop :=
  ∀ t m s, s.inReset = false →
    (∀ v, Makes (.ringConsumed t m v) s t (Releases m 0x1B5 GEN.RING_PRODUCED GEN.RING_CONSUMED 65536 v.val)) ∧
    (∀ v, Makes (.vlogConsumed t m v) s t (Releases m 0x000 DEV.VLOG_PRODUCED DEV.VLOG_CONSUMED 4096 v.val)) ∧
    (∀ v, Makes (.discConsumed t m v) s t (Releases m 0x1B6 RGU.DISC_PRODUCED RGU.DISC_CONSUMED 512 v.val)) ∧
    (∀ v, Makes (.flogConsumed t m v) s t (Releases m 0x1B0 BPM.FLOG_PRODUCED BPM.FLOG_CONSUMED 1024 v.val)) ∧
    (∀ v, Makes (.evtConsumed t m v) s t (Releases m 0x004 TMU.EVT_PRODUCED TMU.EVT_CONSUMED 256 v.val)) ∧
    (∀ v, Makes (.txsConsumed t m v) s t (Releases m 0x004 TMU.TXS_PRODUCED TMU.TXS_CONSUMED 256 v.val)) ∧
    ∀ v, Makes (.traceConsumed t m v) s t (Releases m 0x007 MON.TRACE_PRODUCED MON.TRACE_CONSUMED 4096 v.val)

/-- A grant of n words fits l line words exactly where n is at most maxData l (R157). Sharing w words among allocations of positive weight gives each
at most its size, and in all the smaller of w and the sum of the sizes (R156). Enforcing the map limits leaves at most 512 entries and 256 bursts, the
RGU's own included and each course grant a burst of its own, or only fixed grants, and it removes no fixed grant and changes no size (R160, R161). The
work of a class whose grants are scaled by its factor is within the class's quota in every frame they touch (R165, R166). -/
def Obligations.GrantsKeepTheirLimits : Prop :=
  (∀ l n, lineLen n ≤ l ↔ n ≤ maxData l) ∧
  (∀ w cs, (∀ c ∈ cs, 1 ≤ c.al.weight) → ((shareWords w cs).map (·.2)).sum = min w ((cs.map (·.size)).sum) ∧ ∀ p ∈ shareWords w cs, p.1 ∈ cs ∧ p.2 ≤ p.1.size) ∧
  (∀ course e l, let r := enforce course e l.length l
    ((r.length + e ≤ 512 ∧ burstCount course r + e ≤ 256) ∨ ∀ p ∈ r, p.1.al.cls = 0) ∧
    (∀ p ∈ r, p ∈ l) ∧ ((∀ p ∈ l, p.1.al.cls = 0 → ∀ q ∈ l, q.1.idx = p.1.idx → q.1.al.cls = 0) → ∀ p ∈ l, p.1.al.cls = 0 → p ∈ r)) ∧
  ∀ (d : Device) p u k is, let f := d.factor p u k is
    f.1 ≤ f.2 ∧ d.fits p u k f.1 f.2 is = true ∧ ∀ x ∈ frameLoads (Plan.loads p u k f.1 f.2 is), x.2 + (d.led x.1).committed.getD k 0 ≤
      max ((d.led x.1).quota.getD k 0) ((d.led x.1).committed.getD k 0)

/-- MAP_BUILD_START builds for the tree frame after the present one, after the commands of the channel's build start committed. On no standby the
credits of the channel's assured allocations grow by their rate to at most eight times it (R148). A disabled channel, one without the Capo and a
fenced one build nothing (R145); with GEN_EN 0, EMERGENCY or a quiet channel the map is empty (R146, R286); else the plan holds the frame's number,
delay and rate, and no item below 16 words. Every other plan keeps its frame and the items it has, before the pieces of course grants that it takes
(R181). No allocation changes but for its credit, and no register, cell, packet or service. -/
def Obligations.MapsBuild : Prop :=
  ∀ t (c : Chan) s, s.inReset = false → Makes (.mapBuildStart t c) s t (fun a b =>
    let e := a.allocCommits c.val a.now; let f := e.treeFrame (treeOf c.val) e.now + 1
    (e.buildsNone c.val = false → ∃ p, Tbl.get? b.fret.plans c.val = some p ∧ p.frame = f ∧ p.upfDelay = e.upfDelay (treeOf c.val) ∧ p.rate = e.rd (CH.US_RATE c.val) ∧
      (e.buildsEmpty c.val = true → p.items = [] ∧ p.dark = []) ∧ ∀ i ∈ p.items, 16 ≤ i.words) ∧
    (∀ w, w ≠ c.val ∨ e.buildsNone c.val = true → (Tbl.get? e.fret.plans w = none → Tbl.get? b.fret.plans w = none) ∧
      ∀ p, Tbl.get? e.fret.plans w = some p → ∃ q, Tbl.get? b.fret.plans w = some q ∧ q.frame = p.frame ∧ q.dark = p.dark ∧ q.upfDelay = p.upfDelay ∧
        q.rate = p.rate ∧ p.items.map (fun i => (i.handle, i.words, i.start)) <+: q.items.map (fun i => (i.handle, i.words, i.start))) ∧
    (∀ x, Tbl.get? b.fret.allocs x = (Tbl.get? e.fret.allocs x).map (fun al =>
      let r := (Alloc.seenAt a.now al).rate
      if e.rd MRU.ROLE ≠ 2 ∧ al.cls = 1 ∧ e.home al.term = some c.val then { al with credit := min (8 * r) (al.credit + r) } else al)) ∧
    b = { e with ctrs := b.ctrs, fret := b.fret, rng := b.rng, bursts := { e.bursts with brx := b.bursts.brx } } ∧ b.fret.slots = e.fret.slots ∧
    b.fret.ledger = e.fret.ledger ∧ b.fret.ring = e.fret.ring ∧ b.rng.terms = e.rng.terms)

/-- MAP_SEAL makes the slot of tree frame f + 1 open again; where a map in flight still stood there each item without a record is closed as NO_SHOW
and counted as forced (R143, R144). A plan for f, on a device that holds the Capo and is not fenced, becomes the sealed map of f with the plan's delay
and rate: its windows' grants, and its grants as the work ledger admits them, each with at most the words planned, and all as planned where they fit
their classes' quotas (R165, R166). Their work is charged to the frames they touch (R164), and each grant takes its words from its allocation's
estimate and, for an assured one, its credit (R148, R152). Any other plan is dropped and nothing is sealed. -/
def Obligations.MapsSeal : Prop :=
  ∀ t (c : Chan) s, s.inReset = false → Makes (.mapSeal t c) s t (fun a b =>
    let f := a.treeFrame (treeOf c.val) a.now + 1; let old := a.slot c.val (f + 1)
    b.slot c.val (f + 1) = { frame := f + 1 } ∧ Tbl.get? b.fret.plans c.val = none ∧
    (let n := if old.st = .inFlight ∧ a.rd MRU.ROLE ≠ 2 then (Slot.open_ old).length else 0
     b.ctr 0x1B5 0x828 % 2 ^ 64 = (a.ctr 0x1B5 0x828 + n) % 2 ^ 64 ∧ b.ctr 0x1B5 0x848 % 2 ^ 64 = (a.ctr 0x1B5 0x848 + n) % 2 ^ 64) ∧
    (∀ p, Tbl.get? a.fret.plans c.val = some p → p.frame = f → a.fenced = false → a.capo = true → a.pastFence (treeOf c.val) f = false →
      let u := a.planUpf (treeOf c.val) p; let is := sortBy (fun i => i.own) (p.items.filter (fun i => i.kind = .grant))
      let m : Slot := { st := .sealed, frame := f, mapped := true, dark := p.dark, sealedAt := a.now, upfDelay := p.upfDelay, rate := p.rate }
      ∃ gs, b.slot c.val f = { m with items := p.items.filter (fun i => i.kind ≠ .grant) ++ gs } ∧
        (∀ g ∈ gs, ∃ i ∈ is, g.handle = i.handle ∧ g.alloc = i.alloc ∧ g.term = i.term ∧ g.cls = i.cls ∧ g.start = i.start ∧ g.words ≤ i.words) ∧
        ((∀ k, k < 4 → a.fits p u k 1 1 is = true) → gs.map (fun i => ({ i with ploam := false } : Item)) = is.map (fun i => ({ i with ploam := false } : Item))) ∧
        (∀ j, (a.led j).committed.length = 4 → ∀ k, k < 4 → (b.led j).committed.getD k 0 = (a.led j).committed.getD k 0 +
          ((gs.filter (fun g => g.cls = k && (Plan.framesOf p u g).contains j)).map (fun g => workAt p.workBytes g.words)).sum) ∧
        ∀ x al, Tbl.get? a.fret.allocs x = some al →
          let w := ((gs.filter (fun i => decide (i.alloc = x ∧ i.handle = al.handle))).map (·.words)).sum
          Tbl.get? b.fret.allocs x = some { al with estimate := al.estimate - w, credit := if al.cls = 1 then al.credit - w else al.credit }) ∧
    ((∀ p, Tbl.get? a.fret.plans c.val = some p → p.frame ≠ f ∨ a.fenced = true ∨ a.capo = false ∨ a.pastFence (treeOf c.val) f = true) →
      b.slot c.val f = a.slot c.val f ∧ b.fret.allocs = a.fret.allocs ∧ b.fret.ledger = a.fret.ledger) ∧
    (∀ k, k % 8 ≠ f % 8 → k % 8 ≠ (f + 1) % 8 → b.slot c.val k = a.slot c.val k) ∧ (∀ w k, w ≠ c.val → b.slot w k = a.slot w k) ∧
    b.cells = a.cells ∧ b.svc = a.svc ∧ b.pkt = a.pkt ∧ b.hif = a.hif ∧ b.net = a.net)

/-- The record of an item of a map in flight is posted at or after its settle point, once, by a device that is no standby: the evidence gives its kind
(R168), with what was decoded of its own grant (R201), the kind's counter counts it, a LATE grant's words are counted, and it enters the ring unless
it is RECEIVED with RING_ALL 0, or the ring is full, which counts an overflow. The item is then closed, and the map once all its items are. Before the
settle point, for an item that has its record or is not in flight, nothing changes. -/
def Obligations.RecordsPost : Prop :=
  ∀ t (c : Chan) k ix g s, s.inReset = false → Makes (.grantRecordPost t c k ix g) s t (fun a b =>
    let m := a.slot c.val k
    (m.items[ix]? = none → b = a) ∧
    ∀ j, m.items[ix]? = some j →
      let i := if j.decoded then j else Item.withDecode (a.rdA (CH.LDPC_MAX_ITER c.val)) g j
      (m.st ≠ .inFlight ∨ m.frame ≠ k ∨ j.done.isSome = true ∨ a.rd MRU.ROLE = 2 ∨ (a.now : Int) * wordsPerFrame m.rate < a.settleX c.val m i → b = a) ∧
      (m.st = .inFlight → m.frame = k → j.done = none → a.rd MRU.ROLE ≠ 2 → a.settleX c.val m i ≤ (a.now : Int) * wordsPerFrame m.rate →
        let kind := (a.judge c.val m i).1; let items := m.items.set ix { i with done := some kind }
        (kind ≠ .late → Counts 0x1B5 (recCounter kind) 1 a b) ∧ (kind = .late → Counts 0x1B5 0x830 1 a b ∧ Counts 0x1B5 0x870 i.words a b) ∧
        b.slot c.val k = { m with items := items, st := if items.all (fun j => j.done.isSome) then .closed else .inFlight } ∧
        (kind = .received → a.on GEN.RING_ALL = false → b.fret.ring = a.fret.ring ∧ b.rd GEN.RING_PRODUCED = a.rd GEN.RING_PRODUCED) ∧
        (kind ≠ .received ∨ a.on GEN.RING_ALL = true →
          (a.ringCount = 65536 → Counts 0x1B5 0x868 1 a b ∧ b.fret.ring = a.fret.ring) ∧
          (a.ringCount ≠ 65536 → b.rd GEN.RING_PRODUCED = (a.rd GEN.RING_PRODUCED + 1) % 131072 ∧
            (∀ n, n ≠ a.rd GEN.RING_PRODUCED % 65536 → Tbl.get? b.fret.ring n = Tbl.get? a.fret.ring n) ∧
            ∃ r, Tbl.get? b.fret.ring (a.rd GEN.RING_PRODUCED % 65536) = some r ∧ r.handle = i.handle ∧ r.kind = kind ∧ r.forced = false ∧ r.chan = c.val ∧
              r.frame = k % 65536 ∧ r.uncorrected = min 255 i.uncorrected ∧ (r.offset = none ↔ (a.judge c.val m i).2 = none) ∧
              (kind ≠ .received ∧ kind ≠ .damaged → r.report = none)))) ∧
      (∀ w n, slotKey w n ≠ slotKey c.val k → b.slot w n = a.slot w n) ∧ b.cells = a.cells ∧ b.svc = a.svc ∧ b.pkt = a.pkt ∧ b.hif = a.hif ∧ b.net = a.net)

/-- From the load instant of an item of a map the device holds (PEG_LEAD_NS before its guard, or the end of the burst before it), on a channel that
receives, PEG_LOAD loads the peg of the item's terminal. STROBE_PULSE with STROBE_EN pulses STROBE_LEAD_NS before the preamble of an item's burst, or
before a quiet window, or at the end of the burst before it where that is later, which is counted; the pulse is low where the strobe is active low.
BURST_PROFILE_QUEUE of a channel whose tree and receiver are enabled queues the Burst_Profile messages of profiles 0 and 1, with their preamble
lengths and delimiter, at the first call and again each 1,000 tree frames of a lane that sends. In every other case nothing is loaded, pulsed or
queued. What preamble a discovery or ranging grant's strobe leads is the model's choice (log entry 86). -/
def Obligations.BurstsArePrepared : Prop :=
  (∀ t (c : Chan) k ix s, s.inReset = false → Makes (.pegLoad t c k ix) s t (fun a b =>
    (a.item? c.val k ix = none ∨ a.receiving c.val = false → b = a) ∧
    (∀ i, a.item? c.val k ix = some i → a.now < a.loadAt c.val (a.slot c.val k) i → b = a) ∧
    (∀ i, a.item? c.val k ix = some i → a.receiving c.val = true → a.loadAt c.val (a.slot c.val k) i ≤ a.now → let p := a.peg c.val (i.term % 512)
      b.brx c.val = { a.brx c.val with loaded := some i.term, preset := (p.w0, p.w1, p.phase) }) ∧
    (∀ w, w ≠ c.val → b.brx w = a.brx w) ∧ b = { a with bursts := { a.bursts with brx := b.bursts.brx } })) ∧
  (∀ t (c : Chan) k ix s, s.inReset = false → Makes (.strobePulse t c k ix) s t (fun a b =>
    let m := a.slot c.val k; let tm := a.timing c.val; let fires := a.receiving c.val = true ∧ a.on (CH.STROBE_EN c.val) = true
    let pulses (lead start : Nat) : Prop := let x := lead - a.rdA (CH.STROBE_LEAD_NS c.val); let e := a.prevEnd c.val start
      b.core.out = a.core.out ++ [.strobe c.val (max x e) (a.rd (CH.WIDTH_NS c.val)) (a.on (CH.ACTIVE_LOW c.val))] ∧
      (if x < e then Counts (chanPage c.val) 0x960 1 a b else b.ctrs = a.ctrs)
    (¬ fires → b = a) ∧
    (∀ n, ix = some n → a.item? c.val k n = none → b = a) ∧
    (∀ n i, ix = some n → a.item? c.val k n = some i → fires → (i.kind = .grant →
        pulses (a.wordNs c.val m i (i.start - tm.delim - i.preamble)) (a.wordNs c.val m i i.start)) ∧
      pulses (a.strobeLeads c.val m i) (a.wordNs c.val m i i.start)) ∧
    (ix = none → (m.mapped = false ∨ m.frame ≠ k ∨ ∀ x ∈ m.dark, x.quiet = false) → b = a) ∧
    (∀ x l r, ix = none → m.mapped = true → m.frame = k → m.dark = l ++ x :: r → (∀ y ∈ l, y.quiet = false) → x.quiet = true → fires → pulses x.opens x.opens) ∧
    b = { a with core := { a.core with out := b.core.out }, ctrs := b.ctrs } ∧ Kept [] [(chanPage c.val, 0x960)] a b)) ∧
  ∀ t (c : Chan) s, s.inReset = false → Makes (.burstProfileQueue t c) s t (fun a b =>
    let x := a.brx c.val; let k := a.treeFrame (treeOf c.val) a.now; let tm := a.timing c.val
    let again := a.on (CH.CH_EN c.val) = true ∧ (a.cfr c.val).sending = true ∧ ∃ f, x.profileFrom = some f ∧ f < k ∧ (k - f) % 1000 = 0
    (a.on (TPE.TREE_EN (treeOf c.val)) = false ∨ a.on (CH.RX_EN c.val) = false → b.trees = a.trees ∧ b.brx c.val = { x with profileDone := false }) ∧
    (a.on (TPE.TREE_EN (treeOf c.val)) = true → a.on (CH.RX_EN c.val) = true →
      (x.profileDone = true → ¬ again → b = a) ∧
      (x.profileDone = false ∨ again → b.brx c.val = { x with profileDone := true } ∧
        (b.cfr c.val).ploamQ ++ (b.cfr c.val).fwQ = (a.cfr c.val).ploamQ ++ (a.cfr c.val).fwQ ++
          [.burstProfile 0 tm.short (a.rd (CH.DELIM_LO c.val)) (a.rd (CH.DELIM_HI c.val)), .burstProfile 1 tm.long (a.rd (CH.DELIM_LO c.val)) (a.rd (CH.DELIM_HI c.val))])) ∧
    (∀ w, w ≠ c.val → b.cfr w = a.cfr w ∧ b.brx w = a.brx w) ∧
    b = { a with trees := { a.trees with cfr := b.trees.cfr }, bursts := { a.bursts with brx := b.bursts.brx } })

/-- A candidate with no light, too many pattern errors, on a channel that does not receive or in a suspended search is ignored. A bad header counts
and leaves the search; a clean or corrected one counts as a burst, is added to each item whose window or late span holds its stamp, and names the
terminal: within another terminal's window it is violation 0x09, outside every window and late span, and outside the unmapped span after a takeover,
violation 0x01, on the holder of the Capo. In a discovery window it belongs to no terminal. Nothing but burst state, terminals, framers and counters
changes. -/
def Obligations.DelimitersAreAccepted : Prop :=
  ∀ t (c : Chan) errs hec (n : Fin 512) dg sn s, s.inReset = false → Makes (.delimiterAccept t c errs hec n dg sn) s t (fun a b =>
    let p := chanPage c.val; let x := 512 * treeOf c.val + n.val
    let ignored := a.receiving c.val = false ∨ (a.brx c.val).light = false ∨ a.rdA (CH.DELIM_MAX_ERR c.val) < errs ∨ Brx.suspended (a.brx c.val) a.now = true
    (ignored → b = a) ∧
    (¬ ignored → hec = .bad → Counts p 0x908 1 a b ∧ Only [] [(p, 0x908)] a b) ∧
    (¬ ignored → hec ≠ .bad →
      Counts p 0x900 1 a b ∧ (if hec = .corrected then Counts p 0x910 1 a b else b.ctr p 0x910 = a.ctr p 0x910) ∧ (b.brx c.val).identified = true ∧
      (∀ k, Slot.holds (a.slot c.val k) = true → b.slot c.val k = a.addDelim c.val { stamp := a.now, term := x, clean := decide (hec = .clean), sn := sn } (a.slot c.val k)) ∧
      (∀ m i, a.matchWindow c.val a.now = some (m, i) → (b.brx c.val).lastTerm = some i.term ∧ (b.brx c.val).suspend = a.suspension c.val a.now m i ∧
        (i.kind = .grant → i.term ≠ x → a.detects = true → Counts p 0x9C8 1 a b) ∧ (i.term = x ∨ a.detects = false → b.ctr p 0x9C8 = a.ctr p 0x9C8)) ∧
      (a.matchWindow c.val a.now = none → (b.brx c.val).lastTerm = none ∧ (b.brx c.val).suspendDark = true ∧
        (if a.isLate c.val a.now x = false ∧ a.inUnmapped c.val a.now = false ∧ a.detects = true then Counts p 0x968 1 a b else b.ctr p 0x968 = a.ctr p 0x968))) ∧
    (∀ w, w ≠ c.val → b.brx w = a.brx w ∧ ∀ k, b.slot w k = a.slot w k) ∧
    b.cells = a.cells ∧ b.svc = a.svc ∧ b.pkt = a.pkt ∧ b.hif = a.hif ∧ b.net = a.net ∧ b.mru = a.mru)

/-- SIGNAL_DETECT_CHANGE sets LIGHT to the new level, and what the receiver sees follows where the channel receives: as seen light begins it is timed,
and as it ends its nanoseconds since the last accounting outside every expected span are counted where the device detects. CONTINUOUS_LIGHT counts and
logs seen light that held 125 us, or filled every guard of an upstream frame with two bursts, and with ROGUE_AUTO makes an isolation due.
UPSTREAM_FRAME_END restarts the frame's outside time, sets LOS once LOS_FRAMES frames in a row had grants but no light, and counts a frame with more
outside light than UNSOL_LIGHT_NS as code 0x02. A channel that does not receive ignores the last two. -/
def Obligations.LightIsWatched : Prop :=
  (∀ t (c : Chan) on s, s.inReset = false → Makes (.signalDetectChange t c on) s t (fun a b => let x := a.brx c.val; let y := b.brx c.val
    b.rd (CH.LIGHT c.val) = b2n on ∧ y.lane = on ∧ y.light = (on && a.receiving c.val) ∧
    (x.light = (on && a.receiving c.val) → (x.light = false ∨ on = true) → y = { x with lane := on } ∧ b.ctrs = a.ctrs) ∧
    (x.light = false → y.light = true → y.outSince = a.now ∧ b.ctrs = a.ctrs ∧
      (x.spans = [] → y.lightSince = a.now ∧ y.identified = false ∧ y.lastTerm = none)) ∧
    (x.light = true → y.light = false → y.spans = (x.spans ++ [(x.lightSince, a.now)]).filter (fun p => a.now ≤ p.2 + 1250000) ∧
      (a.detects = true → a.inUnmapped c.val a.now = false → Counts (chanPage c.val) 0x9A8 (outsideNs x.outSince a.now (a.expectedSpans c.val)) a b)) ∧
    (∀ w, w ≠ c.val → b.brx w = a.brx w) ∧ b.cells = a.cells ∧ b.svc = a.svc ∧ b.fret = a.fret ∧ b.pkt = a.pkt)) ∧
  (∀ t (c : Chan) s, s.inReset = false → Makes (.continuousLight t c) s t (fun a b => let x := a.brx c.val
    let full := (a.ringSlots c.val).any (fun q => a.guardsLit c.val q)
    (a.receiving c.val = false ∨ x.light = false ∨ a.detects = false ∨ (full = false ∧ a.now < x.lightSince + 125000) → b = a) ∧
    (a.receiving c.val = true → x.light = true → a.detects = true → (full = true ∨ x.lightSince + 125000 ≤ a.now) →
      Counts (chanPage c.val) 0x978 1 a b ∧ (b.brx c.val).isoDue = a.on (CH.ROGUE_AUTO c.val)) ∧
    (∀ w, w ≠ c.val → b.brx w = a.brx w) ∧ b = { a with regs := b.regs, ctrs := b.ctrs, bursts := { a.bursts with brx := b.bursts.brx, vlog := b.bursts.vlog } })) ∧
  ∀ t (c : Chan) k s, s.inReset = false → Makes (.upstreamFrameEnd t c k) s t (fun a b => let x := a.brx c.val
    let m := a.slot c.val k
    let lit := (m.items.map (fun i => a.expected c.val m i)).any (fun e => (a.lightSpans c.val).any (fun l => decide (0 < overlapNs e.1 e.2 l)))
    let los := if m.mapped = true ∧ m.frame = k ∧ m.items ≠ [] ∧ lit = false then x.losRun + 1 else 0
    let n := outsideNs x.outSince a.now (a.expectedSpans c.val)
    let outside := x.outside + (if x.light = true ∧ x.identified = false then n else 0)
    let loud := decide (a.rdA (CH.UNSOL_LIGHT_NS c.val) < outside) && a.detects
    (a.receiving c.val = false → b = a) ∧
    (a.receiving c.val = true → (b.brx c.val).outside = 0 ∧ (b.brx c.val).losRun = los ∧
      b.rd (CH.LOS c.val) = (if a.rdA (CH.LOS_FRAMES c.val) ≤ los then 1 else 0) ∧
      (b.brx c.val).unsolRun = (if loud then x.unsolRun + 1 else 0) ∧ Counts (chanPage c.val) 0x970 (b2n loud) a b ∧
      Counts (chanPage c.val) 0x9A8 (if x.light = true ∧ a.detects = true ∧ a.inUnmapped c.val a.now = false then n else 0) a b ∧
      (b.brx c.val).isoDue = (x.isoDue || (a.on (CH.ROGUE_AUTO c.val) && decide (a.rdA (CH.ROGUE_CONFIRM_FRAMES c.val) ≤ (b.brx c.val).unsolRun)))) ∧
    (∀ w, w ≠ c.val → b.brx w = a.brx w) ∧ b = { a with regs := b.regs, ctrs := b.ctrs, bursts := { a.bursts with brx := b.bursts.brx, vlog := b.bursts.vlog } })

/-- On a receiving channel BURST_END counts the codewords that LDPC_MAX_ITER iterations correct and those they leave uncorrectable, and a wrong
trailer BIP. For a burst matched to the map, on no standby, whose items are all RECEIVED, a residual within PEG_MAX_RESIDUAL captures the peg anew
with the converged state, frame and temperature; a larger one, or a DAMAGED burst, only stores the residual (R211). Discovery bursts leave every peg.
A delineated frame of an open port of the burst, on a channel of its course with room, is counted as forwarded by a device that holds the Capo and is
not fenced; without room it is dropped and counted; a closed channel's is counted as such; an unknown port is violation 0x05. -/
def Obligations.BurstsEnd : Prop :=
  (∀ t (c : Chan) r s, s.inReset = false → Makes (.burstEnd t c r) s t (fun a b =>
    let p := chanPage c.val; let n := a.rdA (CH.LDPC_MAX_ITER c.val); let m := Slot.decoded n (a.slot c.val r.frame) r.grants
    let items := r.grants.filterMap (fun g => m.items[g.1]?); let ws := r.grants.flatMap (fun g => g.2.words)
    let res := residualOf n ws ((items.map (·.line)).sum)
    (a.receiving c.val = false → b = a) ∧
    (a.receiving c.val = true →
      Counts p 0x918 (correctedOf n (ws ++ r.loose)) a b ∧ Counts p 0x920 (uncorrectableOf n (ws ++ r.loose)) a b ∧
      (if r.bip then b.ctr p 0x9C0 = a.ctr p 0x9C0 else Counts p 0x9C0 1 a b) ∧
      (m.mapped = true → m.frame = r.frame → r.grants ≠ [] → b.slot c.val r.frame = m) ∧
      ∀ i0, m.mapped = true → m.frame = r.frame → items.head? = some i0 → i0.kind = .grant → a.rd MRU.ROLE ≠ 2 →
        ((∀ i ∈ items, (a.judge c.val m i).1 = .received) →
          (res ≤ a.rdA (CH.PEG_MAX_RESIDUAL c.val) → Counts p 0x938 1 a b ∧ ∃ q, b.peg c.val (i0.term % 512) = q ∧ q.captured = true ∧ q.forceStale = false ∧
            q.frame = a.frame % 2 ^ 32 ∧ q.temp = a.pegTemp c.val ∧ q.residual = res ∧ q.phase = r.phase % 128 ∧ q.w0 = r.w0 % 2 ^ 30) ∧
          (a.rdA (CH.PEG_MAX_RESIDUAL c.val) < res → b.peg c.val (i0.term % 512) = { a.peg c.val (i0.term % 512) with residual := res })) ∧
        ((∃ i ∈ items, (a.judge c.val m i).1 = .damaged) → b.peg c.val (i0.term % 512) = { a.peg c.val (i0.term % 512) with residual := res })) ∧
    (∀ w n, (w = c.val → ∀ i ∈ items, i.term % 512 ≠ n) → n < 512 → b.peg w n = a.peg w n) ∧
    b.cells = a.cells ∧ b.svc = a.svc ∧ b.pkt = a.pkt ∧ b.hif = a.hif ∧ b.net = a.net)) ∧
  ∀ c x use (h : XgemHdr) port (d : Device), h.port = some port →
    ((use port).closed = true → passXgem c x use h d = d.count 0x001 0x938 1) ∧
    ((use port).closed = false → (use port).known = true → d.onCourse x c = true →
      (h.room = false → passXgem c x use h d = d.count (chanPage c) 0x9B0 1) ∧
      (h.room = true → d.capo = true → d.fenced = false → passXgem c x use h d = d.count (chanPage c) 0x928 1)) ∧
    ((use port).closed = false → (use port).known = false ∨ d.onCourse x c = false → d.detects = true →
      (passXgem c x use h d).ctr (chanPage c) 0x988 = (d.ctr (chanPage c) 0x988 + 1) % 2 ^ 64)

/-- ROGUE_ISOLATION_START of a due isolation with ROGUE_AUTO, on a device that detects, suspects every operating terminal of the channel, asks for a
quiet window and counts. QUIET_WINDOW_RESULT after the window's end, on a channel that receives, shows its light: in the first step darkness ends the
isolation and light disables the first half of the suspects; in the last step darkness logs code 0x10 and ends it; a window of R226 sets
ROGUE_UNRESOLVED. A channel that did not receive has its window again (log entry 24). ROGUE_UNRESOLVED_CHECK asks for a quiet window every 1,000 tree
frames. Otherwise nothing changes. -/
def Obligations.RoguesAreIsolated : Prop :=
  (∀ t (c : Chan) s, s.inReset = false → Makes (.rogueIsolationStart t c) s t (fun a b => let x := a.brx c.val
    if x.isoDue = true ∧ a.on (CH.ROGUE_AUTO c.val) = true ∧ x.iso = none ∧ a.detects = true then
      b.brx c.val = { x with isoDue := false, unsolRun := 0, iso := some { suspects := a.operatingOn c.val, step := .first }, quietAsk := some a.now } ∧
      b.on (CH.ROGUE_ACTIVE c.val) = true ∧ Counts (chanPage c.val) 0x9B8 1 a b ∧ (∀ w, w ≠ c.val → b.brx w = a.brx w) ∧
      b = { a with regs := b.regs, ctrs := b.ctrs, bursts := { a.bursts with brx := b.bursts.brx } } ∧ Kept [CH.ROGUE_ACTIVE c.val] [(chanPage c.val, 0x9B8)] a b
    else b = a)) ∧
  (∀ t (c : Chan) s, s.inReset = false → Makes (.quietWindowResult t c) s t (fun a b => let x := a.brx c.val
    (x.qw = none → b = a) ∧
    (∀ o e check, x.qw = some (o, e, check) → (a.now < e → b = a) ∧
      (e ≤ a.now → a.receiving c.val = false → b = { a with bursts := { a.bursts with brx := b.bursts.brx } } ∧
        b.brx c.val = if check then { x with qw := none, checkAsk := some a.now } else { x with qw := none, quietAsk := x.iso.map (fun _ => a.now) }) ∧
      (e ≤ a.now → a.receiving c.val = true → let n := ((a.lightSpans c.val).map (overlapNs o e)).sum; let lit := decide (a.rdA (CH.UNSOL_LIGHT_NS c.val) < n)
        b.rd (CH.QW_LIGHT_NS c.val) = n % 2 ^ (CH.QW_LIGHT_NS c.val).width ∧ (b.brx c.val).qw = none ∧
        (check = true → b.rd (CH.ROGUE_UNRESOLVED c.val) = b2n lit ∧ (b.brx c.val).checkUnresolved = (if lit then x.checkUnresolved else none) ∧
          (b.brx c.val).iso = x.iso ∧ b.rng = a.rng) ∧
        (check = false → x.iso = none → b.rng = a.rng ∧ b.brx c.val = { x with qw := none }) ∧
        (∀ iso, check = false → x.iso = some iso →
          (iso.step = .first → lit = false → (b.brx c.val).iso = none ∧ b.on (CH.ROGUE_ACTIVE c.val) = false ∧ b.rng = a.rng) ∧
          (iso.step = .first → lit = true → iso.suspects = [] → (b.brx c.val).iso = none ∧ (b.brx c.val).checkUnresolved = some (a.treeFrame (treeOf c.val) a.now + 1000)) ∧
          (iso.step = .first → lit = true → 2 ≤ iso.suspects.length → let h := iso.suspects.take ((iso.suspects.length + 1) / 2)
            (b.brx c.val).iso = some { suspects := iso.suspects, step := .half h, enabled := iso.enabled } ∧ (b.brx c.val).quietAsk = some (a.now + 125000) ∧
            (∀ z ∈ h, ∀ y, a.term? z = some y → y.state = 3 → ∃ q, b.term? z = some q ∧ q.state = 4) ∧ ∀ z, z ∉ h → b.term? z = a.term? z) ∧
          (∀ z, iso.step = .last z → lit = true → (b.brx c.val).iso = none ∧ b.on (CH.ROGUE_ACTIVE c.val) = false ∧
            (b.brx c.val).checkUnresolved = some (a.treeFrame (treeOf c.val) a.now + 1000) ∧ (∀ y, a.term? z = some y → y.state = 4 → ∃ q, b.term? z = some q ∧ q.state = 1)) ∧
          (∀ z, iso.step = .last z → lit = false → (b.brx c.val).iso = none ∧ b.on (CH.ROGUE_ACTIVE c.val) = false ∧ b.rng = a.rng ∧
            (b.brx c.val).extraFor = (x.extraFor ++ iso.enabled.filter (fun y => y ≠ z)).eraseDups ∧ (b.brx c.val).extraWindows = 16)))) ∧
    (∀ w, w ≠ c.val → b.brx w = a.brx w) ∧ b.cells = a.cells ∧ b.svc = a.svc ∧ b.fret = a.fret ∧ b.pkt = a.pkt)) ∧
  ∀ t (c : Chan) s, s.inReset = false → Makes (.rogueUnresolvedCheck t c) s t (fun a b =>
    ((a.brx c.val).checkUnresolved = none → b = a) ∧
    (∀ k, (a.brx c.val).checkUnresolved = some k → if k ≤ a.treeFrame (treeOf c.val) a.now then
        b.brx c.val = { a.brx c.val with checkAsk := some a.now, checkUnresolved := some (k + 1000) } ∧ (∀ w, w ≠ c.val → b.brx w = a.brx w) ∧
        b = { a with bursts := { a.bursts with brx := b.bursts.brx } }
      else b = a))

/-- SERIAL_NUMBER_RECEIVED in the window of the discovery item of map k, on a receiving channel, is counted. A terminal in AWAITING_SN of that tree
with this serial number, whose fixed load fits, takes the channel as its home and goes to RANGING: its Assign_ONU-ID and both Burst_Profile messages
are queued, and the ranging of its home channel is asked for within the randomized span. Any other serial number enters the discovery list with its
channel and its round trip, or is seen once more where an unconsumed entry has it; a full list counts it. Without a discovery item nothing changes. No
isolation waits any longer for a terminal that was heard. -/
def Obligations.SerialNumbersAreHeard : Prop :=
  ∀ t (c : Chan) k v n s, s.inReset = false → Makes (.serialNumberReceived t c k v n) s t (fun a b =>
    let m := a.slot c.val k; let isDisc := fun (i : Item) => match i.kind with | .discovery _ _ => true | _ => false
    (m.items.find? isDisc = none ∨ m.mapped = false ∨ m.frame ≠ k ∨ a.receiving c.val = false → b = a) ∧
    ∀ i, m.items.find? isDisc = some i → m.mapped = true → m.frame = k → a.receiving c.val = true →
      let w := wordsPerFrame m.rate
      let q := (nearest ((a.now : Int) * w - ((a.treeFrameStart (treeOf c.val) k : Int) * w + (i.start : Int) * 125000)) w).toNat
      let who := a.rng.terms.find? (fun p => decide (p.2.vendor = v.toNat) && decide (p.2.serial = n.toNat)); let live := unreadIdx (a.rd RGU.DISC_PRODUCED) (a.rd RGU.DISC_CONSUMED) 512
      let listed := fun e => ∃ z, Tbl.get? a.rng.disc e = some z ∧ z.vendor = v.toNat ∧ z.serial = n.toNat
      let tm := a.timing c.val; let lo := a.rd (CH.DELIM_LO c.val); let hi := a.rd (CH.DELIM_HI c.val)
      Counts 0x1B6 0x818 1 a b ∧
      (∀ x y, who = some (x, y) → ∀ w : Fin 4, (b.brx (4 * treeOf c.val + w.val)).extraFor = (a.brx (4 * treeOf c.val + w.val)).extraFor.filter (fun z => z ≠ x)) ∧
      (∀ x y, who = some (x, y) → a.term? x = some y → y.state = 1 → termTree x = treeOf c.val → a.moveBreaks x c.val = false →
        (∃ z, b.term? x = some z ∧ z.state = 2 ∧ z.homeSet = true ∧ z.homeWc = c.val % 4 ∧ z.rangeFails = 0 ∧ z.handle = y.handle) ∧ (∀ u, u ≠ x → b.term? u = a.term? u) ∧
        b.rng.wants = a.rng.wants ++ [{ term := x, chan := (b.home x).getD c.val, lo := q - 2000 - a.rdA RGU.RAND_SPAN_US * 1000, hi := q + 2000 }] ∧ b.rng.disc = a.rng.disc ∧
        (b.cfr c.val).ploamQ ++ (b.cfr c.val).fwQ = (a.cfr c.val).ploamQ ++ (a.cfr c.val).fwQ ++ [.assignOnuId x, .burstProfile 0 tm.short lo hi, .burstProfile 1 tm.long lo hi]) ∧
      ((∀ x y, who = some (x, y) → y.state ≠ 1 ∨ termTree x ≠ treeOf c.val ∨ a.moveBreaks x c.val = true) →
        b.rng.terms = a.rng.terms ∧ b.trees = a.trees ∧
        (live.length = 512 → (∀ e ∈ live, ¬ listed e) → Counts 0x1B6 0x820 1 a b ∧ b.rng = a.rng) ∧
        (live.length ≠ 512 → (∀ e ∈ live, ¬ listed e) → b.rd RGU.DISC_PRODUCED = (a.rd RGU.DISC_PRODUCED + 1) % 1024 ∧
          Tbl.get? b.rng.disc (a.rd RGU.DISC_PRODUCED % 512) =
            some { vendor := v.toNat, serial := n.toNat, frame := a.frame % 2 ^ 32, chan := c.val, q := q, treeFrame := a.treeFrame (treeOf c.val) a.now }) ∧
        ((∃ e ∈ live, listed e) → b.rd RGU.DISC_PRODUCED = a.rd RGU.DISC_PRODUCED ∧ ∃ e ∈ live, ∃ z, Tbl.get? a.rng.disc e = some z ∧ z.vendor = v.toNat ∧ z.serial = n.toNat ∧
          Tbl.get? b.rng.disc e = some { z with seen := min 15 (z.seen + 1) })) ∧
      b.cells = a.cells ∧ b.svc = a.svc ∧ b.fret = a.fret ∧ b.pkt = a.pkt ∧ b.hif = a.hif ∧ b.net = a.net)

/-- RANGING_TIME_ACK of an awaited equalization delay marks the channel ranged; on the home channel it takes a terminal in RANGING to OPERATING and
asks for the ranging of its other channels; otherwise nothing changes. LOST_TIMEOUT of an OPERATING terminal whose LOBi held for LOST_FRAMES counts,
deactivates it and returns it to AWAITING_SN, and ends its ranging requests. TERMINAL_FREE of a LEAVING terminal without an outstanding item counts
and removes it with its default allocation, node, bucket and OMCI queue, and commits the destroys that wait, or times them out past their deadline. -/
def Obligations.TerminalsMove : Prop :=
  (∀ t x (c : Chan) s, s.inReset = false → Makes (.rangingTimeAck t x c) s t (fun a b =>
    (a.term? x.val = none → b = a) ∧
    ∀ y, a.term? x.val = some y → let e := y.wc.getD (c.val % 4) {}
      (e.awaiting = false ∨ termTree x.val ≠ treeOf c.val → b = a) ∧
      (e.awaiting = true → termTree x.val = treeOf c.val →
        ∃ z, b.term? x.val = some z ∧ z.wc.getD (c.val % 4) {} = { e with awaiting := false, acked := true } ∧ z.handle = y.handle ∧
          z.state = (if y.state = 2 ∧ a.home x.val = some c.val then 3 else y.state) ∧
          (y.state = 2 → a.home x.val = some c.val → b.rng.wants = a.rng.wants ++
            ((a.rangeTargets x.val).filter (fun w => w ≠ c.val)).map (fun w => { term := x.val, chan := w, lo := y.rho - 2000, hi := y.rho + 2000 }))) ∧
      (y.state < 2 ∨ 3 < y.state ∨ a.home x.val ≠ some c.val → b.rng.wants = a.rng.wants) ∧ (∀ u, u ≠ x.val → b.term? u = a.term? u) ∧
      b = { a with ctrs := b.ctrs, rng := b.rng })) ∧
  (∀ t x s, s.inReset = false → Makes (.lostTimeout t x) s t (fun a b =>
    (a.term? x.val = none → b = a) ∧
    ∀ y, a.term? x.val = some y →
      if y.state = 3 ∧ a.lobi x.val = true ∧ y.lobSince + a.rdA RGU.LOST_FRAMES ≤ a.treeFrame (termTree x.val) a.now then
        Counts 0x1B6 0x850 1 a b ∧ (∃ z, b.term? x.val = some z ∧ z.state = 1 ∧ z.handle = y.handle ∧ ∀ e ∈ z.wc, e.acked = true → e ∈ y.wc.drop 4) ∧
        b.rng.wants = a.rng.wants.filter (fun r => r.term ≠ x.val) ∧
        (let o := a.cfr (a.ploamChan x.val); let p := b.cfr (a.ploamChan x.val); p.ploamQ ++ p.fwQ = o.ploamQ ++ o.fwQ ++ [.deactivate x.val]) ∧
        (∀ u, u ≠ x.val → b.term? u = a.term? u) ∧ b = { a with ctrs := b.ctrs, rng := b.rng, trees := { a.trees with cfr := b.trees.cfr } }
      else b = a)) ∧
  ∀ t x s, s.inReset = false → Makes (.terminalFree t x) s t (fun a b =>
    (a.term? x.val = none → b = a) ∧
    ∀ y, a.term? x.val = some y → (y.state ≠ 5 ∨ a.termBusy x.val = true → b = a) ∧
      (y.state = 5 → a.termBusy x.val = false →
        Counts 0x1B6 0x860 1 a b ∧
        b.term? x.val = none ∧ (∀ u, u ≠ x.val → b.term? u = a.term? u) ∧ Tbl.get? b.fret.allocs (4096 * termTree x.val + x.val % 512) = none ∧
        Tbl.get? b.traffic.nodes (nodeKey 1 x.val) = none ∧ Tbl.get? b.traffic.omci x.val = none ∧ (∀ r ∈ b.rng.wants, r.term ≠ x.val) ∧
        Tbl.get? b.rng.shadow x.val = none ∧
        (Numbered a → ∀ c ∈ a.svc.cmds, Cmd.opcode c = 0x11 → Cmd.isWorking c = true → Cmd.handle c = y.handle →
          (a.now ≤ Cmd.deadline c → ∃ e ∈ b.svc.cmds, e.seq = c.seq ∧ ∃ u v w z, e.st = .done stOk u true v w z) ∧
          (Cmd.deadline c < a.now → ∃ e ∈ b.svc.cmds, e.seq = c.seq ∧ ∃ u v w z, e.st = .done stTimeout u false v w z)) ∧
        b.cells = a.cells ∧ b.regs = a.regs ∧ (∀ p o, ctrKey p o ≠ ctrKey 0x1B6 0x860 → b.ctr p o = a.ctr p o) ∧ b.pkt = a.pkt))

/-- For a terminal with its four channels: a measured round trip up to the tree's upstream delay gives the channel EqD = delay - round trip, waits for
the acknowledgement, and clears the failures; a longer one counts and raises the condition. A drift correction by a mean offset not above EqD lowers
EqD by it, counts, and queues a Ranging_Time with the signed difference. A late sample corrects at once; within HORIZON + 2 frames of a Ranging_Time
no sample is taken, and a late one's correction is deferred to the end of that time. -/
def Obligations.RangingMeasures : Prop :=
  ∀ (d : Device) (x c : Nat) (y : Term), d.term? x = some y → y.wc.length = 4 →
    (∀ rho, rho ≤ d.upfDelay (treeOf c) →
      (∃ z, (d.measured x c rho).term? x = some z ∧ (z.wc.getD (c % 4) {}).eqd = d.upfDelay (treeOf c) - rho ∧ (z.wc.getD (c % 4) {}).awaiting = true ∧
        (z.wc.getD (c % 4) {}).quietUntil = d.treeFrame (treeOf c) d.now + horizonOf (d.upfDelay (treeOf c)) + 2 ∧ (z.wc.getD (c % 4) {}).samples = [] ∧ z.rangeFails = 0 ∧
        (z.wc.getD (c % 4) {}).sufi = false ∧ (d.home x = some c → z.rho = rho)) ∧
      Counts 0x1B6 0x828 1 d (d.measured x c rho)) ∧
    (∀ rho, d.upfDelay (treeOf c) < rho → Counts 0x1B6 0x838 1 d (d.measured x c rho)) ∧
    (∀ m : Int, m ≤ ((y.wc.getD (c % 4) {}).eqd : Int) → Counts 0x1B6 0x840 1 d (d.correct x c m) ∧
      ∃ z, (d.correct x c m).term? x = some z ∧ ((z.wc.getD (c % 4) {}).eqd : Int) = (y.wc.getD (c % 4) {}).eqd - m ∧
        (let o := d.cfr c; let p := (d.correct x c m).cfr c
         p.ploamQ ++ p.fwQ = o.ploamQ ++ o.fwQ ++ [.rangingTime x (z.wc.getD (c % 4) {}).eqd (-m)])) ∧
    (∀ off, d.treeFrame (treeOf c) d.now < (y.wc.getD (c % 4) {}).quietUntil → d.driftSample x c off false = d ∧
      ∃ z, (d.driftSample x c off true).term? x = some z ∧ z.wc.getD (c % 4) {} = { y.wc.getD (c % 4) {} with due := some off }) ∧
    ∀ off, (y.wc.getD (c % 4) {}).quietUntil ≤ d.treeFrame (treeOf c) d.now → d.driftSample x c off true = d.correct x c off

/-- PTM_SAMPLE shows the highest and lowest reading, the first sensor at the highest, and the pace of the slices in service. WARN reads 1 exactly from
WARN_C up; at LIMIT_C or with EMERG_FORCE an emergency starts and is counted once; a reading above TRIP_HIGH_C or below TRIP_LOW_C trips the device,
which is counted where it was not tripped, and fences it: no lane sends and a holder becomes FENCED. RAIL_ALARM trips in the same way and erases every
key. -/
def Obligations.SensorsActOnThresholds : Prop :=
  (∀ t temps pace s, s.inReset = false → Makes (.ptmSample t temps pace) s t (fun a b =>
    let ts := temps.take 72; let hot := hotOf ts; let seen := signed 12 (unsign 12 hot); let low := signed 12 (unsign 12 (coldOf ts))
    let trips := quarter (a.rdA PTM.TRIP_HIGH_C) < seen ∨ low < 4 * signed 8 (a.rdA PTM.TRIP_LOW_C)
    b.pow.temps = ts ∧ b.pow.pace = pace.take 36 ∧ b.rd PTM.T_HOT = unsign 12 hot ∧ b.rd PTM.T_COLD = unsign 12 (coldOf ts) ∧
    b.rd PTM.HOT_SENSOR = ts.findIdx (fun x => x = hot) % 2 ^ PTM.HOT_SENSOR.width ∧
    b.rd PTM.WARN = (if quarter (a.rdA PTM.WARN_C) ≤ seen then 1 else 0) ∧
    ((quarter (a.rdA PTM.LIMIT_C) ≤ seen ∨ a.on PTM.EMERG_FORCE = true) → b.on PTM.EMERGENCY = true ∧ (a.on PTM.EMERGENCY = false → Counts 0x003 0x838 1 a b)) ∧
    (¬(quarter (a.rdA PTM.LIMIT_C) ≤ seen ∨ a.on PTM.EMERG_FORCE = true) → b.rd PTM.EMERGENCY = a.rd PTM.EMERGENCY) ∧
    (trips → b.on PTM.TRIPPED = true ∧ (a.on PTM.TRIPPED = false → Counts 0x003 0x840 1 a b ∧ (∀ c, (b.cfr c).sending = false) ∧ (a.rd MRU.ROLE = 1 → b.rd MRU.ROLE = 3 ∧ b.capo = false))) ∧
    (¬ trips → b.rd PTM.TRIPPED = a.rd PTM.TRIPPED ∧ b.trees = a.trees ∧ b.rd MRU.ROLE = a.rd MRU.ROLE) ∧
    b.cells = a.cells ∧ b.svc = a.svc ∧ b.fret = a.fret ∧ b.pkt = a.pkt ∧ b.rng = a.rng)) ∧
  ∀ t rail s, s.inReset = false → Makes (.railAlarm t rail) s t (fun a b =>
    b.on PTM.TRIPPED = true ∧ Counts 0x003 0x848 1 a b ∧ b.pow.railLow = true ∧ (a.on PTM.TRIPPED = false → (∀ c, (b.cfr c).sending = false) ∧ (a.rd MRU.ROLE = 1 → b.rd MRU.ROLE = 3 ∧ b.capo = false)) ∧
    b.svc.keys = a.svc.keys.map (fun e => (e.1, { e.2 with key := List.replicate e.2.key.length 0, st := .erased })) ∧ Counts 0x1B4 0x878 1 a b ∧ Counts 0x1B4 0x880 1 a b ∧
    b.cells = a.cells ∧ b.fret = a.fret ∧ b.rng = a.rng)

/-- ENVELOPE_PUBLICATION shows the regulator's power, plans a voltage and an envelope for each of the next 8 frames, and publishes their ledger rows:
the forecast, each class's demand, and quotas that keep what is committed and, in all, never exceed what is committed or the room E - D; it counts
itself. VOLTAGE_WRITE_RESULT acknowledged notes the voltage and counts; a write not acknowledged is retried up to three times, at 750 mV while PTM_EN
is 0, then REG_FAULT stands at the last acknowledged voltage. -/
def Obligations.EnvelopeIsPublished : Prop :=
  (∀ t watts pace s, s.inReset = false → Makes (.envelopePublication t watts pace) s t (fun a b =>
    b.rd PTM.CORE_POWER_W = watts.val ∧ Counts 0x003 0x810 1 a b ∧
    (∀ i : Fin 8, ∃ r ∈ b.pow.plan, r.frame = a.frame + 1 + i.val ∧
      ∃ l, Tbl.get? b.fret.ledger (a.frame + 1 + i.val) = some l ∧ l.env = r.env ∧ l.committed = (a.led (a.frame + 1 + i.val)).committed ∧
        l.forecast = a.forecast ∧ l.demand = (List.range 4).map b.demand ∧ l.quota = divide (r.env - a.forecast) l.demand l.committed) ∧
    b.fret.allocs = a.fret.allocs ∧ b.fret.slots = a.fret.slots ∧ b.cells = a.cells ∧ b.svc = a.svc ∧ b.rng = a.rng)) ∧
  (∀ room dem com, (divide room dem com).length = dem.length ∧ (∀ i, i < dem.length → com.getD i 0 ≤ (divide room dem com).getD i 0) ∧
    ((divide room dem com).sum ≤ room + (com.take dem.length).sum)) ∧
  ∀ t ok status s, s.inReset = false → Makes (.voltageWriteResult t ok status) s t (fun a b =>
    (status = true → ok = true → b.on PTM.REG_FAULT = false ∧ Only [PTM.REG_FAULT] [] a b) ∧ (status = true → ok = false → b = a) ∧
    (status = false → ok = true → Counts 0x003 0x818 1 a b ∧ b = { a with ctrs := b.ctrs, pow := { a.pow with lastAck := a.pow.wanted, tries := 0 } } ∧ Kept [] [(0x003, 0x818)] a b) ∧
    (status = false → ok = false → a.pow.tries < 3 → let v := if a.on PTM.PTM_EN then a.pow.wanted else 750
      b.pow = { a.pow with tries := a.pow.tries + 1, wanted := v } ∧ b.rd PTM.VCORE_MV = v % 2 ^ PTM.VCORE_MV.width ∧ Counts 0x003 0x820 1 a b ∧
      b.core.out = a.core.out ++ [.voltage v] ∧ Kept [PTM.VCORE_MV] [(0x003, 0x820)] a b) ∧
    (status = false → ok = false → 3 ≤ a.pow.tries → b.on PTM.REG_FAULT = true ∧ b.rd PTM.VCORE_MV = a.pow.lastAck % 2 ^ PTM.VCORE_MV.width ∧ b.pow.tries = 0 ∧
      Counts 0x003 0x828 1 a b ∧ ∀ r ∈ b.pow.plan, a.frame < r.frame → r.mv = a.pow.lastAck))

/-- TRIP_RELEASE with 1 of a tripped device clears TRIPPED where every rail is inside its range and the readings lie inside the thresholds with the
hysteresis; else it is refused. QUIET_CH takes its word. QUIET_TREE is refused whole, and counted, where a tree newly set may not be powered down;
else the lanes of the trees newly set go down, and TREE_LANES_READY brings the lanes of a tree no longer quiet up again. PF1 is refused, and a
TRIP_RELEASE write in a window in which hardware updates the field is lost and counted. -/
def Obligations.TripsAndQuietWrites : Prop :=
  (∀ t m v railOk hw s, s.inReset = false → Makes (.tripRelease t m v railOk hw) s t (fun a b =>
    (m = .pf1 → Refused 0x003 a b) ∧ (m ≠ .pf1 → hw = true → Lost 0x003 a b) ∧ (m ≠ .pf1 → hw = false → v = false ∨ a.on PTM.TRIPPED = false → b = a) ∧
    (m ≠ .pf1 → hw = false → v = true → a.on PTM.TRIPPED = true →
      let stays := a.tripCond = true ∨ railOk = false ∨ quarter (a.rdA PTM.TRIP_HIGH_C) - quarter (a.rdA PTM.HYST_C) ≤ a.tHot
      (stays → Counts 0x003 0x808 1 a b ∧ b.rd PTM.TRIPPED = 1) ∧ (¬ stays → b.on PTM.TRIPPED = false ∧ b.ctrs = a.ctrs ∧ Kept [PTM.TRIPPED] [] a b) ∧
      b = { a with regs := b.regs, ctrs := b.ctrs, pow := { a.pow with railLow := a.pow.railLow && !railOk } }))) ∧
  (∀ t m i v s, s.inReset = false → Makes (.quietCh t m i v) s t (fun a b =>
    (m = .pf1 → Refused 0x003 a b) ∧ (m ≠ .pf1 → b.rd (PTM.QUIET_CH i.val) = v.toNat ∧ Only [PTM.QUIET_CH i.val] [] a b))) ∧
  (∀ t m i v s, s.inReset = false → Makes (.quietTree t m i v) s t (fun a b =>
    let new := (List.range 32).filter (fun k => bit v.toNat k && !bit (a.rd (PTM.QUIET_TREE i.val)) k)
    (m = .pf1 → Refused 0x003 a b) ∧
    (m ≠ .pf1 → (∃ k ∈ new, a.mayPowerDown (32 * i.val + k) = false) → Counts 0x003 0x868 1 a b ∧ Only [] [(0x003, 0x868)] a b) ∧
    (m ≠ .pf1 → (∀ k ∈ new, a.mayPowerDown (32 * i.val + k) = true) → b.rd (PTM.QUIET_TREE i.val) = v.toNat ∧
      (∀ k : Fin 32, bit (b.rd (PTM.LANES_DOWN i.val)) k.val = (bit (a.rd (PTM.LANES_DOWN i.val)) k.val || decide (k.val ∈ new))) ∧
      Only [PTM.QUIET_TREE i.val, PTM.LANES_DOWN i.val] [] a b))) ∧
  ∀ t (r : Tree) s, s.inReset = false → Makes (.treeLanesReady t r) s t (fun a b => let i := r.val / 32; let k := r.val % 32
    if bit (a.rd (PTM.QUIET_TREE i)) k = false ∧ bit (a.rd (PTM.LANES_DOWN i)) k = true ∧ a.rd (PTM.LANES_DOWN i) < 2 ^ 32 then
      (∀ j : Fin 32, bit (b.rd (PTM.LANES_DOWN i)) j.val = (bit (a.rd (PTM.LANES_DOWN i)) j.val && decide (j.val ≠ k))) ∧ Only [PTM.LANES_DOWN i] [] a b
    else bit (a.rd (PTM.QUIET_TREE i)) k = true ∨ bit (a.rd (PTM.LANES_DOWN i)) k = false → b = a)

/-- In every state: if the cell memory is canonical (addresses strictly rising, no byte of 0 listed) and the accepted commands carry distinct numbers
below the next number, then after any step the same holds. Both hold right after reset. (Data structure and numbering are the model's own.) -/
def Obligations.MemoryAndNumbersStay : Prop :=
  (∀ s s' : State, Memory.wf s.dev.cells.mem = true → step s = .next s' → Memory.wf s'.dev.cells.mem = true) ∧
  (∀ s s' : State, Numbered s.dev → step s = .next s' → Numbered s'.dev) ∧
  Memory.wf State.reset.dev.cells.mem = true ∧ Numbered State.reset.dev

/-- Each of the 23 host commands changes nothing until its turn has come by R299 with its payload read. Then, past its deadline it completes as TIMEOUT at
the deadline; without the Capo, NOP, QUERY and KEY_ZEROIZE_ALL apart, as NOT_ACTIVE; with a reserved bit set as ARG; with a failed payload read as
DMA_ERROR. A refused command has no other effect. -/
def Obligations.CommandsStart : Prop :=
  ∀ op t n i s, s.inReset = false → hostCommand op t n = some i → Makes i s t (fun a b =>
    ((∀ c, ¬ Starts a op n c) → b = a) ∧
    ∀ c, Starts a op n c →
      (Cmd.deadline c < a.now → Ended c stTimeout (Cmd.deadline c) false (Cmd.handle c) 0 0 a b ∧ b = { a with svc := { a.svc with cmds := b.svc.cmds } }) ∧
      (a.now ≤ Cmd.deadline c → opFree op = false → a.capo = false → RefusedAs c stNotActive a b) ∧
      (a.now ≤ Cmd.deadline c → (opFree op = true ∨ a.capo = true) → Cmd.reserved c = true → RefusedAs c stArg a b) ∧
      (a.now ≤ Cmd.deadline c → (opFree op = true ∨ a.capo = true) → Cmd.reserved c = false → c.pay = .failed → RefusedAs c stDmaError a b))

/-- COMMAND_ACCEPT of a ring whose turn it is, in the turn of command descriptors among the DMA classes (R621), with a descriptor and a free
completion slot, appends the command under the next number, reserves the slot, advances the ring's consumer index and both turns, and counts; a
destroy with nothing to refuse closes its channel or queue (R303); an unknown opcode and a failed read complete at once, and a payload starts a read.
NOP completes as OK without an effect; QUERY returns the object's state and count, or STALE. COMMAND_TIMEOUT past the deadline completes a command as
TIMEOUT at its deadline. -/
def Obligations.CommandsAreAccepted : Prop :=
  (∀ t r (ws : List Word32) ok s, s.inReset = false → Makes (.commandAccept t r ws ok) s t (fun a b =>
    let w := ws.map (·.toNat); let q := a.rd (HIF.CR_CQ r.val); let op := wordAt w 0 % 256
    let ready := fun k => a.ringWaits k = true ∧ a.cqFree k = true
    (¬ ready r.val ∨ a.dmaTurn a.now 0 = false → b = a) ∧
    (ready r.val → (∀ i, i < (r.val + 16 - a.svc.turn) % 16 → ¬ ready ((a.svc.turn + i) % 16)) → a.readFree op = true → a.dmaTurn a.now 0 = true →
      ∃ c, b.svc = { a.svc with chans := b.svc.chans, cmds := a.svc.cmds ++ [c], seq := a.svc.seq + 1, turn := (r.val + 1) % 16, reserved := b.svc.reserved } ∧
        Tbl.getD b.svc.reserved q 0 = (Tbl.getD a.svc.reserved q 0 + 1) % 65536 ∧ c.seq = a.svc.seq ∧ c.stamp = a.now ∧ c.ring = r.val ∧ c.cq = q ∧
        c.cqSlot = Tbl.getD a.svc.reserved q 0 ∧ c.slot = a.rd (HIF.CR_CI r.val) % 2 ^ a.rd (HIF.CR_SIZE_LOG2 r.val) ∧
        (ok = true → (∀ i, i < 16 → wordAt c.words i = wordAt w i % 2 ^ 32) ∧
          ((opTimeout op).isSome = true → c.st = .waiting) ∧ ((opTimeout op).isSome = false → c.st = .done stUnknown a.now false (Cmd.handle c) 0 0) ∧
          (opPayload op = true → wordAt w 14 % 65536 ≠ 0 → c.pay = .reading ∧ b.hif.reads = a.hif.reads ++ [⟨a.hif.nextRead, a.svc.seq, a.now⟩])) ∧
        c.closer = (ok && a.closes c) ∧ (c.closer = true → b.svc.chans = (a.setClosed c true).svc.chans ∧ b.cells = (a.setClosed c true).cells) ∧
        (c.closer = false → b.svc.chans = a.svc.chans ∧ b.cells = a.cells) ∧ (c.closer = true → op = 0x31 → (b.chan? (Cmd.handle c)).any (fun x => x.closed) = true) ∧
        (c.closer = true → op = 0x41 → ((b.queueIdx (Cmd.handle c)).bind b.queue?).any (fun q => q.closed) = true) ∧
        (ok = false → c.st = .done stDmaError a.now false 0 0 0 ∧ Counts 0x001 0x968 1 a b) ∧
        b.rd (HIF.CR_CI r.val) = (a.rd (HIF.CR_CI r.val) + 1) % 2 ^ (HIF.CR_CI r.val).width ∧ Counts 0x001 0x900 1 a b ∧
        b = { a with regs := b.regs, ctrs := b.ctrs, cells := b.cells, svc := b.svc, hif := { a.hif with reads := b.hif.reads, nextRead := b.hif.nextRead, turn := 1 } } ∧ Kept [HIF.CR_CI r.val] [(0x001, 0x900), (0x001, 0x968)] a b))) ∧
  (∀ t n s, s.inReset = false → Makes (.nop t n) s t (fun a b => ∀ c, Runs a 0x01 n c →
    Ended c stOk a.now false (Cmd.handle c) 0 0 a b ∧ b = { a with svc := { a.svc with cmds := b.svc.cmds } })) ∧
  (∀ t n s, s.inReset = false → Makes (.query t n) s t (fun a b => ∀ c, Runs a 0x02 n c →
    (a.query (Cmd.handle c) = none → RefusedAs c stStale a b) ∧
    ∀ x y, a.query (Cmd.handle c) = some (x, y) → Ended c stOk a.now false (Cmd.handle c) x y a b ∧ b = { a with svc := { a.svc with cmds := b.svc.cmds } })) ∧
  ∀ t n s, s.inReset = false → Makes (.commandTimeout t n) s t (fun a b =>
    (a.cmd? n = none → b = a) ∧
    ∀ c, a.cmd? n = some c → (Cmd.isDone c = true ∨ a.now ≤ Cmd.deadline c → b = a) ∧
      (Cmd.isDone c = false → Cmd.deadline c < a.now → Ended c stTimeout (Cmd.deadline c) false (Cmd.handle c) 0 0 a b ∧ b.regs = a.regs ∧ b.ctrs = a.ctrs ∧
        (Cmd.opcode c ≠ 0x42 → b = { a with svc := { a.svc with cmds := b.svc.cmds } })))

/-- A decided command whose effect may be posted (R54, R306), for a channel's destroy whose packets are gone (R305), and with the host up in the turn
of completions among the DMA classes (R621), leaves the accepted list: with the host up its completion goes to the reserved slot, the producer index
advances and the completion is counted by its status; where a function level reset took its ring it is discarded and counted (R618); with the host
lost it is held. Until then, or for an undecided command, nothing changes. -/
def Obligations.CompletionsPost : Prop :=
  ∀ t n s, s.inReset = false → Makes (.completionPost t n) s t (fun a b =>
    (a.cmd? n = none → b = a) ∧
    ∀ c, a.cmd? n = some c → (Cmd.isDone c = false → b = a) ∧
      ∀ status stamp effect h x y, c.st = .done status stamp effect h x y →
        let cpl : Cpl := ⟨c.cq, c.cqSlot, a.cplWords c status stamp effect h x y⟩
        let wait := a.now < stamp ∨ a.mayPost (Cmd.opcode c) (frameOf stamp) a.now effect = false ∨ (status = stOk ∧ a.cleanedUp c stamp a.now = false) ∨
          (a.hostUp = true ∧ a.dmaTurn a.now 1 = false)
        (wait → b = a) ∧
        (¬ wait → b.svc = { a.svc with cmds := a.svc.cmds.filter (fun e => e.seq ≠ n) } ∧
          (c.cq < 4 → a.hostUp = true →
            b.hif = { a.hif with turn := 2, recent := b.hif.recent } ∧
            b.core.out = a.core.out ++ [.completion c.cq (c.cqSlot % 2 ^ a.rd (HIF.CQ_SIZE_LOG2 c.cq)) cpl.words] ∧
            b.rd (HIF.CQ_PI c.cq) = (a.rd (HIF.CQ_PI c.cq) + 1) % 2 ^ (HIF.CQ_PI c.cq).width ∧
            (Cpl.status cpl = stOk → Counts 0x001 0x908 1 a b) ∧ (Cpl.status cpl = stTimeout → Counts 0x001 0x918 1 a b) ∧
            (Cpl.status cpl = stSwitchover → Counts 0x001 0x920 1 a b) ∧ (Cpl.status cpl = stStale → Counts 0x001 0x910 1 a b ∧ Counts 0x001 0x928 1 a b)) ∧
          (4 ≤ c.cq → Counts 0x001 0x828 1 a b ∧ b.core.out = a.core.out ∧ b.hif = a.hif) ∧
          (c.cq < 4 → a.hostUp = false → b.hif = { a.hif with held := a.hif.held ++ [cpl] } ∧ Counts 0x001 0x820 1 a b ∧ b.core.out = a.core.out) ∧
          b = { a with core := { a.core with out := b.core.out }, regs := b.regs, ctrs := b.ctrs, svc := b.svc, hif := b.hif, mru := { a.mru with posted := b.mru.posted, early := b.mru.early } } ∧
          Kept [HIF.CQ_PI c.cq] [(0x001, 0x820), (0x001, 0x828), (0x001, 0x908), (0x001, 0x910), (0x001, 0x918), (0x001, 0x920), (0x001, 0x928), (0x005, 0x8B8)] a b ∧ (a.on MRU.COMPAT = false → b.mru = a.mru)))

/-- TERMINAL_CREATE takes the tree's lowest free index: the terminal with its serial number in AWAITING_SN, or RANGING where it was heard of late, a
default allocation and reset pegs; a serial number in use is ARG. TERMINAL_DESTROY of a terminal on which nothing depends makes it LEAVING and stays
under way; else BUSY. TERMINAL_DISABLE and TERMINAL_ENABLE move it to and from DISABLED; one already there completes as OK without an effect, LEAVING
is BUSY. A stale handle is STALE and counted. -/
def Obligations.TerminalCommands : Prop :=
  (∀ t n s, s.inReset = false → Makes (.terminalCreate t n) s t (fun a b => ∀ c, Runs a 0x10 n c →
    let tree := Cmd.arg c 2 % 64; let v := Cmd.arg c 0; let sn := Cmd.arg c 1
    let used := ∃ e ∈ a.rng.terms, e.2.vendor = v ∧ e.2.serial = sn
    let pick := firstFree (fun x => (a.term? x).isNone && !a.termBusy x) 512 (512 * tree)
    (used → RefusedAs c stArg a b) ∧
    (¬ used → a.svc.chans.length + a.rng.terms.length < 524288 → pick = none → RefusedAs c stLimit a b) ∧
    ∀ x, ¬ used → a.svc.chans.length + a.rng.terms.length < 524288 → pick = some x → Room a c →
      let st := if (a.heard tree v sn).isSome then 2 else 1
      (∃ y, b.term? x = some y ∧ y.handle = (a.issue .terminal x).1 ∧ y.vendor = v ∧ y.serial = sn ∧ y.state = st) ∧ (∀ u, u ≠ x → b.term? u = a.term? u) ∧
      (∀ w : Fin 4, b.peg (4 * tree + w.val) (x % 512) = {}) ∧
      ∃ al, Tbl.get? b.fret.allocs (4096 * tree + x % 512) = some al ∧ al.term = x ∧ al.allocId = x % 512 ∧ al.cls = 3 ∧
        Ended c stOk a.now true (a.issue .terminal x).1 st al.handle a b ∧ b.cells = a.cells ∧ b.regs = a.regs ∧ Counts 0x1B6 0x858 1 a b ∧ Kept [] [(0x1B6, 0x858)] a b)) ∧
  (∀ t n s, s.inReset = false → Makes (.terminalDestroy t n) s t (fun a b => ∀ c, Runs a 0x11 n c →
    (a.termOf (Cmd.handle c) = none → Ended c stStale a.now false (Cmd.handle c) 0 0 a b ∧ Counts 0x1B6 0x868 1 a b) ∧
    ∀ x, a.termOf (Cmd.handle c) = some x → (a.termDepends x = true → RefusedAs c stBusy a b) ∧
      (a.termDepends x = false → (∃ y, b.term? x = some y ∧ y.state = 5 ∧ y.handle = Cmd.handle c) ∧ (∀ u, u ≠ x → b.term? u = a.term? u) ∧ Works c a b ∧
        b.cells = a.cells ∧ b.fret = a.fret ∧ b.regs = a.regs))) ∧
  (∀ t n s, s.inReset = false → Makes (.terminalDisable t n) s t (fun a b => ∀ c, Runs a 0x12 n c →
    (a.termOf (Cmd.handle c) = none → Ended c stStale a.now false (Cmd.handle c) 0 0 a b ∧ Counts 0x1B6 0x868 1 a b) ∧
    ∀ x y, a.termOf (Cmd.handle c) = some x → a.term? x = some y →
      (y.state = 5 → RefusedAs c stBusy a b) ∧ (y.state = 4 → Ended c stOk a.now false (Cmd.handle c) 0 0 a b ∧ b.rng = a.rng) ∧
      (y.state = 1 ∨ y.state = 2 ∨ y.state = 3 → Room a c → (∃ z, b.term? x = some z ∧ z.state = 4) ∧ (∀ r ∈ b.rng.wants, r.term ≠ x) ∧ (∀ u, u ≠ x → b.term? u = a.term? u) ∧
        Ended c stOk a.now true (Cmd.handle c) 0 0 a b ∧ b.fret = a.fret ∧ b.cells = a.cells ∧ b.regs = a.regs))) ∧
  ∀ t n s, s.inReset = false → Makes (.terminalEnable t n) s t (fun a b => ∀ c, Runs a 0x13 n c →
    (a.termOf (Cmd.handle c) = none → Ended c stStale a.now false (Cmd.handle c) 0 0 a b ∧ Counts 0x1B6 0x868 1 a b) ∧
    ∀ x y, a.termOf (Cmd.handle c) = some x → a.term? x = some y →
      (y.state = 5 → RefusedAs c stBusy a b) ∧ (y.state ≠ 5 → y.state ≠ 4 → Ended c stOk a.now false (Cmd.handle c) 0 0 a b ∧ b.rng = a.rng) ∧
      (y.state = 4 → Room a c → (∃ z, b.term? x = some z ∧ z.state = 1) ∧ (∀ u, u ≠ x → b.term? u = a.term? u) ∧
        Ended c stOk a.now true (Cmd.handle c) 0 0 a b ∧ b.fret = a.fret ∧ b.cells = a.cells ∧ b.regs = a.regs))

/-- A valid ALLOC_CREATE and the ALLOC_DESTROY of an allocation no channel names are under way until the next build start, where the allocation is
created, or is gone; a default allocation is ARG, one a channel names BUSY. CHANNEL_CREATE with live handles and valid arguments takes the lowest free
index and binds its port and first key. CHANNEL_DESTROY closes the channel and stays under way, with a drain above 8 frames ARG. Every other cause is
refused with its status. -/
def Obligations.AllocationAndChannelCommands : Prop :=
  (∀ t n s, s.inReset = false → Makes (.allocCreate t n) s t (fun a b => ∀ c, Runs a 0x20 n c →
    (a.termOf (Cmd.parent c) = none → Ended c stStale a.now false (Cmd.handle c) 0 0 a b ∧ Counts 0x1B6 0x868 1 a b) ∧
    ∀ x, a.termOf (Cmd.parent c) = some x → (∀ e, a.allocPlan c x = .inl e → RefusedAs c e a b) ∧
      (∀ i, a.allocPlan c x = .inr i → Works c a b ∧ b = { a with svc := { a.svc with cmds := b.svc.cmds } }))) ∧
  (∀ t n s, s.inReset = false → Makes (.allocDestroy t n) s t (fun a b => ∀ c, Runs a 0x21 n c →
    (a.allocOf (Cmd.handle c) = none → RefusedAs c stStale a b) ∧
    ∀ i, a.allocOf (Cmd.handle c) = some i → (i % 4096 < 512 → RefusedAs c stArg a b) ∧
      (512 ≤ i % 4096 → (∃ e ∈ a.svc.chans, e.2.alloc = Cmd.handle c) → RefusedAs c stBusy a b) ∧
      (512 ≤ i % 4096 → (∀ e ∈ a.svc.chans, e.2.alloc ≠ Cmd.handle c) → Works c a b ∧ (∃ al, Tbl.get? b.fret.allocs i = some al ∧ al.leaving = true) ∧
        (∀ j, j ≠ i → Tbl.get? b.fret.allocs j = Tbl.get? a.fret.allocs j) ∧ b = { a with svc := { a.svc with cmds := b.svc.cmds }, fret := { a.fret with allocs := b.fret.allocs } }))) ∧
  (∀ (d : Device) c t x i, d.termOf (Cmd.parent c) = some x → d.allocPlan c x = .inr i → Room d c → ∃ al, Tbl.get? (d.createAlloc c t).fret.allocs i = some al ∧
    al.handle = (d.issue .allocation i).1 ∧ al.allocId = Cmd.arg c 0 % 2 ^ 14 ∧ al.term = x ∧ al.rate = Cmd.arg c 1 ∧ Ended c stOk t true al.handle al.allocId 0 d (d.createAlloc c t)) ∧
  (∀ (d : Device) c t i, d.allocOf (Cmd.handle c) = some i → Room d c → Tbl.get? (d.destroyAlloc c t).fret.allocs i = none ∧ Ended c stOk t true (Cmd.handle c) 0 0 d (d.destroyAlloc c t)) ∧
  (∀ t n s, s.inReset = false → Makes (.channelCreate t n) s t (fun a b => ∀ c, Runs a 0x30 n c →
    let pick := firstFree (fun i => (Tbl.get? a.svc.chans i).isNone) 524288 0
    (a.termOf (Cmd.parent c) = none → RefusedAs c stStale a b) ∧
    ∀ x, a.termOf (Cmd.parent c) = some x → (a.chanStale c x = true → RefusedAs c stStale a b) ∧
      (a.chanStale c x = false → a.chanArgBad c x = true → RefusedAs c stArg a b) ∧
      (a.chanStale c x = false → a.chanArgBad c x = false → a.leaving x = true → RefusedAs c stBusy a b) ∧
      (∀ i, a.chanStale c x = false → a.chanArgBad c x = false → a.leaving x = false → a.svc.chans.length + a.rng.terms.length < 524288 → pick = some i → Room a c →
        ∃ ch, Tbl.get? b.svc.chans i = some ch ∧ ch.handle = (a.issue .channel i).1 ∧ ch.term = Cmd.parent c ∧ ch.port = Cmd.arg c 0 % 65536 ∧
          (∀ k, a.keyOf (Cmd.arg c 2) = some k → ch.active = some 1 ∧ ch.keys = [some k, none]) ∧ (a.keyOf (Cmd.arg c 2) = none → ch.active = none ∧ ch.keys = [none, none]) ∧
          Ended c stOk a.now true ch.handle ch.port 0 a b ∧ b.fret = a.fret ∧ b.cells = a.cells ∧ b.regs = a.regs ∧
          ((a.keyOf (Cmd.arg c 2)).isSome = true → Counts 0x1B4 0x870 1 a b) ∧ (a.keyOf (Cmd.arg c 2) = none → b.ctrs = a.ctrs)))) ∧
  ∀ t n s, s.inReset = false → Makes (.channelDestroy t n) s t (fun a b => ∀ c, Runs a 0x31 n c →
    (a.chan? (Cmd.handle c) = none → RefusedAs c stStale a b) ∧
    ∀ ch, a.chan? (Cmd.handle c) = some ch → (8 < Cmd.drain c → RefusedAs c stArg a b) ∧
      (Cmd.drain c ≤ 8 → Works c a b ∧ (∀ x, b.chan? (Cmd.handle c) = some x → x.closed = true) ∧ b = { a with svc := b.svc } ∧ b.svc.keys = a.svc.keys))

/-- QUEUE_CREATE with valid arguments takes the lowest free index; a stale pool or node is STALE, a value out of range ARG, a LEAVING terminal BUSY.
QUEUE_FLUSH sets the queue's flush bit and QUEUE_DESTROY closes it, unless a channel names it (BUSY) or the drain exceeds 8 frames (ARG); both are
under way. FLUSH_COMMIT, once the tail is final, empties the queue, counts its packets and completes the flush; DESTROY_COMMIT, after its drain, does
so and frees the index, or removes the closed channel. -/
def Obligations.QueueCommands : Prop :=
  (∀ t n s, s.inReset = false → Makes (.queueCreate t n) s t (fun a b => ∀ c, Runs a 0x40 n c →
    let rt := Cmd.arg c 3
    (a.poolOf (Cmd.parent c) = none ∨ a.nodeByLink (Cmd.link c) = none → RefusedAs c stStale a b) ∧
    ∀ p k, a.poolOf (Cmd.parent c) = some p → a.nodeByLink (Cmd.link c) = some k → let q := Cmd.queue c k p
      let bad := q.maxCells < 39 ∨ q.weight = 0 ∨ bits (Cmd.arg c 1) 19 13 ≠ 0 ∨ bits (Cmd.arg c 2) 8 24 ≠ 0 ∨ (q.lag ≠ 0 ∧ a.netBound q = false) ∨
        ∃ r, (a.poolOf rt).bind a.pool? = some r ∧ r.dram = false
      (rt ≠ 0 → a.poolOf rt = none → RefusedAs c stStale a b) ∧
      ((rt = 0 ∨ a.poolOf rt ≠ none) → (bad → RefusedAs c stArg a b) ∧ (¬ bad → a.linkLeaving (Cmd.link c) = true → RefusedAs c stBusy a b) ∧
        ∀ i, ¬ bad → a.linkLeaving (Cmd.link c) = false → firstFree (fun i => (a.queue? i).isNone) 1048576 0 = some i → Room a c →
          b.queue? i = some { q with handle := (a.issue .queue i).1 } ∧ (∀ j, j ≠ i → b.queue? j = a.queue? j) ∧ Ended c stOk a.now true (a.issue .queue i).1 0 0 a b ∧
          b.cells.mem = a.cells.mem ∧ b.cells.pools = a.cells.pools ∧ b.regs = a.regs ∧ b.ctrs = a.ctrs))) ∧
  (∀ t n s, s.inReset = false → Makes (.queueDestroy t n) s t (fun a b => ∀ c, Runs a 0x41 n c →
    (a.queueIdx (Cmd.handle c) = none → RefusedAs c stStale a b) ∧
    ∀ i q, a.queueIdx (Cmd.handle c) = some i → a.queue? i = some q → (8 < Cmd.drain c → RefusedAs c stArg a b) ∧
      (Cmd.drain c ≤ 8 → a.queueNamed (Cmd.handle c) = true → RefusedAs c stBusy a b) ∧
      (Cmd.drain c ≤ 8 → a.queueNamed (Cmd.handle c) = false → b.queue? i = some { q with closed := true, flush := q.flush || Cmd.flush c } ∧ Works c a b ∧
        b = { a with svc := { a.svc with cmds := b.svc.cmds }, cells := { a.cells with queues := b.cells.queues } }))) ∧
  (∀ t n s, s.inReset = false → Makes (.queueFlush t n) s t (fun a b => ∀ c, Runs a 0x42 n c →
    (a.queueIdx (Cmd.handle c) = none → RefusedAs c stStale a b) ∧
    ∀ i q, a.queueIdx (Cmd.handle c) = some i → a.queue? i = some q → b.queue? i = some { q with flush := true } ∧ Works c a b ∧
      b = { a with svc := { a.svc with cmds := b.svc.cmds }, cells := { a.cells with queues := b.cells.queues } })) ∧
  (∀ t i s, s.inReset = false → Makes (.flushCommit t i) s t (fun a b =>
    (a.queue? i.val = none → b = a) ∧
    ∀ q, a.queue? i.val = some q → (q.flush = false ∨ a.tailFinal q = false → b = a) ∧
      ∀ c, q.flush = true → a.tailFinal q = true → q.closed = false → a.svc.cmds.filter (fun e => Cmd.isWorking e && Cmd.opcode e = 0x41 && Cmd.handle e = q.handle) = [] →
        a.svc.cmds.filter (fun e => Cmd.isWorking e && Cmd.opcode e = 0x42 && Cmd.handle e = q.handle) = [c] → a.capo = true → a.now ≤ Cmd.deadline c → Room a c →
        (∃ z, b.queue? i.val = some z ∧ z.pkts = 0 ∧ z.flush = false ∧ z.handle = q.handle) ∧ Counts 0x1B1 0x848 q.pkts a b ∧ Ended c stOk a.now true (Cmd.handle c) q.pkts 0 a b)) ∧
  ∀ t n s, s.inReset = false → Makes (.destroyCommit t n) s t (fun a b =>
    (a.cmd? n = none → b = a) ∧
    ∀ c, a.cmd? n = some c → (Cmd.isWorking c = false ∨ a.now < c.stamp → b = a) ∧
      (Cmd.isWorking c = true → c.stamp ≤ a.now →
        (Cmd.opcode c = 0x31 → a.chan? (Cmd.handle c) ≠ none → let left := a.chanQueued (Cmd.handle c)
          (Cmd.drained c a.now left = false → b = a) ∧ (Cmd.drained c a.now left = true → a.capo = true → a.now ≤ Cmd.deadline c → Room a c →
            b.chan? (Cmd.handle c) = none ∧ Ended c stOk a.now true (Cmd.handle c) (Cmd.sent c) left a b ∧ b.regs = a.regs ∧ b.cells = a.cells)) ∧
        (∀ i q, Cmd.opcode c = 0x41 → a.queueIdx (Cmd.handle c) = some i → a.queue? i = some q →
          (Cmd.drained c a.now q.pkts = false → b = a) ∧ (Cmd.drained c a.now q.pkts = true → a.tailFinal q = true → a.capo = true → a.now ≤ Cmd.deadline c → Room a c →
            b.queue? i = none ∧ Counts 0x1B1 0x848 q.pkts a b ∧ Ended c stOk a.now true (Cmd.handle c) (Cmd.sent c) q.pkts a b))))

/-- KEY_CREATE without a channel makes an unbound key in the lowest free slot; for a channel it takes the free position and waits ACTIVATE_DELAY frames
for its activation (one frame where the active key no longer carries traffic); no free position is BUSY, DEBUG_OPEN is ARG, a stale channel STALE.
KEY_DESTROY of a key that is not active on a channel removes it and its position; an active one is BUSY. KEY_ZEROIZE_ALL zeroes and erases every slot,
refuses the creates that wait and completes with the number of slots. -/
def Obligations.KeyCommands : Prop :=
  (∀ t n s, s.inReset = false → Makes (.keyCreate t n) s t (fun a b => ∀ c, Runs a 0x50 n c →
    let p := Cmd.parent c; let slot := firstFree (fun i => (a.key? i).isNone) 65536 0
    (p ≠ 0 → a.chan? p = none → RefusedAs c stStale a b) ∧
    ((p = 0 ∨ a.chan? p ≠ none) → (a.on CPE.DEBUG_OPEN = true → RefusedAs c stArg a b) ∧
      (a.on CPE.DEBUG_OPEN = false → a.chan? p = none → (slot = none → RefusedAs c stLimit a b) ∧
        ∀ i, slot = some i → Room a c → b.key? i = some { handle := (a.issue .key i).1, key := Cmd.keyBytes c } ∧ (∀ j, j ≠ i → b.key? j = a.key? j) ∧
          Ended c stOk a.now true (a.issue .key i).1 0 0 a b ∧ b.svc.chans = a.svc.chans ∧ b.regs = a.regs ∧ b.cells = a.cells) ∧
      ∀ ch, a.on CPE.DEBUG_OPEN = false → a.chan? p = some ch → (ch.ds = false → ch.us = false → RefusedAs c stArg a b) ∧
        ((ch.ds = true ∨ ch.us = true) → (SvcChan.freePos ch = none → RefusedAs c stBusy a b) ∧
          ∀ pos i, SvcChan.freePos ch = some pos → slot = some i → Room a c → (∃ k, b.key? i = some k ∧ k.handle = (a.issue .key i).1 ∧ k.key = Cmd.keyBytes c ∧ k.st = .inactive ∧
              k.pos = pos ∧ k.chan = p ∧ k.waiting = true ∧ k.activateAt = a.frame + a.activateDelay ch) ∧ (∀ j, j ≠ i → b.key? j = a.key? j) ∧
            (∀ x, b.chan? p = some x → x.keys = ch.keys.set (pos - 1) (some i) ∧ x.active = ch.active) ∧ Ended c stOk a.now true (a.issue .key i).1 0 0 a b ∧ b.regs = a.regs ∧ b.cells = a.cells)))) ∧
  (∀ t n s, s.inReset = false → Makes (.keyDestroy t n) s t (fun a b => ∀ c, Runs a 0x51 n c →
    (a.keyOf (Cmd.handle c) = none → RefusedAs c stStale a b) ∧
    ∀ i, a.keyOf (Cmd.handle c) = some i → let active := ∃ e ∈ a.svc.chans, (e.2.active.bind (SvcChan.pos e.2)) = some i
      (active → RefusedAs c stBusy a b) ∧
      (¬ active → Room a c → b.key? i = none ∧ (∀ j, j ≠ i → b.key? j = a.key? j) ∧ (∀ e ∈ b.svc.chans, some i ∉ e.2.keys) ∧ Ended c stOk a.now true (Cmd.handle c) 0 0 a b ∧
        b.regs = a.regs ∧ b.cells = a.cells))) ∧
  ∀ t n s, s.inReset = false → Makes (.keyZeroizeAll t n) s t (fun a b => ∀ c, Runs a 0x03 n c → Numbered a →
    b.svc.keys = a.svc.keys.map (fun e => (e.1, { e.2 with key := List.replicate e.2.key.length 0, st := .erased })) ∧ b.mru.zeroized = true ∧
    Counts 0x1B4 0x878 1 a b ∧ Counts 0x1B4 0x8A8 1 a b ∧
    b.svc.cmds = a.svc.cmds.map (fun e => if e.seq = c.seq then { e with st := .done stOk a.now true (Cmd.handle c) a.svc.keys.length 0 }
      else if Cmd.opcode e = 0x50 ∧ Cmd.isDone e = false then { e with st := .done stArg a.now false (Cmd.handle e) 0 0 } else e) ∧
    b.svc.chans = a.svc.chans ∧ b.regs = a.regs ∧ b.cells = a.cells)

/-- POOL_CREATE with valid limits whose minimum the shared space holds, SHAPER_CREATE of a live queue or node without one, and GATE_LIST_INSTALL with a
valid payload take the lowest free index; a gate list starts at the first cycle at or after now plus the setup margin. Their destroys remove the
object unless something names it, the shaped object stands, or the list is in force: BUSY. OMCI_SEND of 48 to 1980 bytes appends the message to the
terminal's queue. Each other cause has its status. -/
def Obligations.PoolShaperGateCommands : Prop :=
  (∀ t n s, s.inReset = false → Makes (.poolCreate t n) s t (fun a b => ∀ c, Runs a 0x60 n c →
    let p := Cmd.pool c
    let bad := bits (Cmd.arg c 0) 2 14 ≠ 0 ∨ p.maxU = 0 ∨ p.maxU < p.minU ∨ regionCells p.dram / 64 < p.maxU ∨ p.maxU < p.bpU ∨ (p.wait = true ∧ p.waitNs = 0)
    (bad → RefusedAs c stArg a b) ∧
    ∀ i, ¬ bad → firstFree (fun i => (a.pool? i).isNone) 256 0 = some i → (a.shared p.dram < p.minU * 64 → RefusedAs c stLimit a b) ∧
      (p.minU * 64 ≤ a.shared p.dram → Room a c → b.pool? i = some { p with handle := (a.issue .pool i).1 } ∧ (∀ j, j ≠ i → b.pool? j = a.pool? j) ∧
        Ended c stOk a.now true (a.issue .pool i).1 (p.minU * 64) 0 a b ∧ b.regs = a.regs ∧ b.cells.mem = a.cells.mem))) ∧
  (∀ t n s, s.inReset = false → Makes (.poolDestroy t n) s t (fun a b => ∀ c, Runs a 0x61 n c →
    (a.poolOf (Cmd.handle c) = none → RefusedAs c stStale a b) ∧
    ∀ i, a.poolOf (Cmd.handle c) = some i → (a.poolNamed i (Cmd.handle c) = true → RefusedAs c stBusy a b) ∧
      (a.poolNamed i (Cmd.handle c) = false → Room a c → b.pool? i = none ∧ Ended c stOk a.now true (Cmd.handle c) 0 0 a b ∧ b.regs = a.regs))) ∧
  (∀ t n s, s.inReset = false → Makes (.shaperCreate t n) s t (fun a b => ∀ c, Runs a 0x70 n c →
    let l := Cmd.link c; let ok := if handleKind l = 0 then a.nodeByRef l ≠ none else a.queueIdx l ≠ none; let adj := Cmd.arg c 2; let burst := Cmd.arg c 1
    let bad := Cmd.arg c 0 = 0 ∨ burst < 64 ∨ 2 ^ 24 ≤ burst ∨ 256 ≤ adj ∨ (64 ≤ adj ∧ adj < 192) ∨ Cmd.arg c 3 ≠ 0; let taken := ∃ e ∈ a.traffic.shapers, e.2.target = l
    (¬ ok → RefusedAs c stStale a b) ∧ (ok → bad → RefusedAs c stArg a b) ∧ (ok → ¬ bad → taken → RefusedAs c stBusy a b) ∧
    ∀ i, ok → ¬ bad → ¬ taken → firstFree (fun i => (Tbl.get? a.traffic.shapers i).isNone) 1048576 0 = some i → Room a c →
      Tbl.get? b.traffic.shapers i = some { handle := (a.issue .shaper i).1, rate := Cmd.arg c 0, burst := burst, adj := adj, target := l, bucket := ⟨bucketMax burst, a.now, none⟩ } ∧
      (∀ j, j ≠ i → Tbl.get? b.traffic.shapers j = Tbl.get? a.traffic.shapers j) ∧ Ended c stOk a.now true (a.issue .shaper i).1 0 0 a b ∧ b.regs = a.regs ∧ b.cells = a.cells)) ∧
  (∀ t n s, s.inReset = false → Makes (.shaperDestroy t n) s t (fun a b => ∀ c, Runs a 0x71 n c →
    (a.shaperAt (Cmd.handle c) = none → RefusedAs c stStale a b) ∧
    ∀ i x, a.shaperAt (Cmd.handle c) = some i → Tbl.get? a.traffic.shapers i = some x → (a.shaperNamed x = true → RefusedAs c stBusy a b) ∧
      (a.shaperNamed x = false → Room a c → Tbl.get? b.traffic.shapers i = none ∧ Ended c stOk a.now true (Cmd.handle c) 0 0 a b ∧ b.regs = a.regs ∧ b.cells = a.cells))) ∧
  (∀ t n s, s.inReset = false → Makes (.gateListInstall t n) s t (fun a b => ∀ c, Runs a 0x80 n c →
    let bs := Cmd.payload c
    (a.nodeByLink (Cmd.link c) = none → RefusedAs c stStale a b) ∧
    ∀ k, a.nodeByLink (Cmd.link c) = some k → (gateBad (Cmd.bufLen c) bs = true → RefusedAs c stArg a b) ∧
      let busy := (∃ e ∈ a.traffic.gates, e.2.node = nodeRef k ∧ e.2.st = .scheduled) ∨ a.linkLeaving (Cmd.link c) = true
      (gateBad (Cmd.bufLen c) bs = false → busy → RefusedAs c stBusy a b) ∧
      ∀ i, gateBad (Cmd.bufLen c) bs = false → ¬ busy → firstFree (fun i => (Tbl.get? a.traffic.gates i).isNone) 1024 0 = some i →
        let base := payWord bs 0 + 2 ^ 32 * payWord bs 1; let cyc := payWord bs 2; let bound := a.now + a.rdA TMG.SETUP_MARGIN_NS
        (base < bound → bit (payWord bs 3) 16 = true → Ended c stArg a.now false (Cmd.handle c) 0 0 a b ∧ Counts 0x1B2 0x840 1 a b ∧ Counts 0x1B2 0x848 1 a b ∧ b.traffic = a.traffic) ∧
        ((bound ≤ base ∨ bit (payWord bs 3) 16 = false) → Room a c → ∃ g, Tbl.get? b.traffic.gates i = some g ∧ g.handle = (a.issue .gateList i).1 ∧ g.node = nodeRef k ∧ g.cycle = cyc ∧
          g.st = .scheduled ∧ g.entries = gateEntries bs (payWord bs 3 % 512) ∧ g.guard = bit (payWord bs 3) 17 ∧ bound ≤ g.start ∧ (g.start = base ∨ g.start < bound + cyc) ∧ (∃ m, g.start = base + m * cyc) ∧
          Ended c stOk a.now true g.handle (g.start % 2 ^ 32) (g.start / 2 ^ 32 % 2 ^ 32) a b))) ∧
  (∀ t n s, s.inReset = false → Makes (.gateListDestroy t n) s t (fun a b => ∀ c, Runs a 0x81 n c →
    (a.gateAt (Cmd.handle c) = none → RefusedAs c stStale a b) ∧
    ∀ i g, a.gateAt (Cmd.handle c) = some i → Tbl.get? a.traffic.gates i = some g → (g.st = .inForce → RefusedAs c stBusy a b) ∧
      (g.st ≠ .inForce → Room a c → Tbl.get? b.traffic.gates i = none ∧ Ended c stOk a.now true (Cmd.handle c) 0 0 a b ∧ b.regs = a.regs ∧ b.cells = a.cells))) ∧
  ∀ t n s, s.inReset = false → Makes (.omciSend t n) s t (fun a b => ∀ c, Runs a 0x90 n c →
    (a.termOf (Cmd.parent c) = none → Ended c stStale a.now false (Cmd.handle c) 0 0 a b ∧ Counts 0x1B6 0x868 1 a b) ∧
    ∀ x, a.termOf (Cmd.parent c) = some x → (Cmd.bufLen c < 48 ∨ 1980 < Cmd.bufLen c → RefusedAs c stArg a b) ∧
      (48 ≤ Cmd.bufLen c → Cmd.bufLen c ≤ 1980 → a.leaving x = true → RefusedAs c stBusy a b) ∧
      (48 ≤ Cmd.bufLen c → Cmd.bufLen c ≤ 1980 → a.leaving x = false → Room a c → b.omciOf x = a.omciOf x ++ [(Cmd.payload c).take (Cmd.bufLen c)] ∧
        (∀ y, y ≠ x → b.omciOf y = a.omciOf y) ∧ Ended c stOk a.now true (Cmd.handle c) 0 0 a b ∧ b.regs = a.regs ∧ b.ctrs = a.ctrs ∧ b.cells = a.cells))

/-- INJECT_DESCRIPTOR of a channel with a descriptor and room takes it, writes its completion with the status of R319, advances both indices, and lets a
packet of the given length enter the core exactly where the status is OK; otherwise nothing changes. PUNT_CHANNEL_DISABLE clears PC_EN and returns
every unused buffer of an enabled channel; INJECT_CHANNEL_DISABLE clears IC_EN and completes every waiting descriptor as FLUSHED. PF1 is refused. -/
def Obligations.PuntAndInject : Prop :=
  (∀ t (i : Fin 4) (ws : List Word32) dok pok (bs : List Byte) s, s.inReset = false → Makes (.injectDescriptor t i ws dok pok bs) s t (fun a b =>
    let w := ws.map (·.toNat); let st := injectStatus a w dok pok bs.length; let size := 2 ^ a.rd (HIF.IC_SIZE_LOG2 i.val)
    (a.injectReady i.val = false → b = a) ∧
    (a.injectReady i.val = true →
      (∃ x, b.core.out = a.core.out ++ [.injectDone i.val (a.rd (HIF.ICQ_PI i.val) % size) x] ∧ bits (wordAt x 0) 16 8 = st ∧ wordAt x 1 = a.rd (HIF.IR_CI i.val) % size ∧
        wordAt x 2 = a.now % 2 ^ 32 ∧ wordAt x 3 = a.now / 2 ^ 32 % 2 ^ 32) ∧
      b.rd (HIF.IR_CI i.val) = (a.rd (HIF.IR_CI i.val) + 1) % 65536 ∧ b.rd (HIF.ICQ_PI i.val) = (a.rd (HIF.ICQ_PI i.val) + 1) % 65536 ∧
      (if st = 0 then Counts 0x001 0x958 1 a b ∧ b.pkt.next = a.pkt.next + 1 ∧
          (∃ x, Tbl.get? b.pkt.pkts a.pkt.next = some x ∧ x.bytes = (bs.map (·.toNat)).take (wordAt w 2 % 2 ^ 14) ∧ x.src.kind = 2 ∧ x.src.port = i.val ∧ x.stamp = a.now ∧
            (bit (wordAt w 2) 16 = true → x.stage = .crossing ∧ x.src.chan = wordAt w 3) ∧ (bit (wordAt w 2) 16 = false → x.stage = .handed ∧ x.queue = wordAt w 3))
        else Counts 0x001 0x960 1 a b ∧ b.pkt = a.pkt) ∧
      (if st = 3 then Counts 0x001 0x968 1 a b else b.ctr 0x001 0x968 = a.ctr 0x001 0x968)) ∧
    b.cells = a.cells ∧ b.svc = a.svc ∧ b.fret = a.fret ∧ b.rng = a.rng ∧
    Kept [HIF.IR_CI i.val, HIF.ICQ_PI i.val] [(0x001, 0x958), (0x001, 0x960), (0x001, 0x968)] a b)) ∧
  (∀ t m (p : Fin 4) s, s.inReset = false → Makes (.puntChannelDisable t m p) s t (fun a b =>
    let n := if a.on (HIF.PC_EN p.val) = true ∧ a.hostUp = true then (a.rd (HIF.FB_PI p.val) + 65536 - a.rd (HIF.FB_CI p.val)) % 65536 else 0
    (m = .pf1 → Refused 0x001 a b) ∧
    (m ≠ .pf1 → b.on (HIF.PC_EN p.val) = false ∧ b.rd (HIF.FB_CI p.val) % 65536 = (a.rd (HIF.FB_CI p.val) + n) % 65536 ∧
      b.rd (HIF.PR_PI p.val) % 65536 = (a.rd (HIF.PR_PI p.val) + n) % 65536 ∧ b.core.out.length = a.core.out.length + n ∧
      b = { a with core := { a.core with out := b.core.out }, regs := b.regs, hif := { a.hif with recent := b.hif.recent, lastPunt := b.hif.lastPunt } } ∧
      Kept [HIF.PC_EN p.val, HIF.FB_CI p.val, HIF.PR_PI p.val] [] a b))) ∧
  ∀ t m (i : Fin 4) tags s, s.inReset = false → Makes (.injectChannelDisable t m i tags) s t (fun a b =>
    let n := if a.on (HIF.IC_EN i.val) = true ∧ a.hostUp = true then (a.rd (HIF.IR_PI i.val) + 65536 - a.rd (HIF.IR_CI i.val)) % 65536 else 0
    (m = .pf1 → Refused 0x001 a b) ∧
    (m ≠ .pf1 → b.on (HIF.IC_EN i.val) = false ∧ b.rd (HIF.IR_CI i.val) % 65536 = (a.rd (HIF.IR_CI i.val) + n) % 65536 ∧
      b.rd (HIF.ICQ_PI i.val) % 65536 = (a.rd (HIF.ICQ_PI i.val) + n) % 65536 ∧ b.core.out.length = a.core.out.length + n ∧ b.ctr 0x001 0x960 % 2 ^ 64 = (a.ctr 0x001 0x960 + n) % 2 ^ 64 ∧
      b = { a with core := { a.core with out := b.core.out }, regs := b.regs, ctrs := b.ctrs, hif := { a.hif with recent := b.hif.recent } } ∧
      Kept [HIF.IC_EN i.val, HIF.IR_CI i.val, HIF.ICQ_PI i.val] [(0x001, 0x960)] a b))

/-- PACKET_INGRESS takes the first waiting packet of its crossing: it enters the FIFO of the slice that the spread table of its classifier set gives
for its flow hash modulo 256, or is dropped and counted where 512 packets wait there. PACKET_CLASSIFY counts the slot at the head of a FIFO and ends
it, unless it waits for earlier packets of its spread entry in a slice the entry left: with PCL_EN 0 dropped; a packet that contradicts its headers
dropped under LEN_POLICY 0; one injected to a channel that closed dropped as a wasted slot; so is one with a stale target; a separated one dropped;
else by the action: dropped, punted, or handed, edited, to the queue it names or its channel names. An action drop after a stopped parse may count the
misplaced lookup and the depth action. TAG_EN 1 loads the crossings' registers from the seed and takes TAG_N. -/
def Obligations.PacketsClassify : Prop :=
  (∀ t n s, s.inReset = false → Makes (.packetIngress t n) s t (fun a b =>
    (a.pkt? n = none → b = a) ∧
    ∀ x, a.pkt? n = some x → let set := x.set; let h := flowHash set (parse set x.bytes); let sl := setRd set (spreadField (h % 256))
      let go := x.stage = .crossing ∧ ∀ e ∈ a.pkt.pkts, e.1 < n → e.2.stage = .crossing → a.crossingOf e.2.src.kind e.2.src.port ≠ a.crossingOf x.src.kind x.src.port
      (¬ go → b = a) ∧
      (go → 512 ≤ (a.fifo sl).length → b.pkt? n = none ∧ Counts 0x1B3 0x858 1 a b) ∧
      (go → (a.fifo sl).length < 512 → b.ctr 0x1B3 0x858 = a.ctr 0x1B3 0x858 ∧ ∃ y, b.pkt? n = some y ∧ y.stage = .slice sl ∧ y.hash = h ∧ y.entry = h % 256 ∧ y.set = set ∧ y.src = x.src ∧ y.bytes = x.bytes ∧
        y.stamp = x.stamp ∧ (y.tagged = none ↔ (a.tagStep (a.crossingOf x.src.kind x.src.port)).1 = false)) ∧
      (∀ m, m ≠ n → b.pkt? m = a.pkt? m) ∧ b.cells = a.cells ∧ b.svc = a.svc ∧ b.fret = a.fret ∧ b.rng = a.rng ∧
      Kept [MON.TRACE_PRODUCED] [(0x1B3, 0x858), (0x007, 0xA10), (0x007, 0xA18), (0x007, 0xA20)] a b)) ∧
  (∀ t (sl : Fin 36) s, s.inReset = false → Makes (.packetClassify t sl) s t (fun a b =>
    ((a.fifo sl.val).head? = none → b = a) ∧
    ∀ n x, (a.fifo sl.val).head? = some n → a.pkt? n = some x →
      let waits := a.now < x.after ∧ ∃ e ∈ a.pkt.pkts, e.2.order < x.order ∧ e.2.entry = x.entry ∧ ∃ q, e.2.stage = .slice q ∧ q ≠ sl.val ∧ ∃ m ∈ a.pkt.moving, m.1 = x.entry ∧ m.2.2 = q
      let p := parse x.set x.bytes; let w := (a.classify x.set x.src.kind p.deep (keyWords x.set x.src (a.sourceDomain x.src p) p)).1
      let target := wordAt w 1; let y := (applyEdit p x.bytes (wordAt w 2)).1; let ty := actType w
      let took (wasted : Bool) := Counts (slicePage sl.val) 0x810 1 a b ∧ Counts (slicePage sl.val) (if wasted then 0x820 else 0x818) 1 a b
      let ends (wasted : Bool) (pg off : Nat) := b.pkt? n = none ∧ Counts pg off 1 a b ∧ took wasted
      let goes := a.on PCL.PCL_EN = true ∧ ¬ (p.bad = true ∧ setRd x.set PCL.LEN_POLICY = 0)
      let stale := (ty = 1 ∧ a.queueIdx target = none) ∨ (ty = 2 ∧ a.chan? target = none)
      let gone := x.src.kind = 2 ∧ x.src.chan ≠ 0 ∧ ∀ c, a.chan? x.src.chan = some c → c.closed = true
      let source := match a.chan? x.src.chan with | some c => c.closed | none => false
      let handed (q chan : Nat) := ∃ z, b.pkt? n = some z ∧ z.stage = .handed ∧ z.queue = (a.lagQueue q x.hash).1 ∧ z.chan = chan ∧ z.bytes = y ∧ z.slot = some sl.val ∧ z.src = x.src
      (waits → b = a) ∧
      (¬ waits → (∀ m, m ≠ n → b.pkt? m = a.pkt? m) ∧ b.cells = a.cells ∧ b.svc = a.svc ∧ b.fret = a.fret ∧ b.rng = a.rng ∧
        (a.on PCL.PCL_EN = false → ends false 0x1B3 0x860) ∧
        (a.on PCL.PCL_EN = true → p.bad = true → setRd x.set PCL.LEN_POLICY = 0 → ends false 0x1B3 0x828) ∧
        (goes → Counts 0x1B3 0x810 1 a b) ∧
        (goes → gone → ends true 0x001 0x938) ∧ (goes → ¬ gone → stale → ends true 0x1B3 0x850) ∧
        (goes → ¬ gone → ¬ stale → a.separated x.src (a.sourceDomain x.src p) w = false → ends false 0x1B3 0x848) ∧
        (goes → ¬ gone → ¬ stale → a.separated x.src (a.sourceDomain x.src p) w = true →
          (ty = 0 → b.pkt? n = none ∧ took false ∧ ∃ k, (k = 1 ∨ p.deep = true ∧ k = 2) ∧ Counts 0x1B3 0x868 k a b) ∧
          (ty = 3 → Counts 0x1B3 0x870 1 a b ∧ took false ∧ (if x.needTag = true ∧ x.tag = none then
            ∃ z, b.pkt? n = some z ∧ z.stage = .punted (bits (wordAt w 0) 16 2) (bits (wordAt w 0) 8 8) ∧ z.bytes = y else b.pkt? n = none)) ∧
          (ty = 1 → (source = true → ends true 0x001 0x938) ∧ (source = false → handed target x.src.chan)) ∧
          (ty = 2 → ∀ c, a.chan? target = some c → (c.closed = true → ends true 0x001 0x938) ∧ (c.closed = false → handed (if x.src.kind = 0 then c.usQueue else c.dsQueue) target)))))) ∧
  ∀ t m v s, s.inReset = false → Makes (.tagEn t m v) s t (fun a b =>
    (m = .pf1 → Refused 0x007 a b) ∧
    (m ≠ .pf1 → b.on MON.TAG_EN = v ∧ b = { a with regs := b.regs, mon := { a.mon with lfsr := if v then lfsrLoad (a.rd MON.TAG_SEED) else a.mon.lfsr, tagN := if v then a.rd MON.TAG_N else a.mon.tagN } } ∧ Kept [MON.TAG_EN] [] a b))

/-- XGEM_ENCRYPT sends the head of a tree's egress: an OMCI message, a packet injected to the tree's queue (on a free port: log entry 41) and a frame
of a channel without an active key in clear; under an active key the explicit nonce of the device frame and the segment, the ciphertext and the tag,
with the charge on the key; with CPE_EN 0, an erased key or a key past its hard limit it is dropped and counted. What is sent waits for the course
distributor or the framer of the home channel, with its Options field. XGEM_DECRYPT drops and counts what R366 and R371 forbid and else makes a packet
that waits for its tag result, which TAG_RESULT gives, also of a packet dropped since. KEY_ACTIVATION makes a waiting key active at its frame. Each
alarm erases every key, within 2 us. -/
def Obligations.CipherWorks : Prop :=
  (∀ t (r : Tree) s, s.inReset = false → Makes (.xgemEncrypt t r) s t (fun a b => let l := Tbl.getD a.traffic.egress r.val []
    (l = [] → b = a) ∧
    ∀ e rest, l = e :: rest → let leaves := Tbl.getD b.traffic.egress r.val [] = rest; let drops (off : Nat) := leaves ∧ Counts 0x1B4 off 1 a b ∧ b.core.out = a.core.out
      let sends (f : DsXgem) := leaves ∧ b.core.out = a.core.out ++ [.xgemDown f] ∧ (if a.courseExt f.term then b.courseQ f.term = a.courseQ f.term ++ [f]
        else (b.cfr (a.ploamChan f.term)).offered = (a.cfr (a.ploamChan f.term)).offered ++ [f])
      b.cells = a.cells ∧ b.pkt = a.pkt ∧ b.fret = a.fret ∧ b.rng = a.rng ∧ b.svc.chans = a.svc.chans ∧
      (e.omci = true → sends { term := e.term, port := e.term % 512, keyIndex := 0, options := a.nextOptions e.term, bytes := e.bytes }) ∧
      (e.omci = false → (a.chan? e.chan = none → e.chan ≠ 0 → leaves ∧ Counts 0x001 0x938 1 a b ∧ b.trees = a.trees) ∧
        (a.chan? e.chan = none → e.chan = 0 → ∃ port, port < 65536 ∧
          if e.term < 32768 then sends { term := e.term, port := port, keyIndex := 0, options := a.nextOptions e.term, bytes := e.bytes }
          else leaves ∧ (b.cfr (4 * r.val)).offered = (a.cfr (4 * r.val)).offered ++ [{ term := e.term, port := port, keyIndex := 0, options := 0, bytes := e.bytes }]) ∧
        ∀ c, a.chan? e.chan = some c → let o := a.nextOptions (handleIdx c.term)
          (c.active = none → sends { term := handleIdx c.term, port := c.port, keyIndex := 0, options := o, bytes := e.bytes }) ∧
          ∀ pos, c.active = some pos → (a.on CPE.CPE_EN = false → drops 0x868) ∧
            (a.on CPE.CPE_EN = true → (SvcChan.pos c pos = none → drops 0x860) ∧
              ∀ i k, SvcChan.pos c pos = some i → a.key? i = some k → let f := a.frame; let n := blocksFor e.bytes.length
                let seg := if k.highFrame = some f then k.segNext else 0; let old := ∃ h, k.highFrame = some h ∧ f < h
                (k.st = .erased → drops 0x860) ∧ (k.st ≠ .erased → k.hard = true ∨ a.overHard k n = true → drops 0x840 ∧ ∃ z, b.key? i = some z ∧ z.hard = true) ∧
                (k.st ≠ .erased → k.hard = false → a.overHard k n = false → (old → drops 0x830) ∧
                  (¬ old → 262144 ≤ seg → b.core.out = a.core.out ∧ b.svc = a.svc ∧ (e.deferred ≠ f + 1 → Counts 0x1B4 0x838 1 a b)) ∧
                  (¬ old → seg < 262144 → let iv := ivOf (chanWord false r.val c.port) (nonceOf f seg); let ct := gcmCrypt k.key iv e.bytes
                    let h := xgemHeader (e.bytes.length + 24) pos c.port o
                    sends { term := handleIdx c.term, port := c.port, keyIndex := pos, options := o, bytes := toBytesBE 8 (nonceOf f seg) ++ ct ++ gcmTag k.key iv h ct } ∧
                    Counts 0x1B4 0x810 1 a b ∧
                    ∃ z, b.key? i = some z ∧ z.use_ = k.use_ + n ∧ z.highFrame = some f ∧ z.segNext = seg + 1 ∧ z.key = k.key ∧ z.st = k.st)))))) ∧
  (∀ t (c : Chan) k (x : TermIx) (port : Fin 65536) (ki : Fin 4) o (word : Word32) body s, s.inReset = false → Makes (.xgemDecrypt t c k x port ki o word body) s t (fun a b =>
    let gone (off : Nat) := Counts 0x1B4 off 1 a b ∧ Only [] [(0x1B4, off)] a b; let omci := port.val = x.val % 512
    let passes (y : Pkt → Prop) := b.pkt.next = a.pkt.next + 1 ∧ ∃ z, b.pkt? a.pkt.next = some z ∧ z.stage = .crossing ∧ z.src.kind = 0 ∧ z.src.port = c.val ∧ z.src.term = x.val ∧ z.stamp = a.now ∧ y z
    b.cells = a.cells ∧ b.fret = a.fret ∧ b.rng = a.rng ∧
    (a.on CPE.CPE_EN = false → ki.val ≠ 0 → gone 0x868) ∧ (omci → a.on CPE.CPE_EN = true → ki.val ≠ 0 → gone 0x858) ∧
    (omci → ki.val = 0 → a.hostUp = false → Counts 0x001 0x830 1 a b ∧ Only [] [(0x001, 0x830)] a b) ∧
    (¬ omci → a.on CPE.CPE_EN = true ∨ ki.val = 0 → a.chanAt (termTree x.val) port.val = none → b = a) ∧
    ∀ ch, ¬ omci → a.on CPE.CPE_EN = true ∨ ki.val = 0 → a.chanAt (termTree x.val) port.val = some ch → (handleIdx ch.term ≠ x.val ∨ ch.us = false → b = a) ∧
      (handleIdx ch.term = x.val → ch.us = true → (ch.closed = true → Counts 0x001 0x938 1 a b ∧ Only [] [(0x001, 0x938)] a b) ∧
        (ch.closed = false → a.on CPE.CPE_EN = false → ch.active ≠ none → gone 0x868) ∧
        (ch.closed = false → ki.val = 0 → ch.active = none → passes (fun z => z.bytes = body ∧ z.src.chan = ch.handle ∧ z.needTag = false) ∧ b.svc = a.svc ∧ b.regs = a.regs ∧ b.ctrs = a.ctrs) ∧
        (ch.closed = false → a.on CPE.CPE_EN = true → (ki.val = 0 → ch.active ≠ none → gone 0x850) ∧ (ki.val = 3 → gone 0x858) ∧
          (ki.val = 1 ∨ ki.val = 2 → (SvcChan.pos ch ki.val = none → gone 0x858) ∧
            ∀ i s, SvcChan.pos ch ki.val = some i → a.key? i = some s → let nonce := ofBytesBE (body.take 8); let ct := (body.drop 8).take (body.length - 24)
              let forged := word.toNat ≠ chanWord true (termTree x.val) ch.port ∨ nonce / 2 ^ 18 ≠ k % 2 ^ 46 ∨ ∃ g, Tbl.get? ch.lastSeg k = some g ∧ nonce % 2 ^ 18 ≤ g
              (s.st = .erased → Counts 0x1B4 0x858 1 a b ∧ Counts 0x1B4 0x860 1 a b ∧ Only [] [(0x1B4, 0x858), (0x1B4, 0x860)] a b) ∧ (s.st ≠ .erased → s.hard = true → gone 0x858) ∧
              (s.st ≠ .erased → s.hard = false → (forged → gone 0x828) ∧
                (¬ forged → a.overHard s (blocksFor ct.length) = true → Counts 0x1B4 0x840 1 a b ∧ b.key? i = some { s with hard := true } ∧ b.pkt = a.pkt) ∧
                (¬ forged → a.overHard s (blocksFor ct.length) = false → Counts 0x1B4 0x818 1 a b ∧
                  passes (fun z => z.bytes = gcmCrypt s.key (ivOf word.toNat nonce) ct ∧ z.src.chan = ch.handle ∧ z.needTag = true ∧ z.keySlot = some i ∧
                    (z.tagGood = true ↔ 24 ≤ body.length ∧ gcmTag s.key (ivOf word.toNat nonce) (xgemHeader body.length ki.val ch.port o.val) ct = body.drop (body.length - 16))) ∧
                  Tbl.get? b.svc.chans (handleIdx ch.handle) = (Tbl.get? a.svc.chans (handleIdx ch.handle)).map (SvcChan.heardSeg k (nonce % 2 ^ 18)) ∧
                  ∃ z, b.key? i = some z ∧ z.use_ = s.use_ + blocksFor ct.length ∧ z.key = s.key ∧ z.st = s.st))))))) ∧
  (∀ t n s, s.inReset = false → Makes (.tagResult t n) s t (fun a b =>
    (a.pkt? n = none → b.pkt = { a.pkt with tagDue := a.pkt.tagDue.erase n } ∧ Counts 0x1B4 0x820 (b2n (decide (Tbl.get? a.pkt.tagDue n = some false))) a b ∧
      b = { a with ctrs := b.ctrs, pkt := b.pkt } ∧ Kept [] [(0x1B4, 0x820)] a b) ∧
    ∀ x, a.pkt? n = some x → let good := x.tagGood && !x.erased
      (x.needTag = false ∨ x.tag ≠ none → b = a) ∧
      (x.needTag = true → x.tag = none → (∀ m, m ≠ n → b.pkt? m = a.pkt? m) ∧ b.svc = a.svc ∧
        (if x.tagGood = false ∧ x.erased = false then Counts 0x1B4 0x820 1 a b else b.ctr 0x1B4 0x820 = a.ctr 0x1B4 0x820) ∧
        (∀ ch r, x.stage = .punted ch r → b.pkt? n = none ∧ (good = false → b.core.out = a.core.out)) ∧
        ((∀ ch r, x.stage ≠ .punted ch r) → x.ended = false ∨ x.first = none → b.pkt? n = some { x with tag := some good }) ∧
        ∀ p, (∀ ch r, x.stage ≠ .punted ch r) → x.ended = true → x.first = some p → x.bytes.length < 2 ^ 14 →
          b.pkt? n = none ∧ b.hdrStatus p = (if good = true ∧ x.voidAt = false then stFinal else stVoid) ∧ b.hdrLength p = (if good = true ∧ x.voidAt = false then x.bytes.length else 0)))) ∧
  (∀ t (i : Fin 65536) s, s.inReset = false → Makes (.keyActivation t i) s t (fun a b =>
    (a.key? i.val = none → b = a) ∧
    ∀ k, a.key? i.val = some k → (k.waiting = false ∨ a.frame < k.activateAt ∨ a.chan? k.chan = none → b = a) ∧
      ∀ c, k.waiting = true → k.activateAt ≤ a.frame → a.chan? k.chan = some c →
        b.key? i.val = some { k with st := if k.st = .erased then .erased else .active, waiting := false } ∧ b.chan? k.chan = some { c with active := some k.pos } ∧
        (∀ o z, o ≠ i.val → c.active.bind (SvcChan.pos c) = some o → a.key? o = some z → b.key? o = some { z with st := if z.st = .erased then .erased else .inactive }) ∧
        Counts 0x1B4 0x870 1 a b ∧ b = { a with ctrs := b.ctrs, svc := { a.svc with keys := b.svc.keys, chans := b.svc.chans } } ∧ Kept [] [(0x1B4, 0x870)] a b)) ∧
  ∀ t s, s.inReset = false →
    let erases (off : Nat) (a b : Device) := b.svc.keys = a.svc.keys.map (fun e => (e.1, { e.2 with key := List.replicate e.2.key.length 0, st := .erased })) ∧
      a.now ≤ b.svc.erasingTo ∧ b.svc.erasingTo ≤ a.now + 2000 ∧ b.svc = { a.svc with keys := b.svc.keys, erasingTo := b.svc.erasingTo } ∧ b.pkt.tagDue = [] ∧
      (∀ e ∈ b.pkt.pkts, e.2.needTag = true → e.2.tag = none → e.2.erased = true) ∧ Counts 0x1B4 0x878 1 a b ∧ Counts 0x1B4 off 1 a b ∧
      Counts 0x1B4 0x860 ((a.pkt.pkts.filter (fun e => e.2.needTag && e.2.tag.isNone && !e.2.erased)).length + a.pkt.tagDue.length) a b ∧
      b = { a with core := { a.core with free := b.core.free }, ctrs := b.ctrs, svc := b.svc, pkt := { a.pkt with pkts := b.pkt.pkts, tagDue := [] } } ∧ Kept [] [(0x1B4, 0x860), (0x1B4, 0x878), (0x1B4, off)] a b
    Makes (.clockAlarm t) s t (erases 0x888) ∧ Makes (.glitchAlarm t) s t (erases 0x890) ∧
    ∀ q : Int, Makes (.temperatureAlarm t q) s t (fun a b => (520 < q ∨ q < -180 → erases 0x898 a b) ∧ (-180 ≤ q → q ≤ 520 → b = a))

/-- CELL_REQUEST of a pool that may take a cell emits the next free cell's pointer, raises the pool's count, and writes the first descriptor's owner
and next generation; for a packet it links the cell and writes the packet's first bytes. A request that must wait queues, any other is refused and
counted by its cause. WAIT_TIMEOUT ends a wait past its limit. BUFFER_FREE of a wrong pointer, owner or generation is counted and logged and changes
no memory; in order it clears OWNER and returns the cells to the chain and the pool. OWNER_CLEAR clears one owner of a returned chain. CELL_ADDR takes
a cell's address only. -/
def Obligations.CellsAllocateAndFree : Prop :=
  (∀ t win (r : Fin 41) (pool : Fin 256) pkt cut s, s.inReset = false → Makes (.cellRequest t win r pool pkt cut) s t (fun a b =>
    (a.window win r.val = none → b = a) ∧ (a.window win r.val ≠ none →
      let stops (off : Nat) := Counts 0x1B0 off 1 a b ∧ b.cells.pools = a.cells.pools ∧ b.cells.mem = a.cells.mem ∧ b.cells.used = a.cells.used ∧ b.core.out = a.core.out
      let grants (i : Nat) (p : Pool) (c : Nat) := b.core.out = a.core.out ++ [.cell r.val c] ∧ Counts 0x1B0 0x810 1 a b ∧ b.pool? i = some { p with held := p.held + 1 } ∧
        (∀ j, j ≠ i → b.pool? j = a.pool? j) ∧ (p.dram = true → b.cells.used = (a.cells.used.1, a.cells.used.2 + 1)) ∧ (p.dram = false → b.cells.used = (a.cells.used.1 + 1, a.cells.used.2))
      let may (i : Nat) (p : Pool) (k : Nat) := a.pool? i = some p ∧ a.mayTake p = true ∧ a.nextChain p.dram = some k
      let cannot (i : Nat) (p : Pool) := a.pool? i = some p ∧ ¬ (a.mayTake p = true ∧ a.nextChain p.dram ≠ none)
      (pkt = none → (a.on BPM.BPM_EN = false → stops 0x888) ∧
        (a.on BPM.BPM_EN = true → (a.pool? pool.val = none → stops 0x820) ∧
          (∀ p k, may pool.val p k → let c := a.chainHead p.dram k
            grants pool.val p c ∧ b.desc c = mkDesc 0 true r.val (descGen (a.desc c) + 1) ∧ Tbl.get? b.cells.bufPool c = some pool.val) ∧
          ∀ p, cannot pool.val p → (p.wait = true → stops 0x828 ∧ b.cells.waiters = a.cells.waiters ++ [{ req := r.val, pool := pool.val, stamp := a.now, pkt := none }]) ∧
            (p.wait = false → stops 0x820 ∧ b.cells.waiters = a.cells.waiters))) ∧
      ∀ n x i, pkt = some n → a.pkt? n = some x → (x.stage = .handed ∨ x.stage = .pushed) → x.ended = false → x.voidAt = false → x.cells < cellsFor x.bytes.length → Pkt.requester x = r.val →
        (∀ w ∈ a.cells.waiters, w.pkt ≠ some n) → a.pktPool x = some i → a.on BPM.BPM_EN = true →
          (∀ p k, may i p k → let c := a.chainHead p.dram k
            grants i p c ∧ (∃ z, b.pkt? n = some z ∧ z.cells = x.cells + 1 ∧ z.last = c ∧ z.first = some (x.first.getD c) ∧ z.pool = i ∧ z.stage = x.stage ∧ z.bytes = x.bytes) ∧
              (x.first = none → x.cells = 0 → b.desc c = mkDesc 0 true r.val (descGen (a.desc c) + 1) ∧
                Memory.readBytes b.cells.mem (cellAddr c + 16) (min 232 x.bytes.length) = (x.bytes.take 232).map (· % 256))) ∧
          ∀ p, cannot i p → (p.wait = true → stops 0x828 ∧ b.cells.waiters = a.cells.waiters ++ [{ req := r.val, pool := i, stamp := a.now, pkt := some n }]) ∧
            (p.wait = false → stops 0x820 ∧ (x.first = none → b.pkt? n = none) ∧ (x.first ≠ none → b.pkt? n = some { x with voidAt := true }))))) ∧
  (∀ t (r : Fin 41) s, s.inReset = false → Makes (.waitTimeout t r) s t (fun a b =>
    let lim (w : Waiter) := match a.pool? w.pool with | some p => p.waitNs | none => 0
    ((∀ w ∈ a.cells.waiters, w.req = r.val → a.now ≤ w.stamp + lim w) → b = a) ∧
    ∀ w, a.cells.waiters.find? (fun w => decide (w.req = r.val ∧ w.stamp + lim w < a.now)) = some w →
      (b.cells = { a.cells with waiters := a.cells.waiters.erase w } ∧ Counts 0x1B0 0x830 1 a b ∧
        ∀ n x, w.pkt = some n → a.pkt? n = some x → (x.first = none → b.pkt? n = none) ∧ (x.first ≠ none → b.pkt? n = some { x with voidAt := true })))) ∧
  (∀ t (r : Fin 41) p (o : Fin 2097152) (g : Fin 64) errs s, s.inReset = false → Makes (.bufferFree t r p o g errs) s t (fun a b =>
    let w := a.desc p; let clear := a.cells.clearing.contains p = true ∧ descOwner w = o.val ∧ descGen w = g.val
    let refused (kind off : Nat) := Counts 0x1B0 off 1 a b ∧ b.cells.mem = a.cells.mem ∧ b.cells.pools = a.cells.pools ∧ b.cells.chains = a.cells.chains ∧
      (let s := a.rd BPM.FLOG_PRODUCED
      if unread s (a.rd BPM.FLOG_CONSUMED) 2048 = 1024 then b.cells.flog = a.cells.flog ∧ Counts 0x1B0 0x860 1 a b
      else b.rd BPM.FLOG_PRODUCED = (s + 1) % 2048 ∧ ∃ e, Tbl.get? b.cells.flog (s % 1024) = some e ∧ e.kind = kind ∧ e.req = r.val ∧ e.ptr = p ∧ e.gen = g.val ∧ e.owner = o.val ∧
        e.frame = a.frame % 2 ^ 32 ∧ e.offset = a.now % 125000)
    b.svc = a.svc ∧ b.fret = a.fret ∧ b.rng = a.rng ∧
    (ptrOk p = false → refused 3 0x850) ∧
    (ptrOk p = true → errs = [] → a.cells.poison = [] → a.cells.voided = [] →
      (clear → descOwner (b.desc p) = 0 ∧ Counts 0x1B0 0x880 1 a b) ∧
      (¬ clear → (descFirst w = false → refused 2 0x848) ∧ (descFirst w = true → descOwner w = 0 → refused 0 0x840) ∧
        (descFirst w = true → descOwner w ≠ 0 → (descOwner w ≠ o.val ∨ descGen w ≠ g.val) → refused 1 0x848) ∧
        ∀ cells, descFirst w = true → descOwner w ≠ 0 → descOwner w = o.val → descGen w = g.val → (a.bufCells [] p).1 = cells → (a.bufCells [] p).2.1 = cells.length →
          (a.bufCells [] p).2.2.1 = false → a.cells.waiters = [] → descOwner (b.desc p) = 0 ∧ (b.chain (chainKey p)).stack = cells ++ (a.chain (chainKey p)).stack ∧
            Counts 0x1B0 0x818 cells.length a b ∧ ∀ i q, Tbl.get? a.cells.bufPool p = some i → a.pool? i = some q → b.pool? i = some { q with held := q.held - cells.length })))) ∧
  (∀ t s, s.inReset = false → Makes (.ownerClear t) s t (fun a b =>
    (a.cells.clearing = [] → b = a) ∧
    ∀ p rest, a.cells.clearing = p :: rest → b.cells.clearing = rest ∧ descOwner (b.desc p) = 0 ∧ descGen (b.desc p) = descGen (a.desc p) ∧ Counts 0x1B0 0x880 1 a b ∧
      (∀ x, x < descAddr p ∨ descAddr p + 8 ≤ x → Memory.read b.cells.mem x = Memory.read a.cells.mem x) ∧
      b = { a with ctrs := b.ctrs, cells := { a.cells with clearing := rest, mem := b.cells.mem, poison := b.cells.poison, voided := b.cells.voided } } ∧ Kept [] [(0x1B0, 0x880)] a b)) ∧
  ∀ t m v s, s.inReset = false → Makes (.cellAddr t m v) s t (fun a b => let busy := Tbl.get? a.pages.winOps (0x1B0 * 8 + 3) ≠ none; let ok := cellAddrOk (v.val * 2 ^ 32 + a.cells.addrLo) = true
    (m = .pf1 → Refused 0x1B0 a b) ∧ (m ≠ .pf1 → busy → Locked 0x1B0 a b) ∧ (m ≠ .pf1 → ¬ busy → ¬ ok → Refused 0x1B0 a b) ∧
    (m ≠ .pf1 → ¬ busy → ok → b.rd BPM.CELL_ADDR_LO = a.cells.addrLo % 2 ^ 32 ∧ b.rd BPM.CELL_ADDR_HI = v.val ∧ Only [BPM.CELL_ADDR_LO, BPM.CELL_ADDR_HI] [] a b))

/-- PACKET_PUSH appends a packet that has its first cell: the queue's tail and counts move, the buffer belongs to the queue and its slot reads
PENDING; with QMG_EN 0, a stale or closed queue, a flush or a full queue it is dropped and counted. PACKET_END writes the last cell, the number of
cells and FINAL with the length, or VOID. PACKET_POP of a pending head counts it and ends the turns of children that are no longer eligible (R431), no
more; a void head or one of a stale channel is freed; a final one is read, handed to its root and freed. SCRUB_READ never changes a word, DRAM_REFRESH
sets the stack's levels, SKC_READY its READY. -/
def Obligations.PacketsQueue : Prop :=
  (∀ t n pop errs s, s.inReset = false → Makes (.packetPush t n pop errs) s t (fun a b =>
    (a.pkt? n = none → b = a) ∧
    ∀ x, a.pkt? n = some x → (x.stage ≠ .handed ∨ x.first = none → b = a) ∧
      ∀ p, x.stage = .handed → x.first = some p → let drops (pg off : Nat) := b.pkt? n = none ∧ Counts pg off 1 a b
        (pop = true → (∃ i q, a.queueIdx x.queue = some i ∧ a.queue? i = some q) →
          (a.on QMG.QMG_EN = true → Counts 0x1B1 0x850 1 a b) ∧ (a.on QMG.QMG_EN = false → drops 0x1B1 0x868 ∧ b.ctr 0x1B1 0x850 = a.ctr 0x1B1 0x850)) ∧
        (pop = false → (a.on QMG.QMG_EN = false → drops 0x1B1 0x868) ∧
          (a.on QMG.QMG_EN = true → (a.queueIdx x.queue = none → drops 0x001 0x938) ∧
            ∀ i q, a.queueIdx x.queue = some i → a.queue? i = some q →
              (q.flush = true → drops 0x1B1 0x840) ∧ (q.flush = false → q.closed = true → drops 0x001 0x938) ∧
              (q.flush = false → q.closed = false → q.maxCells ≤ q.cells → drops 0x1B1 0x820) ∧
              (q.flush = false → q.closed = false → q.cells < q.maxCells →
                (∃ z, b.queue? i = some z ∧ z.tail = p ∧ z.head = (if q.pkts = 0 then p else q.head) ∧ z.pkts = q.pkts + 1 ∧ z.cells = q.cells + x.cells ∧ z.handle = q.handle) ∧
                b.pkt? n = some { x with stage := .pushed } ∧ b.hdrStatus p = stPending ∧ descOwner (b.desc p) = queueTag i % 2 ^ 21 ∧ Counts 0x1B1 0x810 1 a b ∧
                (∀ j, j ≠ i → b.queue? j = a.queue? j) ∧ b.cells.pools = a.cells.pools ∧ b.cells.used = a.cells.used ∧ b.svc = a.svc ∧ b.regs = a.regs))))) ∧
  (∀ t n whole s, s.inReset = false → Makes (.packetEnd t n whole) s t (fun a b =>
    (a.pkt? n = none → b = a) ∧
    ∀ x, a.pkt? n = some x → (x.stage ≠ .pushed ∨ x.first = none ∨ x.ended = true → b = a) ∧
      ∀ p, x.stage = .pushed → x.first = some p → x.ended = false → let done := whole && !x.voidAt && decide (cellsFor x.bytes.length ≤ x.cells)
        let good := done && !x.erased && (!x.needTag || x.tag.getD false)
        (if done = true then b.ctr 0x1B1 0x838 = a.ctr 0x1B1 0x838 else Counts 0x1B1 0x838 1 a b) ∧ b.cells.queues = a.cells.queues ∧ b.cells.pools = a.cells.pools ∧ b.svc = a.svc ∧ b.regs = a.regs ∧
        (x.needTag = true → x.tag = none → b.pkt? n = some { x with ended := true, voidAt := !done }) ∧
        (x.last < 2 ^ 36 → b.hdrLast p = x.last ∧ b.hdrCells p = x.cells % 64) ∧
        (x.needTag = false ∨ x.tag ≠ none → x.bytes.length < 2 ^ 14 → b.pkt? n = none ∧ b.hdrStatus p = (if good = true then stFinal else stVoid) ∧
          b.hdrLength p = if good = true then x.bytes.length else 0))) ∧
  (∀ t (i : Fin 1048576) errs s, s.inReset = false → Makes (.packetPop t i errs) s t (fun a b =>
    (∀ e ∈ b.traffic.picked, e.2 ≠ i.val) ∧
    let idle := b = { a with traffic := { a.traffic with picked := b.traffic.picked, rounds := b.traffic.rounds, deficits := b.traffic.deficits } } ∧ (∀ e ∈ b.traffic.rounds, e.2.turn = none ∨ e ∈ a.traffic.rounds)
    (a.queue? i.val = none → idle) ∧
    ∀ q, a.queue? i.val = some q → (a.on QMG.QMG_EN = false ∨ q.pkts = 0 → idle) ∧
      (a.on QMG.QMG_EN = true → q.pkts ≠ 0 → let st := a.hdrStatus q.head
        let leaves := ∃ z, b.queue? i.val = some z ∧ z.handle = q.handle ∧ (z.pkts = q.pkts - 1 ∨ z.cut = true)
        (st = stPending → Counts 0x1B1 0x858 1 a b ∧ b.cells = a.cells ∧ b.traffic.egress = a.traffic.egress) ∧
        (st = stVoid → Counts 0x1B1 0x818 1 a b ∧ Counts 0x1B1 0x828 1 a b ∧ leaves ∧ b.traffic.egress = a.traffic.egress) ∧
        (st ≠ stPending → st ≠ stVoid → a.staleChan q.head = true → Counts 0x1B1 0x818 1 a b ∧ Counts 0x001 0x938 1 a b ∧ leaves ∧ b.traffic.egress = a.traffic.egress) ∧
        (st ≠ stPending → st ≠ stVoid → a.staleChan q.head = false → errs = [] → a.cells.poison = [] → a.cells.voided = [] → (a.bufCells [] q.head).2.2.1 = false →
          Counts 0x1B1 0x818 1 a b ∧ leaves ∧ ∃ e, Tbl.getD b.traffic.egress (a.queueRoot q) [] = Tbl.getD a.traffic.egress (a.queueRoot q) [] ++ [e] ∧
            e.bytes = (a.readPkt [] q.head (a.bufCells [] q.head).1).1 ∧ e.omci = false ∧ e.tagged = a.traceOf q.head)))) ∧
  (∀ t at_ e last s, s.inReset = false → Makes (.scrubRead t at_ e last) s t (fun a b =>
    b.cells.mem = a.cells.mem ∧ b.svc = a.svc ∧ b.fret = a.fret ∧ b.pkt = a.pkt ∧ b.regs = a.regs ∧
    (∀ w, at_ = .cell w → b.cells.queues = a.cells.queues ∧ let off := bit w 43 = true ∧ a.on (SKC.SCRUB_EN (stackOf w)) = false
      (off → b = a) ∧ (¬ off → (e = .corrected → Counts 0x1B0 0x868 1 a b) ∧ (e = .uncorrectable → Counts 0x1B0 0x870 1 a b ∧ b.poisoned w = true))) ∧
    ∀ k q, at_ = .table k q → (e = .corrected → Counts 0x1B0 0x868 1 a b ∧ b.cells.queues = a.cells.queues) ∧
      (e = .uncorrectable → Counts 0x1B0 0x870 1 a b ∧ ∀ i z, q = some i → a.queue? i = some z → Counts 0x1B1 0x860 1 a b ∧ ∃ y, b.queue? i = some y ∧ y.cut = true ∧ y.pkts = 0 ∧ y.cells = 0))) ∧
  (∀ t (n : Fin 8) s, s.inReset = false → Makes (.dramRefresh t n) s t (fun a b => let temp := a.pow.temps.getD (64 + n.val) 0; let was2 := a.on (SKC.REFRESH_2X n.val); let was4 := a.on (SKC.REFRESH_4X n.val)
    let four := 380 < temp ∨ (was4 = true ∧ 368 < temp); let two := 340 < temp ∨ ((was2 = true ∨ was4 = true) ∧ 328 < temp)
    b.on (SKC.REFRESH_4X n.val) = decide four ∧ b.on (SKC.REFRESH_2X n.val) = decide (¬ four ∧ two) ∧ b.rd (SKC.STACK_TEMP n.val) = unsign 8 (temp / 4) ∧ Counts (skcPage n.val) 0x838 1 a b ∧
    Only [SKC.REFRESH_2X n.val, SKC.REFRESH_4X n.val, SKC.STACK_TEMP n.val] [(skcPage n.val, 0x838)] a b)) ∧
  ∀ t (n : Fin 8) s, s.inReset = false → Makes (.skcReady t n) s t (fun a b => b.on (SKC.READY n.val) = true ∧ (a.cells.waiters = [] → Only [SKC.READY n.val] [] a b))

/-- EGRESS_REQUEST of a root that may not be served changes nothing. Where the walk down the tree chooses a queue, that queue holds a head that is not
pending, its shapers permit it, and it is picked for the root; the packet and its length are counted. Where it chooses a terminal's OMCI queue, the
first message goes to the root. SHAPER_WHEEL_EXPIRY before a bucket's instant changes it not; at it the bucket is unparked where its level is back at
0, else parked again and counted. GATE_LIST_START puts a scheduled list in force and makes the node's old one IDLE; GATE_ENTRY_CHANGE shows the entry
that holds now; the turn of a child that its gates close ends (R431). -/
def Obligations.TrafficServes : Prop :=
  (∀ t (r : Fin 320) s, s.inReset = false → Makes (.egressRequest t r) s t (fun a b =>
    (a.rootServed r.val = false → b = a) ∧
    (a.rootServed r.val = true → b.svc = a.svc ∧ b.cells = a.cells ∧ b.regs = a.regs ∧ b.pkt = a.pkt ∧ b.traffic.nodes = a.traffic.nodes ∧ b.traffic.gates = a.traffic.gates ∧
      let o := (a.settle r.val 5 [] r.val).1
      (o = none → b.traffic.picked = a.traffic.picked ∧ b.traffic.egress = a.traffic.egress ∧ b.traffic.omci = a.traffic.omci ∧ b.traffic.shapers = a.traffic.shapers ∧ b.ctr 0x1B2 0x810 = a.ctr 0x1B2 0x810) ∧
      ∀ x, o = some x → let len := x.len; let k := lastKey x.path
        (keyLevel k = 5 → ∃ m rest, a.omciOf (keyIdx k) = m :: rest ∧ b.omciOf (keyIdx k) = rest ∧ len = m.length ∧ Counts 0x1B2 0x810 1 a b ∧ Counts 0x1B2 0x818 len a b ∧
          Tbl.getD b.traffic.egress r.val [] = Tbl.getD a.traffic.egress r.val [] ++ [{ bytes := m, term := keyIdx k, omci := true }]) ∧
        (keyLevel k ≠ 5 → keyLevel k = 4 ∧ a.queueReady (keyIdx k) = true ∧ a.permits k = true ∧ Tbl.get? b.traffic.picked r.val = some (keyIdx k) ∧ b.traffic.egress = a.traffic.egress ∧
          ∀ q, a.queue? (keyIdx k) = some q → len = a.headLength (keyIdx k) ∧
            (if a.hdrStatus q.head = stVoid ∨ a.staleChan q.head = true then b.ctr 0x1B2 0x810 = a.ctr 0x1B2 0x810 ∧ b.traffic.shapers = a.traffic.shapers
              else Counts 0x1B2 0x810 1 a b ∧ Counts 0x1B2 0x818 len a b))))) ∧
  (∀ t terminal (i : Fin 1048576) s, s.inReset = false → Makes (.shaperWheelExpiry t terminal i) s t (fun a b =>
    let moved (x y : Bucket) (rate burst : Nat) := (x.parked = none → y = x) ∧ ∀ w, x.parked = some w → (a.now < w → y = x) ∧
      (w ≤ a.now → 0 ≤ Bucket.at x rate burst a.now → y = { x with parked := none }) ∧
      (w ≤ a.now → Bucket.at x rate burst a.now < 0 → (∃ p, y = { x with parked := some p } ∧ a.now ≤ p ∧ p ≤ a.now + 65535 * 16) ∧ Counts 0x1B2 0x828 1 a b)
    b = { a with ctrs := b.ctrs, traffic := { a.traffic with shapers := b.traffic.shapers, termBuckets := b.traffic.termBuckets } } ∧ Kept [] [(0x1B2, 0x828)] a b ∧
    (terminal = true → b.traffic.shapers = a.traffic.shapers ∧ (∀ j, j ≠ i.val → b.termBucket j = a.termBucket j) ∧
      let n := a.node (nodeKey 1 i.val); moved (a.termBucket i.val) (b.termBucket i.val) n.rate n.burst) ∧
    (terminal = false → b.traffic.termBuckets = a.traffic.termBuckets ∧ (∀ j, j ≠ i.val → Tbl.get? b.traffic.shapers j = Tbl.get? a.traffic.shapers j) ∧
      (Tbl.get? a.traffic.shapers i.val = none → b = a) ∧
      ∀ x, Tbl.get? a.traffic.shapers i.val = some x → ∃ y, Tbl.get? b.traffic.shapers i.val = some { x with bucket := y } ∧ moved x.bucket y x.rate x.burst))) ∧
  (∀ t (i : Fin 1024) s, s.inReset = false → Makes (.gateEntryChange t i) s t (fun a b =>
    b = { a with traffic := { a.traffic with gates := b.traffic.gates, rounds := b.traffic.rounds, deficits := b.traffic.deficits } } ∧ (∀ j, j ≠ i.val → Tbl.get? b.traffic.gates j = Tbl.get? a.traffic.gates j) ∧
    Tbl.get? b.traffic.gates i.val = (Tbl.get? a.traffic.gates i.val).map (fun g => if g.st = .inForce then { g with cur := (GateList.entry g a.now).1 } else g))) ∧
  ∀ t (i : Fin 1024) s, s.inReset = false → Makes (.gateListStart t i) s t (fun a b =>
    (Tbl.get? a.traffic.gates i.val = none → b = a) ∧
    ∀ g, Tbl.get? a.traffic.gates i.val = some g → (g.st ≠ .scheduled ∨ a.now < g.start → b = a) ∧
      (g.st = .scheduled → g.start ≤ a.now → Tbl.get? b.traffic.gates i.val = some { g with st := .inForce, cur := (GateList.entry g a.now).1 } ∧
        (∀ j, j ≠ i.val → Tbl.get? b.traffic.gates j = (Tbl.get? a.traffic.gates j).map (fun e => if e.node = g.node ∧ e.st = .inForce then { e with st := .idle } else e)) ∧
        Counts 0x1B2 0x838 1 a b ∧ b = { a with ctrs := b.ctrs, traffic := { a.traffic with gates := b.traffic.gates, rounds := b.traffic.rounds, deficits := b.traffic.deficits } } ∧
        (∀ v c, (b.round v).turn = some c → (a.round v).turn = some c) ∧ Kept [] [(0x1B2, 0x838)] a b))

/-- PORT_BRINGUP of a defined port that is off starts it. AUTONEG_COMPLETE leads to training, or counts a failure. LINK_TRAINING_COMPLETE in TRAINING
leads to the lock, in LOCK and with lock to UP at the full rate, to the step where full is agreed, to UP at the low rate where allowed, or back to the
start; a failed try, or one past TRAIN_TIMEOUT_MS, is repeated up to TRAIN_RETRIES; a sound one loads its taps. PORT_DEFECT_CHANGE shows the lowest
condition of a port its quad's mode defines and, for bits 0 to 5, drops UP and returns an up port to training. UP is set only once no such condition
has held for UP_HOLD_US, as UP_HOLD_EXPIRY finds or a cleared condition leaves. -/
def Obligations.PortsComeUp : Prop :=
  (∀ t m (p : Fin 64) s, s.inReset = false → Makes (.portBringup t m p) s t (fun a b => let q := quadOf p.val; let n := slotOf p.val; let an := a.onPort NPC.AN_EN p.val
    (m = .pf1 → Refused (npcPage q) a b) ∧
    (m ≠ .pf1 → b.onPort NPC.PORT_EN p.val = true ∧ (if a.onPort NPC.PORT_EN p.val = true ∨ modeHas (a.portMode p.val) n = false then Only [NPC.PORT_EN q n] [] a b
      else b.rdPort NPC.BRINGUP p.val = firstState a p.val ∧ PortsOnly a b ∧ Kept [NPC.PORT_EN q n, NPC.BRINGUP q n] [] a b ∧
        b.port p.val = { a.port p.val with tries := 0, atFull := false, fullAgreed := !an, tryAt := if an then (a.port p.val).tryAt else a.now })))) ∧
  (∀ t (p : Fin 64) common full s, s.inReset = false → Makes (.autonegComplete t p common full) s t (fun a b => let q := quadOf p.val; let n := slotOf p.val
    let idle := a.rdPort NPC.BRINGUP p.val ≠ 1 ∨ a.portOn p.val = false ∨ q ∈ a.spm.dead
    (idle → b = a) ∧ (¬ idle → common = false → Counts (npcPage q) (portCtr n 0x90) 1 a b ∧ Only [] [(npcPage q, portCtr n 0x90)] a b) ∧
    (¬ idle → common = true → b.rdPort NPC.BRINGUP p.val = (if a.onPort NPC.TRAIN_EN p.val = true then 2 else 3) ∧
      b.port p.val = { a.port p.val with fullAgreed := full, atFull := false, tries := 0, tryAt := a.now } ∧ PortsOnly a b ∧ Kept [NPC.BRINGUP q n] [] a b))) ∧
  (∀ t (p : Fin 64) (lost : Fin 16) lock taps s, s.inReset = false → Makes (.linkTrainingComplete t p lost lock taps) s t (fun a b => let x := a.port p.val
    let st := a.rdPort NPC.BRINGUP p.val; let q := quadOf p.val; let now := b.rdPort NPC.BRINGUP p.val; let lanes := a.portLanes p.val
    let late := st ≠ 3 ∧ x.tryAt + a.rdA (NPC.TRAIN_TIMEOUT_MS q) * 1000000 < a.now
    let ok := ¬ late ∧ ∀ l ∈ lanes, bit lost.val l = false; let more := x.tries + 1 < a.rdA (NPC.TRAIN_RETRIES q)
    let idle := a.portOn p.val = false ∨ q ∈ a.spm.dead ∨ st < 2 ∨ 4 < st
    let low := if a.onPort NPC.ALLOW_LOW p.val = true then 6 else firstState a p.val
    PortsOnly a b ∧ (idle → b = a) ∧
    (¬ idle → st = 2 → ok → lock = false → now = 3) ∧
    (¬ idle → st ≠ 4 → ok → lock = true → now = if a.stepFull p.val = true then 5 else if x.fullAgreed = true then 4 else low) ∧
    (¬ idle → st = 3 → ¬ (ok ∧ lock = true) → now = if a.onPort NPC.TRAIN_EN p.val = true then 2 else 3) ∧
    (¬ idle → st = 4 → ok → lock = true → now = 5 ∧ (b.port p.val).atFull = true ∧ Counts (npcPage q) 0xB18 1 a b) ∧
    (¬ idle → st = 2 ∨ (st = 4 ∧ lock = true) → ok → a.onPort NPC.TRAIN_EN p.val = true → taps.length = 4 * lanes.length → ∀ i l, lanes[i]? = some l →
      b.rd (NPC.TX_C_M2 q l) = taps.getD (4 * i) 0 % 2 ^ (NPC.TX_C_M2 q l).width ∧ b.rd (NPC.TX_C_M1 q l) = taps.getD (4 * i + 1) 0 % 2 ^ (NPC.TX_C_M1 q l).width ∧
      b.rd (NPC.TX_C_0 q l) = taps.getD (4 * i + 2) 0 % 2 ^ (NPC.TX_C_0 q l).width ∧ b.rd (NPC.TX_C_P1 q l) = taps.getD (4 * i + 3) 0 % 2 ^ (NPC.TX_C_P1 q l).width) ∧
    (¬ idle → (st = 2 ∧ ¬ ok) ∨ (st = 4 ∧ ¬ (ok ∧ lock = true)) → more → now = st ∧ b.port p.val = { x with tries := x.tries + 1, tryAt := a.now } ∧ b.ctrs = a.ctrs) ∧
    (¬ idle → st = 2 → ¬ ok → ¬ more → (∀ l ∈ lanes, late ∨ bit lost.val l = true → Counts (npcPage q) (laneCtr l 0x10) 1 a b) ∧ (b.port p.val).tries = 0 ∧
      now = if a.onPort NPC.AN_EN p.val = true then 1 else 2) ∧
    (¬ idle → st = 4 → ¬ (ok ∧ lock = true) → ¬ more → now = low ∧ Counts (npcPage q) 0xB20 1 a b))) ∧
  (∀ t (p : Fin 64) (k : Fin 7) (lane : Fin 4) on s, s.inReset = false → Makes (.portDefectChange t p k lane on) s t (fun a b => let x := a.port p.val; let y := b.port p.val; let q := quadOf p.val
    let has := modeHas (a.portMode p.val) (slotOf p.val)
    PortsOnly a b ∧ (k.val = 0 → b.on (NPC.SIGNAL q lane.val) = !on) ∧
    (k.val = 1 → b.on (NPC.CDR_LOCK q lane.val) = !on ∧ Counts (npcPage q) (laneCtr lane.val 0x18) (b2n (on && a.on (NPC.CDR_LOCK q lane.val))) a b) ∧
    (has = false → b.net = a.net ∧ b.rdPort NPC.DEFECTS p.val = a.rdPort NPC.DEFECTS p.val) ∧
    (has = true → (∀ j : Fin 7, bit y.conds j.val = if j = k then on else bit x.conds j.val) ∧ b.rdPort NPC.DEFECTS p.val = lowestBit y.conds % 128 ∧
      y.clearAt = (if x.conds % 64 ≠ 0 ∧ y.conds % 64 = 0 then a.now else x.clearAt)) ∧
    (a.portOn p.val = false → b.rdPort NPC.UP p.val = a.rdPort NPC.UP p.val ∧ b.rdPort NPC.BRINGUP p.val = a.rdPort NPC.BRINGUP p.val) ∧
    (a.portOn p.val = true →
      (on = true → k.val < 6 → b.onPort NPC.UP p.val = false ∧ (a.onPort NPC.UP p.val = true → PortCounts p.val 0x80 1 a b) ∧
        b.rdPort NPC.BRINGUP p.val = if 5 ≤ a.rdPort NPC.BRINGUP p.val then 2 else a.rdPort NPC.BRINGUP p.val) ∧
      (on = false ∨ k.val = 6 → b.rdPort NPC.BRINGUP p.val = a.rdPort NPC.BRINGUP p.val ∧ b.rdPort NPC.UP p.val =
        if 5 ≤ a.rdPort NPC.BRINGUP p.val ∧ y.conds % 64 = 0 ∧ a.portPrbs p.val = false ∧ y.clearAt + a.rdA (NPC.UP_HOLD_US q) * 1000 ≤ a.now then 1 else a.rdPort NPC.UP p.val)))) ∧
  ∀ t (p : Fin 64) s, s.inReset = false → Makes (.upHoldExpiry t p) s t (fun a b => let x := a.port p.val
    if a.portOn p.val = true ∧ 5 ≤ a.rdPort NPC.BRINGUP p.val ∧ x.conds % 64 = 0 ∧ a.portPrbs p.val = false ∧ x.clearAt + a.rdA (NPC.UP_HOLD_US (quadOf p.val)) * 1000 ≤ a.now then
      b.onPort NPC.UP p.val = true ∧ Only [NPC.UP (quadOf p.val) (slotOf p.val)] [] a b else b = a)

/-- NETWORK_FRAME_RECEIVE on an up port counts and drops a frame by the first check it fails: no Capo, an underrun, its FCS, its length, no room; else
it becomes a packet. NETWORK_FRAME_TRANSMIT sends the packet handed to the port, padded, where the port is up and not paused and the device may send.
PAUSE_RECEIVE on an up port of the holder of the Capo sets or ends pause, PAUSE_QUANTA_EXPIRY ends it, PAUSE_HOLD_LIMIT has it ignored, unless a
release is stamped at the limit itself; PAUSE_GENERATE sends PAUSE, again at half its quanta, and at the limit ends. EYE_MEASURE shows an eye;
INJECT_ONE flips a bit where a pattern is sent; PRBS_LOCK_CHANGE shows the lock and counts. -/
def Obligations.PortsCarryFrames : Prop :=
  (∀ t (p : Fin 256) (f : List Byte) whole room del ins fc fu fs s, s.inReset = false → Makes (.networkFrameReceive t p f whole room del ins fc fu fs) s t (fun a b =>
    let bs := f.map (·.toNat); let body := bs.take (bs.length - 4); let e := a.countPort p.val; let up := a.portConfigured p.val = true ∧ a.portUp p.val = true
    let sound := 4 ≤ bs.length ∧ toBytesLE 4 (crc32 body) = bs.drop (bs.length - 4); let mx := a.rdA (NPC.MAX_FRAME_BYTES (quadOf e)); let gone (off : Nat) := PortCounts p.val off 1 a b ∧ b.pkt = a.pkt
    b.cells = a.cells ∧ b.svc = a.svc ∧ b.fret = a.fret ∧ b.rng = a.rng ∧ b.traffic = a.traffic ∧
    (¬ up → b = a) ∧ (up → PortCounts p.val 0x38 fc a b ∧ PortCounts p.val 0x40 fu a b ∧ PortCounts p.val 0x48 fs a b ∧
      if p.val < 64 then PortCounts p.val 0x50 del a b ∧ PortCounts p.val 0x58 ins a b else Counts flxPage 0x840 ins a b ∧ Counts flxPage 0x848 del a b) ∧
    (up → a.capo = false → gone 0x88) ∧ (up → a.capo = true → (whole = false → gone 0x60) ∧ (whole = true → (¬ sound → gone 0x10) ∧
      (sound → mx < bs.length → gone 0x18) ∧ (sound → bs.length ≤ mx → bs.length < 64 → gone 0x20) ∧
      (sound → bs.length ≤ mx → 64 ≤ bs.length → (room = false → Counts (npcPage (quadOf e)) 0xB10 1 a b ∧ b.pkt = a.pkt) ∧
        (room = true → PortCounts p.val 0x00 1 a b ∧ PortCounts p.val 0x08 body.length a b ∧ b.pkt.next = a.pkt.next + 1 ∧ ∃ x, b.pkt? a.pkt.next = some x ∧ x.bytes = body ∧
          x.src = { kind := 1, port := p.val } ∧ x.stage = .crossing ∧ (ptpEvent body = none ∨ 64 ≤ p.val → x.stamp = a.now))))))) ∧
  (∀ t (p : Fin 256) ins del s, s.inReset = false → Makes (.networkFrameTransmit t p ins del) s t (fun a b => let l := Tbl.getD a.traffic.egress (64 + p.val) []
    let may := a.portConfigured p.val = true ∧ a.portUp p.val = true ∧ a.portPaused p.val = false ∧ a.netMaySend = true
    (l = [] ∨ ¬ may → b = a) ∧
    ∀ e rest, l = e :: rest → may → let pad := e.bytes ++ List.replicate (60 - e.bytes.length) 0
      Tbl.getD b.traffic.egress (64 + p.val) [] = rest ∧ PortCounts p.val 0x28 1 a b ∧ (64 ≤ p.val → Counts flxPage 0x840 ins a b ∧ Counts flxPage 0x848 del a b) ∧ b.cells = a.cells ∧ b.svc = a.svc ∧ b.pkt = a.pkt ∧
      (∃ bs, b.core.out = a.core.out ++ [.netFrame p.val bs (crc32 bs)] ∧ PortCounts p.val 0x30 (bs.length + 4) a b ∧
        (64 ≤ p.val ∨ ptpEvent pad = none ∨ bit (a.rd (TMU.ONE_STEP (p.val / 32))) (p.val % 32) = false → bs = pad)) ∧
      (p.val < 64 → ptpEvent pad ≠ none → if unread (a.rd TMU.TXS_PRODUCED) (a.rd TMU.TXS_CONSUMED) 512 = 256 then Counts 0x004 0x830 1 a b
        else Counts 0x004 0x828 1 a b ∧ b.rd TMU.TXS_PRODUCED = (a.rd TMU.TXS_PRODUCED + 1) % 512))) ∧
  (∀ t (p : Fin 64) s, s.inReset = false →
    let P := NPC.PAUSED (quadOf p.val) (slotOf p.val); let I := NPC.PAUSE_IGNORED (quadOf p.val) (slotOf p.val); let S := NPC.PAUSE_SENDING (quadOf p.val) (slotOf p.val)
    let lim (a : Device) := a.rdA (NPC.PAUSE_MAX_FRAMES (quadOf p.val)) * 125000; let c (off : Nat) := (npcPage (quadOf p.val), portCtr (slotOf p.val) off)
    (∀ quanta : Fin 65536, Makes (.pauseReceive t p quanta) s t (fun a b => let x := a.port p.val
      let up := a.portConfigured p.val = true ∧ a.portUp p.val = true
      (¬ up → b = a) ∧ (up → a.capo = false → PortCounts p.val 0x88 1 a b ∧ Only [] [c 0x88] a b) ∧
      (up → a.capo = true → PortCounts p.val 0x68 1 a b ∧ PortsOnly a b ∧ Kept [P, I] [c 0x68] a b ∧
        (a.onPort NPC.PAUSE_RX_EN p.val = false → b.regs = a.regs ∧ b.net = a.net) ∧
        (a.onPort NPC.PAUSE_RX_EN p.val = true → quanta.val = 0 → b.on P = false ∧ b.on I = false ∧ b.port p.val = { x with pauseUntil := a.now }) ∧
        (a.onPort NPC.PAUSE_RX_EN p.val = true → quanta.val ≠ 0 → b.on P = true ∧ b.rd I = a.rd I ∧
          b.port p.val = { x with pauseUntil := a.now + quantaNs quanta.val (a.portRate p.val), pauseSince := if a.on P = true then x.pauseSince else a.now })))) ∧
    Makes (.pauseQuantaExpiry t p) s t (fun a b => if a.on P = true ∧ (a.port p.val).pauseUntil ≤ a.now then b.on P = false ∧ b.on I = false ∧ Only [P, I] [] a b else b = a) ∧
    (∀ released, Makes (.pauseHoldLimit t p released) s t (fun a b => let e := (a.port p.val).pauseSince + lim a
      if a.on P = true ∧ a.on I = false ∧ e ≤ a.now ∧ (released = true → e ≠ a.now) then b.on I = true ∧ b.on P = true ∧ PortCounts p.val 0x78 1 a b ∧ b.net = a.net else b = a)) ∧
    Makes (.pauseGenerate t p) s t (fun a b => let x := a.port p.val; let on := a.on S; let since := if on then x.genSince else a.now; let ends := on = true ∧ since + lim a ≤ a.now
      (a.wantsPause p.val = false → b.on S = false ∧ Only [S] [] a b) ∧ (a.wantsPause p.val = true → a.now < x.genQuiet ∨ (¬ ends ∧ on = true ∧ a.now < x.genNext) → b = a) ∧
      (a.wantsPause p.val = true → x.genQuiet ≤ a.now → ends ∨ on = false ∨ x.genNext ≤ a.now → PortCounts p.val 0x70 1 a b ∧ Kept [S] [c 0x70] a b ∧
        (ends → b.on S = false ∧ b.core.out = a.core.out ++ [.pause p.val 0] ∧ b.port p.val = { x with genQuiet := a.now + 125000 }) ∧
        (¬ ends → let n := a.rdPort NPC.PAUSE_QUANTA p.val; b.on S = true ∧ b.core.out = a.core.out ++ [.pause p.val n] ∧
          b.port p.val = { x with genSince := since, genNext := a.now + ceilDiv (n * 256) (max 1 (a.portRate p.val)) })))) ∧
  ∀ t (lane : Fin 64) s, s.inReset = false → let q := lane.val / 4; let l := lane.val % 4
    (∀ v h : Fin 256, Makes (.eyeMeasure t lane v h) s t (fun a b => b.rd (NPC.EYE_V q l) = v.val ∧ b.rd (NPC.EYE_H q l) = h.val ∧ Kept [NPC.EYE_V q l, NPC.EYE_H q l] [] a b ∧
      b = { a with regs := b.regs, spm := { a.spm with eyeBad := b.spm.eyeBad } } ∧ (∀ k, k ≠ lane.val → Tbl.get? b.spm.eyeBad k = Tbl.get? a.spm.eyeBad k) ∧
      Tbl.get? b.spm.eyeBad lane.val = if v.val < a.rdA SPM.EYE_V_MIN_MV ∨ h.val < a.rdA SPM.EYE_H_MIN then some ((Tbl.get? a.spm.eyeBad lane.val).getD a.now) else none)) ∧
    (∀ m hw, Makes (.injectOne t m lane hw) s t (fun a b => (m = .pf1 → Refused (npcPage q) a b) ∧ (m ≠ .pf1 → hw = true → Lost (npcPage q) a b) ∧ (m ≠ .pf1 → hw = false → b.on (NPC.INJECT_ONE q l) = false ∧ Kept [NPC.INJECT_ONE q l] [] a b ∧
      b = { a with regs := b.regs, core := { a.core with out := a.core.out ++ if a.rd (NPC.PRBS_GEN q l) = 0 then [] else [.bitFlip lane.val] } }))) ∧
    ∀ on n errs, Makes (.prbsLockChange t lane on n errs) s t (fun a b => (a.rd (NPC.PRBS_CHK q l) = 0 → b.on (NPC.PRBS_LOCK q l) = false ∧ Only [NPC.PRBS_LOCK q l] [] a b) ∧
      (a.rd (NPC.PRBS_CHK q l) ≠ 0 → b.on (NPC.PRBS_LOCK q l) = on ∧ Counts (npcPage q) (laneCtr l 0x00) n a b ∧ Counts (npcPage q) (laneCtr l 0x08) errs a b ∧
        Only [NPC.PRBS_LOCK q l] [(npcPage q, laneCtr l 0x00), (npcPage q, laneCtr l 0x08)] a b))

/-- FLEXE_OH_CANDIDATE aligns an instance or counts; five missing blocks in a row lose it. An overhead frame with a bad CRC counts; a good one takes C, CR
and CA and sets group-number, PHY-map, skew and RPF defects, each mismatch counted and logged; a change of C is a boundary, and one without CR, and a
CA without CR, are violations. CAL_REQ 1 is refused unless the standby page passes its checks. TX_OH_FRAME_BOUNDARY sends CR for a request, switches
the transmit calendar once CA was taken, and gives up after CA_TIMEOUT_OHF frames. -/
def Obligations.FlexEWorks : Prop :=
  (∀ t (g : Fin 32) i s, s.inReset = false →
    (∀ ok, Makes (.flexeOhCandidate t g i ok) s t (fun a b => let idle := (a.group g.val).en = false ∨ a.groupInsts g.val ≤ i ∨ (a.inst g.val i).aligned = true
      (idle → b = a) ∧ (¬ idle → ok = false → Counts flxPage 0x810 1 a b ∧ Only [] [(flxPage, 0x810)] a b) ∧
      (¬ idle → ok = true → b.inst g.val i = { aligned := true } ∧ (∀ j, j ≠ i → b.inst g.val j = a.inst g.val j) ∧ b = { a with net := { a.net with groups := b.net.groups } }))) ∧
    Makes (.flexeOhMissing t g i) s t (fun a b => let x := a.inst g.val i
      (x.aligned = false → b = a) ∧
      (x.aligned = true → (∀ j, j ≠ i → b.inst g.val j = a.inst g.val j) ∧ b = { a with ctrs := b.ctrs, net := { a.net with groups := b.net.groups } } ∧
        if 4 ≤ x.missing then b.inst g.val i = {} ∧ Counts flxPage 0x818 1 a b else b.inst g.val i = { x with missing := x.missing + 1 } ∧ b.ctrs = a.ctrs)) ∧
    ∀ crc oh skew, Makes (.flexeOhFrameReceive t g i crc oh skew) s t (fun a b => let x := a.inst g.val i; let y := a.group g.val; let z := b.group g.val
      let idle := y.en = false ∨ x.aligned = false; let gid := oh.number ≠ y.number; let phy := oh.map ≠ 2 ^ (FlxGroup.phys y).length - 1
      let per (c : Prop) (off : Nat) := (c → Counts flxPage off 1 a b) ∧ (¬ c → b.ctr flxPage off = a.ctr flxPage off)
      (idle → b = a) ∧ b.cells = a.cells ∧ b.svc = a.svc ∧ b.net.ports = a.net.ports ∧ b.net.conn = a.net.conn ∧ b.net.clients = a.net.clients ∧ (∀ k, k ≠ g.val → b.group k = a.group k) ∧
      (¬ idle → crc = false → Counts flxPage 0x820 1 a b ∧ b.inst g.val i = { x with missing := 0, badCrc := x.badCrc + 1 } ∧ z = { y with insts := z.insts } ∧ (x.badCrc + 1 ≠ 8 → b.regs = a.regs)) ∧
      (¬ idle → crc = true → b.inst g.val i = { x with missing := 0, badCrc := 0 } ∧ z.rxCal = oh.c % 2 ∧ z.peerCr = oh.cr ∧ z.caSeen = (y.caSeen || (oh.ca && y.crSent)) ∧ z.txCal = y.txCal ∧
        (bit z.conds 2 = true ↔ gid) ∧ (bit z.conds 3 = true ↔ phy) ∧ bit z.conds 4 = skew ∧ bit z.conds 5 = oh.rpf ∧ per gid 0x850 ∧ per phy 0x858 ∧
        per (oh.c ≠ y.rxCal) 0x830 ∧ per (oh.c ≠ y.rxCal ∧ y.peerCr = false) 0x860 ∧ per (oh.ca = true ∧ y.crSent = false) 0x868 ∧
        (oh.c ≠ y.rxCal → b.rd (PG.BOUNDARY_COUNT flxPage) = (a.rd (PG.BOUNDARY_COUNT flxPage) + 1) % 2 ^ 24)))) ∧
  ∀ t (g : Fin 32) s, s.inReset = false → let groups (a b : Device) := b = { a with net := { a.net with groups := b.net.groups } } ∧ ∀ k, k ≠ g.val → b.group k = a.group k
    (∀ m v, Makes (.calReq t m g v) s t (fun a b => let y := a.group g.val
      (m = .pf1 → Refused flxPage a b) ∧
      (m ≠ .pf1 → y.switchAt = some a.now → (v = true → b = a) ∧ (v = false → Lost flxPage a b)) ∧
      (m ≠ .pf1 → y.switchAt ≠ some a.now → (v = true → a.calOk g.val = false → Refused flxPage a b) ∧ (v = true → a.calOk g.val = true → b.group g.val = { y with calReq := true } ∧ groups a b) ∧
        (v = false → b.group g.val = { y with calReq := false, crSent := false, caSeen := false, crFrames := 0 } ∧ groups a b)))) ∧
    Makes (.txOhFrameBoundary t g) s t (fun a b => let y := a.group g.val; let z := b.group g.val; let out := b.core.out = a.core.out ++ [.flexeOh g.val z.crSent z.peerCr (b.groupRpf g.val) z.txCal]
      let taken := y.calReq = true ∧ y.crSent = true ∧ y.caSeen = true; let late := y.calReq = true ∧ y.crSent = true ∧ a.rd FLX.CA_TIMEOUT_OHF ≤ y.crFrames
      (y.en = false → b = a) ∧
      (y.en = true → out ∧ b.cells = a.cells ∧ b.svc = a.svc ∧ b.net.ports = a.net.ports ∧ b.net.conn = a.net.conn ∧ (∀ k, k ≠ g.val → b.group k = a.group k) ∧
        (taken → z.txCal = 1 - y.txCal ∧ z.calReq = false ∧ z.crSent = false ∧ z.switchAt = some a.now ∧ Counts flxPage 0x828 1 a b ∧
          b.rd (PG.BOUNDARY_COUNT flxPage) = (a.rd (PG.BOUNDARY_COUNT flxPage) + 1) % 2 ^ 24) ∧
        (¬ taken → late → z = { y with calReq := false, crSent := false, caSeen := false, crFrames := 0 } ∧ Counts flxPage 0x838 1 a b) ∧
        (¬ taken → ¬ late → z = (if y.calReq = true then { y with crSent := true, crFrames := y.crFrames + 1 } else y) ∧ b.regs = a.regs ∧ b.ctrs = a.ctrs)))

/-- TIME_RUN starts device time at the partner's time, at TIME_LOAD, or at the next EV0 edge. EVENT_EDGE stamps an edge that EDGE selects and
FILTER_NS passes, unless it is too fast or the ring is full, edges of one nanosecond in the order of their inputs; EV0 as 1PPS shows its error.
PHASE_ADJ and FREQ_ADJ take their words, end a software holdover and set the frequency to the adjustment and the slew, held to 10 ppm; a larger
FREQ_ADJ is refused, and a PHASE_ADJ in the window of a hardware update is lost. TIME_OFFSET applies both words and skips pulses moved into the past.
PO_EN starts an output at its first pulse at least 1 us ahead; PULSE_OUTPUT shows a due pulse at its instant, for its width, with its polarity.
HOLDOVER_ENTRY holds the mean. TIME_EXCHANGE follows the partner. -/
def Obligations.TimeIsDisciplined : Prop :=
  (∀ t m partner s, s.inReset = false → Makes (.timeRun t m partner) s t (fun a b =>
    let starts (x : Nat) (f : Bool) := b.now = x ∧ b.on TMU.RUNNING = true ∧ b.tmu.waitEdge = false ∧ b.tmu.following = f
    (m = .pf1 → Refused 0x004 a b) ∧ (m ≠ .pf1 → a.on TMU.TIME_RUN = true → b = a) ∧
    (m ≠ .pf1 → a.on TMU.TIME_RUN = false → b.on TMU.TIME_RUN = true ∧ Kept [TMU.TIME_RUN, TMU.RUNNING] [] a b ∧ b = { a with regs := b.regs, core := { a.core with time := b.core.time }, tmu := b.tmu } ∧
      let from_ := a.on TMU.PAIR_FOLLOW = true ∧ partner ≠ none
      (∀ n, a.on TMU.PAIR_FOLLOW = true → partner = some n → starts n true) ∧
      (¬ from_ → a.on TMU.LOAD_ON_PPS = true → b.tmu = { a.tmu with waitEdge := true } ∧ b.now = a.now ∧ b.rd TMU.RUNNING = a.rd TMU.RUNNING) ∧
      (¬ from_ → a.on TMU.LOAD_ON_PPS = false → starts a.timeLoad a.tmu.following)))) ∧
  (∀ t (i : Fin 8) falling held s, s.inReset = false → Makes (.eventEdge t i falling held) s t (fun a b =>
    let sel := a.rd (TMU.EDGE i.val); let taken := (sel = 3 ∨ sel = (if falling then 2 else 1)) ∧ a.rd (TMU.FILTER_NS i.val) ≤ held
    let stamped (t : Nat) := let n := a.rd TMU.EVT_PRODUCED; let fast := ∃ l, Tbl.get? a.tmu.lastEdge i.val = some l ∧ t < l + 1000
      (fast → Counts 0x004 0x820 1 a b) ∧ (¬ fast → unread n (a.rd TMU.EVT_CONSUMED) 512 = 256 → Counts 0x004 0x818 1 a b) ∧
      (¬ fast → unread n (a.rd TMU.EVT_CONSUMED) 512 ≠ 256 → Counts 0x004 0x810 1 a b ∧ b.rd TMU.EVT_PRODUCED = (n + 1) % 512 ∧ Tbl.get? b.tmu.lastEdge i.val = some t ∧
        let x := Tbl.getD a.tmu.evt ((n + 511) % 256) []; let first := unread n (a.rd TMU.EVT_CONSUMED) 512 ≠ 0 ∧ wordAt x 0 + 2 ^ 32 * wordAt x 1 = t ∧ i.val < wordAt x 2 % 8
        Tbl.get? b.tmu.evt (n % 256) = some (if first then x else [t % 2 ^ 32, t / 2 ^ 32 % 2 ^ 32, i.val + if falling then 8 else 0, 0]))
    (¬ taken → b = a) ∧ (taken → a.tmu.waitEdge = true → i.val = 0 → b.now = a.timeLoad ∧ b.on TMU.RUNNING = true ∧ stamped a.timeLoad) ∧
    (taken → ¬ (a.tmu.waitEdge = true ∧ i.val = 0) → (a.running = false → b = a) ∧ (a.running = true → stamped a.now ∧ b.core.time = a.core.time ∧
      (i.val ≠ 0 → Kept [TMU.EVT_PRODUCED] [(0x004, 0x810), (0x004, 0x818), (0x004, 0x820)] a b) ∧
      (i.val = 0 → a.rd TMU.TIME_SOURCE = 1 → a.follows = false → let e := secErr (a.ptpTime a.now)
        b.rd TMU.PPS_ERR_NS = sat16 e ∧ b.tmu.lastPps = a.now ∧ (1000 < e.natAbs → b.tmu.badEdge = true ∧ b.rd TMU.FREQ_APPLIED = a.rd TMU.FREQ_APPLIED) ∧
        (e.natAbs ≤ 1000 → b.tmu.badEdge = false ∧ b.tmu.goodEdges = a.tmu.goodEdges + 1 ∧ (1 ≤ a.tmu.goodEdges → b.on TMU.HOLDOVER = false))))))) ∧
  (∀ t m (v : Word32) s, s.inReset = false →
    let servo (f : Fld) (a b : Device) := b.rd f = v.toNat ∧ b.tmu.servoAt = a.now ∧ (a.rd TMU.TIME_SOURCE = 0 → a.follows = false → b.on TMU.HOLDOVER = false) ∧
      (b.ownFreq = true → b.freqApplied = clampInt (-freqMax) freqMax (if b.rd TMU.TIME_SOURCE = 0 then b.freqAdj + b.slewPpt else b.freqAdj)) ∧ (b.ownFreq = false → b.rd TMU.FREQ_APPLIED = a.rd TMU.FREQ_APPLIED) ∧
      Kept [f, TMU.HOLDOVER, TMU.FREQ_APPLIED] [] a b ∧ b = { a with regs := b.regs, tmu := b.tmu }
    (∀ hw, Makes (.phaseAdj t m v hw) s t (fun a b => let hit := hw = true ∨ a.tmu.holdAt = some a.now
      (m = .pf1 → Refused 0x004 a b) ∧ (m ≠ .pf1 → hit → Lost 0x004 a b) ∧ (m ≠ .pf1 → ¬ hit → servo TMU.PHASE_ADJ_NS a b))) ∧
    Makes (.freqAdj t m v) s t (fun a b => let big := freqMax < (signed 32 v.toNat).natAbs
      (m = .pf1 ∨ big → Refused 0x004 a b) ∧ (m ≠ .pf1 → ¬ big → servo TMU.FREQ_ADJ a b)) ∧
    Makes (.timeOffset t m v) s t (fun a b => (m = .pf1 → Refused 0x004 a b) ∧
      (m ≠ .pf1 → b.rd TMU.TIME_OFFSET_HI = v.toNat ∧ b.rd TMU.TIME_OFFSET_LO = (match a.tmu.offsetLo with | some l => l % 2 ^ 32 | none => a.rd TMU.TIME_OFFSET_LO) ∧ b.tmu.offsetLo = none ∧ Counts 0x004 0x840 1 a b ∧
        Kept [TMU.TIME_OFFSET_LO, TMU.TIME_OFFSET_HI] [(0x004, 0x840), (0x004, 0x850), (0x004, 0x860)] a b ∧
        ∀ o : Fin 4, a.on (TMU.PO_EN o.val) = true → a.on (TMU.TIMEBASE o.val) = true → 0 < a.rd (TMU.PERIOD_NS o.val) → b.pulseNow o.val a.now ≤ b.pulseAt o.val (Tbl.getD b.tmu.pulseN o.val 0)))) ∧
  (∀ t (o : Fin 4) s, s.inReset = false → let E := TMU.PO_EN o.val
    (∀ m v, Makes (.poEn t m o v) s t (fun a b => let on := a.on E = true; let long := a.rd (TMU.PERIOD_NS o.val) ≤ a.rd (TMU.WIDTH_NS o.val); let soon := a.pulseNow o.val a.now + 1000
      (m = .pf1 → Refused 0x004 a b) ∧ (m ≠ .pf1 → v = false → b.on E = false ∧ Only [E] [] a b) ∧ (m ≠ .pf1 → v = true → on → b = a) ∧ (m ≠ .pf1 → v = true → ¬ on → long → Refused 0x004 a b) ∧
      (m ≠ .pf1 → v = true → ¬ on → ¬ long → b.on E = true ∧ Kept [E] [(0x004, 0x858)] a b ∧ ∃ n, Tbl.get? b.tmu.pulseN o.val = some n ∧ soon ≤ a.pulseAt o.val n ∧ (∀ k, k < n → a.pulseAt o.val k < soon) ∧
        (0 < n → Counts 0x004 0x858 1 a b)))) ∧
    Makes (.pulseOutput t o) s t (fun a b => let n := Tbl.getD a.tmu.pulseN o.val 0
      if a.on E = true ∧ a.running = true ∧ a.pulseAt o.val n ≤ a.pulseNow o.val a.now then
        b.core.out = a.core.out ++ [.pulse o.val (a.pulseTime o.val n) (a.rd (TMU.WIDTH_NS o.val)) (a.on (TMU.PO_ACTIVE_LOW o.val))] ∧ Tbl.get? b.tmu.pulseN o.val = some (n + 1) ∧ Counts 0x004 0x850 1 a b ∧ Kept [] [(0x004, 0x850)] a b else b = a)) ∧
  ∀ t s, s.inReset = false →
    Makes (.holdoverEntry t) s t (fun a b => let stays := a.on TMU.HOLDOVER = true ∨ a.running = false ∨ a.sourceLost a.now = false
      (stays → b = a) ∧ (¬ stays → b.on TMU.HOLDOVER = true ∧ b.rd TMU.PHASE_ADJ_NS = 0 ∧ b.freqApplied = clampInt (-freqMax) freqMax (a.freqMean a.now) ∧ b.tmu.holdAt = some a.now ∧ Counts 0x004 0x838 1 a b ∧
        Kept [TMU.HOLDOVER, TMU.PHASE_ADJ_NS, TMU.FREQ_APPLIED] [(0x004, 0x838)] a b)) ∧
    (∀ diff : Int, Makes (.timeExchange t diff) s t (fun a b => (a.on MRU.SP_UP = false → b = a) ∧
      (a.on MRU.SP_UP = true → b.on MRU.PARTNER_PRESENT = true ∧ b.mru.heard = a.now ∧ (a.follows = false → Only [MRU.PARTNER_PRESENT] [] { a with mru := b.mru } b) ∧
        (a.follows = true → b.rd TMU.PAIR_DIFF_NS = sat16 diff ∧ b.on TMU.HOLDOVER = false ∧ b.tmu.following = true ∧ Kept [MRU.PARTNER_PRESENT, TMU.PAIR_DIFF_NS, TMU.HOLDOVER, TMU.FREQ_APPLIED] [] a b ∧
          (b.rd TMU.FREQ_APPLIED ≠ a.rd TMU.FREQ_APPLIED → -freqMax ≤ b.freqApplied ∧ b.freqApplied ≤ freqMax))))) ∧
    ∀ ok, Makes (.timeReferenceChange t ok) s t (fun a b => b.on TMU.REF_OK = ok ∧ Only [TMU.REF_OK] [(0x004, 0x868)] a b ∧
      if a.on TMU.REF_OK = true ∧ ok = false then Counts 0x004 0x868 1 a b else b.ctr 0x004 0x868 = a.ctr 0x004 0x868)

/-- FRAME_BOUNDARY, while device time runs, samples every queue, counts a frame with a stalled completion ring, and on a streaming device writes the
epoch of the frame before to the log, keeps the last LOG_EPOCHS of them, and starts a resync where one was asked for or the log is overtaken, an
acknowledgement of that instant taken first. EPOCH_MARKER_SEND sends the live epoch's marker, with at most 12.5 MB of epoch, and then replays or ends
a base. EPOCH_ACK_RECEIVE moves EPOCH_ACKED forward only, to an epoch written. REWIND starts a replay from an epoch still in the log and else asks for
a base, as RESYNC_REQUEST does. A device that does not stream or has no Soundpost ignores the last four. -/
def Obligations.EpochsStream : Prop :=
  (∀ t cs qs ack s, s.inReset = false → Makes (.frameBoundary t cs qs ack) s t (fun a b => let w := a.frame - 1; let n := a.rd MRU.LOG_EPOCHS
    (a.running = false → b = a) ∧
    (a.running = true → (∀ i, b.queue? i = (a.queue? i).map (fun q => { q with sample := q.cells, delayMax := q.delayRun, delayRun := 0 })) ∧
      (if a.svc.cqFullFrame = true then Counts 0x001 0x930 1 a b else b.ctr 0x001 0x930 = a.ctr 0x001 0x930) ∧ b.mru.change = 0 ∧ b.mru.deferred = [] ∧
      b.fret = a.fret ∧ b.pkt = a.pkt ∧ b.rng = a.rng ∧ b.cells.mem = a.cells.mem ∧ b.svc.cmds = a.svc.cmds ∧ b.svc.chans = a.svc.chans ∧
      (a.rd MRU.ROLE = 1 ∨ a.rd MRU.ROLE = 3 → b.mru.prev = a.tables) ∧
      (a.streaming = false → b.mru.log = a.mru.log ∧ b.mru.written = a.mru.written) ∧
      (a.streaming = true → let behind := n + max a.rewindMark (match ack with | some k => k + 1 | none => 0) ≤ w ∧ a.mru.baseAsked = false
        b.mru.written = w ∧ b.mru.toSend = some w ∧ b.mru.zeroized = false ∧
        (a.mru.logCells = 0 → b.mru.log = []) ∧ (a.mru.logCells ≠ 0 → (∃ e, Tbl.get? b.mru.log w = some e ∧ e.num = w ∧ e.compat = a.on MRU.COMPAT ∧ e.courses = deltaOf a.mru.prev.courses a.trees.courses) ∧
          ∀ k e, k ≠ w → Tbl.get? b.mru.log k = some e → w < k + n) ∧
        (a.mru.baseAsked = true ∨ behind → b.on MRU.RESYNC = true ∧ b.mru.base = some w ∧ b.mru.baseAsked = false ∧ b.mru.replay = none) ∧
        (behind → Counts 0x005 0x840 1 a b) ∧ (a.mru.baseAsked = false → ¬ behind → b.mru.base = a.mru.base ∧ b.rd MRU.RESYNC = a.rd MRU.RESYNC))))) ∧
  (∀ t bytes n base s, s.inReset = false → Makes (.epochMarkerSend t bytes n base) s t (fun a b => let idle := a.streaming = false ∨ a.on MRU.SP_UP = false
    let live := match a.mru.toSend with | some w => [Out.soundpost spEpoch w] | none => []
    (idle → b = a) ∧
    (¬ idle → b.mru.toSend = none ∧ (∀ w, a.mru.toSend = some w → b.rd MRU.EPOCH_SENT = w % 2 ^ 32 ∧ b.rd MRU.LAST_EPOCH_BYTES = min bytes.val 12500000 ∧ Counts 0x005 0x810 1 a b) ∧
      (a.on MRU.RESYNC = true → ∀ kib : Word32, base = some kib → b.on MRU.RESYNC = false ∧ b.rd MRU.BASE_KIB = kib.toNat ∧ Counts 0x005 0x848 1 a b ∧
        b.core.out = a.core.out ++ live ++ [.soundpost spBase (a.mru.base.getD 0)]) ∧
      (a.on MRU.RESYNC = true → base = none → b.core.out = a.core.out ++ live ∧ b.on MRU.RESYNC = true) ∧
      (a.on MRU.RESYNC = false → b.on MRU.REPLAYING = b.mru.replay.isSome ∧ (a.mru.replay = none → b.core.out = a.core.out ++ live) ∧
        ∀ e, a.mru.replay = some e → ∃ k, k ≤ n ∧ (k = 0 ∨ e + k ≤ a.mru.written + 1) ∧ b.core.out = a.core.out ++ live ++ (List.range k).map (fun i => .soundpost spReplay (e + i)) ∧
          b.ctr 0x005 0x838 % 2 ^ 64 = (a.ctr 0x005 0x838 + k) % 2 ^ 64)) ∧
    b.cells = a.cells ∧ b.svc = a.svc ∧ b.fret = a.fret)) ∧
  ∀ t s, s.inReset = false → let idle (a : Device) := a.streaming = false ∨ a.on MRU.SP_UP = false; let heard (a b : Device) := b.on MRU.PARTNER_PRESENT = true ∧ b.mru.heard = a.now
    let only (a b : Device) := b = { a with regs := b.regs, ctrs := b.ctrs, mru := b.mru }
    (∀ k, Makes (.epochAckReceive t k) s t (fun a b => (idle a → b = a) ∧ (¬ idle a → heard a b ∧ only a b ∧ b.ctrs = a.ctrs ∧
      (if a.mru.acked < k ∧ k ≤ a.mru.written then b.mru.acked = k ∧ b.mru.posted = max a.mru.posted k ∧ b.rd MRU.EPOCH_ACKED = k % 2 ^ 32
        else b.mru.acked = a.mru.acked ∧ b.mru.posted = a.mru.posted ∧ b.rd MRU.EPOCH_ACKED = a.rd MRU.EPOCH_ACKED)))) ∧
    (∀ e, Makes (.rewind t e) s t (fun a b => let next := match a.mru.toSend with | some w => w | none => a.mru.written + 1
      (idle a → b = a) ∧ (¬ idle a → heard a b ∧ only a b ∧ Counts 0x005 0x830 1 a b ∧
        (a.on MRU.RESYNC = true ∨ next ≤ e → b.mru.replay = a.mru.replay ∧ b.mru.baseAsked = a.mru.baseAsked) ∧
        (a.on MRU.RESYNC = false → e < next → (Tbl.get? a.mru.log e = none → b.mru.baseAsked = true ∧ b.mru.replay = a.mru.replay) ∧
          (Tbl.get? a.mru.log e ≠ none → b.on MRU.REPLAYING = true ∧ b.mru.replay = some (match a.mru.replay with | some r => min r e | none => e)))))) ∧
    Makes (.resyncRequest t) s t (fun a b => (idle a → b = a) ∧ (¬ idle a → heard a b ∧ only a b ∧ b.mru.baseAsked = true ∧ b.ctrs = a.ctrs))

/-- EPOCH_COMMIT applies an epoch only where the marker is good, the epoch before it was applied, and it is in time or replayed: then its changed entries
are taken, it is acknowledged and counted; else nothing is taken. EPOCH_DEADLINE counts a missed epoch once and asks for it. BASE_MARKER_RECEIVE of a
good base replaces every mirrored table and asks for the epoch after it; of a bad one asks again. A resync required makes a standby overtaken. A
device that is not a mirroring standby with Soundpost ignores them. -/
def Obligations.StandbyApplies : Prop :=
  (∀ t e whole replay s, s.inReset = false → Makes (.epochCommit t e whole replay) s t (fun a b => let idle := a.rd MRU.ROLE ≠ 2 ∨ a.on MRU.MIRROR_EN = false ∨ a.on MRU.SP_UP = false
    let may := whole = true ∧ a.mru.applied = some (e.num - 1) ∧ 0 < e.num ∧ (replay = true ∨ a.now ≤ (e.num + 1) * 125000 + 120000)
    (idle → b = a) ∧ (¬ idle → b.on MRU.PARTNER_PRESENT = true ∧ b.mru.heard = a.now ∧
      (¬ may → Only [MRU.PARTNER_PRESENT] [] { a with mru := b.mru } b ∧ b.mru.applied = a.mru.applied) ∧
      (may → b.mru.applied = some e.num ∧ b.rd MRU.EPOCH_APPLIED = e.num % 2 ^ 32 ∧ Counts 0x005 0x818 1 a b ∧ b.core.out = a.core.out ++ [.soundpost spAck e.num] ∧
        b.trees.courses = applyDelta a.trees.courses e.courses ∧ b.fret.allocs = applyDelta a.fret.allocs e.allocs ∧ b.rng.terms = applyDelta a.rng.terms e.terms ∧
        b.svc.chans = applyDelta a.svc.chans e.chans ∧ b.pkt.exact = applyDelta a.pkt.exact e.exact ∧ b.traffic.nodes = applyDelta a.traffic.nodes e.nodes ∧
        b.cells.queues = applyDelta a.cells.queues e.queues ∧ b.gens = applyDelta a.gens e.gens ∧ b.mru.hdrCompat = e.compat ∧
        (e.zeroize = false → b.svc.keys = applyDelta a.svc.keys e.keys ∧ b.pkt.pkts = a.pkt.pkts) ∧ (e.zeroize = true → Counts 0x1B4 0x878 1 a b ∧ Counts 0x1B4 0x8A8 1 a b) ∧
        b.cells.mem = a.cells.mem ∧ b.svc.cmds = a.svc.cmds)))) ∧
  (∀ t k s, s.inReset = false → Makes (.epochDeadline t k) s t (fun a b => let done := ∃ x, a.mru.applied = some x ∧ k ≤ x
    let idle := a.rd MRU.ROLE ≠ 2 ∨ a.on MRU.MIRROR_EN = false ∨ a.now ≤ (k + 1) * 125000 + 120000 ∨ done ∨ k < a.mru.since ∨ k < a.mru.judged
    (idle → b = a) ∧ (¬ idle → b.mru = { a.mru with judged := k + 1, overtaken := a.mru.overtaken || decide (a.mru.hdrLog ≤ a.lag) } ∧ Counts 0x005 0x820 1 a b ∧
      b.core.out = a.core.out ++ (if a.on MRU.SP_UP = true then [.soundpost spRewind k] else []) ∧ b.regs = a.regs ∧ b.cells = a.cells ∧ b.svc = a.svc))) ∧
  (∀ t k x good s, s.inReset = false → Makes (.baseMarkerReceive t k x good) s t (fun a b => let idle := a.rd MRU.ROLE ≠ 2 ∨ a.on MRU.MIRROR_EN = false ∨ a.on MRU.SP_UP = false
    (idle → b = a) ∧ (¬ idle → b.on MRU.PARTNER_PRESENT = true ∧ (good = false → b.core.out = a.core.out ++ [.soundpost spResyncRequest 0] ∧ b.mru.applied = a.mru.applied ∧ b.ctrs = a.ctrs ∧ b.cells = a.cells) ∧
      (good = true → b.mru.applied = some k ∧ b.rd MRU.EPOCH_APPLIED = k % 2 ^ 32 ∧ .soundpost spRewind (k + 1) ∈ b.core.out ∧ b.trees.courses = x.courses ∧ b.fret.allocs = x.allocs ∧ b.rng.terms = x.terms ∧
        b.svc.keys = x.keys ∧ b.svc.chans = x.chans ∧ b.pkt.exact = x.exact ∧ b.pkt.ternary = x.ternary ∧ b.pkt.actions = x.actions ∧ b.pkt.domains = x.domains ∧ b.traffic.nodes = x.nodes ∧
        b.traffic.gates = x.gates ∧ b.cells.queues = x.queues ∧ b.gens = x.gens)))) ∧
  ∀ t good required x s, s.inReset = false → Makes (.soundpostRecordReceive t good required x) s t (fun a b =>
    (a.on MRU.SP_UP = false → b = a) ∧ (a.on MRU.SP_UP = true → (good = false → Counts 0x005 0x828 1 a b ∧ Only [] [(0x005, 0x828)] a b) ∧
      (good = true → b.on MRU.PARTNER_PRESENT = true ∧ b.mru.heard = a.now ∧ (x = none → b = { a with regs := b.regs, mru := b.mru } ∧ Kept [MRU.PARTNER_PRESENT, MRU.RESYNC] [] a b ∧
        if required = true ∧ a.rd MRU.ROLE = 2 then b.mru.overtaken = true ∧ b.mru.resynced = false ∧ b.on MRU.RESYNC = true else b.mru.overtaken = a.mru.overtaken))))

/-- CAPO_RENEWAL of a holder with a pair extends the lease by LEASE_FRAMES and shows the renewal; where it was released, is forced to fence or cannot
be heard, it renews no more and the fence is set at lease end minus margin. FENCE_EGRESS_STOP fences a holder 1 us before that. Every message of the
lease reads back from its 64 bits whole, and a pin message that is not good is counted. A good renewal makes a device without the Capo a standby with
the lease's end; a holder of side 1 that receives one is fenced. CAPO_TAKEOVER does nothing before lease end plus margin, nor at that instant beside a
renewal stamped then; else it takes the Capo where the device is READY with AUTO_TAKEOVER, and otherwise blocks and counts. -/
def Obligations.LeaseHolds : Prop :=
  (∀ t bad s, s.inReset = false → Makes (.capoRenewal t bad) s t (fun a b => let k := a.frame; let lost := a.mru.releasing = true ∨ (a.on MRU.FORCE_FENCE = true ∧ a.on MRU.RELEASE = false)
    let sent := b.mru.pinFault = bad ∧ (bad = true → Counts 0x005 0x878 1 a b); let idle := a.rd MRU.ROLE ≠ 1 ∨ a.mru.fenceAt ≠ none
    let missed (x : Nat) := b.mru.fenceAt = some x ∧ (x ≤ a.now + 1000 → b.rd MRU.ROLE = 3 ∧ b.capo = false ∧ Counts 0x005 0x880 1 a b) ∧ (a.now + 1000 < x → b.rd MRU.ROLE = 1 ∧ b.rd MRU.CAPO = a.rd MRU.CAPO)
    let fence := match a.mru.end_ with | some e => e - a.mru.margin * 125000 | none => a.now
    b.cells = a.cells ∧ b.svc = a.svc ∧ b.fret = a.fret ∧
    (a.on MRU.CLAIMING = true → sent ∧ Sends bad a b 2 k false false false ∧ b.regs = a.regs) ∧
    (a.on MRU.CLAIMING = false → (idle → b = a) ∧
      (¬ idle → a.on MRU.PAIR_EN = false → (a.on MRU.FORCE_FENCE = false → b = a) ∧ (a.on MRU.FORCE_FENCE = true → missed a.now)) ∧
      (¬ idle → a.on MRU.PAIR_EN = true → (lost → missed fence) ∧ (¬ lost → sent ∧ (bad = true → a.on MRU.SP_UP = false → missed fence) ∧
        (bad = false ∨ a.on MRU.SP_UP = true → let e := k + a.rdA MRU.LEASE_FRAMES
          b.rd MRU.LEASE_END_FRAME = e % 2 ^ 32 ∧ b.on MRU.RELEASE = false ∧ Counts 0x005 0x860 1 a b ∧ b.mru.end_ = some (e * 125000 + 5000) ∧ b.mru.margin = a.rdA MRU.MARGIN_FRAMES ∧
          b.mru.releasing = a.on MRU.RELEASE ∧ b.mru.fenceAt = none ∧ b.rd MRU.ROLE = 1 ∧ ∃ u, (a.on MRU.COMPAT = false → u = false) ∧ Sends bad a b 0 e (a.on MRU.RELEASE) false u)))))) ∧
  (∀ t s, s.inReset = false →
    Makes (.fenceEgressStop t) s t (fun a b => (a.mru.fenceAt = none → b = a) ∧ ∀ x, a.mru.fenceAt = some x → (a.now + 1000 < x ∨ a.rd MRU.ROLE ≠ 1 → b = a) ∧
      (x ≤ a.now + 1000 → a.rd MRU.ROLE = 1 → b.rd MRU.ROLE = 3 ∧ b.capo = false ∧ Counts 0x005 0x880 1 a b ∧ Only [MRU.ROLE, MRU.CAPO] [(0x005, 0x880)] a b)) ∧
    (∀ bad, Makes (.beacon t bad) s t (fun a b => (a.on MRU.PAIR_EN = false ∨ a.rd MRU.ROLE = 1 → b = a) ∧
      (a.on MRU.PAIR_EN = true → a.rd MRU.ROLE ≠ 1 → Sends bad a b 1 (a.mru.applied.getD 0) false a.ready false ∧ b.mru.pinFault = bad ∧ (bad = true → Counts 0x005 0x878 1 a b) ∧ b.regs = a.regs))) ∧
    Makes (.partnerAbsent t) s t (fun a b => if a.on MRU.PARTNER_PRESENT = true ∧ a.mru.heard + a.rdA MRU.LEASE_FRAMES * 125000 < a.now then b.on MRU.PARTNER_PRESENT = false ∧ Only [MRU.PARTNER_PRESENT] [] a b else b = a)) ∧
  (∀ x : PairMsg, x.kind < 16 → x.lease < 16 → x.margin < 8 → x.frame < 2 ^ 32 → leaseGood (PairMsg.word x) = true ∧ leaseFields (PairMsg.word x) = x) ∧
  (∀ t s, s.inReset = false → let fresh (x : PairMsg) (a : Device) := a.mru.lastRenewal ≠ some (x.frame, x.lease)
    let renewed (x : PairMsg) (a b : Device) := (a.on MRU.PAIR_EN = false → b.rd MRU.ROLE = a.rd MRU.ROLE ∧ b.mru.end_ = a.mru.end_) ∧
      (a.on MRU.PAIR_EN = true → b.mru.lastRenewal = some (x.frame, x.lease) ∧
        (a.rd MRU.ROLE = 1 → (fresh x a → Counts 0x005 0x898 1 a b) ∧ (a.on MRU.PAIR_SIDE = true → b.rd MRU.ROLE = 3 ∧ b.capo = false ∧ ∀ c, (b.cfr c).sending = false) ∧ (a.on MRU.PAIR_SIDE = false → b.rd MRU.ROLE = 1)) ∧
        (a.rd MRU.ROLE ≠ 1 → (fresh x a → Counts 0x005 0x868 1 a b) ∧ b.rd MRU.ROLE = 2 ∧ b.mru.end_ = some (a.fullFrame x.frame * 125000 + 5000) ∧ b.mru.margin = x.margin ∧ b.mru.releaseSeen = x.release ∧
          b.mru.blocked = false ∧ b.rd MRU.LEASE_END_FRAME = x.frame % 2 ^ 32 ∧ (a.rd MRU.ROLE ≠ 2 → b.capo = false ∧ b.mru.applied = none ∧ b.mru.fenceAt = none ∧ b.mru.resynced = false)))
    let heard (pins : Bool) (a b : Device) := b.on MRU.PARTNER_PRESENT = true ∧ b.mru.heard = a.now ∧ (pins = true → b.mru.heardPins = some a.now) ∧ b.cells = a.cells ∧ b.fret = a.fret
    (∀ x pins, Makes (.renewalReceive t pins x) s t (fun a b => (pins = false → a.on MRU.SP_UP = false → b = a) ∧ (pins = true ∨ a.on MRU.SP_UP = true → heard pins a b ∧ renewed x a b))) ∧
    ∀ w : BitVec 64, let x := leaseFields w.toNat; let good := leaseGood w.toNat; Makes (.pinMessageReceive t w) s t (fun a b => (good = false ∨ 2 < x.kind → Counts 0x005 0x870 1 a b ∧ Only [] [(0x005, 0x870)] a b) ∧
      (good = true → x.kind ≤ 2 → heard true a b ∧ (x.kind = 0 → renewed x a b) ∧ (x.kind = 1 → b.on MRU.PARTNER_READY = x.ready ∧ b.ctrs = a.ctrs) ∧
        (x.kind = 2 → let stops := a.on MRU.CLAIMING = true ∧ (x.side = a.on MRU.PAIR_SIDE ∨ (a.on MRU.PAIR_SIDE = true ∧ x.side = false))
          (stops → b.on MRU.CLAIM = false ∧ b.on MRU.CLAIMING = false ∧ b.mru.claimEnd = none ∧ Counts 0x005 0x8A0 1 a b) ∧ (¬ stops → b.rd MRU.CLAIMING = a.rd MRU.CLAIMING ∧ b.ctrs = a.ctrs))))) ∧
  ∀ t ds acted s, s.inReset = false → Makes (.capoTakeover t ds acted) s t (fun a b => (a.mru.end_ = none → b = a) ∧
    ∀ e, a.mru.end_ = some e → let idle := a.rd MRU.ROLE ≠ 2 ∨ a.now < e + a.mru.margin * 125000 ∨ (acted = true ∧ a.now = e + a.mru.margin * 125000) ∨ a.mru.blocked = true; let may := a.ready = true ∧ a.on MRU.AUTO_TAKEOVER = true
      (idle → b = a) ∧ (¬ idle → ¬ may → b = { a with ctrs := b.ctrs, mru := { a.mru with blocked := true } } ∧ Counts 0x005 0x890 1 a b ∧ Kept [] [(0x005, 0x890)] a b) ∧
      (¬ idle → may → b.capo = true ∧ b.rd MRU.ROLE = 1 ∧ b.era = a.era + 1 ∧ b.fret.took = true ∧ b.mru.fenceAt = none ∧ b.mru.releasing = false ∧
        ((∀ p ∈ a.mru.sweptCtrs ++ a.mru.genCtrs, p.1 / 0x1000 ≠ 0x005) → Counts 0x005 0x888 1 a b)))

/-- CLAIM 1 starts a claim of an IDLE device of a pair, or of any device without a pair that does not hold the Capo; else it is counted. CLAIM_END
takes the Capo once its frames have run. COLD_START of the holder is refused; else the device is IDLE with empty tables. RELEASE 1 is taken only of a
holder that renews and whose partner is ready; else counted. MIRROR_EN 1 of the holder needs a pool for the log, whose cells it takes; 0 ends the
mirror and frees them. Soundpost comes up only under MIRROR_EN. PF1 is refused, and a write of CLAIM, COLD_START or RELEASE in the window of a
hardware update of the field is lost. -/
def Obligations.CapoMoves : Prop :=
  (∀ t m v s, s.inReset = false →
    (∀ hw, Makes (.claim t m v hw) s t (fun a b => (m ≠ .pf1 → hw = true → Lost 0x005 a b) ∧ (hw = false ∨ m = .pf1 → let none_ := v = false ∨ a.on MRU.CLAIM = true; let alone := a.on MRU.PAIR_EN = false ∧ a.rd MRU.ROLE ≠ 1
      (m = .pf1 → Refused 0x005 a b) ∧ (m ≠ .pf1 → none_ → b = a) ∧
      (m ≠ .pf1 → ¬ none_ → alone → b.on MRU.CLAIM = true ∧ b.mru = { a.mru with claimEnd := some (a.frame + 1) } ∧ Kept [MRU.CLAIM] [] a b) ∧
      (m ≠ .pf1 → ¬ none_ → ¬ alone → a.rd MRU.ROLE = 0 → b.on MRU.CLAIM = true ∧ b.on MRU.CLAIMING = true ∧ Kept [MRU.CLAIM, MRU.CLAIMING] [] a b ∧
        b.mru = { a.mru with claimEnd := some ((if a.now % 125000 ≤ 5000 then a.frame else a.frame + 1) + a.rdA MRU.LEASE_FRAMES + a.rdA MRU.MARGIN_FRAMES) }) ∧
      (m ≠ .pf1 → ¬ none_ → ¬ alone → a.rd MRU.ROLE ≠ 0 → Counts 0x005 0x8A0 1 a b ∧ Only [] [(0x005, 0x8A0)] a b)))) ∧
    (∀ hw, Makes (.coldStart t m v hw) s t (fun a b => (m ≠ .pf1 → hw = true → Lost 0x005 a b) ∧ (hw = false ∨ m = .pf1 →
      (m = .pf1 → Refused 0x005 a b) ∧ (m ≠ .pf1 → v = false → b = a) ∧ (m ≠ .pf1 → v = true → a.capo = true → Refused 0x005 a b) ∧
      (m ≠ .pf1 → v = true → a.capo = false → b.rd MRU.ROLE = 0 ∧ b.on MRU.RESYNC = false ∧ b.mru.end_ = none ∧ b.mru.applied = none ∧ b.mru.fenceAt = none ∧ b.trees.courses = [] ∧ b.fret.allocs = [] ∧
        b.fret.slots = [] ∧ b.rng.terms = [] ∧ b.svc.keys = [] ∧ b.svc.chans = [] ∧ b.cells.queues = [] ∧ b.cells.pools = [] ∧ b.traffic.nodes = [] ∧ b.traffic.gates = [] ∧ b.pkt.exact = [] ∧ b.gens = [])))) ∧
    (∀ hw, Makes (.release t m v hw) s t (fun a b => (m ≠ .pf1 → hw = true → Lost 0x005 a b) ∧ (hw = false ∨ m = .pf1 →
      let may := a.rd MRU.ROLE = 1 ∧ a.on MRU.PAIR_EN = true ∧ a.on MRU.PARTNER_READY = true ∧ a.mru.fenceAt = none ∧ a.mru.releasing = false
      (m = .pf1 → Refused 0x005 a b) ∧ (m ≠ .pf1 → v = false → b = a) ∧ (m ≠ .pf1 → v = true → may → b.on MRU.RELEASE = true ∧ Only [MRU.RELEASE] [] a b) ∧
      (m ≠ .pf1 → v = true → ¬ may → Counts 0x005 0x8A8 1 a b ∧ Only [] [(0x005, 0x8A8)] a b)))) ∧
    Makes (.forceFence t m v) s t (fun a b => (m = .pf1 → Refused 0x005 a b) ∧ (m ≠ .pf1 → b.on MRU.FORCE_FENCE = v ∧ Only [MRU.FORCE_FENCE] [] a b)) ∧
    Makes (.mirrorEn t m v) s t (fun a b =>
      (m = .pf1 → Refused 0x005 a b) ∧ (m ≠ .pf1 → v = a.on MRU.MIRROR_EN → b = a) ∧
      (m ≠ .pf1 → v = true → a.on MRU.MIRROR_EN = false → (a.capo = false → b.on MRU.MIRROR_EN = true ∧ Only [MRU.MIRROR_EN] [] a b) ∧ (a.capo = true → a.logPool = none → Refused 0x005 a b) ∧
        ∀ i p, a.capo = true → a.logPool = some i → a.pool? i = some p → let n := a.rd MRU.LOG_EPOCHS * 50816
          b.on MRU.MIRROR_EN = true ∧ b.mru.logCells = n ∧ b.pool? i = some { p with held := p.held + n } ∧ b.cells.used = (a.cells.used.1, a.cells.used.2 + n) ∧ Kept [MRU.MIRROR_EN] [] a b) ∧
      (m ≠ .pf1 → v = false → a.on MRU.MIRROR_EN = true → b.on MRU.MIRROR_EN = false ∧ b.on MRU.SP_UP = false ∧ b.on MRU.RESYNC = false ∧ b.on MRU.REPLAYING = false ∧ b.mru.log = [] ∧ b.mru.logCells = 0 ∧
        b.cells.used = (a.cells.used.1, a.cells.used.2 - a.mru.logCells) ∧ Kept [MRU.MIRROR_EN, MRU.SP_UP, MRU.RESYNC, MRU.REPLAYING] [] a b))) ∧
  ∀ t s, s.inReset = false →
    Makes (.claimEnd t) s t (fun a b => (a.mru.claimEnd = none → b = a) ∧ ∀ f, a.mru.claimEnd = some f → (a.now < f * 125000 → b = a) ∧
      (f * 125000 ≤ a.now → b.capo = true ∧ b.rd MRU.ROLE = 1 ∧ b.on MRU.CLAIM = false ∧ b.on MRU.CLAIMING = false ∧ b.mru.claimEnd = none ∧ b.mru.fenceAt = none ∧ Counts 0x005 0x888 1 a b ∧
        b.svc = a.svc ∧ b.fret = a.fret ∧ b.rng = a.rng ∧ b.cells.mem = a.cells.mem)) ∧
    Makes (.soundpostTrainingComplete t) s t (fun a b => (a.on MRU.MIRROR_EN = false → b = a) ∧ (a.on MRU.MIRROR_EN = true → b.on MRU.SP_UP = true ∧ Only [MRU.SP_UP] [] a b)) ∧
    Makes (.soundpostLinkDown t) s t (fun a b => b.on MRU.SP_UP = false ∧ Only [MRU.SP_UP] [] a b)

/-- BOOT tries the image of the higher version first, then the other: the first that passes runs, measured, else the boot fails with both codes.
ATTEST_GO takes the next leaf of the held block or burns a new block's bit, or ends as refused or exhausted; while busy it is locked. A debug request
with a token under an active root and within policy raises the level, erases every key and opens debug; every request renews the challenge. REVOKE_GO
and SVN_GO belong to the keeper and are counted where they may not be. Each of these writes is lost in the window of a hardware update of its field. A
burn that reads back 1 takes effect; one that reads 0 is tried once more, then counted. -/
def Obligations.TrustHolds : Prop :=
  (∀ t x y s, s.inReset = false → Makes (.boot t x y) s t (fun a b => let yFirst := Image.version x < Image.version y; let ex := a.bootCheck x; let ey := a.bootCheck y
    let runs (slot : Nat) (z : Image) := b.rd SEC.BOOT_STATE = 2 ∧ b.rd SEC.BOOT_SLOT = slot ∧ b.rd SEC.IMAGE_VERSION = Image.word z 2 ∧ b.rd SEC.IMAGE_SVN = Image.word z 3 ∧ b.rd SEC.ROOT_SLOT_USED = Image.word z 4 ∧
      (a.sec.meas.length = 8 → b.sec.meas.getD 1 [] = sha256 (a.sec.meas.getD 1 [] ++ sha256 (Image.header z))) ∧ b.sec.sections.length = Image.sections z
    b = { a with regs := b.regs, sec := b.sec } ∧ b.ctrs = a.ctrs ∧ (a.rd SEC.BOOT_STATE ≠ 0 → b = a) ∧
    (a.rd SEC.BOOT_STATE = 0 → (ex = 0 → (ey ≠ 0 ∨ ¬ yFirst) → runs 0 x) ∧ (ey = 0 → (ex ≠ 0 ∨ yFirst) → runs 1 y) ∧
      (ex ≠ 0 → (ey ≠ 0 ∨ ¬ yFirst) → b.rd SEC.BOOT_ERROR_A = ex) ∧ (ey ≠ 0 → (ex ≠ 0 ∨ yFirst) → b.rd SEC.BOOT_ERROR_B = ey) ∧ (ex ≠ 0 → ey ≠ 0 → b.rd SEC.BOOT_STATE = 3 ∧ b.sec = a.sec)))) ∧
  (∀ t m v hw s, s.inReset = false → Makes (.attestGo t m v hw) s t (fun a b => (m ≠ .pf1 → hw = true → Lost 0x002 a b) ∧ (hw = false ∨ m = .pf1 → let ends (st : Nat) := b.on SEC.ATTEST_BUSY = false ∧ b.rd SEC.ATTEST_STATUS = st ∧ b.on SEC.ATTEST_GO = false ∧ b.sec.burns = a.sec.burns
    let held := ∃ k, a.sec.held = some k ∧ a.sec.next < 1024 * (k + 1); let busy := a.on SEC.ATTEST_BUSY = true
    (m = .pf1 → Refused 0x002 a b) ∧ (m ≠ .pf1 → busy → Locked 0x002 a b) ∧ (m ≠ .pf1 → ¬ busy → v = false → b = a) ∧
    (m ≠ .pf1 → ¬ busy → v = true → b.fuses = a.fuses ∧ b.cells = a.cells ∧ (a.rd SEC.DEBUG_LEVEL = 2 → ends 3) ∧
      (a.rd SEC.DEBUG_LEVEL ≠ 2 → held → b.on SEC.ATTEST_BUSY = true ∧ b.sec = { a.sec with signing := some a.sec.next, next := a.sec.next + 1 }) ∧
      (a.rd SEC.DEBUG_LEVEL ≠ 2 → ¬ held → (∀ i, a.freeBlock 0 = some i → i ∉ a.fuses.leaf ∧ i < 1024 ∧ b.on SEC.ATTEST_BUSY = true ∧ b.sec = { a.sec with burns := a.sec.burns ++ [.leaf i false] }) ∧ (a.freeBlock 0 = none → ends 2)))))) ∧
  (∀ t s, s.inReset = false → Makes (.attestReportReady t) s t (fun a b => (a.sec.signing = none → b = a) ∧ ∀ leaf, a.sec.signing = some leaf → let body := a.reportBody leaf
    b.sec = { a.sec with signing := none, report := body ++ (List.range 1269).map (fun i => wordAt (Config.sign a.fuses.uds leaf body) i % 2 ^ 32) } ∧ Counts 0x002 0x810 1 a b ∧
    b.rd SEC.ATTEST_STATUS = 1 ∧ b.on SEC.ATTEST_BUSY = false ∧ Only [SEC.ATTEST_GO, SEC.ATTEST_BUSY, SEC.ATTEST_STATUS] [(0x002, 0x810)] { a with sec := b.sec } b)) ∧
  (∀ t m v (l : Fin 4) hw s, s.inReset = false → Makes (.debugGo t m v l hw) s t (fun a b => (m ≠ .pf1 → hw = true → Lost 0x002 a b) ∧ (hw = false ∨ m = .pf1 → let token := (List.range 2048).map (fun i => Tbl.getD a.sec.input i 0)
    let msg := wordBytes a.challenge ++ toBytesLE 8 a.fuses.serial ++ [l.val]; let good := (∃ i, i < 3 ∧ a.fuses.rootState.getD i 0 = 1 ∧ Config.verifyToken (a.fuses.rootHash.getD i []) msg token = true) ∧ l.val ≤ a.fuses.policy
    (m = .pf1 → Refused 0x002 a b) ∧ (m ≠ .pf1 → v = false → b = a) ∧
    (m ≠ .pf1 → v = true → b.sec.challenge = a.sec.challenge + 1 ∧ b.fuses = a.fuses ∧ (¬ good → Counts 0x002 0x830 1 a b ∧ Only [] [(0x002, 0x830)] { a with sec := b.sec } b ∧ b.sec = { a.sec with challenge := b.sec.challenge }) ∧
      (good → Counts 0x002 0x828 1 a b ∧ (l.val = 0 → b.regs = a.regs ∧ b.svc = a.svc) ∧
        (0 < l.val → b.on CPE.DEBUG_OPEN = true ∧ b.rd SEC.DEBUG_LEVEL = max l.val (a.rd SEC.DEBUG_LEVEL) % 4 ∧ Counts 0x1B4 0x8A0 1 a b ∧
          (∀ e ∈ b.svc.keys, e.2.st = .erased ∧ ∀ k ∈ e.2.key, k = 0) ∧ (2 ≤ l.val → b.sec.held = none ∧ b.sec.next = 0 ∧ (∀ z ∈ b.sec.sections, 0x200000 ≤ z.addr) ∧ b.on SEC.ATTEST_BUSY = false))))))) ∧
  (∀ t m v hw s, s.inReset = false →
    Makes (.revokeGo t m v hw) s t (fun a b => (m = .keeper → hw = true → Lost 0x002 a b) ∧ (hw = false ∨ m ≠ .keeper → let n := a.rd SEC.REVOKE_SLOT; let none_ := v = false ∨ a.on SEC.REVOKE_GO = true
      let bad := 3 ≤ n ∨ (∀ i, i < 3 → i ≠ n → a.fuses.rootState.getD i 0 ≠ 1) ∨ (a.rd SEC.BOOT_STATE = 2 ∧ n = a.rd SEC.ROOT_SLOT_USED)
      (m ≠ .keeper → Refused 0x002 a b) ∧ (m = .keeper → none_ → b = a) ∧ (m = .keeper → ¬ none_ → bad → Counts 0x002 0x838 1 a b ∧ Only [] [(0x002, 0x838)] a b) ∧
      (m = .keeper → ¬ none_ → ¬ bad → (a.mayBurn = false → b = a) ∧ (a.mayBurn = true → b.on SEC.REVOKE_GO = true ∧ b.on SEC.FUSE_BUSY = true ∧ b.sec = { a.sec with burns := a.sec.burns ++ [.revoke n false] } ∧ b.fuses = a.fuses)))) ∧
    Makes (.svnGo t m v hw) s t (fun a b => (m = .keeper → hw = true → Lost 0x002 a b) ∧ (hw = false ∨ m ≠ .keeper → let n := a.rd SEC.SVN_RAISE_TO; let none_ := v = false ∨ a.on SEC.SVN_GO = true; let bad := a.rd SEC.IMAGE_SVN < n
      (m ≠ .keeper → Refused 0x002 a b) ∧ (m = .keeper → none_ → b = a) ∧ (m = .keeper → ¬ none_ → bad → Counts 0x002 0x838 1 a b ∧ Only [] [(0x002, 0x838)] a b) ∧
      (m = .keeper → ¬ none_ → ¬ bad → (a.mayBurn = false ∨ n ≤ a.fuses.svn → b = a) ∧
        (a.mayBurn = true → a.fuses.svn < n → b.on SEC.SVN_GO = true ∧ b.on SEC.FUSE_BUSY = true ∧ b.sec = { a.sec with burns := a.sec.burns ++ [.svn n false] } ∧ b.fuses = a.fuses))))) ∧
  ∀ t ok s, s.inReset = false → Makes (.fuseBurnComplete t ok) s t (fun a b => let f := a.fuses
    (a.sec.burns = [] ∨ a.on SEC.FUSE_BUSY = false → b = a) ∧
    ∀ x rest, a.sec.burns = x :: rest → a.on SEC.FUSE_BUSY = true → b.cells = a.cells ∧ b.svc = a.svc ∧ b.on SEC.FUSE_BUSY = decide (b.sec.burns ≠ [] ∧ a.mayBurn = true) ∧
      (ok = true → (∀ k g, x = .leaf k g → b.fuses = { f with leaf := f.leaf ++ [k] } ∧ Counts 0x002 0x818 1 a b) ∧ (∀ k g, x = .revoke k g → b.fuses = { f with rootState := f.rootState.set k 3 } ∧ b.on SEC.REVOKE_GO = false) ∧
        (∀ k g, x = .svn k g → b.fuses = { f with svn := max f.svn k } ∧ b.on SEC.SVN_GO = false) ∧ (∀ k g, x = .repair k g → b.fuses = { f with repair := f.repair ++ [k] } ∧ Counts 0x006 0x848 1 a b)) ∧
      (ok = false → b.fuses = f ∧ (a.mayBurn = false → b.sec.burns = x :: rest) ∧
        (a.mayBurn = true → (∀ y, Burn.retry x = some y → b.sec.burns = y :: rest ∧ b.ctrs = a.ctrs) ∧ (Burn.retry x = none → Counts 0x002 0x820 1 a b ∧ ∃ more, b.sec.burns = rest ++ more))))

/-- UNIT_FAILURE takes a unit in service out of it, the keeper core and a DFE slice without a spare apart, brings in its lowest unused spare, and
counts; a failed slice's FIFO is lost. SLICE_EXCHANGE at its frame, AES_LANE_EXCHANGE, REGION_COPY_START, REGION_COPY_COMPLETE and REGION_REMAP, an
approved PLL and DFE_SWAP exchange a worn unit: the tables that name it name the spare. A worn unit without a spare makes its kind EXHAUSTED, once.
ROW_REPAIR counts a row with ROW_CE_LIMIT corrected reads while a spare row is left. What the procedures do not allow changes nothing. -/
def Obligations.SparesComeIn : Prop :=
  (∀ t (k : Fin 10) u lost queues s, s.inReset = false → Makes (.unitFailure t k u lost queues) s t (fun a b => let k := k.val
    let stays := a.inService k u = false ∨ (k = 3 ∧ a.isKeeper u = true) ∨ (k = 9 ∧ a.spareFor 9 u = none); let copied := ∃ c ∈ a.spm.copies, c.kind = k ∧ c.unit = u
    (stays → b = a) ∧ b.fret = a.fret ∧ b.rng = a.rng ∧ b.svc = a.svc ∧
    (¬ stays → 1 ≤ k → b.inService k u = false ∧ (k = 1 → ∀ n ∈ a.fifo u, b.pkt? n = none) ∧
      (2 ≤ k → ¬ copied → (a.spareFor k u = none → b.spm.brought = a.spm.brought) ∧ ∀ x, a.spareFor k u = some x → Exchanged k u x a b ∧ Counts 0x006 0x818 1 a b) ∧
      (k = 1 → a.spm.exch = [] → u ∈ a.slices → (a.spareFor 1 u = none → b.slices = a.slices.filter (· ≠ u)) ∧
        ∀ x, a.spareFor 1 u = some x → Exchanged 1 u x a b ∧ Counts 0x006 0x818 1 a b ∧ b.slices = a.slices.map (fun z => if z = u then x else z))))) ∧
  (∀ t (n : Fin 36) s, s.inReset = false → Makes (.sliceExchange t n) s t (fun a b => (a.spm.exch.find? (fun x => x.slice = n.val) = none → b = a) ∧
    ∀ x, a.spm.exch.find? (fun x => x.slice = n.val) = some x → (a.now < x.frame * 125000 → b = a) ∧
      (x.frame * 125000 ≤ a.now → b.slices = a.slices.map (fun z => if z = n.val then x.spare else z) ∧ Counts 0x006 0x810 1 a b ∧ unitKey 1 n.val ∈ b.spm.retired ∧ (∀ y ∈ b.spm.exch, y.slice ≠ n.val) ∧
        b.on SPM.EXCHANGING = (!b.spm.exch.isEmpty || !b.spm.copies.isEmpty) ∧
        ∀ e : Fin 256, let f := spreadField e.val
          (a.rdA f = n.val → b.rdA f = x.spare % 2 ^ f.width ∧ b.rd f = x.spare % 2 ^ f.width) ∧ (a.rdA f ≠ n.val → b.rdA f = a.rdA f ∧ b.rd f = if a.rd f = n.val then x.spare % 2 ^ f.width else a.rd f)))) ∧
  (∀ t (l : Fin 34) s, s.inReset = false → Makes (.aesLaneExchange t l) s t (fun a b => let may := a.inService 2 l.val = true ∧ a.mayExchange 2 = true
    (¬ may → b = a) ∧ (may → (a.spareFor 2 l.val = none → Exhausts 2 l.val a b) ∧ ∀ x, a.spareFor 2 l.val = some x → Exchanged 2 l.val x a b ∧ Tbl.get? b.spm.lastExch 2 = some a.frame ∧
      ∀ e : Fin 32, let f := laneField e.val; (a.rdA f = l.val → b.rdA f = x % 2 ^ f.width) ∧ (a.rdA f ≠ l.val → b.rdA f = a.rdA f)))) ∧
  (∀ t (k : Fin 10) u s, s.inReset = false →
    Makes (.regionCopyStart t k u) s t (fun a b => let k := k.val
      let may := 4 ≤ k ∧ k ≤ 7 ∧ a.inService k u = true ∧ a.mayExchange k = true ∧ a.regionWorn k u = true ∧ ∀ c ∈ a.spm.copies, ¬ (c.kind = k ∧ c.unit = u)
      (¬ may → b = a) ∧ (may → (a.spareFor k u = none → Exhausts k u a b) ∧ ∀ x, a.spareFor k u = some x → b.spm.copies = a.spm.copies ++ [{ kind := k, unit := u, spare := x }] ∧
        b.on SPM.COPYING = true ∧ b.on SPM.EXCHANGING = true ∧ unitKey k x ∈ b.spm.brought ∧ b.ctrs = a.ctrs ∧ b.cells = a.cells)) ∧
    Makes (.regionCopyComplete t k u) s t (fun a b => b.spm = { a.spm with copies := a.spm.copies.map (fun c => if c.kind = k.val ∧ c.unit = u ∧ c.ended = none then { c with ended := some a.now } else c) } ∧
      b.on SPM.COPYING = decide (∃ c ∈ b.spm.copies, c.ended = none) ∧ Only [SPM.COPYING] [] { a with spm := b.spm } b) ∧
    Makes (.regionRemap t k u) s t (fun a b => let c := a.spm.copies.find? (fun c => decide (c.kind = k.val) && decide (c.unit = u))
      let due := ∃ x e, c = some x ∧ x.ended = some e ∧ frameOf e < a.frame
      (¬ due → b = a) ∧ (due → ∀ x, c = some x → Counts 0x006 0x810 1 a b ∧ unitKey k.val u ∈ b.spm.retired ∧ (∀ y ∈ b.spm.copies, ¬ (y.kind = k.val ∧ y.unit = u)) ∧ b.cells.mem = a.cells.mem ∧ b.cells.poison = a.cells.poison ∧
        (k.val ≠ 7 → Tbl.get? b.cells.region (a.logicalOf (regionIdx k.val u)) = some (regionIdx k.val x.spare))))) ∧
  (∀ t n reads left s, s.inReset = false → Makes (.rowRepair t n reads left) s t (fun a b => if left = true ∧ a.rdA SPM.ROW_CE_LIMIT ≤ reads then Counts 0x006 0x838 1 a b ∧ Only [] [(0x006, 0x838)] a b else b = a)) ∧
  (∀ t (u : Fin 96) s, s.inReset = false → Makes (.pllWorn t u) s t (fun a b => let idle := a.inService 8 u.val = false ∨ u.val ∈ a.spm.wornPlls
    let waits := (a.on SPM.APPROVE = false ∧ a.on SPM.AUTO_PLL = false) ∨ a.mayExchange 8 = false; let l := u.val :: a.spm.wornPlls
    (idle → b = a) ∧ (¬ idle → a.spareFor 8 u.val = none → Exhausts 8 u.val a b) ∧
    (¬ idle → a.spareFor 8 u.val ≠ none → waits → b.spm = { a.spm with wornPlls := l } ∧ b.on SPM.PENDING = true ∧ b.rd SPM.PENDING_KIND = 8 ∧ b.rd SPM.PENDING_UNIT ∈ l ∧ (∀ w ∈ l, b.rd SPM.PENDING_UNIT ≤ w) ∧ b.ctrs = a.ctrs) ∧
    (¬ idle → a.spareFor 8 u.val ≠ none → ¬ waits → Tbl.get? b.spm.lastExch 8 = some a.frame ∧ b.on SPM.APPROVE = false))) ∧
  (∀ t m v hw s, s.inReset = false → Makes (.approve t m v hw) s t (fun a b => (m ≠ .pf1 → hw = true → Lost 0x006 a b) ∧ (hw = false ∨ m = .pf1 → let due := a.on SPM.PENDING = true ∧ (v = true ∨ a.on SPM.AUTO_PLL = true) ∧ a.mayExchange 8 = true; let u := a.rd SPM.PENDING_UNIT
    (m = .pf1 → Refused 0x006 a b) ∧ (m ≠ .pf1 → ¬ due → b.on SPM.APPROVE = v ∧ Only [SPM.APPROVE] [] a b) ∧
    (m ≠ .pf1 → due → b.on SPM.APPROVE = false ∧ Tbl.get? b.spm.lastExch 8 = some a.frame ∧ u ∉ b.spm.wornPlls ∧ ∀ x, a.spareFor 8 u = some x → Exchanged 8 u x a b)))) ∧
  ∀ t (lane : Fin 320) (n : Fin 16) (unc : Fin 3) s, s.inReset = false → Makes (.dfeSwap t lane n unc) s t (fun a b => let u := 16 * lane.val + n.val
    let may := a.inService 9 u = true ∧ a.mayExchange 9 = true ∧ (64 ≤ lane.val ∨ a.eyeWorn lane.val = true)
    (¬ may → b = a) ∧ (may → Tbl.get? b.spm.lastExch 9 = some a.frame ∧ (a.spareFor 9 u = none → Exhausts 9 u a b) ∧
      ∀ x, a.spareFor 9 u = some x → Exchanged 9 u x a b ∧ Counts 0x006 0x840 1 a b ∧ (lane.val < 64 → PortCounts lane.val 0x40 (min 2 unc.val) a b)))

/-- USB4_LINK_CHANGE and BUS_MASTER_ENABLE_CHANGE show what changed; a loss of the host is stamped and counted, a return ends it. HOST_LOSS_TIMEOUT of
a loss longer than HOST_LOSS_MS asks for the release of the Capo where that is set, once. FUNCTION_LEVEL_RESET of PF0 returns every ring register to
reset and discards completions; of PF1 nothing. MSIX_SEND and MSIX_REPEAT send a live vector's message, or hold it while masked or without a host;
MSIX_UNMASK releases it. A DMA read ends with its bytes within 50 us, or fails and is counted. A refused write is counted, its punt returned. -/
def Obligations.HostComesAndGoes : Prop :=
  ((∀ t link tunnel (gen : Fin 8) s, s.inReset = false → Makes (.usb4LinkChange t link tunnel gen) s t (fun a b => let bad := link = true ∧ (gen.val < 2 ∨ 4 < gen.val)
      (bad → b = a) ∧ (¬ bad → b.on HIF.LINK_UP = link ∧ b.on HIF.TUNNEL_UP = (link && tunnel) ∧ b.rd HIF.LINK_GEN = (if link then gen.val else 0) ∧ HostTurns a b ∧
        (if link = true ∧ a.on HIF.LINK_UP = false ∧ gen.val < 4 then Counts 0x001 0x848 1 a b else b.ctr 0x001 0x848 = a.ctr 0x001 0x848)))) ∧
    ∀ t v s, s.inReset = false → Makes (.busMasterEnableChange t v) s t (fun a b => b.on HIF.BUS_MASTER = v ∧ HostTurns a b)) ∧
  (∀ t s, s.inReset = false → Makes (.hostLossTimeout t) s t (fun a b => let due := ∃ x, a.hif.lossAt = some x ∧ a.on HIF.HOST_LOSS_RELEASE = true ∧ a.hif.released = false ∧ x + a.rd HIF.HOST_LOSS_MS * 1000000 ≤ a.now
    let may := a.rd MRU.ROLE = 1 ∧ a.on MRU.PAIR_EN = true ∧ a.on MRU.PARTNER_READY = true ∧ a.mru.fenceAt = none ∧ a.mru.releasing = false
    (¬ due → b = a) ∧ (due → b.hif = { a.hif with released := true } ∧ b = { a with regs := b.regs, ctrs := b.ctrs, hif := b.hif } ∧
      (may → b.on MRU.RELEASE = true ∧ Kept [MRU.RELEASE] [] a b) ∧ (¬ may → Counts 0x005 0x8A8 1 a b ∧ Kept [] [(0x005, 0x8A8)] a b)))) ∧
  (∀ t pf1 s, s.inReset = false → Makes (.functionLevelReset t pf1) s t (fun a b => (pf1 = true → b = a) ∧
    (pf1 = false → (∀ f, 0x8800 ≤ fkey f → fkey f < 0x9C00 → b.rd f = f.reset) ∧ (∀ f, (fkey f < 0x8800 ∨ 0x9C00 ≤ fkey f) → b.rd f = a.rd f) ∧ Counts 0x001 0x818 1 a b ∧ Counts 0x001 0x828 a.hif.held.length a b ∧
      b.hif.held = [] ∧ b.hif.unmasked = [] ∧ b.hif.pendingMsix = [] ∧ b.hif.reads = a.hif.reads ∧ b.svc.cmds = a.svc.cmds.map (fun c => { c with cq := noRing }) ∧ b.svc.reserved = [] ∧ b.svc.chans = a.svc.chans ∧
      b.svc.keys = a.svc.keys ∧ b.cells = a.cells ∧ b.fret = a.fret ∧ b.rng = a.rng ∧ b.pkt = a.pkt))) ∧
  (∀ t (v : Fin 2048) s, s.inReset = false →
    Makes (.msixSend t v) s t (fun a b => if a.vectorLive v.val = true ∧ Tbl.get? a.hif.told v.val = none then Messages v.val a b else b = a) ∧
    Makes (.msixRepeat t v) s t (fun a b => if a.rd HIF.IRQ_REPEAT_US ≠ 0 ∧ a.vectorLive v.val = true ∧ ∃ x, Tbl.get? a.hif.told v.val = some x ∧ x + a.rd HIF.IRQ_REPEAT_US * 1000 ≤ a.now then Messages v.val a b else b = a) ∧
    ∀ mask, Makes (.msixUnmask t v mask) s t (fun a b => (mask = true → v.val ∉ b.hif.unmasked ∧ b = { a with hif := b.hif } ∧ b.hif.pendingMsix = a.hif.pendingMsix) ∧
      (mask = false → v.val ∈ b.hif.unmasked ∧ (∀ w, w ≠ v.val → (w ∈ b.hif.unmasked ↔ w ∈ a.hif.unmasked)) ∧
        let out := v.val ∈ a.hif.pendingMsix ∧ a.hostUp = true
        (¬ out → b.hif.pendingMsix = a.hif.pendingMsix ∧ b.core = a.core ∧ b.ctrs = a.ctrs) ∧
        (out → v.val ∉ b.hif.pendingMsix ∧ (a.vectorLive v.val = true → b.core.out = a.core.out ++ [.msix v.val] ∧ Counts 0x001 0x838 1 a b) ∧ (a.vectorLive v.val = false → b.core = a.core ∧ b.ctrs = a.ctrs))))) ∧
  ∀ t s, s.inReset = false →
    (∀ id ok (bs : List Byte), Makes (.dmaReadComplete t id ok bs) s t (fun a b => let o := a.hif.reads.find? (fun e => e.id = id); let there := a.on HIF.LINK_UP = true ∧ a.on HIF.TUNNEL_UP = true
      (o = none ∨ ¬ there → b = a) ∧ ∀ r, o = some r → there → let len := match a.cmd? r.cmd with | some c => Cmd.bufLen c | none => 0
        if ok = true ∧ a.now ≤ r.stamp + 50000 ∧ len ≤ bs.length then DmaEnds id r (.bytes (bs.map (·.toNat))) a b ∧ b.ctrs = a.ctrs else DmaEnds id r .failed a b ∧ Counts 0x001 0x968 1 a b)) ∧
    (∀ id, Makes (.dmaTimeout t id) s t (fun a b => let o := a.hif.reads.find? (fun e => e.id = id)
      (o = none → b = a) ∧ ∀ r, o = some r → (a.now ≤ r.stamp + 50000 → b = a) ∧ (r.stamp + 50000 < a.now → DmaEnds id r .failed a b ∧ Counts 0x001 0x968 1 a b))) ∧
    ∀ punt, Makes (.dmaWriteRefused t punt) s t (fun a b => (a.hostUp = false → b = a) ∧ (a.hostUp = true → Counts 0x001 0x968 1 a b ∧ b.regs = a.regs ∧ b.cells = a.cells ∧ b.svc = a.svc ∧
      (punt = none → Only [] [(0x001, 0x968)] a b) ∧ ∀ ch slot fb, punt = some ch → Tbl.get? a.hif.lastPunt ch.val = some (slot, fb) → Tbl.get? b.hif.lastPunt ch.val = none ∧
        ∃ w, b.core.out = a.core.out ++ [.punt ch.val slot w []] ∧ wordAt w 0 = fb + 2 ^ 15 ∧ wordAt w 1 = 0))
end

