-- ==== Sys2Proof/Laws/Tables.lean ====
section
/-!
SUPPORT. Laws of sparse tables and of the cell memory: what is read after a write, and the canonical forms kept.
-/

namespace Sys2Proof

namespace Tbl

variable {α : Type}

@[simp] theorem get?_nil (k : Nat) : get? ([] : Tbl α) k = none := rfl

@[simp] theorem get?_set_same (t : Tbl α) (k : Nat) (v : α) : get? (set t k v) k = some v := by
  induction t with
  | nil => simp [set, get?]
  | cons p r ih =>
    obtain ⟨k', v'⟩ := p
    simp only [set]
    split
    · simp [get?]
    · split
      · simp [get?]
      · rename_i h
        simp only [get?, ih, ite_eq_right_iff]
        exact fun e => absurd e.symm h

theorem get?_set_ne (t : Tbl α) {k j : Nat} (v : α) (h : j ≠ k) : get? (set t k v) j = get? t j := by
  induction t with
  | nil => simp [set, get?, h.symm]
  | cons p r ih =>
    obtain ⟨k', v'⟩ := p
    simp only [set]
    split
    · simp [get?, h.symm]
    · split
      · rename_i e
        subst e
        simp [get?, h.symm]
      · simp only [get?, ih]

@[simp] theorem get?_erase_same (t : Tbl α) (k : Nat) : get? (erase t k) k = none := by
  induction t with
  | nil => rfl
  | cons p r ih =>
    by_cases h : p.1 = k
    · simpa [erase, h] using ih
    · have : erase (p :: r) k = p :: erase r k := by simp [erase, h]
      rw [this]
      obtain ⟨k', v'⟩ := p
      simp only [get?]
      simp only at h
      simp [h, ih]

theorem get?_erase_ne (t : Tbl α) {k j : Nat} (h : j ≠ k) : get? (erase t k) j = get? t j := by
  induction t with
  | nil => rfl
  | cons p r ih =>
    obtain ⟨k', v'⟩ := p
    by_cases e : k' = k
    · subst e
      have : erase ((k', v') :: r) k' = erase r k' := by simp [erase]
      rw [this, ih]
      simp [get?, h.symm]
    · have : erase ((k', v') :: r) k = (k', v') :: erase r k := by simp [erase, e]
      rw [this]
      simp only [get?, ih]

@[simp] theorem getD_set_same (t : Tbl α) (k : Nat) (v d : α) : getD (set t k v) k d = v := by simp [getD]

theorem getD_set_ne (t : Tbl α) {k j : Nat} (v d : α) (h : j ≠ k) : getD (set t k v) j d = getD t j d := by
  simp [getD, get?_set_ne t v h]

@[simp] theorem getD_put_same [DecidableEq α] (t : Tbl α) (k : Nat) (v d : α) : getD (put d t k v) k d = v := by
  unfold put
  split
  · rename_i h
    simp [getD, h]
  · simp

theorem getD_put_ne [DecidableEq α] (t : Tbl α) {k j : Nat} (v d e : α) (h : j ≠ k) : getD (put d t k v) j e = getD t j e := by
  unfold put
  split
  · simp [getD, get?_erase_ne t h]
  · exact getD_set_ne t v e h

theorem mem_set_key (t : Tbl α) (k : Nat) (v : α) (p : Nat × α) (h : p ∈ set t k v) : p.1 = k ∨ p ∈ t := by
  induction t with
  | nil => simp [set] at h; exact .inl (by simp [h])
  | cons q r ih =>
    obtain ⟨k', v'⟩ := q
    simp only [set] at h
    split at h
    · rcases List.mem_cons.1 h with e | e
      · exact .inl (by simp [e])
      · exact .inr e
    · split at h
      · rcases List.mem_cons.1 h with e | e
        · exact .inl (by simp [e])
        · exact .inr (List.mem_cons_of_mem _ e)
      · rcases List.mem_cons.1 h with e | e
        · exact .inr (by simp [e])
        · exact (ih e).imp_right (List.mem_cons_of_mem _)

/-- A table keeps its canonical form when an entry is written. -/
theorem Sorted.set {t : Tbl α} (h : Sorted t) (k : Nat) (v : α) : Sorted (set t k v) := by
  induction t with
  | nil => simp [Tbl.set, Sorted]
  | cons q r ih =>
    obtain ⟨k', v'⟩ := q
    obtain ⟨h1, h2⟩ := List.pairwise_cons.1 h
    simp only [Tbl.set]
    split
    · rename_i lt
      refine List.pairwise_cons.2 ⟨fun p hp => ?_, h⟩
      rcases List.mem_cons.1 hp with e | e
      · simpa [e] using lt
      · exact lt.trans (h1 p e)
    · split
      · rename_i e
        subst e
        exact List.pairwise_cons.2 ⟨h1, h2⟩
      · rename_i a b
        refine List.pairwise_cons.2 ⟨fun p hp => ?_, ih h2⟩
        rcases mem_set_key r k v p hp with e | e
        · simp only [e]; omega
        · exact h1 p e

/-- A table keeps its canonical form when an entry is removed. -/
theorem Sorted.erase {t : Tbl α} (h : Sorted t) (k : Nat) : Sorted (erase t k) := List.Pairwise.filter _ h

/-- A table keeps its canonical form under a write in which the default is not listed. -/
theorem Sorted.put [DecidableEq α] {t : Tbl α} (h : Sorted t) (d : α) (k : Nat) (v : α) : Sorted (put d t k v) := by
  unfold Tbl.put
  split
  · exact h.erase k
  · exact h.set k v

end Tbl

namespace Machine

/-! ### The cell memory -/

theorem Memory.read_insert_same (m : Memory) (a : Nat) (v : BitVec 8) : Memory.read (Memory.insert m a v) a = v := by
  induction m with
  | nil => simp [Memory.insert, Memory.read]
  | cons p r ih =>
    obtain ⟨k, x⟩ := p
    simp only [Memory.insert]
    split
    · simp [Memory.read]
    · split
      · simp [Memory.read]
      · rename_i h
        simp only [Memory.read, ih, ite_eq_right_iff]
        exact fun e => absurd e.symm h

theorem Memory.read_insert_ne (m : Memory) {a b : Nat} (v : BitVec 8) (h : b ≠ a) :
    Memory.read (Memory.insert m a v) b = Memory.read m b := by
  induction m with
  | nil => simp [Memory.insert, Memory.read, h.symm]
  | cons p r ih =>
    obtain ⟨k, x⟩ := p
    simp only [Memory.insert]
    split
    · simp [Memory.read, h.symm]
    · split
      · rename_i e
        subst e
        simp [Memory.read, h.symm]
      · simp only [Memory.read, ih]

theorem Memory.read_filter_same (m : Memory) (a : Nat) : Memory.read (m.filter (fun c => c.1 ≠ a)) a = 0 := by
  induction m with
  | nil => rfl
  | cons p r ih =>
    by_cases h : p.1 = a
    · simpa [h] using ih
    · obtain ⟨k, x⟩ := p
      simp only at h
      simpa [List.filter_cons, h, Memory.read] using ih

theorem Memory.read_filter_ne (m : Memory) {a b : Nat} (h : b ≠ a) :
    Memory.read (m.filter (fun c => c.1 ≠ a)) b = Memory.read m b := by
  induction m with
  | nil => rfl
  | cons p r ih =>
    obtain ⟨k, x⟩ := p
    by_cases e : k = a
    · subst e
      simpa [List.filter_cons, Memory.read, h.symm] using ih
    · by_cases e2 : k = b
      · subst e2
        simp [h, Memory.read]
      · simpa [List.filter_cons, e, Memory.read, e2] using ih

/-- A byte written reads back. -/
@[simp] theorem Memory.read_write_same (m : Memory) (a : Nat) (v : BitVec 8) : Memory.read (Memory.write m a v) a = v := by
  unfold Memory.write
  split
  · rename_i h; rw [h]; exact Memory.read_filter_same m a
  · exact Memory.read_insert_same m a v

/-- A write leaves every other byte alone. -/
theorem Memory.read_write_ne (m : Memory) {a b : Nat} (v : BitVec 8) (h : b ≠ a) :
    Memory.read (Memory.write m a v) b = Memory.read m b := by
  unfold Memory.write
  split
  · exact Memory.read_filter_ne m h
  · exact Memory.read_insert_ne m v h

/-- Bytes outside the written span read as before. -/
theorem Memory.read_writeBytes_outside (m : Memory) (a : Nat) (bs : List Nat) {b : Nat} (h : b < a ∨ a + bs.length ≤ b) :
    Memory.read (Memory.writeBytes m a bs) b = Memory.read m b := by
  induction bs generalizing m a with
  | nil => rfl
  | cons x r ih =>
    simp only [List.length_cons] at h
    simp only [Memory.writeBytes]
    rw [ih _ _ (by omega), Memory.read_write_ne _ _ (by omega)]

/-- A list of cells in canonical form: addresses strictly rising and no byte of 0. -/
theorem Memory.wf_iff (m : Memory) : Memory.wf m = true ↔ m.Pairwise (fun a b => a.1 < b.1) ∧ ∀ p ∈ m, p.2 ≠ 0 := by
  induction m with
  | nil => simp [Memory.wf]
  | cons p r ih =>
    obtain ⟨a, v⟩ := p
    cases r with
    | nil => simp [Memory.wf]
    | cons q r =>
      obtain ⟨b, w⟩ := q
      have e : Memory.wf ((a, v) :: (b, w) :: r) = (decide (v ≠ 0) && decide (a < b) && Memory.wf ((b, w) :: r)) := rfl
      rw [e, Bool.and_eq_true, Bool.and_eq_true, ih]
      simp only [decide_eq_true_eq]
      constructor
      · rintro ⟨⟨hv, hab⟩, hp, hz⟩
        refine ⟨List.pairwise_cons.2 ⟨fun x hx => ?_, hp⟩, fun x hx => ?_⟩
        · rcases List.mem_cons.1 hx with e | e
          · simpa [e] using hab
          · exact hab.trans ((List.pairwise_cons.1 hp).1 x e)
        · rcases List.mem_cons.1 hx with e | e
          · simpa [e] using hv
          · exact hz x e
      · rintro ⟨hp, hz⟩
        obtain ⟨h1, h2⟩ := List.pairwise_cons.1 hp
        exact ⟨⟨hz (a, v) (by simp), h1 (b, w) (by simp)⟩, h2, fun x hx => hz x (List.mem_cons_of_mem _ hx)⟩

theorem Memory.mem_insert (m : Memory) (a : Nat) (v : BitVec 8) (p : Host.Cell) (h : p ∈ Memory.insert m a v) : p = (a, v) ∨ p ∈ m := by
  induction m with
  | nil => simpa [Memory.insert] using h
  | cons q r ih =>
    obtain ⟨k, x⟩ := q
    simp only [Memory.insert] at h
    split at h
    · exact (List.mem_cons.1 h).imp_right id
    · split at h
      · exact (List.mem_cons.1 h).imp_right (List.mem_cons_of_mem _)
      · rcases List.mem_cons.1 h with e | e
        · exact .inr (by simp [e])
        · exact (ih e).imp_right (List.mem_cons_of_mem _)

/-- A write of one byte keeps the canonical form. -/
theorem Memory.wf_write {m : Memory} (h : Memory.wf m = true) (a : Nat) (v : BitVec 8) : Memory.wf (Memory.write m a v) = true := by
  obtain ⟨hp, hz⟩ := (Memory.wf_iff m).1 h
  unfold Memory.write
  split
  · exact (Memory.wf_iff _).2 ⟨hp.filter _, fun p hp' => hz p (List.mem_filter.1 hp').1⟩
  · rename_i hv
    refine (Memory.wf_iff _).2 ⟨?_, fun p hp' => ?_⟩
    · clear hz h
      induction m with
      | nil => simp [Memory.insert]
      | cons q r ih =>
        obtain ⟨k, x⟩ := q
        obtain ⟨h1, h2⟩ := List.pairwise_cons.1 hp
        simp only [Memory.insert]
        split
        · rename_i lt
          refine List.pairwise_cons.2 ⟨fun p hp' => ?_, hp⟩
          rcases List.mem_cons.1 hp' with e | e
          · simpa [e] using lt
          · exact lt.trans (h1 p e)
        · split
          · rename_i e
            subst e
            exact List.pairwise_cons.2 ⟨h1, h2⟩
          · refine List.pairwise_cons.2 ⟨fun p hp' => ?_, ih h2⟩
            rcases Memory.mem_insert r a v p hp' with e | e
            · simp only [e]; omega
            · exact h1 p e
    · rcases Memory.mem_insert m a v p hp' with e | e
      · simpa [e] using hv
      · exact hz p e

/-- A write of bytes keeps the canonical form. -/
theorem Memory.wf_writeBytes {m : Memory} (h : Memory.wf m = true) (a : Nat) (bs : List Nat) :
    Memory.wf (Memory.writeBytes m a bs) = true := by
  induction bs generalizing m a with
  | nil => exact h
  | cons x r ih => exact ih (Memory.wf_write h a _) _

/-- A write of a word keeps the canonical form. -/
theorem Memory.wf_writeWord {m : Memory} (h : Memory.wf m = true) (a v : Nat) : Memory.wf (Memory.writeWord m a v) = true :=
  Memory.wf_writeBytes h a _

/-- The memory after reset is in canonical form. -/
theorem Memory.wf_reset : Memory.wf State.reset.dev.cells.mem = true := rfl

end Machine

end Sys2Proof
end

