-- ==== Sys2Proof/Laws/State.lean ====
section
/-!
SUPPORT. What each named update leaves alone, one lemma for each part of the device, and what is read after it.
-/

namespace Sys2Proof.Machine

variable (d : Device)

/-! ### wr -/

@[simp] theorem Device.wr_core (f : Fld) (v : Nat) : (d.wr f v).core = d.core := rfl
@[simp] theorem Device.wr_ctrs (f : Fld) (v : Nat) : (d.wr f v).ctrs = d.ctrs := rfl
@[simp] theorem Device.wr_pages (f : Fld) (v : Nat) : (d.wr f v).pages = d.pages := rfl
@[simp] theorem Device.wr_gens (f : Fld) (v : Nat) : (d.wr f v).gens = d.gens := rfl
@[simp] theorem Device.wr_trees (f : Fld) (v : Nat) : (d.wr f v).trees = d.trees := rfl
@[simp] theorem Device.wr_fret (f : Fld) (v : Nat) : (d.wr f v).fret = d.fret := rfl
@[simp] theorem Device.wr_bursts (f : Fld) (v : Nat) : (d.wr f v).bursts = d.bursts := rfl
@[simp] theorem Device.wr_rng (f : Fld) (v : Nat) : (d.wr f v).rng = d.rng := rfl
@[simp] theorem Device.wr_pow (f : Fld) (v : Nat) : (d.wr f v).pow = d.pow := rfl
@[simp] theorem Device.wr_cells (f : Fld) (v : Nat) : (d.wr f v).cells = d.cells := rfl
@[simp] theorem Device.wr_traffic (f : Fld) (v : Nat) : (d.wr f v).traffic = d.traffic := rfl
@[simp] theorem Device.wr_pkt (f : Fld) (v : Nat) : (d.wr f v).pkt = d.pkt := rfl
@[simp] theorem Device.wr_svc (f : Fld) (v : Nat) : (d.wr f v).svc = d.svc := rfl
@[simp] theorem Device.wr_hif (f : Fld) (v : Nat) : (d.wr f v).hif = d.hif := rfl
@[simp] theorem Device.wr_net (f : Fld) (v : Nat) : (d.wr f v).net = d.net := rfl
@[simp] theorem Device.wr_mon (f : Fld) (v : Nat) : (d.wr f v).mon = d.mon := rfl
@[simp] theorem Device.wr_tmu (f : Fld) (v : Nat) : (d.wr f v).tmu = d.tmu := rfl
@[simp] theorem Device.wr_mru (f : Fld) (v : Nat) : (d.wr f v).mru = d.mru := rfl
@[simp] theorem Device.wr_fuses (f : Fld) (v : Nat) : (d.wr f v).fuses = d.fuses := rfl
@[simp] theorem Device.wr_sec (f : Fld) (v : Nat) : (d.wr f v).sec = d.sec := rfl
@[simp] theorem Device.wr_spm (f : Fld) (v : Nat) : (d.wr f v).spm = d.spm := rfl
@[simp] theorem Device.wr_era (f : Fld) (v : Nat) : (d.wr f v).era = d.era := rfl
@[simp] theorem Device.wr_slices (f : Fld) (v : Nat) : (d.wr f v).slices = d.slices := rfl

/-! ### wrIf -/

@[simp] theorem Device.wrIf_core (c : Bool) (f : Fld) (v : Nat) : (d.wrIf c f v).core = d.core := by unfold Device.wrIf; split <;> rfl
@[simp] theorem Device.wrIf_ctrs (c : Bool) (f : Fld) (v : Nat) : (d.wrIf c f v).ctrs = d.ctrs := by unfold Device.wrIf; split <;> rfl
@[simp] theorem Device.wrIf_pages (c : Bool) (f : Fld) (v : Nat) : (d.wrIf c f v).pages = d.pages := by unfold Device.wrIf; split <;> rfl
@[simp] theorem Device.wrIf_gens (c : Bool) (f : Fld) (v : Nat) : (d.wrIf c f v).gens = d.gens := by unfold Device.wrIf; split <;> rfl
@[simp] theorem Device.wrIf_trees (c : Bool) (f : Fld) (v : Nat) : (d.wrIf c f v).trees = d.trees := by unfold Device.wrIf; split <;> rfl
@[simp] theorem Device.wrIf_fret (c : Bool) (f : Fld) (v : Nat) : (d.wrIf c f v).fret = d.fret := by unfold Device.wrIf; split <;> rfl
@[simp] theorem Device.wrIf_bursts (c : Bool) (f : Fld) (v : Nat) : (d.wrIf c f v).bursts = d.bursts := by unfold Device.wrIf; split <;> rfl
@[simp] theorem Device.wrIf_rng (c : Bool) (f : Fld) (v : Nat) : (d.wrIf c f v).rng = d.rng := by unfold Device.wrIf; split <;> rfl
@[simp] theorem Device.wrIf_pow (c : Bool) (f : Fld) (v : Nat) : (d.wrIf c f v).pow = d.pow := by unfold Device.wrIf; split <;> rfl
@[simp] theorem Device.wrIf_cells (c : Bool) (f : Fld) (v : Nat) : (d.wrIf c f v).cells = d.cells := by unfold Device.wrIf; split <;> rfl
@[simp] theorem Device.wrIf_traffic (c : Bool) (f : Fld) (v : Nat) : (d.wrIf c f v).traffic = d.traffic := by unfold Device.wrIf; split <;> rfl
@[simp] theorem Device.wrIf_pkt (c : Bool) (f : Fld) (v : Nat) : (d.wrIf c f v).pkt = d.pkt := by unfold Device.wrIf; split <;> rfl
@[simp] theorem Device.wrIf_svc (c : Bool) (f : Fld) (v : Nat) : (d.wrIf c f v).svc = d.svc := by unfold Device.wrIf; split <;> rfl
@[simp] theorem Device.wrIf_hif (c : Bool) (f : Fld) (v : Nat) : (d.wrIf c f v).hif = d.hif := by unfold Device.wrIf; split <;> rfl
@[simp] theorem Device.wrIf_net (c : Bool) (f : Fld) (v : Nat) : (d.wrIf c f v).net = d.net := by unfold Device.wrIf; split <;> rfl
@[simp] theorem Device.wrIf_mon (c : Bool) (f : Fld) (v : Nat) : (d.wrIf c f v).mon = d.mon := by unfold Device.wrIf; split <;> rfl
@[simp] theorem Device.wrIf_tmu (c : Bool) (f : Fld) (v : Nat) : (d.wrIf c f v).tmu = d.tmu := by unfold Device.wrIf; split <;> rfl
@[simp] theorem Device.wrIf_mru (c : Bool) (f : Fld) (v : Nat) : (d.wrIf c f v).mru = d.mru := by unfold Device.wrIf; split <;> rfl
@[simp] theorem Device.wrIf_fuses (c : Bool) (f : Fld) (v : Nat) : (d.wrIf c f v).fuses = d.fuses := by unfold Device.wrIf; split <;> rfl
@[simp] theorem Device.wrIf_sec (c : Bool) (f : Fld) (v : Nat) : (d.wrIf c f v).sec = d.sec := by unfold Device.wrIf; split <;> rfl
@[simp] theorem Device.wrIf_spm (c : Bool) (f : Fld) (v : Nat) : (d.wrIf c f v).spm = d.spm := by unfold Device.wrIf; split <;> rfl
@[simp] theorem Device.wrIf_era (c : Bool) (f : Fld) (v : Nat) : (d.wrIf c f v).era = d.era := by unfold Device.wrIf; split <;> rfl
@[simp] theorem Device.wrIf_slices (c : Bool) (f : Fld) (v : Nat) : (d.wrIf c f v).slices = d.slices := by unfold Device.wrIf; split <;> rfl

/-! ### setCtr -/

@[simp] theorem Device.setCtr_core (p o v : Nat) : (d.setCtr p o v).core = d.core := rfl
@[simp] theorem Device.setCtr_regs (p o v : Nat) : (d.setCtr p o v).regs = d.regs := rfl
@[simp] theorem Device.setCtr_pages (p o v : Nat) : (d.setCtr p o v).pages = d.pages := rfl
@[simp] theorem Device.setCtr_gens (p o v : Nat) : (d.setCtr p o v).gens = d.gens := rfl
@[simp] theorem Device.setCtr_trees (p o v : Nat) : (d.setCtr p o v).trees = d.trees := rfl
@[simp] theorem Device.setCtr_fret (p o v : Nat) : (d.setCtr p o v).fret = d.fret := rfl
@[simp] theorem Device.setCtr_bursts (p o v : Nat) : (d.setCtr p o v).bursts = d.bursts := rfl
@[simp] theorem Device.setCtr_rng (p o v : Nat) : (d.setCtr p o v).rng = d.rng := rfl
@[simp] theorem Device.setCtr_pow (p o v : Nat) : (d.setCtr p o v).pow = d.pow := rfl
@[simp] theorem Device.setCtr_cells (p o v : Nat) : (d.setCtr p o v).cells = d.cells := rfl
@[simp] theorem Device.setCtr_traffic (p o v : Nat) : (d.setCtr p o v).traffic = d.traffic := rfl
@[simp] theorem Device.setCtr_pkt (p o v : Nat) : (d.setCtr p o v).pkt = d.pkt := rfl
@[simp] theorem Device.setCtr_svc (p o v : Nat) : (d.setCtr p o v).svc = d.svc := rfl
@[simp] theorem Device.setCtr_hif (p o v : Nat) : (d.setCtr p o v).hif = d.hif := rfl
@[simp] theorem Device.setCtr_net (p o v : Nat) : (d.setCtr p o v).net = d.net := rfl
@[simp] theorem Device.setCtr_mon (p o v : Nat) : (d.setCtr p o v).mon = d.mon := rfl
@[simp] theorem Device.setCtr_tmu (p o v : Nat) : (d.setCtr p o v).tmu = d.tmu := rfl
@[simp] theorem Device.setCtr_mru (p o v : Nat) : (d.setCtr p o v).mru = d.mru := rfl
@[simp] theorem Device.setCtr_fuses (p o v : Nat) : (d.setCtr p o v).fuses = d.fuses := rfl
@[simp] theorem Device.setCtr_sec (p o v : Nat) : (d.setCtr p o v).sec = d.sec := rfl
@[simp] theorem Device.setCtr_spm (p o v : Nat) : (d.setCtr p o v).spm = d.spm := rfl
@[simp] theorem Device.setCtr_era (p o v : Nat) : (d.setCtr p o v).era = d.era := rfl
@[simp] theorem Device.setCtr_slices (p o v : Nat) : (d.setCtr p o v).slices = d.slices := rfl

/-! ### count -/

@[simp] theorem Device.count_core (p o n : Nat) : (d.count p o n).core = d.core := rfl
@[simp] theorem Device.count_regs (p o n : Nat) : (d.count p o n).regs = d.regs := rfl
@[simp] theorem Device.count_pages (p o n : Nat) : (d.count p o n).pages = d.pages := rfl
@[simp] theorem Device.count_gens (p o n : Nat) : (d.count p o n).gens = d.gens := rfl
@[simp] theorem Device.count_trees (p o n : Nat) : (d.count p o n).trees = d.trees := rfl
@[simp] theorem Device.count_fret (p o n : Nat) : (d.count p o n).fret = d.fret := rfl
@[simp] theorem Device.count_bursts (p o n : Nat) : (d.count p o n).bursts = d.bursts := rfl
@[simp] theorem Device.count_rng (p o n : Nat) : (d.count p o n).rng = d.rng := rfl
@[simp] theorem Device.count_pow (p o n : Nat) : (d.count p o n).pow = d.pow := rfl
@[simp] theorem Device.count_cells (p o n : Nat) : (d.count p o n).cells = d.cells := rfl
@[simp] theorem Device.count_traffic (p o n : Nat) : (d.count p o n).traffic = d.traffic := rfl
@[simp] theorem Device.count_pkt (p o n : Nat) : (d.count p o n).pkt = d.pkt := rfl
@[simp] theorem Device.count_svc (p o n : Nat) : (d.count p o n).svc = d.svc := rfl
@[simp] theorem Device.count_hif (p o n : Nat) : (d.count p o n).hif = d.hif := rfl
@[simp] theorem Device.count_net (p o n : Nat) : (d.count p o n).net = d.net := rfl
@[simp] theorem Device.count_mon (p o n : Nat) : (d.count p o n).mon = d.mon := rfl
@[simp] theorem Device.count_tmu (p o n : Nat) : (d.count p o n).tmu = d.tmu := rfl
@[simp] theorem Device.count_mru (p o n : Nat) : (d.count p o n).mru = d.mru := rfl
@[simp] theorem Device.count_fuses (p o n : Nat) : (d.count p o n).fuses = d.fuses := rfl
@[simp] theorem Device.count_sec (p o n : Nat) : (d.count p o n).sec = d.sec := rfl
@[simp] theorem Device.count_spm (p o n : Nat) : (d.count p o n).spm = d.spm := rfl
@[simp] theorem Device.count_era (p o n : Nat) : (d.count p o n).era = d.era := rfl
@[simp] theorem Device.count_slices (p o n : Nat) : (d.count p o n).slices = d.slices := rfl

/-! ### countIf -/

@[simp] theorem Device.countIf_core (c : Bool) (p o : Nat) : (d.countIf c p o).core = d.core := by unfold Device.countIf; split <;> rfl
@[simp] theorem Device.countIf_regs (c : Bool) (p o : Nat) : (d.countIf c p o).regs = d.regs := by unfold Device.countIf; split <;> rfl
@[simp] theorem Device.countIf_pages (c : Bool) (p o : Nat) : (d.countIf c p o).pages = d.pages := by unfold Device.countIf; split <;> rfl
@[simp] theorem Device.countIf_gens (c : Bool) (p o : Nat) : (d.countIf c p o).gens = d.gens := by unfold Device.countIf; split <;> rfl
@[simp] theorem Device.countIf_trees (c : Bool) (p o : Nat) : (d.countIf c p o).trees = d.trees := by unfold Device.countIf; split <;> rfl
@[simp] theorem Device.countIf_fret (c : Bool) (p o : Nat) : (d.countIf c p o).fret = d.fret := by unfold Device.countIf; split <;> rfl
@[simp] theorem Device.countIf_bursts (c : Bool) (p o : Nat) : (d.countIf c p o).bursts = d.bursts := by unfold Device.countIf; split <;> rfl
@[simp] theorem Device.countIf_rng (c : Bool) (p o : Nat) : (d.countIf c p o).rng = d.rng := by unfold Device.countIf; split <;> rfl
@[simp] theorem Device.countIf_pow (c : Bool) (p o : Nat) : (d.countIf c p o).pow = d.pow := by unfold Device.countIf; split <;> rfl
@[simp] theorem Device.countIf_cells (c : Bool) (p o : Nat) : (d.countIf c p o).cells = d.cells := by unfold Device.countIf; split <;> rfl
@[simp] theorem Device.countIf_traffic (c : Bool) (p o : Nat) : (d.countIf c p o).traffic = d.traffic := by unfold Device.countIf; split <;> rfl
@[simp] theorem Device.countIf_pkt (c : Bool) (p o : Nat) : (d.countIf c p o).pkt = d.pkt := by unfold Device.countIf; split <;> rfl
@[simp] theorem Device.countIf_svc (c : Bool) (p o : Nat) : (d.countIf c p o).svc = d.svc := by unfold Device.countIf; split <;> rfl
@[simp] theorem Device.countIf_hif (c : Bool) (p o : Nat) : (d.countIf c p o).hif = d.hif := by unfold Device.countIf; split <;> rfl
@[simp] theorem Device.countIf_net (c : Bool) (p o : Nat) : (d.countIf c p o).net = d.net := by unfold Device.countIf; split <;> rfl
@[simp] theorem Device.countIf_mon (c : Bool) (p o : Nat) : (d.countIf c p o).mon = d.mon := by unfold Device.countIf; split <;> rfl
@[simp] theorem Device.countIf_tmu (c : Bool) (p o : Nat) : (d.countIf c p o).tmu = d.tmu := by unfold Device.countIf; split <;> rfl
@[simp] theorem Device.countIf_mru (c : Bool) (p o : Nat) : (d.countIf c p o).mru = d.mru := by unfold Device.countIf; split <;> rfl
@[simp] theorem Device.countIf_fuses (c : Bool) (p o : Nat) : (d.countIf c p o).fuses = d.fuses := by unfold Device.countIf; split <;> rfl
@[simp] theorem Device.countIf_sec (c : Bool) (p o : Nat) : (d.countIf c p o).sec = d.sec := by unfold Device.countIf; split <;> rfl
@[simp] theorem Device.countIf_spm (c : Bool) (p o : Nat) : (d.countIf c p o).spm = d.spm := by unfold Device.countIf; split <;> rfl
@[simp] theorem Device.countIf_era (c : Bool) (p o : Nat) : (d.countIf c p o).era = d.era := by unfold Device.countIf; split <;> rfl
@[simp] theorem Device.countIf_slices (c : Bool) (p o : Nat) : (d.countIf c p o).slices = d.slices := by unfold Device.countIf; split <;> rfl

/-! ### lockedWrite -/

@[simp] theorem Device.lockedWrite_core (p : Nat) : (d.lockedWrite p).core = d.core := rfl
@[simp] theorem Device.lockedWrite_regs (p : Nat) : (d.lockedWrite p).regs = d.regs := rfl
@[simp] theorem Device.lockedWrite_pages (p : Nat) : (d.lockedWrite p).pages = d.pages := rfl
@[simp] theorem Device.lockedWrite_gens (p : Nat) : (d.lockedWrite p).gens = d.gens := rfl
@[simp] theorem Device.lockedWrite_trees (p : Nat) : (d.lockedWrite p).trees = d.trees := rfl
@[simp] theorem Device.lockedWrite_fret (p : Nat) : (d.lockedWrite p).fret = d.fret := rfl
@[simp] theorem Device.lockedWrite_bursts (p : Nat) : (d.lockedWrite p).bursts = d.bursts := rfl
@[simp] theorem Device.lockedWrite_rng (p : Nat) : (d.lockedWrite p).rng = d.rng := rfl
@[simp] theorem Device.lockedWrite_pow (p : Nat) : (d.lockedWrite p).pow = d.pow := rfl
@[simp] theorem Device.lockedWrite_cells (p : Nat) : (d.lockedWrite p).cells = d.cells := rfl
@[simp] theorem Device.lockedWrite_traffic (p : Nat) : (d.lockedWrite p).traffic = d.traffic := rfl
@[simp] theorem Device.lockedWrite_pkt (p : Nat) : (d.lockedWrite p).pkt = d.pkt := rfl
@[simp] theorem Device.lockedWrite_svc (p : Nat) : (d.lockedWrite p).svc = d.svc := rfl
@[simp] theorem Device.lockedWrite_hif (p : Nat) : (d.lockedWrite p).hif = d.hif := rfl
@[simp] theorem Device.lockedWrite_net (p : Nat) : (d.lockedWrite p).net = d.net := rfl
@[simp] theorem Device.lockedWrite_mon (p : Nat) : (d.lockedWrite p).mon = d.mon := rfl
@[simp] theorem Device.lockedWrite_tmu (p : Nat) : (d.lockedWrite p).tmu = d.tmu := rfl
@[simp] theorem Device.lockedWrite_mru (p : Nat) : (d.lockedWrite p).mru = d.mru := rfl
@[simp] theorem Device.lockedWrite_fuses (p : Nat) : (d.lockedWrite p).fuses = d.fuses := rfl
@[simp] theorem Device.lockedWrite_sec (p : Nat) : (d.lockedWrite p).sec = d.sec := rfl
@[simp] theorem Device.lockedWrite_spm (p : Nat) : (d.lockedWrite p).spm = d.spm := rfl
@[simp] theorem Device.lockedWrite_era (p : Nat) : (d.lockedWrite p).era = d.era := rfl
@[simp] theorem Device.lockedWrite_slices (p : Nat) : (d.lockedWrite p).slices = d.slices := rfl

/-! ### refuse -/

@[simp] theorem Device.refuse_core (p : Nat) : (d.refuse p).core = d.core := rfl
@[simp] theorem Device.refuse_regs (p : Nat) : (d.refuse p).regs = d.regs := rfl
@[simp] theorem Device.refuse_pages (p : Nat) : (d.refuse p).pages = d.pages := rfl
@[simp] theorem Device.refuse_gens (p : Nat) : (d.refuse p).gens = d.gens := rfl
@[simp] theorem Device.refuse_trees (p : Nat) : (d.refuse p).trees = d.trees := rfl
@[simp] theorem Device.refuse_fret (p : Nat) : (d.refuse p).fret = d.fret := rfl
@[simp] theorem Device.refuse_bursts (p : Nat) : (d.refuse p).bursts = d.bursts := rfl
@[simp] theorem Device.refuse_rng (p : Nat) : (d.refuse p).rng = d.rng := rfl
@[simp] theorem Device.refuse_pow (p : Nat) : (d.refuse p).pow = d.pow := rfl
@[simp] theorem Device.refuse_cells (p : Nat) : (d.refuse p).cells = d.cells := rfl
@[simp] theorem Device.refuse_traffic (p : Nat) : (d.refuse p).traffic = d.traffic := rfl
@[simp] theorem Device.refuse_pkt (p : Nat) : (d.refuse p).pkt = d.pkt := rfl
@[simp] theorem Device.refuse_svc (p : Nat) : (d.refuse p).svc = d.svc := rfl
@[simp] theorem Device.refuse_hif (p : Nat) : (d.refuse p).hif = d.hif := rfl
@[simp] theorem Device.refuse_net (p : Nat) : (d.refuse p).net = d.net := rfl
@[simp] theorem Device.refuse_mon (p : Nat) : (d.refuse p).mon = d.mon := rfl
@[simp] theorem Device.refuse_tmu (p : Nat) : (d.refuse p).tmu = d.tmu := rfl
@[simp] theorem Device.refuse_mru (p : Nat) : (d.refuse p).mru = d.mru := rfl
@[simp] theorem Device.refuse_fuses (p : Nat) : (d.refuse p).fuses = d.fuses := rfl
@[simp] theorem Device.refuse_sec (p : Nat) : (d.refuse p).sec = d.sec := rfl
@[simp] theorem Device.refuse_spm (p : Nat) : (d.refuse p).spm = d.spm := rfl
@[simp] theorem Device.refuse_era (p : Nat) : (d.refuse p).era = d.era := rfl
@[simp] theorem Device.refuse_slices (p : Nat) : (d.refuse p).slices = d.slices := rfl

/-! ### bumpBoundary -/

@[simp] theorem Device.bumpBoundary_core (p : Nat) : (d.bumpBoundary p).core = d.core := rfl
@[simp] theorem Device.bumpBoundary_ctrs (p : Nat) : (d.bumpBoundary p).ctrs = d.ctrs := rfl
@[simp] theorem Device.bumpBoundary_pages (p : Nat) : (d.bumpBoundary p).pages = d.pages := rfl
@[simp] theorem Device.bumpBoundary_gens (p : Nat) : (d.bumpBoundary p).gens = d.gens := rfl
@[simp] theorem Device.bumpBoundary_trees (p : Nat) : (d.bumpBoundary p).trees = d.trees := rfl
@[simp] theorem Device.bumpBoundary_fret (p : Nat) : (d.bumpBoundary p).fret = d.fret := rfl
@[simp] theorem Device.bumpBoundary_bursts (p : Nat) : (d.bumpBoundary p).bursts = d.bursts := rfl
@[simp] theorem Device.bumpBoundary_rng (p : Nat) : (d.bumpBoundary p).rng = d.rng := rfl
@[simp] theorem Device.bumpBoundary_pow (p : Nat) : (d.bumpBoundary p).pow = d.pow := rfl
@[simp] theorem Device.bumpBoundary_cells (p : Nat) : (d.bumpBoundary p).cells = d.cells := rfl
@[simp] theorem Device.bumpBoundary_traffic (p : Nat) : (d.bumpBoundary p).traffic = d.traffic := rfl
@[simp] theorem Device.bumpBoundary_pkt (p : Nat) : (d.bumpBoundary p).pkt = d.pkt := rfl
@[simp] theorem Device.bumpBoundary_svc (p : Nat) : (d.bumpBoundary p).svc = d.svc := rfl
@[simp] theorem Device.bumpBoundary_hif (p : Nat) : (d.bumpBoundary p).hif = d.hif := rfl
@[simp] theorem Device.bumpBoundary_net (p : Nat) : (d.bumpBoundary p).net = d.net := rfl
@[simp] theorem Device.bumpBoundary_mon (p : Nat) : (d.bumpBoundary p).mon = d.mon := rfl
@[simp] theorem Device.bumpBoundary_tmu (p : Nat) : (d.bumpBoundary p).tmu = d.tmu := rfl
@[simp] theorem Device.bumpBoundary_mru (p : Nat) : (d.bumpBoundary p).mru = d.mru := rfl
@[simp] theorem Device.bumpBoundary_fuses (p : Nat) : (d.bumpBoundary p).fuses = d.fuses := rfl
@[simp] theorem Device.bumpBoundary_sec (p : Nat) : (d.bumpBoundary p).sec = d.sec := rfl
@[simp] theorem Device.bumpBoundary_spm (p : Nat) : (d.bumpBoundary p).spm = d.spm := rfl
@[simp] theorem Device.bumpBoundary_era (p : Nat) : (d.bumpBoundary p).era = d.era := rfl
@[simp] theorem Device.bumpBoundary_slices (p : Nat) : (d.bumpBoundary p).slices = d.slices := rfl

/-! ### writeLost -/

@[simp] theorem Device.writeLost_core (p n : Nat) : (d.writeLost p n).core = d.core := rfl
@[simp] theorem Device.writeLost_ctrs (p n : Nat) : (d.writeLost p n).ctrs = d.ctrs := rfl
@[simp] theorem Device.writeLost_pages (p n : Nat) : (d.writeLost p n).pages = d.pages := rfl
@[simp] theorem Device.writeLost_gens (p n : Nat) : (d.writeLost p n).gens = d.gens := rfl
@[simp] theorem Device.writeLost_trees (p n : Nat) : (d.writeLost p n).trees = d.trees := rfl
@[simp] theorem Device.writeLost_fret (p n : Nat) : (d.writeLost p n).fret = d.fret := rfl
@[simp] theorem Device.writeLost_bursts (p n : Nat) : (d.writeLost p n).bursts = d.bursts := rfl
@[simp] theorem Device.writeLost_rng (p n : Nat) : (d.writeLost p n).rng = d.rng := rfl
@[simp] theorem Device.writeLost_pow (p n : Nat) : (d.writeLost p n).pow = d.pow := rfl
@[simp] theorem Device.writeLost_cells (p n : Nat) : (d.writeLost p n).cells = d.cells := rfl
@[simp] theorem Device.writeLost_traffic (p n : Nat) : (d.writeLost p n).traffic = d.traffic := rfl
@[simp] theorem Device.writeLost_pkt (p n : Nat) : (d.writeLost p n).pkt = d.pkt := rfl
@[simp] theorem Device.writeLost_svc (p n : Nat) : (d.writeLost p n).svc = d.svc := rfl
@[simp] theorem Device.writeLost_hif (p n : Nat) : (d.writeLost p n).hif = d.hif := rfl
@[simp] theorem Device.writeLost_net (p n : Nat) : (d.writeLost p n).net = d.net := rfl
@[simp] theorem Device.writeLost_mon (p n : Nat) : (d.writeLost p n).mon = d.mon := rfl
@[simp] theorem Device.writeLost_tmu (p n : Nat) : (d.writeLost p n).tmu = d.tmu := rfl
@[simp] theorem Device.writeLost_mru (p n : Nat) : (d.writeLost p n).mru = d.mru := rfl
@[simp] theorem Device.writeLost_fuses (p n : Nat) : (d.writeLost p n).fuses = d.fuses := rfl
@[simp] theorem Device.writeLost_sec (p n : Nat) : (d.writeLost p n).sec = d.sec := rfl
@[simp] theorem Device.writeLost_spm (p n : Nat) : (d.writeLost p n).spm = d.spm := rfl
@[simp] theorem Device.writeLost_era (p n : Nat) : (d.writeLost p n).era = d.era := rfl
@[simp] theorem Device.writeLost_slices (p n : Nat) : (d.writeLost p n).slices = d.slices := rfl

/-! ### emit -/

@[simp] theorem Device.emit_regs (o : Out) : (d.emit o).regs = d.regs := rfl
@[simp] theorem Device.emit_ctrs (o : Out) : (d.emit o).ctrs = d.ctrs := rfl
@[simp] theorem Device.emit_pages (o : Out) : (d.emit o).pages = d.pages := rfl
@[simp] theorem Device.emit_gens (o : Out) : (d.emit o).gens = d.gens := rfl
@[simp] theorem Device.emit_trees (o : Out) : (d.emit o).trees = d.trees := rfl
@[simp] theorem Device.emit_fret (o : Out) : (d.emit o).fret = d.fret := rfl
@[simp] theorem Device.emit_bursts (o : Out) : (d.emit o).bursts = d.bursts := rfl
@[simp] theorem Device.emit_rng (o : Out) : (d.emit o).rng = d.rng := rfl
@[simp] theorem Device.emit_pow (o : Out) : (d.emit o).pow = d.pow := rfl
@[simp] theorem Device.emit_cells (o : Out) : (d.emit o).cells = d.cells := rfl
@[simp] theorem Device.emit_traffic (o : Out) : (d.emit o).traffic = d.traffic := rfl
@[simp] theorem Device.emit_pkt (o : Out) : (d.emit o).pkt = d.pkt := rfl
@[simp] theorem Device.emit_svc (o : Out) : (d.emit o).svc = d.svc := rfl
@[simp] theorem Device.emit_hif (o : Out) : (d.emit o).hif = d.hif := rfl
@[simp] theorem Device.emit_net (o : Out) : (d.emit o).net = d.net := rfl
@[simp] theorem Device.emit_mon (o : Out) : (d.emit o).mon = d.mon := rfl
@[simp] theorem Device.emit_tmu (o : Out) : (d.emit o).tmu = d.tmu := rfl
@[simp] theorem Device.emit_mru (o : Out) : (d.emit o).mru = d.mru := rfl
@[simp] theorem Device.emit_fuses (o : Out) : (d.emit o).fuses = d.fuses := rfl
@[simp] theorem Device.emit_sec (o : Out) : (d.emit o).sec = d.sec := rfl
@[simp] theorem Device.emit_spm (o : Out) : (d.emit o).spm = d.spm := rfl
@[simp] theorem Device.emit_era (o : Out) : (d.emit o).era = d.era := rfl
@[simp] theorem Device.emit_slices (o : Out) : (d.emit o).slices = d.slices := rfl

/-! ### setCfr -/

@[simp] theorem Device.setCfr_core (c : Nat) (x : Cfr) : (d.setCfr c x).core = d.core := rfl
@[simp] theorem Device.setCfr_regs (c : Nat) (x : Cfr) : (d.setCfr c x).regs = d.regs := rfl
@[simp] theorem Device.setCfr_ctrs (c : Nat) (x : Cfr) : (d.setCfr c x).ctrs = d.ctrs := rfl
@[simp] theorem Device.setCfr_pages (c : Nat) (x : Cfr) : (d.setCfr c x).pages = d.pages := rfl
@[simp] theorem Device.setCfr_gens (c : Nat) (x : Cfr) : (d.setCfr c x).gens = d.gens := rfl
@[simp] theorem Device.setCfr_fret (c : Nat) (x : Cfr) : (d.setCfr c x).fret = d.fret := rfl
@[simp] theorem Device.setCfr_bursts (c : Nat) (x : Cfr) : (d.setCfr c x).bursts = d.bursts := rfl
@[simp] theorem Device.setCfr_rng (c : Nat) (x : Cfr) : (d.setCfr c x).rng = d.rng := rfl
@[simp] theorem Device.setCfr_pow (c : Nat) (x : Cfr) : (d.setCfr c x).pow = d.pow := rfl
@[simp] theorem Device.setCfr_cells (c : Nat) (x : Cfr) : (d.setCfr c x).cells = d.cells := rfl
@[simp] theorem Device.setCfr_traffic (c : Nat) (x : Cfr) : (d.setCfr c x).traffic = d.traffic := rfl
@[simp] theorem Device.setCfr_pkt (c : Nat) (x : Cfr) : (d.setCfr c x).pkt = d.pkt := rfl
@[simp] theorem Device.setCfr_svc (c : Nat) (x : Cfr) : (d.setCfr c x).svc = d.svc := rfl
@[simp] theorem Device.setCfr_hif (c : Nat) (x : Cfr) : (d.setCfr c x).hif = d.hif := rfl
@[simp] theorem Device.setCfr_net (c : Nat) (x : Cfr) : (d.setCfr c x).net = d.net := rfl
@[simp] theorem Device.setCfr_mon (c : Nat) (x : Cfr) : (d.setCfr c x).mon = d.mon := rfl
@[simp] theorem Device.setCfr_tmu (c : Nat) (x : Cfr) : (d.setCfr c x).tmu = d.tmu := rfl
@[simp] theorem Device.setCfr_mru (c : Nat) (x : Cfr) : (d.setCfr c x).mru = d.mru := rfl
@[simp] theorem Device.setCfr_fuses (c : Nat) (x : Cfr) : (d.setCfr c x).fuses = d.fuses := rfl
@[simp] theorem Device.setCfr_sec (c : Nat) (x : Cfr) : (d.setCfr c x).sec = d.sec := rfl
@[simp] theorem Device.setCfr_spm (c : Nat) (x : Cfr) : (d.setCfr c x).spm = d.spm := rfl
@[simp] theorem Device.setCfr_era (c : Nat) (x : Cfr) : (d.setCfr c x).era = d.era := rfl
@[simp] theorem Device.setCfr_slices (c : Nat) (x : Cfr) : (d.setCfr c x).slices = d.slices := rfl

/-! ### ploam -/

@[simp] theorem Device.ploam_core (c : Nat) (m : Ploam) : (d.ploam c m).core = d.core := rfl
@[simp] theorem Device.ploam_regs (c : Nat) (m : Ploam) : (d.ploam c m).regs = d.regs := rfl
@[simp] theorem Device.ploam_ctrs (c : Nat) (m : Ploam) : (d.ploam c m).ctrs = d.ctrs := rfl
@[simp] theorem Device.ploam_pages (c : Nat) (m : Ploam) : (d.ploam c m).pages = d.pages := rfl
@[simp] theorem Device.ploam_gens (c : Nat) (m : Ploam) : (d.ploam c m).gens = d.gens := rfl
@[simp] theorem Device.ploam_fret (c : Nat) (m : Ploam) : (d.ploam c m).fret = d.fret := rfl
@[simp] theorem Device.ploam_bursts (c : Nat) (m : Ploam) : (d.ploam c m).bursts = d.bursts := rfl
@[simp] theorem Device.ploam_rng (c : Nat) (m : Ploam) : (d.ploam c m).rng = d.rng := rfl
@[simp] theorem Device.ploam_pow (c : Nat) (m : Ploam) : (d.ploam c m).pow = d.pow := rfl
@[simp] theorem Device.ploam_cells (c : Nat) (m : Ploam) : (d.ploam c m).cells = d.cells := rfl
@[simp] theorem Device.ploam_traffic (c : Nat) (m : Ploam) : (d.ploam c m).traffic = d.traffic := rfl
@[simp] theorem Device.ploam_pkt (c : Nat) (m : Ploam) : (d.ploam c m).pkt = d.pkt := rfl
@[simp] theorem Device.ploam_svc (c : Nat) (m : Ploam) : (d.ploam c m).svc = d.svc := rfl
@[simp] theorem Device.ploam_hif (c : Nat) (m : Ploam) : (d.ploam c m).hif = d.hif := rfl
@[simp] theorem Device.ploam_net (c : Nat) (m : Ploam) : (d.ploam c m).net = d.net := rfl
@[simp] theorem Device.ploam_mon (c : Nat) (m : Ploam) : (d.ploam c m).mon = d.mon := rfl
@[simp] theorem Device.ploam_tmu (c : Nat) (m : Ploam) : (d.ploam c m).tmu = d.tmu := rfl
@[simp] theorem Device.ploam_mru (c : Nat) (m : Ploam) : (d.ploam c m).mru = d.mru := rfl
@[simp] theorem Device.ploam_fuses (c : Nat) (m : Ploam) : (d.ploam c m).fuses = d.fuses := rfl
@[simp] theorem Device.ploam_sec (c : Nat) (m : Ploam) : (d.ploam c m).sec = d.sec := rfl
@[simp] theorem Device.ploam_spm (c : Nat) (m : Ploam) : (d.ploam c m).spm = d.spm := rfl
@[simp] theorem Device.ploam_era (c : Nat) (m : Ploam) : (d.ploam c m).era = d.era := rfl
@[simp] theorem Device.ploam_slices (c : Nat) (m : Ploam) : (d.ploam c m).slices = d.slices := rfl

/-! ### setCourse -/

@[simp] theorem Device.setCourse_core (x : Nat) (c : Course) : (d.setCourse x c).core = d.core := rfl
@[simp] theorem Device.setCourse_regs (x : Nat) (c : Course) : (d.setCourse x c).regs = d.regs := rfl
@[simp] theorem Device.setCourse_ctrs (x : Nat) (c : Course) : (d.setCourse x c).ctrs = d.ctrs := rfl
@[simp] theorem Device.setCourse_pages (x : Nat) (c : Course) : (d.setCourse x c).pages = d.pages := rfl
@[simp] theorem Device.setCourse_gens (x : Nat) (c : Course) : (d.setCourse x c).gens = d.gens := rfl
@[simp] theorem Device.setCourse_fret (x : Nat) (c : Course) : (d.setCourse x c).fret = d.fret := rfl
@[simp] theorem Device.setCourse_bursts (x : Nat) (c : Course) : (d.setCourse x c).bursts = d.bursts := rfl
@[simp] theorem Device.setCourse_rng (x : Nat) (c : Course) : (d.setCourse x c).rng = d.rng := rfl
@[simp] theorem Device.setCourse_pow (x : Nat) (c : Course) : (d.setCourse x c).pow = d.pow := rfl
@[simp] theorem Device.setCourse_cells (x : Nat) (c : Course) : (d.setCourse x c).cells = d.cells := rfl
@[simp] theorem Device.setCourse_traffic (x : Nat) (c : Course) : (d.setCourse x c).traffic = d.traffic := rfl
@[simp] theorem Device.setCourse_pkt (x : Nat) (c : Course) : (d.setCourse x c).pkt = d.pkt := rfl
@[simp] theorem Device.setCourse_svc (x : Nat) (c : Course) : (d.setCourse x c).svc = d.svc := rfl
@[simp] theorem Device.setCourse_hif (x : Nat) (c : Course) : (d.setCourse x c).hif = d.hif := rfl
@[simp] theorem Device.setCourse_net (x : Nat) (c : Course) : (d.setCourse x c).net = d.net := rfl
@[simp] theorem Device.setCourse_mon (x : Nat) (c : Course) : (d.setCourse x c).mon = d.mon := rfl
@[simp] theorem Device.setCourse_tmu (x : Nat) (c : Course) : (d.setCourse x c).tmu = d.tmu := rfl
@[simp] theorem Device.setCourse_mru (x : Nat) (c : Course) : (d.setCourse x c).mru = d.mru := rfl
@[simp] theorem Device.setCourse_fuses (x : Nat) (c : Course) : (d.setCourse x c).fuses = d.fuses := rfl
@[simp] theorem Device.setCourse_sec (x : Nat) (c : Course) : (d.setCourse x c).sec = d.sec := rfl
@[simp] theorem Device.setCourse_spm (x : Nat) (c : Course) : (d.setCourse x c).spm = d.spm := rfl
@[simp] theorem Device.setCourse_era (x : Nat) (c : Course) : (d.setCourse x c).era = d.era := rfl
@[simp] theorem Device.setCourse_slices (x : Nat) (c : Course) : (d.setCourse x c).slices = d.slices := rfl

/-! ### setSlot -/

@[simp] theorem Device.setSlot_core (c k : Nat) (s : Slot) : (d.setSlot c k s).core = d.core := rfl
@[simp] theorem Device.setSlot_regs (c k : Nat) (s : Slot) : (d.setSlot c k s).regs = d.regs := rfl
@[simp] theorem Device.setSlot_ctrs (c k : Nat) (s : Slot) : (d.setSlot c k s).ctrs = d.ctrs := rfl
@[simp] theorem Device.setSlot_pages (c k : Nat) (s : Slot) : (d.setSlot c k s).pages = d.pages := rfl
@[simp] theorem Device.setSlot_gens (c k : Nat) (s : Slot) : (d.setSlot c k s).gens = d.gens := rfl
@[simp] theorem Device.setSlot_trees (c k : Nat) (s : Slot) : (d.setSlot c k s).trees = d.trees := rfl
@[simp] theorem Device.setSlot_bursts (c k : Nat) (s : Slot) : (d.setSlot c k s).bursts = d.bursts := rfl
@[simp] theorem Device.setSlot_rng (c k : Nat) (s : Slot) : (d.setSlot c k s).rng = d.rng := rfl
@[simp] theorem Device.setSlot_pow (c k : Nat) (s : Slot) : (d.setSlot c k s).pow = d.pow := rfl
@[simp] theorem Device.setSlot_cells (c k : Nat) (s : Slot) : (d.setSlot c k s).cells = d.cells := rfl
@[simp] theorem Device.setSlot_traffic (c k : Nat) (s : Slot) : (d.setSlot c k s).traffic = d.traffic := rfl
@[simp] theorem Device.setSlot_pkt (c k : Nat) (s : Slot) : (d.setSlot c k s).pkt = d.pkt := rfl
@[simp] theorem Device.setSlot_svc (c k : Nat) (s : Slot) : (d.setSlot c k s).svc = d.svc := rfl
@[simp] theorem Device.setSlot_hif (c k : Nat) (s : Slot) : (d.setSlot c k s).hif = d.hif := rfl
@[simp] theorem Device.setSlot_net (c k : Nat) (s : Slot) : (d.setSlot c k s).net = d.net := rfl
@[simp] theorem Device.setSlot_mon (c k : Nat) (s : Slot) : (d.setSlot c k s).mon = d.mon := rfl
@[simp] theorem Device.setSlot_tmu (c k : Nat) (s : Slot) : (d.setSlot c k s).tmu = d.tmu := rfl
@[simp] theorem Device.setSlot_mru (c k : Nat) (s : Slot) : (d.setSlot c k s).mru = d.mru := rfl
@[simp] theorem Device.setSlot_fuses (c k : Nat) (s : Slot) : (d.setSlot c k s).fuses = d.fuses := rfl
@[simp] theorem Device.setSlot_sec (c k : Nat) (s : Slot) : (d.setSlot c k s).sec = d.sec := rfl
@[simp] theorem Device.setSlot_spm (c k : Nat) (s : Slot) : (d.setSlot c k s).spm = d.spm := rfl
@[simp] theorem Device.setSlot_era (c k : Nat) (s : Slot) : (d.setSlot c k s).era = d.era := rfl
@[simp] theorem Device.setSlot_slices (c k : Nat) (s : Slot) : (d.setSlot c k s).slices = d.slices := rfl

/-! ### setTerm -/

@[simp] theorem Device.setTerm_core (x : Nat) (t : Term) : (d.setTerm x t).core = d.core := rfl
@[simp] theorem Device.setTerm_regs (x : Nat) (t : Term) : (d.setTerm x t).regs = d.regs := rfl
@[simp] theorem Device.setTerm_ctrs (x : Nat) (t : Term) : (d.setTerm x t).ctrs = d.ctrs := rfl
@[simp] theorem Device.setTerm_pages (x : Nat) (t : Term) : (d.setTerm x t).pages = d.pages := rfl
@[simp] theorem Device.setTerm_gens (x : Nat) (t : Term) : (d.setTerm x t).gens = d.gens := rfl
@[simp] theorem Device.setTerm_trees (x : Nat) (t : Term) : (d.setTerm x t).trees = d.trees := rfl
@[simp] theorem Device.setTerm_fret (x : Nat) (t : Term) : (d.setTerm x t).fret = d.fret := rfl
@[simp] theorem Device.setTerm_bursts (x : Nat) (t : Term) : (d.setTerm x t).bursts = d.bursts := rfl
@[simp] theorem Device.setTerm_pow (x : Nat) (t : Term) : (d.setTerm x t).pow = d.pow := rfl
@[simp] theorem Device.setTerm_cells (x : Nat) (t : Term) : (d.setTerm x t).cells = d.cells := rfl
@[simp] theorem Device.setTerm_traffic (x : Nat) (t : Term) : (d.setTerm x t).traffic = d.traffic := rfl
@[simp] theorem Device.setTerm_pkt (x : Nat) (t : Term) : (d.setTerm x t).pkt = d.pkt := rfl
@[simp] theorem Device.setTerm_svc (x : Nat) (t : Term) : (d.setTerm x t).svc = d.svc := rfl
@[simp] theorem Device.setTerm_hif (x : Nat) (t : Term) : (d.setTerm x t).hif = d.hif := rfl
@[simp] theorem Device.setTerm_net (x : Nat) (t : Term) : (d.setTerm x t).net = d.net := rfl
@[simp] theorem Device.setTerm_mon (x : Nat) (t : Term) : (d.setTerm x t).mon = d.mon := rfl
@[simp] theorem Device.setTerm_tmu (x : Nat) (t : Term) : (d.setTerm x t).tmu = d.tmu := rfl
@[simp] theorem Device.setTerm_mru (x : Nat) (t : Term) : (d.setTerm x t).mru = d.mru := rfl
@[simp] theorem Device.setTerm_fuses (x : Nat) (t : Term) : (d.setTerm x t).fuses = d.fuses := rfl
@[simp] theorem Device.setTerm_sec (x : Nat) (t : Term) : (d.setTerm x t).sec = d.sec := rfl
@[simp] theorem Device.setTerm_spm (x : Nat) (t : Term) : (d.setTerm x t).spm = d.spm := rfl
@[simp] theorem Device.setTerm_era (x : Nat) (t : Term) : (d.setTerm x t).era = d.era := rfl
@[simp] theorem Device.setTerm_slices (x : Nat) (t : Term) : (d.setTerm x t).slices = d.slices := rfl

/-! ### setBrx -/

@[simp] theorem Device.setBrx_core (c : Nat) (x : Brx) : (d.setBrx c x).core = d.core := rfl
@[simp] theorem Device.setBrx_regs (c : Nat) (x : Brx) : (d.setBrx c x).regs = d.regs := rfl
@[simp] theorem Device.setBrx_ctrs (c : Nat) (x : Brx) : (d.setBrx c x).ctrs = d.ctrs := rfl
@[simp] theorem Device.setBrx_pages (c : Nat) (x : Brx) : (d.setBrx c x).pages = d.pages := rfl
@[simp] theorem Device.setBrx_gens (c : Nat) (x : Brx) : (d.setBrx c x).gens = d.gens := rfl
@[simp] theorem Device.setBrx_trees (c : Nat) (x : Brx) : (d.setBrx c x).trees = d.trees := rfl
@[simp] theorem Device.setBrx_fret (c : Nat) (x : Brx) : (d.setBrx c x).fret = d.fret := rfl
@[simp] theorem Device.setBrx_rng (c : Nat) (x : Brx) : (d.setBrx c x).rng = d.rng := rfl
@[simp] theorem Device.setBrx_pow (c : Nat) (x : Brx) : (d.setBrx c x).pow = d.pow := rfl
@[simp] theorem Device.setBrx_cells (c : Nat) (x : Brx) : (d.setBrx c x).cells = d.cells := rfl
@[simp] theorem Device.setBrx_traffic (c : Nat) (x : Brx) : (d.setBrx c x).traffic = d.traffic := rfl
@[simp] theorem Device.setBrx_pkt (c : Nat) (x : Brx) : (d.setBrx c x).pkt = d.pkt := rfl
@[simp] theorem Device.setBrx_svc (c : Nat) (x : Brx) : (d.setBrx c x).svc = d.svc := rfl
@[simp] theorem Device.setBrx_hif (c : Nat) (x : Brx) : (d.setBrx c x).hif = d.hif := rfl
@[simp] theorem Device.setBrx_net (c : Nat) (x : Brx) : (d.setBrx c x).net = d.net := rfl
@[simp] theorem Device.setBrx_mon (c : Nat) (x : Brx) : (d.setBrx c x).mon = d.mon := rfl
@[simp] theorem Device.setBrx_tmu (c : Nat) (x : Brx) : (d.setBrx c x).tmu = d.tmu := rfl
@[simp] theorem Device.setBrx_mru (c : Nat) (x : Brx) : (d.setBrx c x).mru = d.mru := rfl
@[simp] theorem Device.setBrx_fuses (c : Nat) (x : Brx) : (d.setBrx c x).fuses = d.fuses := rfl
@[simp] theorem Device.setBrx_sec (c : Nat) (x : Brx) : (d.setBrx c x).sec = d.sec := rfl
@[simp] theorem Device.setBrx_spm (c : Nat) (x : Brx) : (d.setBrx c x).spm = d.spm := rfl
@[simp] theorem Device.setBrx_era (c : Nat) (x : Brx) : (d.setBrx c x).era = d.era := rfl
@[simp] theorem Device.setBrx_slices (c : Nat) (x : Brx) : (d.setBrx c x).slices = d.slices := rfl

/-! ### hear -/

@[simp] theorem Device.hear_core : (d.hear).core = d.core := rfl
@[simp] theorem Device.hear_ctrs : (d.hear).ctrs = d.ctrs := rfl
@[simp] theorem Device.hear_pages : (d.hear).pages = d.pages := rfl
@[simp] theorem Device.hear_gens : (d.hear).gens = d.gens := rfl
@[simp] theorem Device.hear_trees : (d.hear).trees = d.trees := rfl
@[simp] theorem Device.hear_fret : (d.hear).fret = d.fret := rfl
@[simp] theorem Device.hear_bursts : (d.hear).bursts = d.bursts := rfl
@[simp] theorem Device.hear_rng : (d.hear).rng = d.rng := rfl
@[simp] theorem Device.hear_pow : (d.hear).pow = d.pow := rfl
@[simp] theorem Device.hear_cells : (d.hear).cells = d.cells := rfl
@[simp] theorem Device.hear_traffic : (d.hear).traffic = d.traffic := rfl
@[simp] theorem Device.hear_pkt : (d.hear).pkt = d.pkt := rfl
@[simp] theorem Device.hear_svc : (d.hear).svc = d.svc := rfl
@[simp] theorem Device.hear_hif : (d.hear).hif = d.hif := rfl
@[simp] theorem Device.hear_net : (d.hear).net = d.net := rfl
@[simp] theorem Device.hear_mon : (d.hear).mon = d.mon := rfl
@[simp] theorem Device.hear_tmu : (d.hear).tmu = d.tmu := rfl
@[simp] theorem Device.hear_fuses : (d.hear).fuses = d.fuses := rfl
@[simp] theorem Device.hear_sec : (d.hear).sec = d.sec := rfl
@[simp] theorem Device.hear_spm : (d.hear).spm = d.spm := rfl
@[simp] theorem Device.hear_era : (d.hear).era = d.era := rfl
@[simp] theorem Device.hear_slices : (d.hear).slices = d.slices := rfl

/-! ### answer -/

@[simp] theorem Device.answer_regs (v : Nat) : (d.answer v).regs = d.regs := rfl
@[simp] theorem Device.answer_ctrs (v : Nat) : (d.answer v).ctrs = d.ctrs := rfl
@[simp] theorem Device.answer_pages (v : Nat) : (d.answer v).pages = d.pages := rfl
@[simp] theorem Device.answer_gens (v : Nat) : (d.answer v).gens = d.gens := rfl
@[simp] theorem Device.answer_trees (v : Nat) : (d.answer v).trees = d.trees := rfl
@[simp] theorem Device.answer_fret (v : Nat) : (d.answer v).fret = d.fret := rfl
@[simp] theorem Device.answer_bursts (v : Nat) : (d.answer v).bursts = d.bursts := rfl
@[simp] theorem Device.answer_rng (v : Nat) : (d.answer v).rng = d.rng := rfl
@[simp] theorem Device.answer_pow (v : Nat) : (d.answer v).pow = d.pow := rfl
@[simp] theorem Device.answer_cells (v : Nat) : (d.answer v).cells = d.cells := rfl
@[simp] theorem Device.answer_traffic (v : Nat) : (d.answer v).traffic = d.traffic := rfl
@[simp] theorem Device.answer_pkt (v : Nat) : (d.answer v).pkt = d.pkt := rfl
@[simp] theorem Device.answer_svc (v : Nat) : (d.answer v).svc = d.svc := rfl
@[simp] theorem Device.answer_hif (v : Nat) : (d.answer v).hif = d.hif := rfl
@[simp] theorem Device.answer_net (v : Nat) : (d.answer v).net = d.net := rfl
@[simp] theorem Device.answer_mon (v : Nat) : (d.answer v).mon = d.mon := rfl
@[simp] theorem Device.answer_tmu (v : Nat) : (d.answer v).tmu = d.tmu := rfl
@[simp] theorem Device.answer_mru (v : Nat) : (d.answer v).mru = d.mru := rfl
@[simp] theorem Device.answer_fuses (v : Nat) : (d.answer v).fuses = d.fuses := rfl
@[simp] theorem Device.answer_sec (v : Nat) : (d.answer v).sec = d.sec := rfl
@[simp] theorem Device.answer_spm (v : Nat) : (d.answer v).spm = d.spm := rfl
@[simp] theorem Device.answer_era (v : Nat) : (d.answer v).era = d.era := rfl
@[simp] theorem Device.answer_slices (v : Nat) : (d.answer v).slices = d.slices := rfl

/-! ### setCmds -/

@[simp] theorem Device.setCmds_core (l : List Cmd) : (d.setCmds l).core = d.core := rfl
@[simp] theorem Device.setCmds_regs (l : List Cmd) : (d.setCmds l).regs = d.regs := rfl
@[simp] theorem Device.setCmds_ctrs (l : List Cmd) : (d.setCmds l).ctrs = d.ctrs := rfl
@[simp] theorem Device.setCmds_pages (l : List Cmd) : (d.setCmds l).pages = d.pages := rfl
@[simp] theorem Device.setCmds_gens (l : List Cmd) : (d.setCmds l).gens = d.gens := rfl
@[simp] theorem Device.setCmds_trees (l : List Cmd) : (d.setCmds l).trees = d.trees := rfl
@[simp] theorem Device.setCmds_fret (l : List Cmd) : (d.setCmds l).fret = d.fret := rfl
@[simp] theorem Device.setCmds_bursts (l : List Cmd) : (d.setCmds l).bursts = d.bursts := rfl
@[simp] theorem Device.setCmds_rng (l : List Cmd) : (d.setCmds l).rng = d.rng := rfl
@[simp] theorem Device.setCmds_pow (l : List Cmd) : (d.setCmds l).pow = d.pow := rfl
@[simp] theorem Device.setCmds_cells (l : List Cmd) : (d.setCmds l).cells = d.cells := rfl
@[simp] theorem Device.setCmds_traffic (l : List Cmd) : (d.setCmds l).traffic = d.traffic := rfl
@[simp] theorem Device.setCmds_pkt (l : List Cmd) : (d.setCmds l).pkt = d.pkt := rfl
@[simp] theorem Device.setCmds_hif (l : List Cmd) : (d.setCmds l).hif = d.hif := rfl
@[simp] theorem Device.setCmds_net (l : List Cmd) : (d.setCmds l).net = d.net := rfl
@[simp] theorem Device.setCmds_mon (l : List Cmd) : (d.setCmds l).mon = d.mon := rfl
@[simp] theorem Device.setCmds_tmu (l : List Cmd) : (d.setCmds l).tmu = d.tmu := rfl
@[simp] theorem Device.setCmds_mru (l : List Cmd) : (d.setCmds l).mru = d.mru := rfl
@[simp] theorem Device.setCmds_fuses (l : List Cmd) : (d.setCmds l).fuses = d.fuses := rfl
@[simp] theorem Device.setCmds_sec (l : List Cmd) : (d.setCmds l).sec = d.sec := rfl
@[simp] theorem Device.setCmds_spm (l : List Cmd) : (d.setCmds l).spm = d.spm := rfl
@[simp] theorem Device.setCmds_era (l : List Cmd) : (d.setCmds l).era = d.era := rfl
@[simp] theorem Device.setCmds_slices (l : List Cmd) : (d.setCmds l).slices = d.slices := rfl

/-! ### Fields -/

/-- A field written holds its value, cut to its width. -/
@[simp] theorem Device.rd_wr_same (f : Fld) (v : Nat) : (d.wr f v).rd f = v % 2 ^ f.width := Tbl.getD_put_same _ _ _ _

/-- A field with another key keeps its value. -/
theorem Device.rd_wr_ne {f g : Fld} (v : Nat) (h : fkey g ≠ fkey f) : (d.wr f v).rd g = d.rd g := Tbl.getD_put_ne _ _ _ _ h

/-- An applied copy with another key keeps its value. -/
theorem Device.rdA_wr_ne {f g : Fld} (v : Nat) (h : fkeyA g ≠ fkey f) : (d.wr f v).rdA g = d.rdA g := Tbl.getD_put_ne _ _ _ _ h

theorem Device.on_wr_ne {f g : Fld} (v : Nat) (h : fkey g ≠ fkey f) : (d.wr f v).on g = d.on g := by
  simp [Device.on, Device.rd_wr_ne d v h]

/-! ### Counters -/

@[simp] theorem Device.ctr_setCtr_same (p o v : Nat) : (d.setCtr p o v).ctr p o = v % 2 ^ 64 := Tbl.getD_put_same _ _ _ _

/-- A counter counts modulo two to the 64. -/
@[simp] theorem Device.ctr_count_same (p o n : Nat) : (d.count p o n).ctr p o = (d.ctr p o + n) % 2 ^ 64 := Tbl.getD_put_same _ _ _ _

theorem Device.ctr_count_ne {p o q r : Nat} (n : Nat) (h : ctrKey q r ≠ ctrKey p o) : (d.count p o n).ctr q r = d.ctr q r :=
  Tbl.getD_put_ne _ _ _ _ h

@[simp] theorem Device.wr_ctr (f : Fld) (v : Nat) (q r : Nat) : (d.wr f v).ctr q r = d.ctr q r := rfl
@[simp] theorem Device.wr_now (f : Fld) (v : Nat) : (d.wr f v).now = d.now := rfl
@[simp] theorem Device.wrIf_ctr (c : Bool) (f : Fld) (v : Nat) (q r : Nat) : (d.wrIf c f v).ctr q r = d.ctr q r := by unfold Device.wrIf; split <;> rfl
@[simp] theorem Device.wrIf_now (c : Bool) (f : Fld) (v : Nat) : (d.wrIf c f v).now = d.now := by unfold Device.wrIf; split <;> rfl
@[simp] theorem Device.setCtr_rd (p o v : Nat) (g : Fld) : (d.setCtr p o v).rd g = d.rd g := rfl
@[simp] theorem Device.setCtr_rdA (p o v : Nat) (g : Fld) : (d.setCtr p o v).rdA g = d.rdA g := rfl
@[simp] theorem Device.setCtr_on (p o v : Nat) (g : Fld) : (d.setCtr p o v).on g = d.on g := rfl
@[simp] theorem Device.setCtr_now (p o v : Nat) : (d.setCtr p o v).now = d.now := rfl
@[simp] theorem Device.count_rd (p o n : Nat) (g : Fld) : (d.count p o n).rd g = d.rd g := rfl
@[simp] theorem Device.count_rdA (p o n : Nat) (g : Fld) : (d.count p o n).rdA g = d.rdA g := rfl
@[simp] theorem Device.count_on (p o n : Nat) (g : Fld) : (d.count p o n).on g = d.on g := rfl
@[simp] theorem Device.count_now (p o n : Nat) : (d.count p o n).now = d.now := rfl
@[simp] theorem Device.countIf_rd (c : Bool) (p o : Nat) (g : Fld) : (d.countIf c p o).rd g = d.rd g := by unfold Device.countIf; split <;> rfl
@[simp] theorem Device.countIf_rdA (c : Bool) (p o : Nat) (g : Fld) : (d.countIf c p o).rdA g = d.rdA g := by unfold Device.countIf; split <;> rfl
@[simp] theorem Device.countIf_on (c : Bool) (p o : Nat) (g : Fld) : (d.countIf c p o).on g = d.on g := by unfold Device.countIf; split <;> rfl
@[simp] theorem Device.countIf_now (c : Bool) (p o : Nat) : (d.countIf c p o).now = d.now := by unfold Device.countIf; split <;> rfl
@[simp] theorem Device.lockedWrite_rd (p : Nat) (g : Fld) : (d.lockedWrite p).rd g = d.rd g := rfl
@[simp] theorem Device.lockedWrite_rdA (p : Nat) (g : Fld) : (d.lockedWrite p).rdA g = d.rdA g := rfl
@[simp] theorem Device.lockedWrite_on (p : Nat) (g : Fld) : (d.lockedWrite p).on g = d.on g := rfl
@[simp] theorem Device.lockedWrite_now (p : Nat) : (d.lockedWrite p).now = d.now := rfl
@[simp] theorem Device.refuse_rd (p : Nat) (g : Fld) : (d.refuse p).rd g = d.rd g := rfl
@[simp] theorem Device.refuse_rdA (p : Nat) (g : Fld) : (d.refuse p).rdA g = d.rdA g := rfl
@[simp] theorem Device.refuse_on (p : Nat) (g : Fld) : (d.refuse p).on g = d.on g := rfl
@[simp] theorem Device.refuse_now (p : Nat) : (d.refuse p).now = d.now := rfl
@[simp] theorem Device.bumpBoundary_ctr (p : Nat) (q r : Nat) : (d.bumpBoundary p).ctr q r = d.ctr q r := rfl
@[simp] theorem Device.bumpBoundary_now (p : Nat) : (d.bumpBoundary p).now = d.now := rfl
@[simp] theorem Device.writeLost_ctr (p n : Nat) (q r : Nat) : (d.writeLost p n).ctr q r = d.ctr q r := rfl
@[simp] theorem Device.writeLost_now (p n : Nat) : (d.writeLost p n).now = d.now := rfl
@[simp] theorem Device.emit_rd (o : Out) (g : Fld) : (d.emit o).rd g = d.rd g := rfl
@[simp] theorem Device.emit_rdA (o : Out) (g : Fld) : (d.emit o).rdA g = d.rdA g := rfl
@[simp] theorem Device.emit_on (o : Out) (g : Fld) : (d.emit o).on g = d.on g := rfl
@[simp] theorem Device.emit_ctr (o : Out) (q r : Nat) : (d.emit o).ctr q r = d.ctr q r := rfl
@[simp] theorem Device.emit_now (o : Out) : (d.emit o).now = d.now := rfl
@[simp] theorem Device.setCfr_rd (c : Nat) (x : Cfr) (g : Fld) : (d.setCfr c x).rd g = d.rd g := rfl
@[simp] theorem Device.setCfr_rdA (c : Nat) (x : Cfr) (g : Fld) : (d.setCfr c x).rdA g = d.rdA g := rfl
@[simp] theorem Device.setCfr_on (c : Nat) (x : Cfr) (g : Fld) : (d.setCfr c x).on g = d.on g := rfl
@[simp] theorem Device.setCfr_ctr (c : Nat) (x : Cfr) (q r : Nat) : (d.setCfr c x).ctr q r = d.ctr q r := rfl
@[simp] theorem Device.setCfr_now (c : Nat) (x : Cfr) : (d.setCfr c x).now = d.now := rfl
@[simp] theorem Device.ploam_rd (c : Nat) (m : Ploam) (g : Fld) : (d.ploam c m).rd g = d.rd g := rfl
@[simp] theorem Device.ploam_rdA (c : Nat) (m : Ploam) (g : Fld) : (d.ploam c m).rdA g = d.rdA g := rfl
@[simp] theorem Device.ploam_on (c : Nat) (m : Ploam) (g : Fld) : (d.ploam c m).on g = d.on g := rfl
@[simp] theorem Device.ploam_ctr (c : Nat) (m : Ploam) (q r : Nat) : (d.ploam c m).ctr q r = d.ctr q r := rfl
@[simp] theorem Device.ploam_now (c : Nat) (m : Ploam) : (d.ploam c m).now = d.now := rfl
@[simp] theorem Device.setCourse_rd (x : Nat) (c : Course) (g : Fld) : (d.setCourse x c).rd g = d.rd g := rfl
@[simp] theorem Device.setCourse_rdA (x : Nat) (c : Course) (g : Fld) : (d.setCourse x c).rdA g = d.rdA g := rfl
@[simp] theorem Device.setCourse_on (x : Nat) (c : Course) (g : Fld) : (d.setCourse x c).on g = d.on g := rfl
@[simp] theorem Device.setCourse_ctr (x : Nat) (c : Course) (q r : Nat) : (d.setCourse x c).ctr q r = d.ctr q r := rfl
@[simp] theorem Device.setCourse_now (x : Nat) (c : Course) : (d.setCourse x c).now = d.now := rfl
@[simp] theorem Device.setSlot_rd (c k : Nat) (s : Slot) (g : Fld) : (d.setSlot c k s).rd g = d.rd g := rfl
@[simp] theorem Device.setSlot_rdA (c k : Nat) (s : Slot) (g : Fld) : (d.setSlot c k s).rdA g = d.rdA g := rfl
@[simp] theorem Device.setSlot_on (c k : Nat) (s : Slot) (g : Fld) : (d.setSlot c k s).on g = d.on g := rfl
@[simp] theorem Device.setSlot_ctr (c k : Nat) (s : Slot) (q r : Nat) : (d.setSlot c k s).ctr q r = d.ctr q r := rfl
@[simp] theorem Device.setSlot_now (c k : Nat) (s : Slot) : (d.setSlot c k s).now = d.now := rfl
@[simp] theorem Device.setTerm_rd (x : Nat) (t : Term) (g : Fld) : (d.setTerm x t).rd g = d.rd g := rfl
@[simp] theorem Device.setTerm_rdA (x : Nat) (t : Term) (g : Fld) : (d.setTerm x t).rdA g = d.rdA g := rfl
@[simp] theorem Device.setTerm_on (x : Nat) (t : Term) (g : Fld) : (d.setTerm x t).on g = d.on g := rfl
@[simp] theorem Device.setTerm_ctr (x : Nat) (t : Term) (q r : Nat) : (d.setTerm x t).ctr q r = d.ctr q r := rfl
@[simp] theorem Device.setTerm_now (x : Nat) (t : Term) : (d.setTerm x t).now = d.now := rfl
@[simp] theorem Device.setBrx_rd (c : Nat) (x : Brx) (g : Fld) : (d.setBrx c x).rd g = d.rd g := rfl
@[simp] theorem Device.setBrx_rdA (c : Nat) (x : Brx) (g : Fld) : (d.setBrx c x).rdA g = d.rdA g := rfl
@[simp] theorem Device.setBrx_on (c : Nat) (x : Brx) (g : Fld) : (d.setBrx c x).on g = d.on g := rfl
@[simp] theorem Device.setBrx_ctr (c : Nat) (x : Brx) (q r : Nat) : (d.setBrx c x).ctr q r = d.ctr q r := rfl
@[simp] theorem Device.setBrx_now (c : Nat) (x : Brx) : (d.setBrx c x).now = d.now := rfl
@[simp] theorem Device.hear_ctr (q r : Nat) : (d.hear).ctr q r = d.ctr q r := rfl
@[simp] theorem Device.hear_now : (d.hear).now = d.now := rfl
@[simp] theorem Device.answer_rd (v : Nat) (g : Fld) : (d.answer v).rd g = d.rd g := rfl
@[simp] theorem Device.answer_rdA (v : Nat) (g : Fld) : (d.answer v).rdA g = d.rdA g := rfl
@[simp] theorem Device.answer_on (v : Nat) (g : Fld) : (d.answer v).on g = d.on g := rfl
@[simp] theorem Device.answer_ctr (v : Nat) (q r : Nat) : (d.answer v).ctr q r = d.ctr q r := rfl
@[simp] theorem Device.answer_now (v : Nat) : (d.answer v).now = d.now := rfl
@[simp] theorem Device.setCmds_rd (l : List Cmd) (g : Fld) : (d.setCmds l).rd g = d.rd g := rfl
@[simp] theorem Device.setCmds_rdA (l : List Cmd) (g : Fld) : (d.setCmds l).rdA g = d.rdA g := rfl
@[simp] theorem Device.setCmds_on (l : List Cmd) (g : Fld) : (d.setCmds l).on g = d.on g := rfl
@[simp] theorem Device.setCmds_ctr (l : List Cmd) (q r : Nat) : (d.setCmds l).ctr q r = d.ctr q r := rfl
@[simp] theorem Device.setCmds_now (l : List Cmd) : (d.setCmds l).now = d.now := rfl

/-! ### Parts -/

@[simp] theorem Device.cfr_setCfr_same (c : Nat) (x : Cfr) : (d.setCfr c x).cfr c = x := Tbl.getD_put_same _ _ _ _

theorem Device.cfr_setCfr_ne {c e : Nat} (x : Cfr) (h : e ≠ c) : (d.setCfr c x).cfr e = d.cfr e := Tbl.getD_put_ne _ _ _ _ h

@[simp] theorem Device.slot_setSlot_same (c k : Nat) (s : Slot) : (d.setSlot c k s).slot c k = s := Tbl.getD_put_same _ _ _ _

@[simp] theorem Device.course_setCourse_same (x : Nat) (c : Course) : (d.setCourse x c).course x = c := Tbl.getD_put_same _ _ _ _

@[simp] theorem Device.brx_setBrx_same (c : Nat) (x : Brx) : (d.setBrx c x).brx c = x := Tbl.getD_put_same _ _ _ _

@[simp] theorem Device.term_setTerm_same (x : Nat) (t : Term) : (d.setTerm x t).term? x = some t := Tbl.get?_set_same _ _ _

theorem Device.term_setTerm_ne {x y : Nat} (t : Term) (h : y ≠ x) : (d.setTerm x t).term? y = d.term? y := Tbl.get?_set_ne _ _ h

/-- What every step of a walk over a list keeps, the walk keeps. -/
theorem forEach_keeps {α β : Type} (g : Device → β) (l : List α) (f : α → Device → Device) (h : ∀ a d, g (f a d) = g d) :
    g (forEach l f d) = g d := by
  induction l generalizing d with
  | nil => rfl
  | cons a r ih => exact (ih (f a d)).trans (h a d)

@[simp] theorem forEach_nil {α : Type} (f : α → Device → Device) : forEach [] f d = d := rfl

@[simp] theorem forEach_cons {α : Type} (a : α) (l : List α) (f : α → Device → Device) : forEach (a :: l) f d = forEach l f (f a d) := rfl

/-- A command of a master that may write runs its effect. -/
theorem Device.asMaster_may {m : Master} {k : Key} (p : Nat) (f : Device → Device) (h : mayWrite m k = true) :
    d.asMaster m k p f = f d := by simp [Device.asMaster, h]

/-- A command of another master is refused and counted. -/
theorem Device.asMaster_mayNot {m : Master} {k : Key} (p : Nat) (f : Device → Device) (h : mayWrite m k = false) :
    d.asMaster m k p f = d.refuse p := by simp [Device.asMaster, h]

end Sys2Proof.Machine
end

