-- ==== Sys2Proof/Laws/Run.lean ====
section
/-!
SUPPORT. How a command meets the device: the outcome of `onDevice`, what the arrival of device time changes, and what follows a command.
-/

namespace Sys2Proof.Machine

open Sys2Proof.Safety

/-! ### Outcomes -/

/-- Out of reset a command has its effect on the device at its instant. -/
theorem onDevice_next (t : Nat) (f : Device → Device) {s : State} (h : s.inReset = false) :
    onDevice t f s = .next (s.ran (s.dev.arrive t) (f (s.dev.arrive t))) := by simp [onDevice, h]

/-- In reset a command reaches nothing. -/
theorem onDevice_reset (t : Nat) (f : Device → Device) {s : State} (h : s.inReset = true) : onDevice t f s = .next s := by
  simp [onDevice, h]

theorem onLoaded_next (t : Nat) (load f : Device → Device) {s : State} (h : s.inReset = false) :
    onLoaded t load f s = .next (s.ran (load (s.dev.arrive t)) (f (s.dev.arrive t))) := by simp [onLoaded, h]

theorem onLoaded_reset (t : Nat) (load f : Device → Device) {s : State} (h : s.inReset = true) : onLoaded t load f s = .next s := by
  simp [onLoaded, h]

@[simp] theorem State.ran_inReset (s : State) (base d : Device) : (s.ran base d).inReset = s.inReset := by unfold State.ran; rfl
@[simp] theorem State.ran_pending (s : State) (base d : Device) : (s.ran base d).pending = s.pending := by unfold State.ran; rfl
@[simp] theorem State.ran_dev (s : State) (base d : Device) : (s.ran base d).dev = Device.after s.dev base d := by unfold State.ran; rfl

/-! ### Arrival -/

/-- While device time stands still, the arrival of a command changes only what the last command showed. -/
theorem Device.arrive_still (t : Nat) (d : Device) (h : d.running = false) : d.arrive t = { d with core := { d.core with out := [] } } := by
  have e : Device.running { d with core := { d.core with out := [] } } = false := h
  simp [Device.arrive, e]

theorem monTime_keeps {β : Type} (g : Device → β) (h : ∀ d o n, g (Device.count 0x007 o n d) = g d) (dt : Nat) (d : Device) :
    g (d.monTime dt) = g d := by
  unfold Device.monTime
  refine forEach_keeps _ g _ _ (fun a d => ?_)
  unfold Device.monAdd
  split
  · rfl
  · exact h d _ _

theorem forEach_keeps' {α β : Type} (g : Device → β) (l : List α) (f : α → Device → Device) (h : ∀ a d, g (f a d) = g d) (d : Device) :
    g (forEach l f d) = g d := forEach_keeps d g l f h

theorem forEach_keeps_mem {α β : Type} (g : Device → β) (l : List α) (f : α → Device → Device) (h : ∀ a ∈ l, ∀ d, g (f a d) = g d) (d : Device) :
    g (forEach l f d) = g d := by
  induction l generalizing d with
  | nil => rfl
  | cons a r ih => exact (ih (fun b hb => h b (List.mem_cons_of_mem _ hb)) (f a d)).trans (h a (List.mem_cons_self ..) d)

theorem slotTime_keeps {β : Type} (g : Device → β) (h : ∀ d p o n, p < 0x034 ∨ p = 0x007 → g (Device.count p o n d) = g d)
    (hp : ∀ (d : Device) x y, g { d with pkt := { d.pkt with slotAcc := x, slotUsed := y } } = g d) (dt : Nat) (d : Device) : g (d.slotTime dt) = g d := by
  unfold Device.slotTime
  split
  · rfl
  · unfold Device.monEvents
    rw [forEach_keeps _ g _ _ (fun a d => ?_)]
    · refine forEach_keeps_mem g _ _ (fun s hs d => ?_) d
      have hs : s < 36 := by simpa using (List.mem_filter.1 hs).2
      have hc : slicePage s < 0x034 := by unfold slicePage; omega
      have lost (n : Nat) (d : Device) : g (d.slotsLost s n) = g d := by
        unfold Device.slotsLost
        split
        · rfl
        · rw [h _ _ _ _ (.inl hc), h _ _ _ _ (.inl hc)]
      exact (lost _ _).trans (hp d _ _)
    · have add (n k : Nat) (d : Device) : g (d.monAdd n k) = g d := by
        unfold Device.monAdd
        split
        · rfl
        · exact h d _ _ _ (.inr rfl)
      exact add _ _ _

/-- What counters and the slew of phase leave alone, the arrival of a command leaves alone. -/
theorem Device.arrive_keeps {β : Type} (g : Device → β) (h1 : ∀ d p o n, p < 0x034 ∨ p = 0x007 → g (Device.count p o n d) = g d)
    (hp : ∀ (d : Device) x y, g { d with pkt := { d.pkt with slotAcc := x, slotUsed := y } } = g d) (h2 : ∀ d dt, g (Device.slew dt d) = g d)
    (h3 : ∀ (d : Device) c, g { d with core := c } = g d) (h4 : ∀ (d : Device) x, g { d with hif := x } = g d) (t : Nat) (d : Device) :
    g (d.arrive t) = g d := by
  unfold Device.arrive
  simp only
  generalize hd0 : ({ d with core := { d.core with out := [] } } : Device) = d0
  have e0 : g d0 = g d := hd0 ▸ h3 d _
  generalize t - d0.now = dt
  generalize hd1 : ((d0.monTime dt).slotTime dt).slew dt = d1
  have e1 : g d1 = g d := by rw [← hd1, h2, slotTime_keeps g h1 hp, monTime_keeps g (fun d o n => h1 d _ o n (.inr rfl)), e0]
  split
  · split
    · exact (h4 _ _).trans ((h3 d1 _).trans e1)
    · exact (h3 d1 _).trans e1
  · exact e0

theorem Device.setFreq_eq (f : Int) (d : Device) :
    d.setFreq f = { d with regs := (d.setFreq f).regs, tmu := { d.tmu with applied := (d.setFreq f).tmu.applied } } := by
  unfold Device.setFreq
  simp only
  split <;> rfl

theorem Device.refreq_eq (d : Device) :
    d.refreq = { d with regs := d.refreq.regs, tmu := { d.tmu with applied := d.refreq.tmu.applied } } := by
  unfold Device.refreq
  split
  · rfl
  · split
    exacts [Device.setFreq_eq _ _, Device.setFreq_eq _ _]

/-- The slew of the phase changes fields of the TMU and what the device remembers of it, no more. -/
theorem Device.slew_eq (dt : Nat) (d : Device) :
    d.slew dt = { d with regs := (d.slew dt).regs, tmu := { d.tmu with applied := (d.slew dt).tmu.applied, phaseAcc := (d.slew dt).tmu.phaseAcc,
                                                                       clamped := (d.slew dt).tmu.clamped } } := by
  unfold Device.slew
  split
  · rfl
  · simp only
    split
    · rfl
    · generalize he : Device.wr _ _ _ = e
      rw [Device.refreq_eq e]
      subst he
      rfl

theorem Device.arrive_fuses (t : Nat) (d : Device) : (d.arrive t).fuses = d.fuses :=
  Device.arrive_keeps (fun d => d.fuses) (fun _ _ _ _ _ => rfl) (fun _ _ _ => rfl) (fun d dt => by rw [Device.slew_eq]) (fun _ _ => rfl) (fun _ _ => rfl) t d

theorem Device.arrive_sec (t : Nat) (d : Device) : (d.arrive t).sec = d.sec :=
  Device.arrive_keeps (fun d => d.sec) (fun _ _ _ _ _ => rfl) (fun _ _ _ => rfl) (fun d dt => by rw [Device.slew_eq]) (fun _ _ => rfl) (fun _ _ => rfl) t d

/-! ### What follows a command -/

/-- A page whose fields an exchange of a PLL or a fuse burn may write: the SEC, the SPM, a network quad. A field's key tells its page. -/
def exchangePage (p : Nat) : Prop := p = 0x002 ∨ p = 0x006 ∨ (0x180 ≤ p ∧ p < 0x190)

/-- A page on which what follows a command may count: the SPM, the MON, a network quad, FlexE. A counter's key tells its page. -/
def followPage (p : Nat) : Prop := p = 0x006 ∨ p = 0x007 ∨ (0x180 ≤ p ∧ p ≤ 0x190)

/-- A counter that what follows a command may advance: one of those pages, or a channel's time of unexpected light. -/
def followCtr (k : Nat) : Prop := followPage (k / 0x1000) ∨ (0x080 ≤ k / 0x1000 ∧ k / 0x1000 < 0x180 ∧ k % 0x1000 = 0x9A8)

/-- What an exchange of a unit, the monitor, a receiver's view of its light and the start of LOBi may touch, `g` does not see. -/
structure Blind {β : Type} (g : Device → β) : Prop where
  count' : ∀ d p o n, followCtr (ctrKey p o) → g (Device.count p o n d) = g d
  brx : ∀ d c b, g (Device.setBrx c b d) = g d
  lob : ∀ (d : Device) p n, g (Device.lobFrom p n d) = g d
  spm : ∀ (d : Device) x, g { d with spm := x } = g d
  sec : ∀ (d : Device) x, g { d with sec := x } = g d
  net : ∀ (d : Device) x, g { d with net := x } = g d
  cfr : ∀ (d : Device) c x, g (d.setCfr c x) = g d
  wr : ∀ (d : Device) f v, exchangePage (fkey f / 0x8000) → g (d.wr f v) = g d

theorem quadPage (p : Nat) (hp : p < 64) (f : Nat → Nat → Fld) (hf : ∀ q s, s < 4 → fkey (f q s) / 0x8000 = 0x180 + q) :
    exchangePage (fkey (f (quadOf p) (slotOf p)) / 0x8000) := by
  rw [hf _ _ (by unfold slotOf; omega)]
  unfold exchangePage quadOf
  omega

section
variable {β : Type} {g : Device → β} (h : Blind g) (d : Device)
include h

theorem Blind.count (d : Device) (p o n : Nat) (hp : followPage (ctrKey p o / 0x1000)) : g (Device.count p o n d) = g d := h.count' d p o n (.inl hp)

theorem Blind.startBurn : g d.startBurn = g d := by
  unfold Device.startBurn
  split
  · exact h.wr _ _ _ (.inl rfl)
  · rfl

theorem Blind.askBurn (x : Burn) : g (d.askBurn x) = g d := by
  unfold Device.askBurn
  rw [h.startBurn, h.sec]

theorem Blind.countIf (c : Bool) (p o : Nat) (hp : followPage (ctrKey p o / 0x1000)) : g (d.countIf c p o) = g d := by
  unfold Device.countIf
  split
  · exact h.count _ _ _ _ hp
  · rfl

theorem Blind.monEvents (d0 : Device) : g (Device.monEvents d0 d) = g d := by
  refine forEach_keeps_mem g _ _ (fun n hn d => ?_) d
  have := List.mem_range.1 (List.mem_filter.1 hn).1
  unfold Device.monAdd
  simp only
  split
  · rfl
  · exact h.count _ _ _ _ (.inr (.inl (by unfold ctrKey; omega)))

theorem Blind.monEdges (d0 : Device) (own : Bool) : g (Device.monEdges d0 own d) = g d := by
  refine forEach_keeps_mem g _ _ (fun n hn d => ?_) d
  have := List.mem_range.1 (List.mem_filter.1 hn).1
  unfold Device.monAdd
  split
  · rfl
  · exact h.count _ _ _ _ (.inr (.inl (by unfold ctrKey; omega)))

theorem Blind.started (k : Nat) : g (d.started k) = g d := h.spm d _

theorem Blind.recordExchange (k u x : Nat) (b : Bool) : g (d.recordExchange k u x b) = g d := by
  have hc : g ((d.count spmPage 0x810 1).countIf b spmPage 0x818) = g d := by
    rw [h.countIf _ _ _ _ (.inl rfl), h.count _ _ _ _ (.inl rfl)]
  unfold Device.recordExchange
  cases b <;> simp only [Bool.false_eq_true, if_false, if_true] <;> split
  · rw [h.count _ _ _ _ (.inl rfl), h.wr _ _ _ (.inr (.inl rfl)), hc]
  · rw [h.askBurn, hc]
  · rw [h.count _ _ _ _ (.inl rfl), h.wr _ _ _ (.inr (.inl rfl)), h.started, hc]
  · rw [h.askBurn, h.started, hc]

theorem Blind.showPending : g d.showPending = g d := by
  unfold Device.showPending
  split <;> rw [h.wr _ _ _ (.inr (.inl rfl)), h.wr _ _ _ (.inr (.inl rfl)), h.wr _ _ _ (.inr (.inl rfl))]

theorem Blind.retrain (p : Nat) (hp : p < 64) : g ((d.portFalls p).startTraining p) = g d := by
  unfold Device.startTraining Device.wrPort
  rw [h.wr _ _ _ (quadPage p hp _ (fun q s hs => by simp only [fkey, NPC.BRINGUP]; omega))]
  unfold Device.setPort
  rw [h.net]
  unfold Device.portFalls Device.wrPort Device.countNet
  simp only
  split
  · rw [h.count _ _ _ _ ?_, h.wr _ _ _ (quadPage p hp _ (fun q s hs => by simp only [fkey, NPC.UP]; omega))]
    refine .inr (.inr ?_)
    unfold Device.countPort
    simp only [hp, if_true]
    unfold ctrKey npcPage quadOf portCtr slotOf
    omega
  · rfl

theorem Blind.disturbPll (n : Nat) : g (d.disturbPll n) = g d := by
  unfold Device.disturbPll
  split
  · rename_i hn
    refine forEach_keeps_mem g _ _ (fun i hi d => ?_) d
    have := List.mem_range.1 hi
    simp only
    split
    · exact h.retrain d _ (by omega)
    · rfl
  · exact forEach_keeps' g _ _ (fun _ d => h.cfr d _ _) d

theorem Blind.retire (k u : Nat) : g (d.retire k u) = g d := h.spm d _

theorem Blind.bring (k u : Nat) : g (d.bring k u) = g d := h.spm d _

theorem Blind.noSpare (k u : Nat) : g (d.noSpare k u) = g d := by
  unfold Device.noSpare
  simp only
  split
  · rfl
  · rw [h.count _ _ _ _ (.inl rfl), h.wr _ _ _ (.inr (.inl rfl)), h.spm]

theorem Blind.exchangePll (u : Nat) (b : Bool) : g (d.exchangePll u b) = g d := by
  unfold Device.exchangePll
  split
  · rw [h.recordExchange, h.disturbPll, h.retire, h.bring]
  · split
    · simp only
      rw [h.spm, h.disturbPll, h.retire]
    · exact h.noSpare d _ _

theorem Blind.pllDue : g d.pllDue = g d := by
  unfold Device.pllDue
  split
  · simp only
    rw [h.showPending, h.wr _ _ _ (.inr (.inl rfl))]
    unfold Device.started
    rw [h.spm, h.exchangePll, h.spm]
  · rfl

theorem Blind.accountLight (c t : Nat) (hc : c < 256) : g (d.accountLight c t) = g d := by
  unfold Device.accountLight
  extract_lets b n e
  have he : g e = g d := h.brx _ _ _
  by_cases hb : b.light = true
  · rw [if_pos hb]
    split
    · exact (h.count' _ _ _ _ (.inr (by unfold ctrKey chanPage; omega))).trans he
    · exact he
  · rw [if_neg hb]

theorem Blind.seeLights : g d.seeLights = g d := by
  refine forEach_keeps_mem g _ _ (fun c hc d => ?_) d
  have hc := of_decide_eq_true (List.mem_filter.1 hc).2
  unfold Device.seeLight
  simp only
  split
  · rfl
  · split
    · exact h.brx _ _ _
    · unfold Device.lightOff
      simp only
      rw [h.brx, h.accountLight _ _ _ hc]

theorem Blind.noteLob (d0 : Device) : g (Device.noteLob d0 d) = g d := h.lob d _ _

/-- What `g` sees of the machine after a command is what it sees of the device the command made, where `g` sees no exchange of a unit, no
monitor, no list of commands and no vector. -/
theorem Blind.after (h2 : ∀ (d : Device) x, g { d with svc := x } = g d) (h4 : ∀ (d : Device) x, g { d with hif := x } = g d) (d0 base : Device) :
    g (Device.after d0 base d) = g d := by
  unfold Device.after
  simp only
  rw [h.monEdges, h.monEdges, h.monEvents, h.startBurn]
  have hq : ∀ d : Device, g d.quietVectors = g d := fun d => by unfold Device.quietVectors; split; exacts [rfl, h4 d _]
  have hs : ∀ d : Device, g d.markStall = g d := fun d => by unfold Device.markStall; split; exacts [h2 d _, rfl]
  have hc : ∀ a d : Device, g (Device.countClientFalls a d) = g d := fun a d => by
    unfold Device.countClientFalls; simp only; split; exacts [rfl, h.count _ _ _ _ (.inr (.inr (by decide)))]
  have hl : ∀ d : Device, g d.cmdsLoseCapo = g d := fun d => forEach_keeps' g _ _ (fun _ d => h2 d _) d
  rw [hq, h.pllDue]
  split
  · rw [hl, h.noteLob, h.seeLights, hs, hc]
  · rw [h.noteLob, h.seeLights, hs, hc]

end

/-! ### The parts in which nothing follows -/

section
variable (d0 base d : Device)

@[simp] theorem Device.after_core : (Device.after d0 base d).core = d.core :=
  Blind.after (g := fun d => d.core) ⟨fun _ _ _ _ _ => rfl, fun _ _ _ => rfl, fun _ _ _ => rfl, fun _ _ => rfl, fun _ _ => rfl,
    fun _ _ => rfl, fun _ _ _ => rfl, fun _ _ _ _ => rfl⟩ d (fun _ _ => rfl) (fun _ _ => rfl) d0 base

@[simp] theorem Device.after_pages : (Device.after d0 base d).pages = d.pages :=
  Blind.after (g := fun d => d.pages) ⟨fun _ _ _ _ _ => rfl, fun _ _ _ => rfl, fun _ _ _ => rfl, fun _ _ => rfl, fun _ _ => rfl,
    fun _ _ => rfl, fun _ _ _ => rfl, fun _ _ _ _ => rfl⟩ d (fun _ _ => rfl) (fun _ _ => rfl) d0 base

@[simp] theorem Device.after_gens : (Device.after d0 base d).gens = d.gens :=
  Blind.after (g := fun d => d.gens) ⟨fun _ _ _ _ _ => rfl, fun _ _ _ => rfl, fun _ _ _ => rfl, fun _ _ => rfl, fun _ _ => rfl,
    fun _ _ => rfl, fun _ _ _ => rfl, fun _ _ _ _ => rfl⟩ d (fun _ _ => rfl) (fun _ _ => rfl) d0 base

@[simp] theorem Device.after_fret : (Device.after d0 base d).fret = d.fret :=
  Blind.after (g := fun d => d.fret) ⟨fun _ _ _ _ _ => rfl, fun _ _ _ => rfl, fun _ _ _ => rfl, fun _ _ => rfl, fun _ _ => rfl,
    fun _ _ => rfl, fun _ _ _ => rfl, fun _ _ _ _ => rfl⟩ d (fun _ _ => rfl) (fun _ _ => rfl) d0 base

@[simp] theorem Device.after_bursts_pegs : (Device.after d0 base d).bursts.pegs = d.bursts.pegs :=
  Blind.after (g := fun d => d.bursts.pegs) ⟨fun _ _ _ _ _ => rfl, fun _ _ _ => rfl, fun _ _ _ => rfl, fun _ _ => rfl, fun _ _ => rfl,
    fun _ _ => rfl, fun _ _ _ => rfl, fun _ _ _ _ => rfl⟩ d (fun _ _ => rfl) (fun _ _ => rfl) d0 base

@[simp] theorem Device.after_bursts_charges : (Device.after d0 base d).bursts.charges = d.bursts.charges :=
  Blind.after (g := fun d => d.bursts.charges) ⟨fun _ _ _ _ _ => rfl, fun _ _ _ => rfl, fun _ _ _ => rfl, fun _ _ => rfl, fun _ _ => rfl,
    fun _ _ => rfl, fun _ _ _ => rfl, fun _ _ _ _ => rfl⟩ d (fun _ _ => rfl) (fun _ _ => rfl) d0 base

@[simp] theorem Device.after_bursts_vlog : (Device.after d0 base d).bursts.vlog = d.bursts.vlog :=
  Blind.after (g := fun d => d.bursts.vlog) ⟨fun _ _ _ _ _ => rfl, fun _ _ _ => rfl, fun _ _ _ => rfl, fun _ _ => rfl, fun _ _ => rfl,
    fun _ _ => rfl, fun _ _ _ => rfl, fun _ _ _ _ => rfl⟩ d (fun _ _ => rfl) (fun _ _ => rfl) d0 base

@[simp] theorem Device.after_bursts_kept : (Device.after d0 base d).bursts.kept = d.bursts.kept :=
  Blind.after (g := fun d => d.bursts.kept) ⟨fun _ _ _ _ _ => rfl, fun _ _ _ => rfl, fun _ _ _ => rfl, fun _ _ => rfl, fun _ _ => rfl,
    fun _ _ => rfl, fun _ _ _ => rfl, fun _ _ _ _ => rfl⟩ d (fun _ _ => rfl) (fun _ _ => rfl) d0 base

@[simp] theorem Device.after_rng_shadow : (Device.after d0 base d).rng.shadow = d.rng.shadow :=
  Blind.after (g := fun d => d.rng.shadow) ⟨fun _ _ _ _ _ => rfl, fun _ _ _ => rfl, fun _ _ _ => rfl, fun _ _ => rfl, fun _ _ => rfl,
    fun _ _ => rfl, fun _ _ _ => rfl, fun _ _ _ _ => rfl⟩ d (fun _ _ => rfl) (fun _ _ => rfl) d0 base

@[simp] theorem Device.after_rng_frozen : (Device.after d0 base d).rng.frozen = d.rng.frozen :=
  Blind.after (g := fun d => d.rng.frozen) ⟨fun _ _ _ _ _ => rfl, fun _ _ _ => rfl, fun _ _ _ => rfl, fun _ _ => rfl, fun _ _ => rfl,
    fun _ _ => rfl, fun _ _ _ => rfl, fun _ _ _ _ => rfl⟩ d (fun _ _ => rfl) (fun _ _ => rfl) d0 base

@[simp] theorem Device.after_rng_disc : (Device.after d0 base d).rng.disc = d.rng.disc :=
  Blind.after (g := fun d => d.rng.disc) ⟨fun _ _ _ _ _ => rfl, fun _ _ _ => rfl, fun _ _ _ => rfl, fun _ _ => rfl, fun _ _ => rfl,
    fun _ _ => rfl, fun _ _ _ => rfl, fun _ _ _ _ => rfl⟩ d (fun _ _ => rfl) (fun _ _ => rfl) d0 base

@[simp] theorem Device.after_rng_windows : (Device.after d0 base d).rng.windows = d.rng.windows :=
  Blind.after (g := fun d => d.rng.windows) ⟨fun _ _ _ _ _ => rfl, fun _ _ _ => rfl, fun _ _ _ => rfl, fun _ _ => rfl, fun _ _ => rfl,
    fun _ _ => rfl, fun _ _ _ => rfl, fun _ _ _ _ => rfl⟩ d (fun _ _ => rfl) (fun _ _ => rfl) d0 base

@[simp] theorem Device.after_rng_wants : (Device.after d0 base d).rng.wants = d.rng.wants :=
  Blind.after (g := fun d => d.rng.wants) ⟨fun _ _ _ _ _ => rfl, fun _ _ _ => rfl, fun _ _ _ => rfl, fun _ _ => rfl, fun _ _ => rfl,
    fun _ _ => rfl, fun _ _ _ => rfl, fun _ _ _ _ => rfl⟩ d (fun _ _ => rfl) (fun _ _ => rfl) d0 base

@[simp] theorem Device.after_rng_ploamAsk : (Device.after d0 base d).rng.ploamAsk = d.rng.ploamAsk :=
  Blind.after (g := fun d => d.rng.ploamAsk) ⟨fun _ _ _ _ _ => rfl, fun _ _ _ => rfl, fun _ _ _ => rfl, fun _ _ => rfl, fun _ _ => rfl,
    fun _ _ => rfl, fun _ _ _ => rfl, fun _ _ _ _ => rfl⟩ d (fun _ _ => rfl) (fun _ _ => rfl) d0 base

@[simp] theorem Device.after_rng_ploamTries : (Device.after d0 base d).rng.ploamTries = d.rng.ploamTries :=
  Blind.after (g := fun d => d.rng.ploamTries) ⟨fun _ _ _ _ _ => rfl, fun _ _ _ => rfl, fun _ _ _ => rfl, fun _ _ => rfl, fun _ _ => rfl,
    fun _ _ => rfl, fun _ _ _ => rfl, fun _ _ _ _ => rfl⟩ d (fun _ _ => rfl) (fun _ _ => rfl) d0 base

/-- What follows leaves every terminal but the instant at which its LOBi began. -/
theorem Device.after_terms : (Device.after d0 base d).rng.bareTerms = d.rng.bareTerms :=
  Blind.after (g := fun d => d.rng.bareTerms) ⟨fun _ _ _ _ _ => rfl, fun _ _ _ => rfl, fun d p n => by
      unfold Ranging.bareTerms
      simp only [Device.lobFrom, List.map_map]
      refine List.map_congr_left (fun e _ => ?_)
      simp only [Function.comp]
      split <;> rfl,
    fun _ _ => rfl, fun _ _ => rfl, fun _ _ => rfl, fun _ _ _ => rfl, fun _ _ _ _ => rfl⟩ d (fun _ _ => rfl) (fun _ _ => rfl) d0 base

@[simp] theorem Device.after_pow : (Device.after d0 base d).pow = d.pow :=
  Blind.after (g := fun d => d.pow) ⟨fun _ _ _ _ _ => rfl, fun _ _ _ => rfl, fun _ _ _ => rfl, fun _ _ => rfl, fun _ _ => rfl,
    fun _ _ => rfl, fun _ _ _ => rfl, fun _ _ _ _ => rfl⟩ d (fun _ _ => rfl) (fun _ _ => rfl) d0 base

@[simp] theorem Device.after_cells : (Device.after d0 base d).cells = d.cells :=
  Blind.after (g := fun d => d.cells) ⟨fun _ _ _ _ _ => rfl, fun _ _ _ => rfl, fun _ _ _ => rfl, fun _ _ => rfl, fun _ _ => rfl,
    fun _ _ => rfl, fun _ _ _ => rfl, fun _ _ _ _ => rfl⟩ d (fun _ _ => rfl) (fun _ _ => rfl) d0 base

@[simp] theorem Device.after_traffic : (Device.after d0 base d).traffic = d.traffic :=
  Blind.after (g := fun d => d.traffic) ⟨fun _ _ _ _ _ => rfl, fun _ _ _ => rfl, fun _ _ _ => rfl, fun _ _ => rfl, fun _ _ => rfl,
    fun _ _ => rfl, fun _ _ _ => rfl, fun _ _ _ _ => rfl⟩ d (fun _ _ => rfl) (fun _ _ => rfl) d0 base

@[simp] theorem Device.after_pkt : (Device.after d0 base d).pkt = d.pkt :=
  Blind.after (g := fun d => d.pkt) ⟨fun _ _ _ _ _ => rfl, fun _ _ _ => rfl, fun _ _ _ => rfl, fun _ _ => rfl, fun _ _ => rfl,
    fun _ _ => rfl, fun _ _ _ => rfl, fun _ _ _ _ => rfl⟩ d (fun _ _ => rfl) (fun _ _ => rfl) d0 base

@[simp] theorem Device.after_mon : (Device.after d0 base d).mon = d.mon :=
  Blind.after (g := fun d => d.mon) ⟨fun _ _ _ _ _ => rfl, fun _ _ _ => rfl, fun _ _ _ => rfl, fun _ _ => rfl, fun _ _ => rfl,
    fun _ _ => rfl, fun _ _ _ => rfl, fun _ _ _ _ => rfl⟩ d (fun _ _ => rfl) (fun _ _ => rfl) d0 base

@[simp] theorem Device.after_tmu : (Device.after d0 base d).tmu = d.tmu :=
  Blind.after (g := fun d => d.tmu) ⟨fun _ _ _ _ _ => rfl, fun _ _ _ => rfl, fun _ _ _ => rfl, fun _ _ => rfl, fun _ _ => rfl,
    fun _ _ => rfl, fun _ _ _ => rfl, fun _ _ _ _ => rfl⟩ d (fun _ _ => rfl) (fun _ _ => rfl) d0 base

@[simp] theorem Device.after_mru : (Device.after d0 base d).mru = d.mru :=
  Blind.after (g := fun d => d.mru) ⟨fun _ _ _ _ _ => rfl, fun _ _ _ => rfl, fun _ _ _ => rfl, fun _ _ => rfl, fun _ _ => rfl,
    fun _ _ => rfl, fun _ _ _ => rfl, fun _ _ _ _ => rfl⟩ d (fun _ _ => rfl) (fun _ _ => rfl) d0 base

@[simp] theorem Device.after_fuses : (Device.after d0 base d).fuses = d.fuses :=
  Blind.after (g := fun d => d.fuses) ⟨fun _ _ _ _ _ => rfl, fun _ _ _ => rfl, fun _ _ _ => rfl, fun _ _ => rfl, fun _ _ => rfl,
    fun _ _ => rfl, fun _ _ _ => rfl, fun _ _ _ _ => rfl⟩ d (fun _ _ => rfl) (fun _ _ => rfl) d0 base

@[simp] theorem Device.after_era : (Device.after d0 base d).era = d.era :=
  Blind.after (g := fun d => d.era) ⟨fun _ _ _ _ _ => rfl, fun _ _ _ => rfl, fun _ _ _ => rfl, fun _ _ => rfl, fun _ _ => rfl,
    fun _ _ => rfl, fun _ _ _ => rfl, fun _ _ _ _ => rfl⟩ d (fun _ _ => rfl) (fun _ _ => rfl) d0 base

@[simp] theorem Device.after_slices : (Device.after d0 base d).slices = d.slices :=
  Blind.after (g := fun d => d.slices) ⟨fun _ _ _ _ _ => rfl, fun _ _ _ => rfl, fun _ _ _ => rfl, fun _ _ => rfl, fun _ _ => rfl,
    fun _ _ => rfl, fun _ _ _ => rfl, fun _ _ _ _ => rfl⟩ d (fun _ _ => rfl) (fun _ _ => rfl) d0 base

/-- A field outside the SEC, the SPM and the quads reads after what follows as the command left it. -/
theorem Device.after_rd {f : Fld} (hf : ¬ exchangePage (fkey f / 0x8000)) : (Device.after d0 base d).rd f = d.rd f :=
  Blind.after (g := fun d => d.rd f) ⟨fun _ _ _ _ _ => rfl, fun _ _ _ => rfl, fun _ _ _ => rfl, fun _ _ => rfl, fun _ _ => rfl, fun _ _ => rfl,
    fun _ _ _ => rfl, fun d k v h => d.rd_wr_ne v (fun e => hf (by rw [e]; exact h))⟩ d (fun _ _ => rfl) (fun _ _ => rfl) d0 base

theorem Device.after_on {f : Fld} (hf : ¬ exchangePage (fkey f / 0x8000)) : (Device.after d0 base d).on f = d.on f := by
  simp [Device.on, Device.after_rd d0 base d hf]

/-- A counter outside the SPM, the MON, the quads and FlexE, and not a channel's time of unexpected light, stands after what follows as the command left it. -/
theorem Device.after_ctr {p o : Nat} (hf : ¬ followCtr (ctrKey p o)) : (Device.after d0 base d).ctr p o = d.ctr p o :=
  Blind.after (g := fun d => d.ctr p o) ⟨fun d q r n h => d.ctr_count_ne n (fun e => hf (by rw [e]; exact h)), fun _ _ _ => rfl, fun _ _ _ => rfl,
    fun _ _ => rfl, fun _ _ => rfl, fun _ _ => rfl, fun _ _ _ => rfl, fun _ _ _ _ => rfl⟩ d (fun _ _ => rfl) (fun _ _ => rfl) d0 base

@[simp] theorem Device.after_trees_courses : (Device.after d0 base d).trees.courses = d.trees.courses :=
  Blind.after (g := fun d => d.trees.courses) ⟨fun _ _ _ _ _ => rfl, fun _ _ _ => rfl, fun _ _ _ => rfl, fun _ _ => rfl, fun _ _ => rfl,
    fun _ _ => rfl, fun _ _ _ => rfl, fun _ _ _ _ => rfl⟩ d (fun _ _ => rfl) (fun _ _ => rfl) d0 base

@[simp] theorem Device.after_trees_reorder : (Device.after d0 base d).trees.reorder = d.trees.reorder :=
  Blind.after (g := fun d => d.trees.reorder) ⟨fun _ _ _ _ _ => rfl, fun _ _ _ => rfl, fun _ _ _ => rfl, fun _ _ => rfl, fun _ _ => rfl,
    fun _ _ => rfl, fun _ _ _ => rfl, fun _ _ _ _ => rfl⟩ d (fun _ _ => rfl) (fun _ _ => rfl) d0 base

/-- The commands' list stands after what follows as the command left it, unless the Capo was lost. -/
theorem Device.after_cmds (hc : (d0.capo && !d.capo) = false) : (Device.after d0 base d).svc.cmds = d.svc.cmds := by
  unfold Device.after
  simp only
  have hb : Blind (fun d : Device => d.svc) := ⟨fun _ _ _ _ _ => rfl, fun _ _ _ => rfl, fun _ _ _ => rfl, fun _ _ => rfl, fun _ _ => rfl, fun _ _ => rfl, fun _ _ _ => rfl, fun _ _ _ _ => rfl⟩
  have e1 : ∀ a d : Device, (Device.countClientFalls a d).svc = d.svc := fun a d => by
    unfold Device.countClientFalls; simp only; split <;> rfl
  have e2 : ∀ a d : Device, (Device.countClientFalls a d).capo = d.capo := fun a d => by
    unfold Device.countClientFalls; simp only; split <;> rfl
  have e3 : ∀ d : Device, d.markStall.svc.cmds = d.svc.cmds := fun d => by unfold Device.markStall; split <;> rfl
  have e4 : ∀ d : Device, d.markStall.capo = d.capo := fun d => by unfold Device.markStall; split <;> rfl
  have e5 : ∀ d : Device, d.quietVectors.svc = d.svc := fun d => by unfold Device.quietVectors; split <;> rfl
  have hcap : ∀ d : Device, Device.capo (Device.noteLob d0 d.seeLights) = d.capo := fun d => by
    have hb : Blind (fun d : Device => d.capo) := ⟨fun _ _ _ _ _ => rfl, fun _ _ _ => rfl, fun _ _ _ => rfl, fun _ _ => rfl, fun _ _ => rfl,
      fun _ _ => rfl, fun _ _ _ => rfl, fun d f v h => by
        exact d.on_wr_ne v (fun e => by rw [← e] at h; unfold exchangePage at h; revert h; decide)⟩
    exact (hb.noteLob _ _).trans (hb.seeLights _)
  rw [hcap, e4, e2, if_neg (by simp [hc])]
  refine (congrArg Service.cmds ?_).trans ((e3 (Device.countClientFalls d0 d)).trans (congrArg Service.cmds (e1 d0 d)))
  exact (hb.monEdges _ _ _).trans ((hb.monEdges _ _ _).trans ((hb.monEvents _ _).trans ((hb.startBurn _).trans ((e5 _).trans ((hb.pllDue _).trans ((hb.noteLob _ _).trans (hb.seeLights _)))))))

end

end Sys2Proof.Machine
end

