-- ==== Sys2Proof/Laws/Exec.lean ====
section
/-!
SUPPORT. The outcome of every command as the effect it runs on the device at its instant, one lemma for each constructor.
-/

namespace Sys2Proof.Machine

theorem exec_registerWrite (t : Nat) (m : Master) (p : PageIx) (w : Fin 1024) (lo : BusWord) (hi : Option BusWord) (x : Aside) (s : State) : exec (.registerWrite t m p w lo hi x) s = onLoaded t (hostLoads m p.val w.val lo hi) (fun d => registerWrite d.now m p.val w.val lo hi x d) s := rfl
theorem exec_bitAliasWrite (t : Nat) (m : Master) (p : PageIx) (w : Fin 256) (b : Fin 32) (v full hw : Bool) (x : Aside) (s : State) : exec (.bitAliasWrite t m p w b v full hw x) s = onDevice t (fun d => bitAliasWrite d.now m p.val w.val b.val v full hw x d) s := rfl
theorem exec_counterLowRead (t : Nat) (m : Master) (p : PageIx) (w : Fin 1024) (s : State) : exec (.counterLowRead t m p w) s = onDevice t (fun d => counterLowRead d.now m p.val w.val d) s := rfl
theorem exec_counterHighRead (t : Nat) (m : Master) (p : PageIx) (w : Fin 1024) (s : State) : exec (.counterHighRead t m p w) s = onDevice t (fun d => counterHighRead d.now m p.val w.val d) s := rfl
theorem exec_counterLowWrite (t : Nat) (m : Master) (p : PageIx) (w : Fin 1024) (v : Word32) (s : State) : exec (.counterLowWrite t m p w v) s = onDevice t (fun d => counterLowWrite d.now m p.val w.val v.toNat d) s := rfl
theorem exec_counterHighWrite (t : Nat) (m : Master) (p : PageIx) (w : Fin 1024) (v : Word32) (inc : Nat) (s : State) : exec (.counterHighWrite t m p w v inc) s = onLoaded t (Device.loadCounter m p.val (4 * w.val) v.toNat) (fun d => counterHighWrite d.now m p.val w.val v.toNat inc d) s := rfl
theorem exec_watchThresholdWrite (t : Nat) (m : Master) (p : PageIx) (n : Fin 4) (hi : Word32) (s : State) : exec (.watchThresholdWrite t m p n hi) s = onDevice t (fun d => watchThresholdWrite d.now m p.val n.val hi.toNat d) s := rfl
theorem exec_arm (t : Nat) (m : Master) (p : PageIx) (v overlap : Bool) (s : State) : exec (.arm t m p v overlap) s = onDevice t (fun d => armWrite d.now m p.val v overlap d) s := rfl
theorem exec_boundaryWindow (t : Nat) (p : PageIx) (s : State) : exec (.boundaryWindow t p) s = onDevice t (fun d => boundaryWindow d.now p.val d) s := rfl
theorem exec_windowRead (t : Nat) (m : Master) (p : PageIx) (win : Fin 4) (words : Fin 32) (s : State) : exec (.windowRead t m p win words) s = onDevice t (fun d => windowRead d.now m p.val win.val words.val d) s := rfl
theorem exec_windowWrite (t : Nat) (m : Master) (p : PageIx) (win : Fin 4) (words : Fin 32) (s : State) : exec (.windowWrite t m p win words) s = onDevice t (fun d => windowWrite d.now m p.val win.val words.val d) s := rfl
theorem exec_windowReadClearValid (t : Nat) (m : Master) (p : PageIx) (win : Fin 4) (words : Fin 32) (s : State) : exec (.windowReadClearValid t m p win words) s = onDevice t (fun d => windowReadClearValid d.now m p.val win.val words.val d) s := rfl
theorem exec_windowOperationComplete (t : Nat) (p : PageIx) (win : Fin 4) (clash hw : Bool) (errs : Tbl CodeRead) (s : State) : exec (.windowOperationComplete t p win clash hw errs) s = onDevice t (fun d => windowComplete d.now p.val win.val clash hw errs d) s := rfl
theorem exec_frameBoundary (t : Nat) (sweepCtr sweepQ : List Nat) (ack : Option Nat) (s : State) : exec (.frameBoundary t sweepCtr sweepQ ack) s = onDevice t (fun d => frameBoundary d.now sweepCtr sweepQ ack d) s := rfl
theorem exec_treeFrameBoundary (t : Nat) (tree : Tree) (s : State) : exec (.treeFrameBoundary t tree) s = onDevice t (fun d => treeFrameBoundary d.now tree.val d) s := rfl
theorem exec_frameAssembly (t : Nat) (c : Chan) (k : Nat) (crossed : Bool) (s : State) : exec (.frameAssembly t c k crossed) s = onDevice t (fun d => frameAssembly d.now c.val k crossed d) s := rfl
theorem exec_courseXgemPlace (t : Nat) (x : TermIx) (s : State) : exec (.courseXgemPlace t x) s = onDevice t (fun d => courseXgemPlace d.now x.val d) s := rfl
theorem exec_reorderArrival (t : Nat) (c : Chan) (x : TermIx) (options : Fin 262144) (stamp n : Nat) (s : State) : exec (.reorderArrival t c x options stamp n) s = onDevice t (fun d => reorderArrival d.now c.val x.val options.val stamp n d) s := rfl
theorem exec_reorderGapDeadline (t : Nat) (x : TermIx) (s : State) : exec (.reorderGapDeadline t x) s = onDevice t (fun d => reorderGapDeadline d.now x.val d) s := rfl
theorem exec_i2cGo (t : Nat) (m : Master) (g : Fin 16) (v hw : Bool) (s : State) : exec (.i2cGo t m g v hw) s = onDevice t (fun d => d.colliding m .k1 (treePage (4 * g.val)) hw (i2cGo d.now m g.val v)) s := rfl
theorem exec_i2cTransactionEnd (t : Nat) (g : Fin 16) (nack : Bool) (data : Fin 256) (clash : Bool) (s : State) : exec (.i2cTransactionEnd t g nack data clash) s = onDevice t (fun d => i2cTransactionEnd d.now g.val nack data.val clash d) s := rfl
theorem exec_mapBuildStart (t : Nat) (c : Chan) (s : State) : exec (.mapBuildStart t c) s = onDevice t (fun d => mapBuildStart d.now c.val d) s := rfl
theorem exec_mapSeal (t : Nat) (c : Chan) (s : State) : exec (.mapSeal t c) s = onDevice t (fun d => mapSeal d.now c.val d) s := rfl
theorem exec_grantRecordPost (t : Nat) (c : Chan) (k ix : Nat) (g : GrantDecode) (s : State) : exec (.grantRecordPost t c k ix g) s = onDevice t (fun d => grantRecordPost d.now c.val k ix g d) s := rfl
theorem exec_ringConsumed (t : Nat) (m : Master) (v : Fin 131072) (s : State) : exec (.ringConsumed t m v) s = onDevice t (fun d => ringConsumed d.now m v.val d) s := rfl
theorem exec_pegLoad (t : Nat) (c : Chan) (k ix : Nat) (s : State) : exec (.pegLoad t c k ix) s = onDevice t (fun d => pegLoad d.now c.val k ix d) s := rfl
theorem exec_strobePulse (t : Nat) (c : Chan) (k : Nat) (ix : Option Nat) (s : State) : exec (.strobePulse t c k ix) s = onDevice t (fun d => strobePulse d.now c.val k ix d) s := rfl
theorem exec_delimiterAccept (t : Nat) (c : Chan) (errs : Nat) (hec : Hec) (n : Fin 512) (dg sn : Bool) (s : State) : exec (.delimiterAccept t c errs hec n dg sn) s = onDevice t (fun d => delimiterAccept d.now c.val errs hec n.val dg sn d) s := rfl
theorem exec_burstEnd (t : Nat) (c : Chan) (r : BurstRx) (s : State) : exec (.burstEnd t c r) s = onDevice t (fun d => burstEndCmd d.now c.val r d) s := rfl
theorem exec_signalDetectChange (t : Nat) (c : Chan) (on : Bool) (s : State) : exec (.signalDetectChange t c on) s = onDevice t (fun d => signalDetectChange d.now c.val on d) s := rfl
theorem exec_continuousLight (t : Nat) (c : Chan) (s : State) : exec (.continuousLight t c) s = onDevice t (fun d => continuousLight d.now c.val d) s := rfl
theorem exec_upstreamFrameEnd (t : Nat) (c : Chan) (k : Nat) (s : State) : exec (.upstreamFrameEnd t c k) s = onDevice t (fun d => upstreamFrameEnd d.now c.val k d) s := rfl
theorem exec_vlogConsumed (t : Nat) (m : Master) (v : Fin 8192) (s : State) : exec (.vlogConsumed t m v) s = onDevice t (fun d => vlogConsumed d.now m v.val d) s := rfl
theorem exec_rogueIsolationStart (t : Nat) (c : Chan) (s : State) : exec (.rogueIsolationStart t c) s = onDevice t (fun d => rogueIsolationStart d.now c.val d) s := rfl
theorem exec_quietWindowResult (t : Nat) (c : Chan) (s : State) : exec (.quietWindowResult t c) s = onDevice t (fun d => quietWindowResult d.now c.val d) s := rfl
theorem exec_rogueUnresolvedCheck (t : Nat) (c : Chan) (s : State) : exec (.rogueUnresolvedCheck t c) s = onDevice t (fun d => rogueUnresolvedCheck d.now c.val d) s := rfl
theorem exec_burstProfileQueue (t : Nat) (c : Chan) (s : State) : exec (.burstProfileQueue t c) s = onDevice t (fun d => burstProfileQueue d.now c.val d) s := rfl
theorem exec_serialNumberReceived (t : Nat) (c : Chan) (k : Nat) (vendor serial : Word32) (s : State) : exec (.serialNumberReceived t c k vendor serial) s = onDevice t (fun d => serialNumberReceived d.now c.val k vendor.toNat serial.toNat d) s := rfl
theorem exec_rangingTimeAck (t : Nat) (x : TermIx) (c : Chan) (s : State) : exec (.rangingTimeAck t x c) s = onDevice t (fun d => rangingTimeAck d.now x.val c.val d) s := rfl
theorem exec_lostTimeout (t : Nat) (x : TermIx) (s : State) : exec (.lostTimeout t x) s = onDevice t (fun d => lostTimeout d.now x.val d) s := rfl
theorem exec_terminalFree (t : Nat) (x : TermIx) (s : State) : exec (.terminalFree t x) s = onDevice t (fun d => terminalFree d.now x.val d) s := rfl
theorem exec_discConsumed (t : Nat) (m : Master) (v : Fin 1024) (s : State) : exec (.discConsumed t m v) s = onDevice t (fun d => discConsumed d.now m v.val d) s := rfl
theorem exec_ptmSample (t : Nat) (temps : List Int) (pace : List Nat) (s : State) : exec (.ptmSample t temps pace) s = if s.inReset then .next (s.senses temps) else onDevice t (fun d => ptmSample d.now temps pace d) s := rfl
theorem exec_railAlarm (t : Nat) (rail : Fin 7) (s : State) : exec (.railAlarm t rail) s = onDevice t (fun d => railAlarm d.now rail.val d) s := rfl
theorem exec_envelopePublication (t : Nat) (watts : Fin 1024) (pace : Nat) (s : State) : exec (.envelopePublication t watts pace) s = onDevice t (fun d => envelopePublication d.now watts.val pace d) s := rfl
theorem exec_voltageWriteResult (t : Nat) (ok status : Bool) (s : State) : exec (.voltageWriteResult t ok status) s = onDevice t (fun d => voltageWriteResult d.now ok status d) s := rfl
theorem exec_tripRelease (t : Nat) (m : Master) (v railOk hw : Bool) (s : State) : exec (.tripRelease t m v railOk hw) s = onDevice t (fun d => d.colliding m .k1 0x003 hw (tripRelease d.now m v railOk)) s := rfl
theorem exec_quietCh (t : Nat) (m : Master) (ix : Fin 8) (v : Word32) (s : State) : exec (.quietCh t m ix v) s = onDevice t (fun d => quietCh d.now m ix.val v.toNat d) s := rfl
theorem exec_quietTree (t : Nat) (m : Master) (ix : Fin 2) (v : Word32) (s : State) : exec (.quietTree t m ix v) s = onDevice t (fun d => quietTree d.now m ix.val v.toNat d) s := rfl
theorem exec_commandAccept (t : Nat) (ring : Fin 16) (desc : List Word32) (ok : Bool) (s : State) : exec (.commandAccept t ring desc ok) s = onDevice t (fun d => commandAccept d.now ring.val (desc.map (·.toNat)) ok d) s := rfl
theorem exec_nop (t n : Nat) (s : State) : exec (.nop t n) s = onDevice t (fun d => nop d.now n d) s := rfl
theorem exec_query (t n : Nat) (s : State) : exec (.query t n) s = onDevice t (fun d => query d.now n d) s := rfl
theorem exec_keyZeroizeAll (t n : Nat) (s : State) : exec (.keyZeroizeAll t n) s = onDevice t (fun d => keyZeroizeAll d.now n d) s := rfl
theorem exec_terminalCreate (t n : Nat) (s : State) : exec (.terminalCreate t n) s = onDevice t (fun d => terminalCreate d.now n d) s := rfl
theorem exec_terminalDestroy (t n : Nat) (s : State) : exec (.terminalDestroy t n) s = onDevice t (fun d => terminalDestroy d.now n d) s := rfl
theorem exec_terminalDisable (t n : Nat) (s : State) : exec (.terminalDisable t n) s = onDevice t (fun d => terminalDisable d.now n d) s := rfl
theorem exec_terminalEnable (t n : Nat) (s : State) : exec (.terminalEnable t n) s = onDevice t (fun d => terminalEnable d.now n d) s := rfl
theorem exec_allocCreate (t n : Nat) (s : State) : exec (.allocCreate t n) s = onDevice t (fun d => allocCreate d.now n d) s := rfl
theorem exec_allocDestroy (t n : Nat) (s : State) : exec (.allocDestroy t n) s = onDevice t (fun d => allocDestroy d.now n d) s := rfl
theorem exec_channelCreate (t n : Nat) (s : State) : exec (.channelCreate t n) s = onDevice t (fun d => channelCreate d.now n d) s := rfl
theorem exec_channelDestroy (t n : Nat) (s : State) : exec (.channelDestroy t n) s = onDevice t (fun d => channelDestroy d.now n d) s := rfl
theorem exec_queueCreate (t n : Nat) (s : State) : exec (.queueCreate t n) s = onDevice t (fun d => queueCreate d.now n d) s := rfl
theorem exec_queueDestroy (t n : Nat) (s : State) : exec (.queueDestroy t n) s = onDevice t (fun d => queueDestroy d.now n d) s := rfl
theorem exec_queueFlush (t n : Nat) (s : State) : exec (.queueFlush t n) s = onDevice t (fun d => queueFlush d.now n d) s := rfl
theorem exec_keyCreate (t n : Nat) (s : State) : exec (.keyCreate t n) s = onDevice t (fun d => keyCreate d.now n d) s := rfl
theorem exec_keyDestroy (t n : Nat) (s : State) : exec (.keyDestroy t n) s = onDevice t (fun d => keyDestroy d.now n d) s := rfl
theorem exec_poolCreate (t n : Nat) (s : State) : exec (.poolCreate t n) s = onDevice t (fun d => poolCreate d.now n d) s := rfl
theorem exec_poolDestroy (t n : Nat) (s : State) : exec (.poolDestroy t n) s = onDevice t (fun d => poolDestroy d.now n d) s := rfl
theorem exec_shaperCreate (t n : Nat) (s : State) : exec (.shaperCreate t n) s = onDevice t (fun d => shaperCreate d.now n d) s := rfl
theorem exec_shaperDestroy (t n : Nat) (s : State) : exec (.shaperDestroy t n) s = onDevice t (fun d => shaperDestroy d.now n d) s := rfl
theorem exec_gateListInstall (t n : Nat) (s : State) : exec (.gateListInstall t n) s = onDevice t (fun d => gateListInstall d.now n d) s := rfl
theorem exec_gateListDestroy (t n : Nat) (s : State) : exec (.gateListDestroy t n) s = onDevice t (fun d => gateListDestroy d.now n d) s := rfl
theorem exec_omciSend (t n : Nat) (s : State) : exec (.omciSend t n) s = onDevice t (fun d => omciSend d.now n d) s := rfl
theorem exec_destroyCommit (t n : Nat) (s : State) : exec (.destroyCommit t n) s = onDevice t (fun d => destroyCommit d.now n d) s := rfl
theorem exec_commandTimeout (t n : Nat) (s : State) : exec (.commandTimeout t n) s = onDevice t (fun d => commandTimeout d.now n d) s := rfl
theorem exec_completionPost (t n : Nat) (s : State) : exec (.completionPost t n) s = onDevice t (fun d => completionPost d.now n d) s := rfl
theorem exec_puntChannelDisable (t : Nat) (m : Master) (p : Fin 4) (s : State) : exec (.puntChannelDisable t m p) s = onDevice t (fun d => puntChannelDisable d.now m p.val d) s := rfl
theorem exec_injectDescriptor (t : Nat) (ix : Fin 4) (desc : List Word32) (descOk bytesOk : Bool) (data : List Byte) (s : State) : exec (.injectDescriptor t ix desc descOk bytesOk data) s = onDevice t (fun d => injectDescriptor d.now ix.val (desc.map (·.toNat)) descOk bytesOk (data.map (·.toNat)) d) s := rfl
theorem exec_injectChannelDisable (t : Nat) (m : Master) (ix : Fin 4) (tags : List (Fin 65536)) (s : State) : exec (.injectChannelDisable t m ix tags) s = onDevice t (fun d => injectChannelDisable d.now m ix.val (tags.map (·.val)) d) s := rfl
theorem exec_packetIngress (t n : Nat) (s : State) : exec (.packetIngress t n) s = onDevice t (fun d => packetIngress d.now n d) s := rfl
theorem exec_packetClassify (t : Nat) (sl : Fin 36) (s : State) : exec (.packetClassify t sl) s = onDevice t (fun d => packetClassify d.now sl.val d) s := rfl
theorem exec_xgemEncrypt (t : Nat) (tree : Tree) (s : State) : exec (.xgemEncrypt t tree) s = onDevice t (fun d => xgemEncrypt d.now tree.val d) s := rfl
theorem exec_xgemDecrypt (t : Nat) (c : Chan) (k : Nat) (x : TermIx) (port : Fin 65536) (ki : Fin 4) (options : Fin 262144) (word : Word32) (body : List Nat) (s : State) : exec (.xgemDecrypt t c k x port ki options word body) s = onDevice t (fun d => xgemDecrypt d.now c.val k x.val port.val ki.val options.val word.toNat body d) s := rfl
theorem exec_tagResult (t n : Nat) (s : State) : exec (.tagResult t n) s = onDevice t (fun d => tagResult d.now n d) s := rfl
theorem exec_keyActivation (t : Nat) (slot : Fin 65536) (s : State) : exec (.keyActivation t slot) s = onDevice t (fun d => keyActivation d.now slot.val d) s := rfl
theorem exec_clockAlarm (t : Nat) (s : State) : exec (.clockAlarm t) s = onDevice t (fun d => clockAlarm d.now d) s := rfl
theorem exec_glitchAlarm (t : Nat) (s : State) : exec (.glitchAlarm t) s = onDevice t (fun d => glitchAlarm d.now d) s := rfl
theorem exec_temperatureAlarm (t : Nat) (q : Int) (s : State) : exec (.temperatureAlarm t q) s = onDevice t (fun d => temperatureAlarm d.now q d) s := rfl
theorem exec_cellRequest (t win : Nat) (r : Fin 41) (pool : Fin 256) (pkt : Option Nat) (cut : Option Bool) (s : State) : exec (.cellRequest t win r pool pkt cut) s = onDevice t (fun d => cellRequest d.now win r.val pool.val pkt cut d) s := rfl
theorem exec_waitTimeout (t : Nat) (r : Fin 41) (s : State) : exec (.waitTimeout t r) s = onDevice t (fun d => waitTimeout d.now r.val d) s := rfl
theorem exec_bufferFree (t : Nat) (r : Fin 41) (p : Nat) (owner : Fin 2097152) (gen : Fin 64) (errs : Tbl CodeRead) (s : State) : exec (.bufferFree t r p owner gen errs) s = onDevice t (fun d => bufferFree d.now r.val p owner.val gen.val errs d) s := rfl
theorem exec_flogConsumed (t : Nat) (m : Master) (v : Fin 2048) (s : State) : exec (.flogConsumed t m v) s = onDevice t (fun d => flogConsumed d.now m v.val d) s := rfl
theorem exec_cellAddr (t : Nat) (m : Master) (v : Fin 4096) (s : State) : exec (.cellAddr t m v) s = onDevice t (fun d => cellAddrHi d.now m v.val d) s := rfl
theorem exec_packetPush (t n : Nat) (pop : Bool) (errs : Tbl CodeRead) (s : State) : exec (.packetPush t n pop errs) s = onDevice t (fun d => packetPush d.now n pop errs d) s := rfl
theorem exec_packetEnd (t n : Nat) (whole : Bool) (s : State) : exec (.packetEnd t n whole) s = onDevice t (fun d => packetEnd d.now n whole d) s := rfl
theorem exec_packetPop (t : Nat) (q : Fin 1048576) (errs : Tbl CodeRead) (s : State) : exec (.packetPop t q errs) s = onDevice t (fun d => packetPop d.now q.val errs d) s := rfl
theorem exec_flushCommit (t : Nat) (q : Fin 1048576) (s : State) : exec (.flushCommit t q) s = onDevice t (fun d => flushCommit d.now q.val d) s := rfl
theorem exec_scrubRead (t : Nat) (at_ : ScrubAt) (e : CodeRead) (last : Bool) (s : State) : exec (.scrubRead t at_ e last) s = onDevice t (fun d => scrubRead d.now at_ e last d) s := rfl
theorem exec_dramRefresh (t : Nat) (stack : Fin 8) (s : State) : exec (.dramRefresh t stack) s = onDevice t (fun d => dramRefresh d.now stack.val d) s := rfl
theorem exec_skcReady (t : Nat) (stack : Fin 8) (s : State) : exec (.skcReady t stack) s = onDevice t (fun d => skcReady d.now stack.val d) s := rfl
theorem exec_egressRequest (t : Nat) (root : Fin 320) (s : State) : exec (.egressRequest t root) s = onDevice t (fun d => egressRequest d.now root.val d) s := rfl
theorem exec_shaperWheelExpiry (t : Nat) (terminal : Bool) (ix : Fin 1048576) (s : State) : exec (.shaperWheelExpiry t terminal ix) s = onDevice t (fun d => shaperWheelExpiry d.now terminal ix.val d) s := rfl
theorem exec_gateEntryChange (t : Nat) (g : Fin 1024) (s : State) : exec (.gateEntryChange t g) s = onDevice t (fun d => gateEntryChange d.now g.val d) s := rfl
theorem exec_gateListStart (t : Nat) (g : Fin 1024) (s : State) : exec (.gateListStart t g) s = onDevice t (fun d => gateListStart d.now g.val d) s := rfl
theorem exec_portBringup (t : Nat) (m : Master) (p : Fin 64) (s : State) : exec (.portBringup t m p) s = onDevice t (fun d => portBringup d.now m p.val d) s := rfl
theorem exec_autonegComplete (t : Nat) (p : Fin 64) (common full : Bool) (s : State) : exec (.autonegComplete t p common full) s = onDevice t (fun d => autonegComplete d.now p.val common full d) s := rfl
theorem exec_linkTrainingComplete (t : Nat) (p : Fin 64) (failed : Fin 16) (lock : Bool) (taps : List (Fin 64)) (s : State) : exec (.linkTrainingComplete t p failed lock taps) s = onDevice t (fun d => linkTrainingComplete d.now p.val failed.val lock (taps.map (·.val)) d) s := rfl
theorem exec_portDefectChange (t : Nat) (p : Fin 64) (b : Fin 7) (lane : Fin 4) (on : Bool) (s : State) : exec (.portDefectChange t p b lane on) s = onDevice t (fun d => portDefectChange d.now p.val b.val lane.val on d) s := rfl
theorem exec_upHoldExpiry (t : Nat) (p : Fin 64) (s : State) : exec (.upHoldExpiry t p) s = onDevice t (fun d => upHoldExpiry d.now p.val d) s := rfl
theorem exec_networkFrameReceive (t : Nat) (p : Fin 256) (frame : List Byte) (whole room : Bool) (del ins fecCor fecUnc fecSym : Nat) (s : State) : exec (.networkFrameReceive t p frame whole room del ins fecCor fecUnc fecSym) s = onDevice t (fun d => networkFrameReceive d.now p.val (frame.map (·.toNat)) whole room del ins fecCor fecUnc fecSym d) s := rfl
theorem exec_networkFrameTransmit (t : Nat) (p : Fin 256) (ins del : Nat) (s : State) : exec (.networkFrameTransmit t p ins del) s = onDevice t (fun d => networkFrameTransmit d.now p.val ins del d) s := rfl
theorem exec_pauseReceive (t : Nat) (p : Fin 64) (quanta : Fin 65536) (s : State) : exec (.pauseReceive t p quanta) s = onDevice t (fun d => pauseReceive d.now p.val quanta.val d) s := rfl
theorem exec_pauseHoldLimit (t : Nat) (p : Fin 64) (released : Bool) (s : State) : exec (.pauseHoldLimit t p released) s = onDevice t (fun d => pauseHoldLimit d.now p.val released d) s := rfl
theorem exec_pauseGenerate (t : Nat) (p : Fin 64) (s : State) : exec (.pauseGenerate t p) s = onDevice t (fun d => pauseGenerate d.now p.val d) s := rfl
theorem exec_eyeMeasure (t : Nat) (lane : Fin 64) (v h : Fin 256) (s : State) : exec (.eyeMeasure t lane v h) s = onDevice t (fun d => eyeMeasure d.now lane.val v.val h.val d) s := rfl
theorem exec_injectOne (t : Nat) (m : Master) (lane : Fin 64) (hw : Bool) (s : State) : exec (.injectOne t m lane hw) s = onDevice t (fun d => d.colliding m .k1 (npcPage (lane.val / 4)) hw (injectOne d.now m lane.val)) s := rfl
theorem exec_flexeOhFrameReceive (t : Nat) (g : Fin 32) (inst : Nat) (crc : Bool) (oh : FlxOh) (skew : Bool) (s : State) : exec (.flexeOhFrameReceive t g inst crc oh skew) s = onDevice t (fun d => flexeOhFrameReceive d.now g.val inst crc oh skew d) s := rfl
theorem exec_flexeOhCandidate (t : Nat) (g : Fin 32) (inst : Nat) (ok : Bool) (s : State) : exec (.flexeOhCandidate t g inst ok) s = onDevice t (fun d => flexeOhCandidate d.now g.val inst ok d) s := rfl
theorem exec_calReq (t : Nat) (m : Master) (g : Fin 32) (v : Bool) (s : State) : exec (.calReq t m g v) s = onDevice t (fun d => calReq d.now m g.val v d) s := rfl
theorem exec_txOhFrameBoundary (t : Nat) (g : Fin 32) (s : State) : exec (.txOhFrameBoundary t g) s = onDevice t (fun d => txOhFrameBoundary d.now g.val d) s := rfl
theorem exec_timeRun (t : Nat) (m : Master) (partner : Option Nat) (s : State) : exec (.timeRun t m partner) s = onDevice t (fun d => timeRun d.now m partner d) s := rfl
theorem exec_eventEdge (t : Nat) (ix : Fin 8) (falling : Bool) (held : Nat) (s : State) : exec (.eventEdge t ix falling held) s = onDevice t (fun d => eventEdge d.now ix.val falling held d) s := rfl
theorem exec_evtConsumed (t : Nat) (m : Master) (v : Fin 512) (s : State) : exec (.evtConsumed t m v) s = onDevice t (fun d => evtConsumed d.now m v.val d) s := rfl
theorem exec_txsConsumed (t : Nat) (m : Master) (v : Fin 512) (s : State) : exec (.txsConsumed t m v) s = onDevice t (fun d => txsConsumed d.now m v.val d) s := rfl
theorem exec_pulseOutput (t : Nat) (o : Fin 4) (s : State) : exec (.pulseOutput t o) s = onDevice t (fun d => pulseOutput d.now o.val d) s := rfl
theorem exec_poEn (t : Nat) (m : Master) (o : Fin 4) (v : Bool) (s : State) : exec (.poEn t m o v) s = onDevice t (fun d => poEn d.now m o.val v d) s := rfl
theorem exec_phaseAdj (t : Nat) (m : Master) (v : Word32) (hw : Bool) (s : State) : exec (.phaseAdj t m v hw) s = onDevice t (fun d => d.colliding m .k1 tmuPage hw (phaseAdj d.now m v.toNat)) s := rfl
theorem exec_freqAdj (t : Nat) (m : Master) (v : Word32) (s : State) : exec (.freqAdj t m v) s = onDevice t (fun d => freqAdjWrite d.now m v.toNat d) s := rfl
theorem exec_timeOffset (t : Nat) (m : Master) (v : Word32) (s : State) : exec (.timeOffset t m v) s = onDevice t (fun d => timeOffsetHi d.now m v.toNat d) s := rfl
theorem exec_holdoverEntry (t : Nat) (s : State) : exec (.holdoverEntry t) s = onDevice t (fun d => holdoverEntry d.now d) s := rfl
theorem exec_timeExchange (t : Nat) (diff : Int) (s : State) : exec (.timeExchange t diff) s = onDevice t (fun d => timeExchange d.now diff d) s := rfl
theorem exec_epochMarkerSend (t : Nat) (bytes : Fin 16777216) (n : Nat) (base : Option Word32) (s : State) : exec (.epochMarkerSend t bytes n base) s = onDevice t (fun d => epochMarkerSend d.now bytes.val n (base.map (·.toNat)) d) s := rfl
theorem exec_soundpostRecordReceive (t : Nat) (good required : Bool) (x : Option PairMsg) (s : State) : exec (.soundpostRecordReceive t good required x) s = onDevice t (fun d => soundpostRecordReceive d.now good required x d) s := rfl
theorem exec_epochCommit (t : Nat) (e : Epoch) (whole replay : Bool) (s : State) : exec (.epochCommit t e whole replay) s = onDevice t (fun d => epochCommit d.now e whole replay d) s := rfl
theorem exec_epochDeadline (t k : Nat) (s : State) : exec (.epochDeadline t k) s = onDevice t (fun d => epochDeadline d.now k d) s := rfl
theorem exec_epochAckReceive (t k : Nat) (s : State) : exec (.epochAckReceive t k) s = onDevice t (fun d => epochAckReceive d.now k d) s := rfl
theorem exec_rewind (t e : Nat) (s : State) : exec (.rewind t e) s = onDevice t (fun d => rewind d.now e d) s := rfl
theorem exec_resyncRequest (t : Nat) (s : State) : exec (.resyncRequest t) s = onDevice t (fun d => resyncRequest d.now d) s := rfl
theorem exec_baseMarkerReceive (t b : Nat) (x : Tables) (good : Bool) (s : State) : exec (.baseMarkerReceive t b x good) s = onDevice t (fun d => baseMarkerReceive d.now b x good d) s := rfl
theorem exec_capoRenewal (t : Nat) (bad : Bool) (s : State) : exec (.capoRenewal t bad) s = onDevice t (fun d => capoRenewal d.now bad d) s := rfl
theorem exec_pinMessageReceive (t : Nat) (w : BitVec 64) (s : State) : exec (.pinMessageReceive t w) s = onDevice t (fun d => pinMessageReceive d.now w.toNat d) s := rfl
theorem exec_renewalReceive (t : Nat) (pins : Bool) (x : PairMsg) (s : State) : exec (.renewalReceive t pins x) s = onDevice t (fun d => renewalReceive d.now pins x d) s := rfl
theorem exec_beacon (t : Nat) (bad : Bool) (s : State) : exec (.beacon t bad) s = onDevice t (fun d => beacon d.now bad d) s := rfl
theorem exec_partnerAbsent (t : Nat) (s : State) : exec (.partnerAbsent t) s = onDevice t (fun d => partnerAbsent d.now d) s := rfl
theorem exec_capoTakeover (t : Nat) (ds : List (Nat × List Nat)) (renewed : Bool) (s : State) : exec (.capoTakeover t ds renewed) s = onDevice t (fun d => capoTakeover d.now ds renewed d) s := rfl
theorem exec_claim (t : Nat) (m : Master) (v hw : Bool) (s : State) : exec (.claim t m v hw) s = onDevice t (fun d => d.colliding m .k1 mruPage hw (claim d.now m v)) s := rfl
theorem exec_claimEnd (t : Nat) (s : State) : exec (.claimEnd t) s = onDevice t (fun d => claimEnd d.now d) s := rfl
theorem exec_coldStart (t : Nat) (m : Master) (v hw : Bool) (s : State) : exec (.coldStart t m v hw) s = onDevice t (fun d => d.colliding m .k1 mruPage hw (coldStart d.now m v)) s := rfl
theorem exec_release (t : Nat) (m : Master) (v hw : Bool) (s : State) : exec (.release t m v hw) s = onDevice t (fun d => d.colliding m .k1 mruPage hw (release d.now m v)) s := rfl
theorem exec_forceFence (t : Nat) (m : Master) (v : Bool) (s : State) : exec (.forceFence t m v) s = onDevice t (fun d => forceFence d.now m v d) s := rfl
theorem exec_mirrorEn (t : Nat) (m : Master) (v : Bool) (s : State) : exec (.mirrorEn t m v) s = onDevice t (fun d => mirrorEn d.now m v d) s := rfl
theorem exec_soundpostTrainingComplete (t : Nat) (s : State) : exec (.soundpostTrainingComplete t) s = onDevice t (fun d => soundpostTrainingComplete d.now d) s := rfl
theorem exec_tagEn (t : Nat) (m : Master) (v : Bool) (s : State) : exec (.tagEn t m v) s = onDevice t (fun d => tagEn d.now m v d) s := rfl
theorem exec_traceConsumed (t : Nat) (m : Master) (v : Fin 8192) (s : State) : exec (.traceConsumed t m v) s = onDevice t (fun d => traceConsumed d.now m v.val d) s := rfl
theorem exec_boot (t : Nat) (a b : Image) (s : State) : exec (.boot t a b) s = onDevice t (fun d => boot d.now a b d) s := rfl
theorem exec_attestGo (t : Nat) (m : Master) (v hw : Bool) (s : State) : exec (.attestGo t m v hw) s = onDevice t (fun d => d.colliding m .k1 secPage hw (attestGo d.now m v)) s := rfl
theorem exec_attestReportReady (t : Nat) (s : State) : exec (.attestReportReady t) s = onDevice t (fun d => attestReportReady d.now d) s := rfl
theorem exec_debugGo (t : Nat) (m : Master) (v : Bool) (level : Fin 4) (hw : Bool) (s : State) : exec (.debugGo t m v level hw) s = onDevice t (fun d => d.colliding m .k1 secPage hw (debugGo d.now m v level.val)) s := rfl
theorem exec_revokeGo (t : Nat) (m : Master) (v hw : Bool) (s : State) : exec (.revokeGo t m v hw) s = onDevice t (fun d => d.colliding m .k2 secPage hw (revokeGo d.now m v)) s := rfl
theorem exec_svnGo (t : Nat) (m : Master) (v hw : Bool) (s : State) : exec (.svnGo t m v hw) s = onDevice t (fun d => d.colliding m .k2 secPage hw (svnGo d.now m v)) s := rfl
theorem exec_fuseBurnComplete (t : Nat) (ok : Bool) (s : State) : exec (.fuseBurnComplete t ok) s = onDevice t (fun d => fuseBurnComplete d.now ok d) s := rfl
theorem exec_unitFailure (t : Nat) (kind : Fin 10) (u lost : Nat) (queues : List Nat) (s : State) : exec (.unitFailure t kind u lost queues) s = onDevice t (fun d => unitFailure d.now kind.val u lost queues d) s := rfl
theorem exec_sliceExchange (t : Nat) (sl : Fin 36) (s : State) : exec (.sliceExchange t sl) s = onDevice t (fun d => sliceExchange d.now sl.val d) s := rfl
theorem exec_aesLaneExchange (t : Nat) (l : Fin 34) (s : State) : exec (.aesLaneExchange t l) s = onDevice t (fun d => aesLaneExchange d.now l.val d) s := rfl
theorem exec_regionCopyStart (t : Nat) (kind : Fin 10) (u : Nat) (s : State) : exec (.regionCopyStart t kind u) s = onDevice t (fun d => regionCopyStart d.now kind.val u d) s := rfl
theorem exec_regionRemap (t : Nat) (kind : Fin 10) (u : Nat) (s : State) : exec (.regionRemap t kind u) s = onDevice t (fun d => regionRemap d.now kind.val u d) s := rfl
theorem exec_rowRepair (t : Nat) (n : Fin 8) (reads : Nat) (left : Bool) (s : State) : exec (.rowRepair t n reads left) s = onDevice t (fun d => rowRepair d.now n.val reads left d) s := rfl
theorem exec_approve (t : Nat) (m : Master) (v hw : Bool) (s : State) : exec (.approve t m v hw) s = onDevice t (fun d => d.colliding m .k1 spmPage hw (approve d.now m v)) s := rfl
theorem exec_dfeSwap (t : Nat) (lane : Fin 320) (sl : Fin 16) (unc : Fin 3) (s : State) : exec (.dfeSwap t lane sl unc) s = onDevice t (fun d => dfeSwap d.now lane.val sl.val unc.val d) s := rfl
theorem exec_usb4LinkChange (t : Nat) (link tunnel : Bool) (gen : Fin 8) (s : State) : exec (.usb4LinkChange t link tunnel gen) s = onDevice t (fun d => usb4LinkChange d.now link tunnel gen.val d) s := rfl
theorem exec_hostLossTimeout (t : Nat) (s : State) : exec (.hostLossTimeout t) s = onDevice t (fun d => hostLossTimeout d.now d) s := rfl
theorem exec_functionLevelReset (t : Nat) (pf1 : Bool) (s : State) : exec (.functionLevelReset t pf1) s = onDevice t (fun d => functionLevelReset d.now pf1 d) s := rfl
theorem exec_msixSend (t : Nat) (v : Fin 2048) (s : State) : exec (.msixSend t v) s = onDevice t (fun d => msixSend d.now v.val d) s := rfl
theorem exec_msixRepeat (t : Nat) (v : Fin 2048) (s : State) : exec (.msixRepeat t v) s = onDevice t (fun d => msixRepeat d.now v.val d) s := rfl
theorem exec_msixUnmask (t : Nat) (v : Fin 2048) (mask : Bool) (s : State) : exec (.msixUnmask t v mask) s = onDevice t (fun d => msixUnmask d.now v.val mask d) s := rfl
theorem exec_dmaReadComplete (t id : Nat) (ok : Bool) (bs : List Byte) (s : State) : exec (.dmaReadComplete t id ok bs) s = onDevice t (fun d => dmaReadComplete d.now id ok (bs.map (·.toNat)) d) s := rfl
theorem exec_dmaTimeout (t id : Nat) (s : State) : exec (.dmaTimeout t id) s = onDevice t (fun d => dmaTimeout d.now id d) s := rfl
theorem exec_porstAssert (t low : Nat) (took : Bool) (s : State) : exec (.porstAssert t low took) s = .next (porstAssert low took (s.dev.arrive t) s) := rfl
theorem exec_porstRelease (t : Nat) (side test : Bool) (s : State) : exec (.porstRelease t side test) s = .next (porstRelease side test (s.dev.arrive t) s) := rfl
theorem exec_soundpostLinkDown (t : Nat) (s : State) : exec (.soundpostLinkDown t) s = onDevice t (fun d => soundpostLinkDown d.now d) s := rfl
theorem exec_pauseQuantaExpiry (t : Nat) (p : Fin 64) (s : State) : exec (.pauseQuantaExpiry t p) s = onDevice t (fun d => pauseQuantaExpiry d.now p.val d) s := rfl
theorem exec_fenceEgressStop (t : Nat) (s : State) : exec (.fenceEgressStop t) s = onDevice t (fun d => fenceEgressStop d.now d) s := rfl
theorem exec_ownerClear (t : Nat) (s : State) : exec (.ownerClear t) s = onDevice t (fun d => ownerClear d.now d) s := rfl
theorem exec_timeReferenceChange (t : Nat) (ok : Bool) (s : State) : exec (.timeReferenceChange t ok) s = onDevice t (fun d => timeReferenceChange d.now ok d) s := rfl
theorem exec_treeLanesReady (t : Nat) (tree : Tree) (s : State) : exec (.treeLanesReady t tree) s = onDevice t (fun d => treeLanesReady d.now tree.val d) s := rfl
theorem exec_regionCopyComplete (t : Nat) (kind : Fin 10) (u : Nat) (s : State) : exec (.regionCopyComplete t kind u) s = onDevice t (fun d => regionCopyComplete d.now kind.val u d) s := rfl
theorem exec_pllWorn (t : Nat) (u : Fin 96) (s : State) : exec (.pllWorn t u) s = onDevice t (fun d => pllWorn d.now u.val d) s := rfl
theorem exec_dmaWriteRefused (t : Nat) (punt : Option (Fin 4)) (s : State) : exec (.dmaWriteRefused t punt) s = onDevice t (fun d => dmaWriteRefused d.now (punt.map (·.val)) d) s := rfl
theorem exec_busMasterEnableChange (t : Nat) (v : Bool) (s : State) : exec (.busMasterEnableChange t v) s = onDevice t (fun d => busMasterEnableChange d.now v d) s := rfl
theorem exec_flexeOhMissing (t : Nat) (g : Fin 32) (inst : Nat) (s : State) : exec (.flexeOhMissing t g inst) s = onDevice t (fun d => flexeOhMissing d.now g.val inst d) s := rfl
theorem exec_prbsLockChange (t : Nat) (lane : Fin 64) (on : Bool) (n errs : Nat) (s : State) : exec (.prbsLockChange t lane on n errs) s = onDevice t (fun d => prbsLockChange d.now lane.val on n errs d) s := rfl

/-- Every command but PTM_SAMPLE and those of PORST_N runs an effect on the device, or loads a counter first. -/
theorem exec_shape (c : Instr) (s : State) : (∃ t f, exec c s = onDevice t f s) ∨ (∃ t l f, exec c s = onLoaded t l f s) ∨
    (∃ t temps pace, c = .ptmSample t temps pace) ∨ (∃ t low took, c = .porstAssert t low took) ∨ ∃ t side test, c = .porstRelease t side test := by
  cases c
  case registerWrite => exact .inr (.inl ⟨_, _, _, exec_registerWrite _ _ _ _ _ _ _ _⟩)
  case bitAliasWrite => exact .inl ⟨_, _, exec_bitAliasWrite _ _ _ _ _ _ _ _ _ _⟩
  case counterLowRead => exact .inl ⟨_, _, exec_counterLowRead _ _ _ _ _⟩
  case counterHighRead => exact .inl ⟨_, _, exec_counterHighRead _ _ _ _ _⟩
  case counterLowWrite => exact .inl ⟨_, _, exec_counterLowWrite _ _ _ _ _ _⟩
  case counterHighWrite => exact .inr (.inl ⟨_, _, _, exec_counterHighWrite _ _ _ _ _ _ _⟩)
  case watchThresholdWrite => exact .inl ⟨_, _, exec_watchThresholdWrite _ _ _ _ _ _⟩
  case arm => exact .inl ⟨_, _, exec_arm _ _ _ _ _ _⟩
  case boundaryWindow => exact .inl ⟨_, _, exec_boundaryWindow _ _ _⟩
  case windowRead => exact .inl ⟨_, _, exec_windowRead _ _ _ _ _ _⟩
  case windowWrite => exact .inl ⟨_, _, exec_windowWrite _ _ _ _ _ _⟩
  case windowReadClearValid => exact .inl ⟨_, _, exec_windowReadClearValid _ _ _ _ _ _⟩
  case windowOperationComplete => exact .inl ⟨_, _, exec_windowOperationComplete _ _ _ _ _ _ _⟩
  case frameBoundary => exact .inl ⟨_, _, exec_frameBoundary _ _ _ _ _⟩
  case treeFrameBoundary => exact .inl ⟨_, _, exec_treeFrameBoundary _ _ _⟩
  case frameAssembly => exact .inl ⟨_, _, exec_frameAssembly _ _ _ _ _⟩
  case courseXgemPlace => exact .inl ⟨_, _, exec_courseXgemPlace _ _ _⟩
  case reorderArrival => exact .inl ⟨_, _, exec_reorderArrival _ _ _ _ _ _ _⟩
  case reorderGapDeadline => exact .inl ⟨_, _, exec_reorderGapDeadline _ _ _⟩
  case i2cGo => exact .inl ⟨_, _, exec_i2cGo _ _ _ _ _ _⟩
  case i2cTransactionEnd => exact .inl ⟨_, _, exec_i2cTransactionEnd _ _ _ _ _ _⟩
  case mapBuildStart => exact .inl ⟨_, _, exec_mapBuildStart _ _ _⟩
  case mapSeal => exact .inl ⟨_, _, exec_mapSeal _ _ _⟩
  case grantRecordPost => exact .inl ⟨_, _, exec_grantRecordPost _ _ _ _ _ _⟩
  case ringConsumed => exact .inl ⟨_, _, exec_ringConsumed _ _ _ _⟩
  case pegLoad => exact .inl ⟨_, _, exec_pegLoad _ _ _ _ _⟩
  case strobePulse => exact .inl ⟨_, _, exec_strobePulse _ _ _ _ _⟩
  case delimiterAccept => exact .inl ⟨_, _, exec_delimiterAccept _ _ _ _ _ _ _ _⟩
  case burstEnd => exact .inl ⟨_, _, exec_burstEnd _ _ _ _⟩
  case signalDetectChange => exact .inl ⟨_, _, exec_signalDetectChange _ _ _ _⟩
  case continuousLight => exact .inl ⟨_, _, exec_continuousLight _ _ _⟩
  case upstreamFrameEnd => exact .inl ⟨_, _, exec_upstreamFrameEnd _ _ _ _⟩
  case vlogConsumed => exact .inl ⟨_, _, exec_vlogConsumed _ _ _ _⟩
  case rogueIsolationStart => exact .inl ⟨_, _, exec_rogueIsolationStart _ _ _⟩
  case quietWindowResult => exact .inl ⟨_, _, exec_quietWindowResult _ _ _⟩
  case rogueUnresolvedCheck => exact .inl ⟨_, _, exec_rogueUnresolvedCheck _ _ _⟩
  case burstProfileQueue => exact .inl ⟨_, _, exec_burstProfileQueue _ _ _⟩
  case serialNumberReceived => exact .inl ⟨_, _, exec_serialNumberReceived _ _ _ _ _ _⟩
  case rangingTimeAck => exact .inl ⟨_, _, exec_rangingTimeAck _ _ _ _⟩
  case lostTimeout => exact .inl ⟨_, _, exec_lostTimeout _ _ _⟩
  case terminalFree => exact .inl ⟨_, _, exec_terminalFree _ _ _⟩
  case discConsumed => exact .inl ⟨_, _, exec_discConsumed _ _ _ _⟩
  case ptmSample t x y => exact .inr (.inr (.inl ⟨t, x, y, rfl⟩))
  case railAlarm => exact .inl ⟨_, _, exec_railAlarm _ _ _⟩
  case envelopePublication => exact .inl ⟨_, _, exec_envelopePublication _ _ _ _⟩
  case voltageWriteResult => exact .inl ⟨_, _, exec_voltageWriteResult _ _ _ _⟩
  case tripRelease => exact .inl ⟨_, _, exec_tripRelease _ _ _ _ _ _⟩
  case quietCh => exact .inl ⟨_, _, exec_quietCh _ _ _ _ _⟩
  case quietTree => exact .inl ⟨_, _, exec_quietTree _ _ _ _ _⟩
  case commandAccept => exact .inl ⟨_, _, exec_commandAccept _ _ _ _ _⟩
  case nop => exact .inl ⟨_, _, exec_nop _ _ _⟩
  case query => exact .inl ⟨_, _, exec_query _ _ _⟩
  case keyZeroizeAll => exact .inl ⟨_, _, exec_keyZeroizeAll _ _ _⟩
  case terminalCreate => exact .inl ⟨_, _, exec_terminalCreate _ _ _⟩
  case terminalDestroy => exact .inl ⟨_, _, exec_terminalDestroy _ _ _⟩
  case terminalDisable => exact .inl ⟨_, _, exec_terminalDisable _ _ _⟩
  case terminalEnable => exact .inl ⟨_, _, exec_terminalEnable _ _ _⟩
  case allocCreate => exact .inl ⟨_, _, exec_allocCreate _ _ _⟩
  case allocDestroy => exact .inl ⟨_, _, exec_allocDestroy _ _ _⟩
  case channelCreate => exact .inl ⟨_, _, exec_channelCreate _ _ _⟩
  case channelDestroy => exact .inl ⟨_, _, exec_channelDestroy _ _ _⟩
  case queueCreate => exact .inl ⟨_, _, exec_queueCreate _ _ _⟩
  case queueDestroy => exact .inl ⟨_, _, exec_queueDestroy _ _ _⟩
  case queueFlush => exact .inl ⟨_, _, exec_queueFlush _ _ _⟩
  case keyCreate => exact .inl ⟨_, _, exec_keyCreate _ _ _⟩
  case keyDestroy => exact .inl ⟨_, _, exec_keyDestroy _ _ _⟩
  case poolCreate => exact .inl ⟨_, _, exec_poolCreate _ _ _⟩
  case poolDestroy => exact .inl ⟨_, _, exec_poolDestroy _ _ _⟩
  case shaperCreate => exact .inl ⟨_, _, exec_shaperCreate _ _ _⟩
  case shaperDestroy => exact .inl ⟨_, _, exec_shaperDestroy _ _ _⟩
  case gateListInstall => exact .inl ⟨_, _, exec_gateListInstall _ _ _⟩
  case gateListDestroy => exact .inl ⟨_, _, exec_gateListDestroy _ _ _⟩
  case omciSend => exact .inl ⟨_, _, exec_omciSend _ _ _⟩
  case destroyCommit => exact .inl ⟨_, _, exec_destroyCommit _ _ _⟩
  case commandTimeout => exact .inl ⟨_, _, exec_commandTimeout _ _ _⟩
  case completionPost => exact .inl ⟨_, _, exec_completionPost _ _ _⟩
  case puntChannelDisable => exact .inl ⟨_, _, exec_puntChannelDisable _ _ _ _⟩
  case injectDescriptor => exact .inl ⟨_, _, exec_injectDescriptor _ _ _ _ _ _ _⟩
  case injectChannelDisable => exact .inl ⟨_, _, exec_injectChannelDisable _ _ _ _ _⟩
  case packetIngress => exact .inl ⟨_, _, exec_packetIngress _ _ _⟩
  case packetClassify => exact .inl ⟨_, _, exec_packetClassify _ _ _⟩
  case xgemEncrypt => exact .inl ⟨_, _, exec_xgemEncrypt _ _ _⟩
  case xgemDecrypt => exact .inl ⟨_, _, exec_xgemDecrypt _ _ _ _ _ _ _ _ _ _⟩
  case tagResult => exact .inl ⟨_, _, exec_tagResult _ _ _⟩
  case keyActivation => exact .inl ⟨_, _, exec_keyActivation _ _ _⟩
  case clockAlarm => exact .inl ⟨_, _, exec_clockAlarm _ _⟩
  case glitchAlarm => exact .inl ⟨_, _, exec_glitchAlarm _ _⟩
  case temperatureAlarm => exact .inl ⟨_, _, exec_temperatureAlarm _ _ _⟩
  case cellRequest => exact .inl ⟨_, _, exec_cellRequest _ _ _ _ _ _ _⟩
  case waitTimeout => exact .inl ⟨_, _, exec_waitTimeout _ _ _⟩
  case bufferFree => exact .inl ⟨_, _, exec_bufferFree _ _ _ _ _ _ _⟩
  case flogConsumed => exact .inl ⟨_, _, exec_flogConsumed _ _ _ _⟩
  case cellAddr => exact .inl ⟨_, _, exec_cellAddr _ _ _ _⟩
  case packetPush => exact .inl ⟨_, _, exec_packetPush _ _ _ _ _⟩
  case packetEnd => exact .inl ⟨_, _, exec_packetEnd _ _ _ _⟩
  case packetPop => exact .inl ⟨_, _, exec_packetPop _ _ _ _⟩
  case flushCommit => exact .inl ⟨_, _, exec_flushCommit _ _ _⟩
  case scrubRead => exact .inl ⟨_, _, exec_scrubRead _ _ _ _ _⟩
  case dramRefresh => exact .inl ⟨_, _, exec_dramRefresh _ _ _⟩
  case skcReady => exact .inl ⟨_, _, exec_skcReady _ _ _⟩
  case egressRequest => exact .inl ⟨_, _, exec_egressRequest _ _ _⟩
  case shaperWheelExpiry => exact .inl ⟨_, _, exec_shaperWheelExpiry _ _ _ _⟩
  case gateEntryChange => exact .inl ⟨_, _, exec_gateEntryChange _ _ _⟩
  case gateListStart => exact .inl ⟨_, _, exec_gateListStart _ _ _⟩
  case portBringup => exact .inl ⟨_, _, exec_portBringup _ _ _ _⟩
  case autonegComplete => exact .inl ⟨_, _, exec_autonegComplete _ _ _ _ _⟩
  case linkTrainingComplete => exact .inl ⟨_, _, exec_linkTrainingComplete _ _ _ _ _ _⟩
  case portDefectChange => exact .inl ⟨_, _, exec_portDefectChange _ _ _ _ _ _⟩
  case upHoldExpiry => exact .inl ⟨_, _, exec_upHoldExpiry _ _ _⟩
  case networkFrameReceive => exact .inl ⟨_, _, exec_networkFrameReceive _ _ _ _ _ _ _ _ _ _ _⟩
  case networkFrameTransmit => exact .inl ⟨_, _, exec_networkFrameTransmit _ _ _ _ _⟩
  case pauseReceive => exact .inl ⟨_, _, exec_pauseReceive _ _ _ _⟩
  case pauseHoldLimit => exact .inl ⟨_, _, exec_pauseHoldLimit _ _ _ _⟩
  case pauseGenerate => exact .inl ⟨_, _, exec_pauseGenerate _ _ _⟩
  case eyeMeasure => exact .inl ⟨_, _, exec_eyeMeasure _ _ _ _ _⟩
  case injectOne => exact .inl ⟨_, _, exec_injectOne _ _ _ _ _⟩
  case flexeOhFrameReceive => exact .inl ⟨_, _, exec_flexeOhFrameReceive _ _ _ _ _ _ _⟩
  case flexeOhCandidate => exact .inl ⟨_, _, exec_flexeOhCandidate _ _ _ _ _⟩
  case calReq => exact .inl ⟨_, _, exec_calReq _ _ _ _ _⟩
  case txOhFrameBoundary => exact .inl ⟨_, _, exec_txOhFrameBoundary _ _ _⟩
  case timeRun => exact .inl ⟨_, _, exec_timeRun _ _ _ _⟩
  case eventEdge => exact .inl ⟨_, _, exec_eventEdge _ _ _ _ _⟩
  case evtConsumed => exact .inl ⟨_, _, exec_evtConsumed _ _ _ _⟩
  case txsConsumed => exact .inl ⟨_, _, exec_txsConsumed _ _ _ _⟩
  case pulseOutput => exact .inl ⟨_, _, exec_pulseOutput _ _ _⟩
  case poEn => exact .inl ⟨_, _, exec_poEn _ _ _ _ _⟩
  case phaseAdj => exact .inl ⟨_, _, exec_phaseAdj _ _ _ _ _⟩
  case freqAdj => exact .inl ⟨_, _, exec_freqAdj _ _ _ _⟩
  case timeOffset => exact .inl ⟨_, _, exec_timeOffset _ _ _ _⟩
  case holdoverEntry => exact .inl ⟨_, _, exec_holdoverEntry _ _⟩
  case timeExchange => exact .inl ⟨_, _, exec_timeExchange _ _ _⟩
  case epochMarkerSend => exact .inl ⟨_, _, exec_epochMarkerSend _ _ _ _ _⟩
  case soundpostRecordReceive => exact .inl ⟨_, _, exec_soundpostRecordReceive _ _ _ _ _⟩
  case epochCommit => exact .inl ⟨_, _, exec_epochCommit _ _ _ _ _⟩
  case epochDeadline => exact .inl ⟨_, _, exec_epochDeadline _ _ _⟩
  case epochAckReceive => exact .inl ⟨_, _, exec_epochAckReceive _ _ _⟩
  case rewind => exact .inl ⟨_, _, exec_rewind _ _ _⟩
  case resyncRequest => exact .inl ⟨_, _, exec_resyncRequest _ _⟩
  case baseMarkerReceive => exact .inl ⟨_, _, exec_baseMarkerReceive _ _ _ _ _⟩
  case capoRenewal => exact .inl ⟨_, _, exec_capoRenewal _ _ _⟩
  case pinMessageReceive => exact .inl ⟨_, _, exec_pinMessageReceive _ _ _⟩
  case renewalReceive => exact .inl ⟨_, _, exec_renewalReceive _ _ _ _⟩
  case beacon => exact .inl ⟨_, _, exec_beacon _ _ _⟩
  case partnerAbsent => exact .inl ⟨_, _, exec_partnerAbsent _ _⟩
  case capoTakeover => exact .inl ⟨_, _, exec_capoTakeover _ _ _ _⟩
  case claim => exact .inl ⟨_, _, exec_claim _ _ _ _ _⟩
  case claimEnd => exact .inl ⟨_, _, exec_claimEnd _ _⟩
  case coldStart => exact .inl ⟨_, _, exec_coldStart _ _ _ _ _⟩
  case release => exact .inl ⟨_, _, exec_release _ _ _ _ _⟩
  case forceFence => exact .inl ⟨_, _, exec_forceFence _ _ _ _⟩
  case mirrorEn => exact .inl ⟨_, _, exec_mirrorEn _ _ _ _⟩
  case soundpostTrainingComplete => exact .inl ⟨_, _, exec_soundpostTrainingComplete _ _⟩
  case tagEn => exact .inl ⟨_, _, exec_tagEn _ _ _ _⟩
  case traceConsumed => exact .inl ⟨_, _, exec_traceConsumed _ _ _ _⟩
  case boot => exact .inl ⟨_, _, exec_boot _ _ _ _⟩
  case attestGo => exact .inl ⟨_, _, exec_attestGo _ _ _ _ _⟩
  case attestReportReady => exact .inl ⟨_, _, exec_attestReportReady _ _⟩
  case debugGo => exact .inl ⟨_, _, exec_debugGo _ _ _ _ _ _⟩
  case revokeGo => exact .inl ⟨_, _, exec_revokeGo _ _ _ _ _⟩
  case svnGo => exact .inl ⟨_, _, exec_svnGo _ _ _ _ _⟩
  case fuseBurnComplete => exact .inl ⟨_, _, exec_fuseBurnComplete _ _ _⟩
  case unitFailure => exact .inl ⟨_, _, exec_unitFailure _ _ _ _ _ _⟩
  case sliceExchange => exact .inl ⟨_, _, exec_sliceExchange _ _ _⟩
  case aesLaneExchange => exact .inl ⟨_, _, exec_aesLaneExchange _ _ _⟩
  case regionCopyStart => exact .inl ⟨_, _, exec_regionCopyStart _ _ _ _⟩
  case regionRemap => exact .inl ⟨_, _, exec_regionRemap _ _ _ _⟩
  case rowRepair => exact .inl ⟨_, _, exec_rowRepair _ _ _ _ _⟩
  case approve => exact .inl ⟨_, _, exec_approve _ _ _ _ _⟩
  case dfeSwap => exact .inl ⟨_, _, exec_dfeSwap _ _ _ _ _⟩
  case usb4LinkChange => exact .inl ⟨_, _, exec_usb4LinkChange _ _ _ _ _⟩
  case hostLossTimeout => exact .inl ⟨_, _, exec_hostLossTimeout _ _⟩
  case functionLevelReset => exact .inl ⟨_, _, exec_functionLevelReset _ _ _⟩
  case msixSend => exact .inl ⟨_, _, exec_msixSend _ _ _⟩
  case msixRepeat => exact .inl ⟨_, _, exec_msixRepeat _ _ _⟩
  case msixUnmask => exact .inl ⟨_, _, exec_msixUnmask _ _ _ _⟩
  case dmaReadComplete => exact .inl ⟨_, _, exec_dmaReadComplete _ _ _ _ _⟩
  case dmaTimeout => exact .inl ⟨_, _, exec_dmaTimeout _ _ _⟩
  case porstAssert t x y => exact .inr (.inr (.inr (.inl ⟨t, x, y, rfl⟩)))
  case porstRelease t x y => exact .inr (.inr (.inr (.inr ⟨t, x, y, rfl⟩)))
  case soundpostLinkDown => exact .inl ⟨_, _, exec_soundpostLinkDown _ _⟩
  case pauseQuantaExpiry => exact .inl ⟨_, _, exec_pauseQuantaExpiry _ _ _⟩
  case fenceEgressStop => exact .inl ⟨_, _, exec_fenceEgressStop _ _⟩
  case ownerClear => exact .inl ⟨_, _, exec_ownerClear _ _⟩
  case timeReferenceChange => exact .inl ⟨_, _, exec_timeReferenceChange _ _ _⟩
  case treeLanesReady => exact .inl ⟨_, _, exec_treeLanesReady _ _ _⟩
  case regionCopyComplete => exact .inl ⟨_, _, exec_regionCopyComplete _ _ _ _⟩
  case pllWorn => exact .inl ⟨_, _, exec_pllWorn _ _ _⟩
  case dmaWriteRefused => exact .inl ⟨_, _, exec_dmaWriteRefused _ _ _⟩
  case busMasterEnableChange => exact .inl ⟨_, _, exec_busMasterEnableChange _ _ _⟩
  case flexeOhMissing => exact .inl ⟨_, _, exec_flexeOhMissing _ _ _ _⟩
  case prbsLockChange => exact .inl ⟨_, _, exec_prbsLockChange _ _ _ _ _ _⟩

end Sys2Proof.Machine
end

