-- ==== Sys2Proof/Laws/Frames.lean ====
section
/-!
SUPPORT. Laws of the frames in which claims are said: which updates keep which fields and counters.
-/

namespace Sys2Proof.Safety

open Sys2Proof.Machine

theorem Makes.intro {c : Instr} {s : State} {t : Nat} {E : Device → Device → Prop} {f : Device → Device} (hr : s.inReset = false)
    (hx : exec c s = onDevice t f s) (hE : E (s.dev.arrive t) (f (s.dev.arrive t))) : Makes c s t E :=
  ⟨_, hx.trans (onDevice_next t f hr), hE⟩

theorem MakesLoaded.intro {c : Instr} {s : State} {t : Nat} {E : Device → Device → Prop} {load f : Device → Device} (hr : s.inReset = false)
    (hx : exec c s = onLoaded t load f s) (hE : E (s.dev.arrive t) (f (s.dev.arrive t))) : MakesLoaded load c s t E :=
  ⟨_, hx.trans (onLoaded_next t load f hr), hE⟩

variable {fs : List Fld} {cs : List (Nat × Nat)} {a b c : Device}

theorem Kept.refl (fs : List Fld) (cs : List (Nat × Nat)) (a : Device) : Kept fs cs a a := ⟨fun _ _ => Eq.refl _, fun _ _ _ => Eq.refl _⟩

theorem Kept.trans (h : Kept fs cs a b) (h' : Kept fs cs b c) : Kept fs cs a c :=
  ⟨fun f hf => (h'.1 f hf).trans (h.1 f hf), fun p o hc => (h'.2 p o hc).trans (h.2 p o hc)⟩

/-- A field of the list may be written. -/
theorem Kept.wr (h : Kept fs cs a b) {f : Fld} (v : Nat) (hf : ∃ g ∈ fs, fkey g = fkey f) : Kept fs cs a (b.wr f v) :=
  ⟨fun k hk => ((b.rd_wr_ne v (by obtain ⟨g, hg, e⟩ := hf; exact fun x => hk g hg (x.trans e.symm)))).trans (h.1 k hk), fun p o hc => (b.wr_ctr f v p o).trans (h.2 p o hc)⟩

theorem Kept.wrIf (h : Kept fs cs a b) (i : Bool) {f : Fld} (v : Nat) (hf : ∃ g ∈ fs, fkey g = fkey f) : Kept fs cs a (b.wrIf i f v) := by
  unfold Device.wrIf
  split
  exacts [h.wr v hf, h]

/-- A counter of the list may be loaded. -/
theorem Kept.setCtr (h : Kept fs cs a b) {p o : Nat} (v : Nat) (hc : (p, o) ∈ cs) : Kept fs cs a (b.setCtr p o v) :=
  ⟨h.1, fun q r hq => (Tbl.getD_put_ne _ _ _ _ (hq _ hc)).trans (h.2 q r hq)⟩

theorem Kept.count (h : Kept fs cs a b) {p o : Nat} (n : Nat) (hc : (p, o) ∈ cs) : Kept fs cs a (b.count p o n) := h.setCtr _ hc

theorem Kept.countIf (h : Kept fs cs a b) (i : Bool) {p o : Nat} (hc : (p, o) ∈ cs) : Kept fs cs a (b.countIf i p o) := by
  unfold Device.countIf
  split
  exacts [h.count _ hc, h]

/-- A device with the same registers and counters is as good. -/
theorem Kept.same (h : Kept fs cs a b) (hr : c.regs = b.regs) (hc : c.ctrs = b.ctrs) : Kept fs cs a c :=
  ⟨fun f hf => by rw [← h.1 f hf]; unfold Device.rd; rw [hr], fun p o ho => by rw [← h.2 p o ho]; unfold Device.ctr; rw [hc]⟩

theorem Only.refl (fs : List Fld) (cs : List (Nat × Nat)) (a : Device) : Only fs cs a a := ⟨rfl, Kept.refl _ _ _⟩

theorem Only.wr (h : Only fs cs a b) {f : Fld} (v : Nat) (hf : ∃ g ∈ fs, fkey g = fkey f) : Only fs cs a (b.wr f v) :=
  ⟨by conv_lhs => rw [h.1]
      rfl, h.2.wr v hf⟩

theorem Only.count (h : Only fs cs a b) {p o : Nat} (n : Nat) (hc : (p, o) ∈ cs) : Only fs cs a (b.count p o n) :=
  ⟨by conv_lhs => rw [h.1]
      rfl, h.2.count n hc⟩

theorem Only.wrIf (h : Only fs cs a b) (i : Bool) {f : Fld} (v : Nat) (hf : ∃ g ∈ fs, fkey g = fkey f) : Only fs cs a (b.wrIf i f v) := by
  unfold Device.wrIf
  split
  exacts [h.wr v hf, h]

theorem Only.countIf (h : Only fs cs a b) (i : Bool) {p o : Nat} (hc : (p, o) ∈ cs) : Only fs cs a (b.countIf i p o) := by
  unfold Device.countIf
  split
  exacts [h.count _ hc, h]

theorem refused (p : Nat) (a : Device) : Refused p a (a.refuse p) := ⟨a.ctr_count_same _ _ _, (Only.refl _ _ a).count _ (by simp)⟩

theorem locked (p : Nat) (a : Device) : Locked p a (a.lockedWrite p) := ⟨a.ctr_count_same _ _ _, (Only.refl _ _ a).count _ (by simp)⟩

theorem unmapped (a : Device) : Unmapped a (a.count 0x000 0x810 1) := ⟨a.ctr_count_same _ _ _, (Only.refl _ _ a).count _ (by simp)⟩

theorem lost (p : Nat) (a : Device) : Lost p a (a.writeLost p 1) := ⟨a.rd_wr_same _ _, (Only.refl _ _ a).wr _ (by simp)⟩

end Sys2Proof.Safety
end

