-- ==== Sys2Proof/Laws/Registers.lean ====
section
/-!
SUPPORT. Laws of PAGE_IRQ_MASK, the one field that every page has and every privileged master may write at any time: it stands alone in its
word, no command and no lock is its own, it takes every value, and nothing follows from its write.
-/

namespace Sys2Proof.Machine

/-- Taking a power of two away from a number that has that bit clears the bit and no other. -/
theorem testBit_clear {x b : Nat} (h : x.testBit b = true) (j : Nat) : (x - 2 ^ b).testBit j = if j = b then false else x.testBit j := by
  have hr : x % 2 ^ b < 2 ^ b := Nat.mod_lt _ (by positivity)
  have hq : x / 2 ^ b % 2 = 1 := by rw [Nat.testBit_eq_decide_div_mod_eq] at h; simpa using h
  have hx : x = 2 ^ b * (x / 2 ^ b) + x % 2 ^ b := (Nat.div_add_mod x (2 ^ b)).symm
  generalize x / 2 ^ b = q at hq hx
  generalize x % 2 ^ b = r at hr hx
  have hs : x - 2 ^ b = 2 ^ b * (2 * (q / 2)) + r := by
    have : q = 2 * (q / 2) + 1 := by omega
    have e : 2 ^ b * q = 2 ^ b * (2 * (q / 2)) + 2 ^ b := by conv_lhs => rw [this, Nat.mul_add, Nat.mul_one]
    omega
  rw [hs, hx, Nat.testBit_two_pow_mul_add _ hr, Nat.testBit_two_pow_mul_add _ hr]
  by_cases hj : j < b
  · simp [hj, Nat.ne_of_lt hj]
  · by_cases e : j = b
    · subst e; simp
    · obtain ⟨k, rfl⟩ : ∃ k, j = b + (k + 1) := ⟨j - b - 1, by omega⟩
      simp [Nat.testBit_succ]

theorem Fld.ne_of_off {f g : Fld} (h : f.off ≠ g.off) : f ≠ g := fun e => h (e ▸ rfl)

theorem ite_both {α : Sort*} {c : Prop} [Decidable c] {a b z : α} (h1 : a = z) (h2 : b = z) : (if c then a else b) = z := by split <;> assumption
theorem ite_no {α : Sort*} {c : Prop} [Decidable c] {a b z : α} (h1 : ¬c) (h2 : b = z) : (if c then a else b) = z := (if_neg h1).trans h2
theorem ite_yes {α : Sort*} {c : Prop} [Decidable c] {a b z : α} (h1 : c) (h2 : a = z) : (if c then a else b) = z := (if_pos h1).trans h2

theorem irq_ne (p : Nat) {g : Fld} (h : 12 ≠ g.off) : PG.IRQ_ENABLE p ≠ g := Fld.ne_of_off h

theorem irq_fields (p : Nat) (h : populated p = true) : fieldsOf p 12 = [PG.IRQ_ENABLE p] := by
  have hb : blockFields p 12 = [] := by
    have a : ∀ t, TPE.fieldsAt t 12 = [] := fun t => by simp [TPE.fieldsAt]
    have b : ∀ t, CH.fieldsAt t 12 = [] := fun t => by simp [CH.fieldsAt]
    have c : ∀ t, NPC.fieldsAt t 12 = [] := fun t => by simp [NPC.fieldsAt, inRun]
    have e : ∀ t, SKC.fieldsAt t 12 = [] := fun t => by simp [SKC.fieldsAt]
    unfold blockFields
    simp only [a, b, c, e,
      (by decide : DEV.fieldsAt 12 = []),
      (by decide : HIF.fieldsAt 12 = []),
      (by decide : SEC.fieldsAt 12 = []),
      (by decide : PTM.fieldsAt 12 = []),
      (by decide : TMU.fieldsAt 12 = []),
      (by decide : MRU.fieldsAt 12 = []),
      (by decide : SPM.fieldsAt 12 = []),
      (by decide : MON.fieldsAt 12 = []),
      (by decide : FLX.fieldsAt 12 = []),
      (by decide : BPM.fieldsAt 12 = []),
      (by decide : QMG.fieldsAt 12 = []),
      (by decide : TMG.fieldsAt 12 = []),
      (by decide : PCL.fieldsAt 12 = []),
      (by decide : CPE.fieldsAt 12 = []),
      (by decide : GEN.fieldsAt 12 = []),
      (by decide : RGU.fieldsAt 12 = []), ite_self]
  unfold fieldsOf
  rw [if_pos h, hb]
  rfl

theorem irq_command (t p v : Nat) (m : Master) (x : Aside) : ownCommand t m x (PG.IRQ_ENABLE p) v = none := by
  unfold ownCommand
  repeat' (first
    | exact rfl
    | refine ite_no (irq_ne p (by first | decide | (simp only [TMU.PO_EN, NPC.INJECT_ONE, TPE.I2C_GO]; omega))) ?_
    | refine ite_no (fun h => irq_ne p (by first | decide | (simp only [NPC.PORT_EN]; omega)) h.1) ?_
    | refine ite_both ?_ ?_)

/-- A write of PAGE_IRQ_MASK is no more than its new value. -/
theorem irq_own (t p hw : Nat) (m : Master) (x : Aside) (nv : Fld → Nat) : ownWrite t m x nv hw (PG.IRQ_ENABLE p) = none := by
  unfold ownWrite
  simp only
  rw [if_neg (irq_ne p (by simp only [PG.ARM]; omega)), if_neg (irq_ne p (by simp only [PG.THRESH_HI]; omega)), if_neg (irq_ne p (by simp only [PG.GO]; omega)), irq_command]

theorem irq_locked (d : Device) (p v : Nat) : d.fieldLocked (PG.IRQ_ENABLE p) v = false := by
  unfold Device.fieldLocked
  repeat' (first
    | exact rfl
    | (refine ite_no ?_ ?_
       · solve
           | repeat' (first
               | exact irq_ne p (by first | decide | (simp only [TMU.START_LO, TMU.START_HI, TMU.PERIOD_NS, TMU.TIMEBASE, TPE.OFFSET_NS, TPE.TREE_EN,
                   CH.TX_PAM4, CH.US_RATE, CH.DELIM_LO, CH.DELIM_HI, NPC.QUAD_MODE, NPC.FLEXE_EN, GEN.UPF_DELAY_NS]; omega))
               | refine not_or.2 ⟨?_, ?_⟩))
    | refine ite_both ?_ ?_)

theorem irq_ok (d : Device) (p : Nat) (nv : Fld → Nat) : d.valueOk nv (PG.IRQ_ENABLE p) = true := by
  have o : ∀ {g : Fld} {b : Bool}, 12 ≠ g.off → (decide (PG.IRQ_ENABLE p ≠ g) || b) = true := fun h => by simp [irq_ne p h]
  unfold Device.valueOk okPtm okTmu okMru okSpm okMon okTpe okCh Device.okNpc Device.okPcl Device.okCpe okGen Device.okRgu
  repeat' (first
    | exact rfl
    | exact o (by first | decide | (simp only [SKC.SCRUB_HOURS]; omega))
    | (refine ite_no ?_ ?_
       · solve
           | repeat' (first
               | exact irq_ne p (by first | decide | (simp only [TMU.PERIOD_NS, TPE.OFFSET_NS, TPE.I2C_SPEED, TPE.TIMEOUT_US, TPE.TERM_LIMIT, CH.US_RATE,
                   CH.WIDTH_NS, CH.PLOAM_PER_FRAME, CH.PEG_LEAD_NS, CH.STROBE_LEAD_NS, CH.PEG_MAX_AGE_FRAMES, CH.PEG_MAX_DRIFT, CH.LDPC_MAX_ITER,
                   CH.ROGUE_CONFIRM_FRAMES, CH.LOS_FRAMES, NPC.QUAD_MODE, NPC.FLEXE_EN, NPC.PAUSE_POOL, NPC.PRBS_GEN, NPC.PRBS_CHK, NPC.INJECT_LOG2,
                   NPC.MAX_FRAME_BYTES, NPC.PAUSE_MAX_FRAMES, NPC.TRAIN_TIMEOUT_MS, NPC.TRAIN_RETRIES,
                   GEN.UPF_DELAY_NS, RGU.REACH_MIN_KM, RGU.REACH_MAX_KM]; omega))
               | exact (by decide : ¬ 0x400 ≤ 12)
               | exact (by decide : ¬ 0x420 ≤ 12)
               | refine not_or.2 ⟨?_, ?_⟩))
    | refine ite_both ?_ ?_)

theorem irq_written (d : Device) (p old new : Nat) : d.written (PG.IRQ_ENABLE p) old new = d := by
  unfold Device.written
  repeat' (first
    | exact rfl
    | (refine ite_no ?_ ?_
       · solve
           | exact fun h => irq_ne p (by first | decide | (simp only [HIF.CQ_EN, HIF.PC_EN, HIF.IC_EN, CH.CH_EN, NPC.PORT_EN, NPC.PRBS_CHK, NPC.QUAD_MODE, GEN.UPF_DELAY_NS]; omega)) h.1
           | exact irq_ne p (by simp only [NPC.PRBS_GEN]; omega)
           | repeat' (first | exact irq_ne p (by decide) | refine not_or.2 ⟨?_, ?_⟩))
    | refine ite_both ?_ ?_)

end Sys2Proof.Machine
end

