-- ==== Sys2Proof/WellFormed.lean ====
section
/-!
DEFINITION. Well-formed commands: what a command's operands must satisfy beyond their types for it to be one the device can meet.
-/

namespace Sys2Proof

/-- Whether a unit number exists for a kind of R592, spares among them. A DFE slice's unit is 16 x lane + slice. -/
def unitOk (kind u : Nat) : Bool :=
  if kind = 1 then decide (u < 36) else if kind = 2 then decide (u < 34) else if kind = 3 then decide (u < 9)
  else if kind = 4 then decide (u < 272) else if kind = 5 then decide (u < 66) else if kind = 6 then decide (u < 33)
  else if kind = 7 then decide (u < 33) else if kind = 8 then decide (u < 96)
  else if kind = 9 then decide (u / 16 < 320) && decide (u % 16 < if u / 16 < 64 then 14 else 10)
  else false

/-- Well-formed: a descriptor has its words (R300, R319), a sample its sensors (R269, R270), a unit exists (R592), a scrubbed word lies in
its region (R386), and overhead fields fit their widths (R476). -/
def WellFormed : Instr → Bool
  | .registerWrite .. => true
  | .bitAliasWrite .. => true
  | .counterLowRead .. => true
  | .counterHighRead .. => true
  | .counterLowWrite .. => true
  | .counterHighWrite .. => true
  | .watchThresholdWrite .. => true
  | .arm .. => true
  | .boundaryWindow .. => true
  | .windowRead .. => true
  | .windowWrite .. => true
  | .windowReadClearValid .. => true
  | .windowOperationComplete .. => true
  | .frameBoundary .. => true
  | .treeFrameBoundary .. => true
  | .frameAssembly .. => true
  | .courseXgemPlace .. => true
  | .reorderArrival .. => true
  | .reorderGapDeadline .. => true
  | .i2cGo .. => true
  | .i2cTransactionEnd .. => true
  | .mapBuildStart .. => true
  | .mapSeal .. => true
  | .grantRecordPost .. => true
  | .ringConsumed .. => true
  | .pegLoad .. => true
  | .strobePulse .. => true
  | .delimiterAccept .. => true
  | .burstEnd .. => true
  | .signalDetectChange .. => true
  | .continuousLight .. => true
  | .upstreamFrameEnd .. => true
  | .vlogConsumed .. => true
  | .rogueIsolationStart .. => true
  | .quietWindowResult .. => true
  | .rogueUnresolvedCheck .. => true
  | .burstProfileQueue .. => true
  | .serialNumberReceived .. => true
  | .rangingTimeAck .. => true
  | .lostTimeout .. => true
  | .terminalFree .. => true
  | .discConsumed .. => true
  | .ptmSample _ temps pace => decide (temps.length = 72) && decide (pace.length = 36)
  | .railAlarm .. => true
  | .envelopePublication .. => true
  | .voltageWriteResult .. => true
  | .tripRelease .. => true
  | .quietCh .. => true
  | .quietTree .. => true
  | .commandAccept _ _ desc _ => decide (desc.length = 16)
  | .nop .. => true
  | .query .. => true
  | .keyZeroizeAll .. => true
  | .terminalCreate .. => true
  | .terminalDestroy .. => true
  | .terminalDisable .. => true
  | .terminalEnable .. => true
  | .allocCreate .. => true
  | .allocDestroy .. => true
  | .channelCreate .. => true
  | .channelDestroy .. => true
  | .queueCreate .. => true
  | .queueDestroy .. => true
  | .queueFlush .. => true
  | .keyCreate .. => true
  | .keyDestroy .. => true
  | .poolCreate .. => true
  | .poolDestroy .. => true
  | .shaperCreate .. => true
  | .shaperDestroy .. => true
  | .gateListInstall .. => true
  | .gateListDestroy .. => true
  | .omciSend .. => true
  | .destroyCommit .. => true
  | .commandTimeout .. => true
  | .completionPost .. => true
  | .puntChannelDisable .. => true
  | .injectDescriptor _ _ desc _ _ _ => decide (desc.length = 8)
  | .injectChannelDisable .. => true
  | .packetIngress .. => true
  | .packetClassify .. => true
  | .xgemEncrypt .. => true
  | .xgemDecrypt .. => true
  | .tagResult .. => true
  | .keyActivation .. => true
  | .clockAlarm .. => true
  | .glitchAlarm .. => true
  | .temperatureAlarm .. => true
  | .cellRequest .. => true
  | .waitTimeout .. => true
  | .bufferFree .. => true
  | .flogConsumed .. => true
  | .cellAddr .. => true
  | .packetPush .. => true
  | .packetEnd .. => true
  | .packetPop .. => true
  | .flushCommit .. => true
  | .scrubRead _ at_ _ _ => (match at_ with | .cell a => decide (a % 8 = 0) && decide (a % 2 ^ 43 < if bit a 43 then 2 ^ 41 else 2 ^ 28) | .table .. => true)
  | .dramRefresh .. => true
  | .skcReady .. => true
  | .egressRequest .. => true
  | .shaperWheelExpiry .. => true
  | .gateEntryChange .. => true
  | .gateListStart .. => true
  | .portBringup .. => true
  | .autonegComplete .. => true
  | .linkTrainingComplete .. => true
  | .portDefectChange .. => true
  | .upHoldExpiry .. => true
  | .networkFrameReceive .. => true
  | .networkFrameTransmit .. => true
  | .pauseReceive .. => true
  | .pauseHoldLimit .. => true
  | .pauseGenerate .. => true
  | .eyeMeasure .. => true
  | .injectOne .. => true
  | .flexeOhFrameReceive _ _ _ _ oh _ => decide (oh.c < 2) && decide (oh.number < 2 ^ 20)
  | .flexeOhCandidate .. => true
  | .calReq .. => true
  | .txOhFrameBoundary .. => true
  | .timeRun .. => true
  | .eventEdge .. => true
  | .evtConsumed .. => true
  | .txsConsumed .. => true
  | .pulseOutput .. => true
  | .poEn .. => true
  | .phaseAdj .. => true
  | .freqAdj .. => true
  | .timeOffset .. => true
  | .holdoverEntry .. => true
  | .timeExchange .. => true
  | .epochMarkerSend .. => true
  | .soundpostRecordReceive .. => true
  | .epochCommit .. => true
  | .epochDeadline .. => true
  | .epochAckReceive .. => true
  | .rewind .. => true
  | .resyncRequest .. => true
  | .baseMarkerReceive .. => true
  | .capoRenewal .. => true
  | .pinMessageReceive .. => true
  | .renewalReceive .. => true
  | .beacon .. => true
  | .partnerAbsent .. => true
  | .capoTakeover .. => true
  | .claim .. => true
  | .claimEnd .. => true
  | .coldStart .. => true
  | .release .. => true
  | .forceFence .. => true
  | .mirrorEn .. => true
  | .soundpostTrainingComplete .. => true
  | .tagEn .. => true
  | .traceConsumed .. => true
  | .boot .. => true
  | .attestGo .. => true
  | .attestReportReady .. => true
  | .debugGo .. => true
  | .revokeGo .. => true
  | .svnGo .. => true
  | .fuseBurnComplete .. => true
  | .unitFailure _ kind u _ _ => unitOk kind.val u
  | .sliceExchange .. => true
  | .aesLaneExchange .. => true
  | .regionCopyStart _ kind u => decide (4 ≤ kind.val ∧ kind.val ≤ 7) && unitOk kind.val u
  | .regionRemap _ kind u => decide (4 ≤ kind.val ∧ kind.val ≤ 7) && unitOk kind.val u
  | .rowRepair .. => true
  | .approve .. => true
  | .dfeSwap _ lane sl _ => unitOk 9 (16 * lane.val + sl.val)
  | .usb4LinkChange .. => true
  | .hostLossTimeout .. => true
  | .functionLevelReset .. => true
  | .msixSend .. => true
  | .msixRepeat .. => true
  | .msixUnmask .. => true
  | .dmaReadComplete .. => true
  | .dmaTimeout .. => true
  | .porstAssert .. => true
  | .porstRelease .. => true
  | .soundpostLinkDown .. => true
  | .pauseQuantaExpiry .. => true
  | .fenceEgressStop .. => true
  | .ownerClear .. => true
  | .timeReferenceChange .. => true
  | .treeLanesReady .. => true
  | .regionCopyComplete _ kind u => decide (4 ≤ kind.val ∧ kind.val ≤ 7) && unitOk kind.val u
  | .pllWorn .. => true
  | .dmaWriteRefused .. => true
  | .busMasterEnableChange .. => true
  | .flexeOhMissing .. => true
  | .prbsLockChange .. => true

end Sys2Proof
end

