-- ==== Sys2Proof/Tests/Slice0.lean ====
section
/-!
SUPPORT. Small tests, each on one step or one fact, with expected results from the spec's own words and numbers; ill-formed commands that WellFormed
refuses; and, for each statement with hypotheses, a state and operands that meet them (`witness_…`).
-/

open Sys2Proof Sys2Proof.Machine Sys2Proof.Safety

set_option maxRecDepth 100000

/-- The device that a command finds at instant `t`, made from the device after reset by `f`. -/
def found (f : Device → Device) (t : Nat := 0) : Device := (f State.reset.dev).arrive t

/-- What command `c` leaves of the device that `f` makes from the one after reset. -/
def run (c : Instr) (f : Device → Device := id) : Device :=
  match exec c { State.reset with dev := f State.reset.dev } with
  | .next s => s.dev
  | .fault _ => State.reset.dev
  | .refused _ => State.reset.dev

/-- The device with one field set. -/
def having (f : Fld) (v : Nat) (d : Device) : Device := d.wr f v

/-- The device with the applied copy of one field set. -/
def inForce (f : Fld) (v : Nat) (d : Device) : Device := { d with regs := Tbl.put f.reset d.regs (fkeyA f) v }

/-- The device with device time running at instant `t`. -/
def timed (t : Nat) (d : Device) : Device := ({ d with core := { d.core with time := t } }).wr TMU.RUNNING 1

/-- The holder of the Capo, with channel 0 sending and receiving, at instant `t`. -/
def serving (t : Nat) (d : Device) : Device :=
  timed t (having MRU.CAPO 1 (having MRU.ROLE 1 (having (TPE.TREE_EN 0) 1 (having (CH.CH_EN 0) 1 (having (CH.RX_EN 0) 1 d)))))

/-- An item of 16 words at word 200 for terminal 1. -/
def item1 : Item := { handle := 9, alloc := 1, term := 1, cls := 3, words := 16, start := 200, own := 200, line := 100, profile := 0, preamble := 96 }

/-- The map of tree frame 7 on channel 0, in flight with `item1`. -/
def mapped (d : Device) : Device := d.setSlot 0 7 { st := .inFlight, frame := 7, mapped := true, items := [item1], rate := 0 }

/-- A terminal in a state, with no identity. -/
def termIn (n : Nat) : Term := { handle := mkHandle .terminal 1 1, state := n, vendor := 0, serial := 0 }

/-- Terminal 1 of tree 0 in a state. -/
def withTerm (n : Nat) (d : Device) : Device := { d with rng := { d.rng with terms := Tbl.set d.rng.terms 1 (termIn n) } }

/-- An accepted command, numbered 0, of an opcode with handle, parent, link and arguments; its completion is due on ring 0. -/
def cmdOf (op : Nat) (h : Nat := 0) (parent : Nat := 0) (link : Nat := 0) (args : List Nat := []) (pay : Payload := .absent) (len : Nat := 0) (st : CmdSt := .waiting) : Cmd :=
  { seq := 0, stamp := 0, ring := 0, slot := 0, cq := 0, cqSlot := 0, words := [op, h, parent, link] ++ (args ++ List.replicate 10 0).take 10 ++ [len, 0], pay := pay, st := st }

/-- The holder of the Capo with one accepted command. -/
def asked (c : Cmd) (d : Device) : Device := { having MRU.CAPO 1 d with svc := { d.svc with cmds := [c], seq := 1 } }

/-- How accepted command 0 stands. -/
def Sys2Proof.Machine.Device.how (d : Device) : Option CmdSt := (d.cmd? 0).map (·.st)

/-- A terminal, pool, queue, key slot and service channel with the handles of index 1 and generation 1. -/
def hTerm : Nat := mkHandle .terminal 1 1
def hPool : Nat := mkHandle .pool 1 1
def hQueue : Nat := mkHandle .queue 1 1
def hKey : Nat := mkHandle .key 1 1
def hChan : Nat := mkHandle .channel 1 1
def hAlloc : Nat := mkHandle .allocation 1 600
def withPool (d : Device) : Device :=
  { d with cells := { d.cells with pools := [(1, { handle := hPool, dram := true, wait := false, waitNs := 0, minU := 1, maxU := 100, bpU := 1 })] } }
def withQueue (d : Device) : Device :=
  { withPool d with cells := { (withPool d).cells with queues := [(1, { handle := hQueue, pool := 1, maxCells := 64, level := 1, parent := 32768 })] } }
def withKey (d : Device) : Device := { d with svc := { d.svc with keys := [(1, { handle := hKey, key := List.replicate 16 7 })] } }
def withChan (d : Device) : Device :=
  { d with svc := { d.svc with chans := [(1, { handle := hChan, term := hTerm, port := 1000, ds := true, us := false, dsQueue := hQueue, usQueue := 0, alloc := 0 })] } }
def withAlloc (d : Device) : Device := { d with fret := { d.fret with allocs := [(600, { handle := hAlloc, allocId := 1024, term := 1 })] } }
/-- Node 32768 of level 1, a network port's. -/
def withNode (d : Device) : Device := { d with traffic := { d.traffic with nodes := [(nodeKey 1 32768, { enable := true, parent := 64 })] } }

/-- A host that is there, with command ring 0 and completion ring 0 enabled and one descriptor waiting. -/
def hosted (d : Device) : Device :=
  having HIF.LINK_UP 1 (having HIF.TUNNEL_UP 1 (having HIF.BUS_MASTER 1 (having HIF.CMD_EN 1 (having (HIF.CR_EN 0) 1 (having (HIF.CQ_EN 0) 1 (having (HIF.CR_PI 0) 1 d))))))

/-! ### The machine and its pages -/

theorem witness_EveryCommandCompletes :
    (∀ t low took, Instr.nop 0 0 ≠ .porstAssert t low took) ∧ (∀ t side test, Instr.nop 0 0 ≠ .porstRelease t side test) ∧
    exec (.nop 0 0) { State.reset with inReset := true } = .next { State.reset with inReset := true } := by
  refine ⟨?_, ?_, ?_⟩
  · intros; simp
  · intros; simp
  · rfl

theorem witness_StepTakesTheFrontCommand : State.reset.pending = [] := by decide

theorem witness_ResetHolds : HeldAtReset { State.reset with inReset := true, pending := [.nop 0 0] } ∧
    step { State.reset with inReset := true, pending := [.nop 0 0] } = .next { State.reset with inReset := true } := by
  exact ⟨fun _ => rfl, rfl⟩

theorem witness_PorstResets : let d := found (fun d => ({ d with sec := { d.sec with burns := [.svn 5 false] } }).wr SEC.FUSE_BUSY 1)
    d.on SEC.FUSE_BUSY = true ∧ d.sec.burns = .svn 5 false :: [] ∧ State.reset.dev.fuses.repair = [] ∧ State.reset.dev.sec.burns = [] := by decide

theorem test_porstAssert_ends_the_burn :
    (run (.porstAssert 0 10000 true) (fun d => ({ d with sec := { d.sec with burns := [.svn 5 false] } }).wr SEC.FUSE_BUSY 1)).fuses.svn = 5 := by decide

theorem test_porstRelease_samples_the_side : exec (.porstRelease 0 true false) { State.reset with inReset := true } =
    .next { State.reset with dev := State.reset.dev.wr MRU.PAIR_SIDE 1 } := by rfl

theorem witness_TimeAndAftermathKeep : (found id).running = false ∧ fkey SEC.FUSE_BUSY / 0x8000 = 0x002 ∧ fkey MRU.ROLE / 0x8000 = 0x005 ∧
    ctrKey 0x005 0x8A8 / 0x1000 = 0x005 ∧ (found id).capo = false := by decide

theorem witness_CounterReads : let a := found (fun d => { d with pages := { d.pages with captured := Tbl.set [] (halfOf .pf0 0 516) 7 } })
    a.mayReadAt .pf0 0 (4 * 516) = true ∧ a.mayReadAt .pf1 0 (4 * 516) = false ∧ Tbl.get? a.pages.captured (halfOf .pf0 0 516) = some 7 ∧
    Tbl.get? (found id).pages.captured (halfOf .pf0 0 516) = none ∧ (found id).mayReadAt .pf0 0 (4 * 516) = true := by decide

theorem test_counterLowRead_captures : let b := run (.counterLowRead 0 .pf0 0 516) (·.setCtr 0 0x810 (3 * 2 ^ 32 + 9))
    b.core.busData = 9 ∧ Tbl.get? b.pages.captured (halfOf .pf0 0 516) = some 3 := by decide

theorem witness_CounterLoads : let a := found (fun d => { d with pages := { d.pages with held := Tbl.set [] (halfOf .pf0 0 516) 7 } })
    populated 0x3FF = false ∧ populated 0 = true ∧ counterWrites 0 (4 * 516) = true ∧ Tbl.get? a.pages.held (halfOf .pf0 0 516) = some 7 ∧
    Tbl.get? (found id).pages.held (halfOf .pf0 0 516) = none := by decide

theorem test_counterHighWrite_loads_both_words :
    (run (.counterHighWrite 0 .pf0 0 516 2 1) (fun d => { d with pages := { d.pages with held := Tbl.set [] (halfOf .pf0 0 516) 7 } })).ctr 0 0x810
      = 2 * 2 ^ 32 + 7 + 1 := by decide

theorem witness_RegisterWrites : let a := found (having (PG.ARM 0x006) 1)
    populated 0x3FF = false ∧ populated 0x006 = true ∧ (fieldsOf 0x006 0x24).filter writable = [] ∧ a.wordLocked 0x006 (4 * 256) = true ∧
    (fieldsOf 0x006 (4 * 256)).filter writable ≠ [] ∧ ((fieldsOf 0x006 (4 * 256)).filter writable).all (fun f => decide (f.cls = .S)) = true ∧
    (found id).on (PG.ARM 0x006) = false ∧ (found id).wordLocked 0x006 (4 * 256) = false ∧ counterWrites 0x006 0x810 = true ∧ counterAt 0x006 0x24 = false ∧
    aliasAt 0x2000 1 = some (0, 0, 1) ∧ (fieldsOf 0x006 0x24).all (fun f => decide (f.lo + f.width ≤ 0 ∨ 0 < f.lo) || !writable f) = true := by decide

theorem test_registerWrite_irq_mask : (run (.registerWrite 0 .pf0 0x006 3 { v := 0x81 } none {})).rd (PG.IRQ_ENABLE 0x006) = 0x81 := by decide
theorem test_registerWrite_to_no_page : (run (.registerWrite 0 .pf0 0x3FF 3 { v := 0x81 } none {})).ctr 0x000 0x810 = 1 := by decide
theorem test_bitAliasWrite_sets_one_bit :
    (run (.bitAliasWrite 0 .pf0 0x006 3 7 true true false {}) (having (PG.IRQ_ENABLE 0x006) 1)).rd (PG.IRQ_ENABLE 0x006) = 0x81 := by decide

theorem witness_ArmAndWatchWrites : let a := found (fun d => { d with pages := { d.pages with applied := [0x006] } })
    populated 0x3FF = false ∧ populated 0x006 = true ∧ (pageInfo 0x006).staged ≠ 0 ∧ 0x006 ∈ a.pages.applied ∧ populated 0x002 = true ∧
    (pageInfo 0x002).staged = 0 := by decide

theorem test_arm_on_a_staged_page : (run (.arm 0 .keeper 0x006 true false)).on (PG.ARM 0x006) = true := by decide
theorem test_watchThresholdWrite_takes_the_held_low_word :
    (run (.watchThresholdWrite 0 .pf0 0x006 1 3) (fun d => { d with pages := { d.pages with threshLo := [(4 * 0x006 + 1, 9)] } })).rd (PG.THRESH_LO 0x006 1) = 9 := by
  decide

theorem witness_BoundaryAppliesArmedSets : let a := found (fun d => timed 5 (having (PG.ARM 0x006) 1 d)) 5
    timedPage 0x006 = true ∧ a.running = true ∧ windowPages 0x006 = [0x006] ∧ a.on (PG.ARM 0x006) = true ∧ a.heldBack 0x006 = false ∧
    timedPage 0x006 = true ∧ (found id).running = false ∧ (found id).on (PG.ARM 0x006) = false := by decide

theorem test_boundaryWindow_applies : let b := run (.boundaryWindow 5 0x006) (fun d => timed 5 (having SPM.PACE_WEAR_PCT 33 (having (PG.ARM 0x006) 1 d)))
    b.rdA SPM.PACE_WEAR_PCT = 33 ∧ b.on (PG.ARM 0x006) = false ∧ b.rd (PG.APPLY_COUNT 0x006) = 1 := by decide

theorem witness_WindowsRun : let op (n : Nat) (p : PageIx) (d : Device) : Device :=
      { d with pages := { d.pages with winOps := Tbl.set [] (winKey p.val 0) { op := n, addr := 5, words := [1], master := .pf0 } } }
    let mir (d : Device) : Device := having MRU.MIRROR_EN 1 (having MRU.ROLE 1 d)
    populated 0x001 = true ∧ 0 < (pageInfo 0x001).windows ∧ (pageInfo 0x006).windows ≤ 3 ∧ (found (having (PG.GO 0x001 0) 1)).on (PG.GO 0x001 0) = true ∧
    (found id).on (PG.GO 0x001 0) = false ∧ Tbl.get? (found id).pages.winOps (winKey 0x001 0) = none ∧
    (Tbl.get? (found (op 0 0x001)).pages.winOps (winKey 0x001 0)).isSome = true ∧ ((found (op 0 0x001)).entryAt 0x001 0 5).isSome = true ∧
    (found (op 0 0x001)).entryAt 0x001 0 0x3FFFF = none ∧ ((found id).secWord 1 0).isSome = true ∧ ((found id).secWord 1 4096).isSome = false ∧
    ((found id).entryAt 0x040 0 5).bind (clearValid 0x040 0) ≠ none ∧ clearValid 0x001 0 [1] = none ∧ winMirrored 0x001 0 = false ∧ winMirrored 0x040 0 = true ∧
    (found mir).on MRU.MIRROR_EN = true ∧ ((found mir).writeEntry 0 .pf0 0x040 0 5 [2]).1 = true := by decide

theorem test_windowWrite_completes_in_the_interrupt_map : Tbl.get? (run (.windowOperationComplete 0 0x001 0 false false []) (fun d =>
    { d with pages := { d.pages with winOps := [(winKey 0x001 0, { op := 1, addr := 5, words := [2 ^ 31 + 9], master := .pf0 })] } })).hif.irq 5 = some (2 ^ 31 + 9) := by
  decide
theorem test_windowRead_sets_busy : (run (.windowRead 0 .pf0 0x001 0 0)).on (PG.WIN_BUSY 0x001 0) = true := by decide

theorem witness_UserFunctionWritesNothing : userWrite (.arm 0 .pf1 0x006 true false) = some (0, 0x006) ∧ (found id).on MON.MON_USER_EN = false ∧
    populated 0x006 = true ∧ populated 0x3FF = false := by decide

theorem test_registerWrite_by_the_user_function : (run (.registerWrite 0 .pf1 0x006 3 { v := 1 } none {})).ctr 0x006 0x808 = 1 := by decide

/-! ### Trees, maps and bursts -/

/-- A downstream XGEM frame of terminal 1 with `n` payload bytes. -/
def xgem1 (n : Nat) : DsXgem := { term := 1, port := 1000, keyIndex := 0, options := 0, bytes := List.replicate n 0 }

theorem witness_FramesAssemble : let e := found (fun d => { ((having (TPE.COURSE_EN 0) 1 d).setCourse 1 { members := 3, home := 0, ext := true, valid := true }).setCfr 1
      { asm := some { frame := 0, missed := false, space := 100 } } with core := d.core })
    (found id).courseExt 1 = false ∧ e.courseExt 1 = true ∧ 1 ∈ e.members 1 ∧ (e.cfr 1).asm = some { frame := 0, missed := false, space := 100 } ∧
    0 + xgemBytes 92 ≤ 100 ∧ 100 < 0 + xgemBytes 93 ∧ (e.cfr 0).asm = none ∧ (found id).courseQ 1 = [] ∧
    (found (fun d => { d with trees := { d.trees with courseQ := [(1, [xgem1 92])] } })).courseQ 1 = [xgem1 92] := by decide

theorem test_courseXgemPlace_numbers_the_frame : let b := run (.courseXgemPlace 0 1) (fun d => ((having (TPE.COURSE_EN 0) 1
      { d with trees := { d.trees with courseQ := [(1, [xgem1 92])] } }).setCourse 1 { members := 3, home := 0, ext := true, valid := true, dsNext := 7 }).setCfr 1
      { asm := some { frame := 0, missed := false, space := 100 } })
    ((b.cfr 1).asm.map (·.fill), (b.course 1).dsNext, b.courseQ 1) = (some 100, 8, []) := by decide

theorem witness_TreeFrameStarts : let a := found (fun d => (serving 1000000 d).setSlot 0 8 { st := .sealed, frame := 8, mapped := true, items := [item1] }) 1000000
    (found id).running = false ∧ a.running = true ∧ a.treeFrame 0 a.now = 8 ∧ a.laneMaySend 0 = true ∧ (a.cfr 0).skipNext = false ∧ a.pastFence 0 8 = false ∧
    16 ∉ a.spm.dead ∧ a.laneMaySend 1 = false ∧ (a.slot 0 8).st = .sealed ∧ (a.slot 0 8).frame = 8 ∧ (a.slot 1 8).st ≠ .sealed ∧ (a.cfr 0).copied ≤ (a.cfr 0).ploamQ.length := by decide

theorem test_treeFrameBoundary_starts_the_map :
    ((run (.treeFrameBoundary 1000000 0) (fun d => (timed 1000000 d).setSlot 0 8 { st := .sealed, frame := 8, mapped := true, items := [item1] })).slot 0 8).st = .inFlight := by
  decide

/-- A course terminal 1 on channels 0 and 1. -/
def courseOf1 (d : Device) : Device := (having (TPE.COURSE_EN 0) 1 d).setCourse 1 { members := 3, home := 0, ext := true, valid := true }

theorem witness_ReorderPasses : let a := found courseOf1; let h := found (fun d => courseOf1 { d with trees := { d.trees with reorder := [(1, { held := [⟨5, 0, 64⟩], gap := some 8, skips := [(3, 1, 9)] })] } })
    a.courseExt 1 = true ∧ a.onCourse 1 2 = false ∧ a.onCourse 1 1 = true ∧ (found id).courseExt 1 = false ∧ (found (fun d => serving 1 d) 1).detects = true ∧ (a.reorder 1).held = [] ∧
    (a.course 1).usExpected = 0 ∧ seqAhead 0 0 = 0 ∧ 0 < seqAhead 4095 0 ∧ seqAhead 4095 0 < 4096 ∧ 4096 ≤ seqAhead 4096 0 ∧ seqAhead 4096 0 < 32768 ∧
    32768 ≤ seqAhead 32768 0 ∧ a.groupHeld 0 + 64 ≤ 4 * 2 ^ 20 ∧ Reorder.bytes (a.reorder 1) + 64 ≤ a.rdA (TPE.TERM_LIMIT 0) * 4096 ∧ (a.reorder 1).gap = none ∧
    h.courseExt 1 = true ∧ (h.reorder 1).gap = some 8 ∧ min 0 h.now ≤ 8 := by decide

theorem test_reorderArrival_in_turn : let b := run (.reorderArrival 0 0 1 (2 ^ 17) 0 64) courseOf1
    b.core.out = [.xgemUp 1 0] ∧ (b.course 1).usExpected = 1 := by decide
theorem test_reorderArrival_ahead_is_held : ((run (.reorderArrival 0 0 1 (2 ^ 17 + 2) 0 64) courseOf1).reorder 1).held.map (·.seq) = [2] := by decide

theorem witness_GapsSkip : let a := found (fun d => timed 9 { d with trees := { d.trees with reorder := [(1, { held := [⟨5, 0, 64⟩], gap := some 8 })] } }) 9
    (a.reorder 1).held = [⟨5, 0, 64⟩] ∧ (a.reorder 1).gap = some 8 ∧ 8 < a.now ∧ (found id).reorder 1 = {} ∧
    ((⟨5, 0, 64⟩ : HeldXgem) :: []).Pairwise (fun f g => f.seq ≠ g.seq) ∧ ∀ f ∈ [(⟨5, 0, 64⟩ : HeldXgem)], f.seq < 65536 := by decide

theorem test_passHeld_passes_consecutive_numbers : passHeld 3 65535 [⟨0, 0, 64⟩, ⟨65535, 0, 64⟩, ⟨2, 0, 64⟩] = (1, [⟨2, 0, 64⟩], [65535, 0]) := by decide

theorem witness_OpticsSideband : (found id).on (TPE.I2C_BUSY 0) = false ∧ (found (having (TPE.I2C_BUSY 0) 1)).on (TPE.I2C_BUSY 0) = true := by decide

theorem test_i2c_read_returns_data : let b := run (.i2cTransactionEnd 0 0 false 0x5A false) (fun d => having (TPE.I2C_READ 0) 1 (having (TPE.I2C_BUSY 0) 1 (having (TPE.I2C_GO 0) 1 d)))
    b.rd (TPE.I2C_RDATA 0) = 0x5A ∧ b.on (TPE.I2C_BUSY 0) = false ∧ b.on (TPE.I2C_GO 0) = false := by decide

theorem witness_ConsumedIndices : unread 5 3 8192 ≤ 4096 ∧ 4096 < unread 5 6 8192 := by decide

theorem test_vlogConsumed : (run (.vlogConsumed 0 .pf0 3) (having DEV.VLOG_PRODUCED 5)).rd DEV.VLOG_CONSUMED = 3 ∧
    (run (.vlogConsumed 0 .pf0 6) (having DEV.VLOG_PRODUCED 5)).ctr 0x000 0x808 = 1 := by decide

theorem witness_GrantsKeepTheirLimits : lineLen 456 ≤ 540 ∧ 456 ≤ maxData 540 ∧ ¬ lineLen 457 ≤ 624 ∧ ¬ 457 ≤ maxData 624 ∧
    (∀ c ∈ [(⟨1, { handle := 1, allocId := 1, term := 1, weight := 2 }, 30⟩ : Cand)], 1 ≤ c.al.weight) := by decide

theorem test_shareWords_by_weight : (shareWords 40 [⟨1, { handle := 1, allocId := 1, term := 1, weight := 1 }, 30⟩, ⟨2, { handle := 2, allocId := 2, term := 1, weight := 3 }, 90⟩]).map (·.2)
    = [10, 30] := by decide

theorem witness_MapsBuild : (found id).buildsNone 0 = true ∧ (found (serving 1000000) 1000000).buildsNone 0 = false ∧ (found (serving 1000000) 1000000).buildsEmpty 0 = true ∧
    (found (fun d => having GEN.GEN_EN 1 (serving 1000000 d)) 1000000).buildsEmpty 0 = false := by decide

theorem test_mapBuildStart_plans_the_next_frame : ((Tbl.get? (run (.mapBuildStart 1000000 0) (serving 1000000)).fret.plans 0).map (·.frame)) = some 9 := by decide

/-- A plan for tree frame 9 of channel 0. -/
def planned (d : Device) : Device := { d with fret := { d.fret with plans := [(0, { frame := 9, items := [item1], dark := [], upfDelay := 625000, rate := 0, tol := 64, workBytes := 0, minPiece := 64 })] } }

theorem witness_MapsSeal : let a := found (fun d => planned (serving 1000000 d)) 1000000
    a.treeFrame 0 a.now + 1 = 9 ∧ (Tbl.get? a.fret.plans 0).map (·.frame) = some 9 ∧ a.fenced = false ∧ a.capo = true ∧ a.pastFence 0 9 = false ∧
    (found id).capo = false ∧ (10 : Nat) % 8 ≠ 9 % 8 := by decide

theorem test_mapSeal : let b := run (.mapSeal 1000000 0) (fun d => planned (serving 1000000 d))
    (b.slot 0 9).st = .sealed ∧ (b.slot 0 9).items = [item1] ∧ (b.slot 0 10).st = .opened := by decide

theorem witness_RecordsPost : let a := found (fun d => mapped (serving 2000000 d)) 2000000
    (a.slot 0 7).items[1]? = none ∧ (a.slot 0 7).items[0]? = some item1 ∧ (a.slot 0 7).st = .inFlight ∧ (a.slot 0 7).frame = 7 ∧ item1.done = none ∧ a.rd MRU.ROLE ≠ 2 ∧
    a.settleX 0 (a.slot 0 7) item1 ≤ (a.now : Int) * wordsPerFrame 0 ∧ (a.judge 0 (a.slot 0 7) item1).1 ≠ .received ∧ a.ringCount ≠ 65536 ∧
    (1000 : Int) * wordsPerFrame 0 < a.settleX 0 (a.slot 0 7) item1 := by decide

theorem test_grantRecordPost_no_show : let b := run (.grantRecordPost 2000000 0 7 0 {}) (fun d => mapped (serving 2000000 d))
    (Tbl.get? b.fret.ring 0).map (·.kind) = some .noShow ∧ (b.slot 0 7).st = .closed := by decide

theorem witness_BurstsArePrepared : let a := found (fun d => having (CH.STROBE_EN 0) 1 (mapped (serving 1600000 d))) 1600000
    let q := found (fun d => having (CH.STROBE_EN 0) 1 (Device.setSlot 0 7 { st := .sealed, frame := 7, mapped := true, dark := [{ quiet := true, opens := 1700000, closes := 1800000 }] } (serving 1600000 d))) 1600000
    a.item? 0 7 0 = some item1 ∧ a.item? 0 7 1 = none ∧ a.receiving 0 = true ∧ a.receiving 1 = false ∧ a.loadAt 0 (a.slot 0 7) item1 ≤ a.now ∧
    (found (fun d => mapped (serving 1000000 d)) 1000000).now < a.loadAt 0 (a.slot 0 7) item1 ∧ a.on (CH.STROBE_EN 0) = true ∧ (found id).on (CH.STROBE_EN 0) = false ∧
    (∀ x ∈ (a.slot 0 7).dark, x.quiet = false) ∧ (q.slot 0 7).mapped = true ∧ (q.slot 0 7).frame = 7 ∧ ((q.slot 0 7).dark.map (·.quiet)) = [true] ∧
    a.on (TPE.TREE_EN 0) = true ∧ a.on (CH.RX_EN 0) = true ∧ (a.brx 0).profileDone = false ∧ a.on (CH.RX_EN 4) = false ∧
    ((found (fun d => Device.setBrx 0 { profileDone := true } (serving 1600000 d)) 1600000).brx 0).profileDone = true ∧
    (let w := found (fun d => Device.setBrx 0 { profileDone := true, profileFrom := some 8 } (Device.setCfr 0 { sending := true } (serving 126000000 d))) 126000000
     (w.cfr 0).sending = true ∧ (w.brx 0).profileFrom = some 8 ∧ 8 < w.treeFrame 0 w.now ∧ (w.treeFrame 0 w.now - 8) % 1000 = 0) := by decide

theorem test_pegLoad : ((run (.pegLoad 1600000 0 7 0) (fun d => mapped (serving 1600000 d))).brx 0).loaded = some 1 := by decide
theorem test_burstProfileQueue : ((run (.burstProfileQueue 1000000 0) (serving 1000000)).cfr 0).ploamQ.length + ((run (.burstProfileQueue 1000000 0) (serving 1000000)).cfr 0).fwQ.length = 2 := by
  decide

/-- Light on channel 0. -/
def lit (d : Device) : Device := d.setBrx 0 { light := true, lightSince := 0 }

theorem witness_DelimitersAreAccepted : let a := found (fun d => lit (mapped (serving 1500128 d))) 1500128
    (a.receiving 1 = false) ∧ a.receiving 0 = true ∧ (a.brx 0).light = true ∧ ¬ a.rdA (CH.DELIM_MAX_ERR 0) < 0 ∧ Brx.suspended (a.brx 0) a.now = false ∧
    Slot.holds (a.slot 0 7) = true ∧ (a.matchWindow 0 a.now).map (·.2.term) = some 1 ∧ (found (fun d => lit (serving 1500128 d)) 1500128).matchWindow 0 1500128 = none ∧
    a.detects = true := by decide

theorem test_delimiterAccept_outside_every_window : (run (.delimiterAccept 1500128 0 0 .clean 1 false false) (fun d => lit (serving 1500128 d))).ctr 0x080 0x968 = 1 := by decide
theorem test_delimiterAccept_in_its_window : let b := run (.delimiterAccept 1500128 0 0 .clean 1 false false) (fun d => lit (mapped (serving 1500128 d)))
    b.ctr 0x080 0x900 = 1 ∧ b.ctr 0x080 0x968 = 0 ∧ (b.brx 0).lastTerm = some 1 := by decide

theorem witness_LightIsWatched : let a := found (fun d => lit (serving 1500128 d)) 1500128
    a.receiving 0 = true ∧ a.receiving 1 = false ∧ (a.brx 0).light = true ∧ a.detects = true ∧ a.inUnmapped 0 a.now = false ∧ (a.brx 0).lightSince + 125000 ≤ a.now ∧
    (found (serving 9) 9).brx 0 = {} ∧ ((found (serving 9) 9).brx 0).light = false := by decide

theorem test_continuousLight : (run (.continuousLight 1500128 0) (fun d => lit (serving 1500128 d))).ctr 0x080 0x978 = 1 := by decide
theorem test_upstreamFrameEnd_counts_unsolicited_light : (run (.upstreamFrameEnd 1500128 0 7) (fun d => (serving 1500128 d).setBrx 0 { outside := 5000 })).ctr 0x080 0x970 = 1 := by decide

/-- What a receiver found of a burst for `item1`: 16 clean words. -/
def burst1 : BurstRx := {
  stamp := some 1500128, term := 1, frame := 7, grants := [(0, { words := [{ iters := some 2, bits := 2 }] })], loose := [], looseLine := 0, ploam := none,
  bip := true, w0 := 3, w1 := 4, phase := 5 }

theorem witness_BurstsEnd : let a := found (fun d => Device.setBrx 0 { light := true, lightSince := 1500065 } (serving 1500128 (d.setSlot 0 7 { st := .inFlight, frame := 7, mapped := true, items :=
      [{ item1 with delims := [{ stamp := 1500128, term := 1, clean := true, sn := false }] }] }))) 1500128
    let n := a.rdA (CH.LDPC_MAX_ITER 0); let m := Slot.decoded n (a.slot 0 7) burst1.grants
    a.receiving 0 = true ∧ a.receiving 1 = false ∧ m.mapped = true ∧ m.frame = 7 ∧ a.rd MRU.ROLE ≠ 2 ∧ (m.items.map (fun i => (a.judge 0 m i).1)) = [.received] ∧
    residualOf n [{ iters := some 2, bits := 2 }] 100 ≤ a.rdA (CH.PEG_MAX_RESIDUAL 0) ∧ a.rdA (CH.PEG_MAX_RESIDUAL 0) < residualOf n [{ iters := some 2, bits := 2000 }] 100 ∧
    ((Slot.decoded n (a.slot 0 7) [(0, { words := [{ iters := none, bits := 0 }] })]).items.map (fun i => (a.judge 0 m i).1)) = [.damaged] ∧
    n < 200 ∧ Codeword.bad n { iters := some n, bits := 0 } = false ∧ Codeword.bad n { iters := some (n + 1), bits := 0 } = true ∧ a.onCourse 1 0 = true ∧ a.detects = true ∧
    a.capo = true ∧ a.fenced = false ∧ (found (fun d => courseOf1 (serving 1500128 d)) 1500128).onCourse 1 2 = false := by decide

/-! ### Terminals, power, commands -/

theorem witness_RoguesAreIsolated : let a := found (fun d => Device.setBrx 0 { isoDue := true } (having (CH.ROGUE_AUTO 0) 1 (serving 9 d))) 9
    let q (st : IsoStep) (l : List (Nat × Nat)) := found (fun d => Device.setBrx 0 { qw := some (1000, 21000, false), spans := l, iso := some { suspects := [1, 2], step := st } } (serving 21000 d)) 21000
    let k := found (fun d => Device.setBrx 0 { qw := some (10, 20, true), checkUnresolved := some 8 } (serving 20 d)) 20
    let lit (x : Device) := decide (x.rdA (CH.UNSOL_LIGHT_NS 0) < ((x.lightSpans 0).map (overlapNs 1000 21000)).sum)
    (a.brx 0).isoDue = true ∧ a.on (CH.ROGUE_AUTO 0) = true ∧ (a.brx 0).iso = none ∧ a.detects = true ∧ ((found id).brx 0).isoDue = false ∧
    ((q .first []).brx 0).qw = some (1000, 21000, false) ∧ (q .first []).now = 21000 ∧ (q .first []).receiving 0 = true ∧ (found (serving 20999) 20999).now < 21000 ∧
    (found (fun d => Device.setBrx 0 { qw := some (10, 20, false) } (timed 20 d)) 20).receiving 0 = false ∧ lit (q .first []) = false ∧ lit (q .first [(0, 21000)]) = true ∧
    lit (q (.last 1) [(0, 21000)]) = true ∧ lit (q (.last 1) []) = false ∧ ((q (.last 1) []).brx 0).iso = some { suspects := [1, 2], step := .last 1 } ∧
    (k.brx 0).qw = some (10, 20, true) ∧ k.receiving 0 = true ∧ 20 ≤ k.now ∧ ((found id).brx 0).qw = none ∧ ((found id).brx 0).checkUnresolved = none ∧ (k.brx 0).checkUnresolved = some 8 ∧
    k.treeFrame 0 k.now < 8 ∧ 8 ≤ (found (serving 1000000) 1000000).treeFrame 0 1000000 := by decide

theorem test_rogueIsolationStart : let b := run (.rogueIsolationStart 9 0) (fun d => Device.setBrx 0 { isoDue := true } (having (CH.ROGUE_AUTO 0) 1 (serving 9 d)))
    b.on (CH.ROGUE_ACTIVE 0) = true ∧ b.ctr 0x080 0x9B8 = 1 := by decide
theorem test_quietWindowResult_dark_ends_the_first_step : ((run (.quietWindowResult 30 0) (fun d =>
    Device.setBrx 0 { qw := some (10, 20, false), iso := some { suspects := [1, 2], step := .first } } (serving 30 d))).brx 0).iso = none := by decide
theorem test_rogueUnresolvedCheck : ((run (.rogueUnresolvedCheck 1000000 0) (fun d => Device.setBrx 0 { checkUnresolved := some 8 } (serving 1000000 d))).brx 0).checkUnresolved = some 1008 := by
  decide

/-- The map of tree frame 7 on channel 0 with its discovery grant. -/
def discovering (d : Device) : Device :=
  d.setSlot 0 7 { st := .inFlight, frame := 7, mapped := true, items := [{ item1 with kind := .discovery 900000 1200000, start := 1000, term := 1023 }] }

theorem witness_SerialNumbersAreHeard : let a := found (fun d => discovering (serving 1000000 d)) 1000000
    let w := found (fun d => discovering (serving 1000000 { d with rng := { d.rng with terms := [(1, termIn 1)] } })) 1000000
    ((a.slot 0 7).items.find? (fun i => match i.kind with | .discovery _ _ => true | _ => false)).isSome = true ∧ (a.slot 0 7).mapped = true ∧ (a.slot 0 7).frame = 7 ∧ a.receiving 0 = true ∧
    (a.rng.terms.find? (fun p => decide (p.2.vendor = 0) && decide (p.2.serial = 0))) = none ∧ ((w.rng.terms.find? (fun p => decide (p.2.vendor = 0) && decide (p.2.serial = 0))).map (·.1)) = some 1 ∧
    (w.term? 1).map (·.state) = some 1 ∧ termTree 1 = treeOf 0 ∧ w.moveBreaks 1 0 = false ∧ (unreadIdx (a.rd RGU.DISC_PRODUCED) (a.rd RGU.DISC_CONSUMED) 512).length ≠ 512 := by decide

theorem test_serialNumberReceived_lists_the_unknown : let b := run (.serialNumberReceived 1000000 0 7 0x41424344 5) (fun d => discovering (serving 1000000 d))
    b.rd RGU.DISC_PRODUCED = 1 ∧ (Tbl.get? b.rng.disc 0).map (·.serial) = some 5 ∧ b.ctr 0x1B6 0x818 = 1 := by decide

/-- Terminal 1 ranging, its equalization delay on channel 0 awaited. -/
def awaiting (d : Device) : Device := { d with rng := { d.rng with terms := [(1, { termIn 2 with homeSet := true, homeWc := 0, wc := [{ eqd := 1000, awaiting := true }, {}, {}, {}] })] } }

theorem witness_TerminalsMove : let a := found awaiting
    let l := found (fun d => having RGU.LOST_FRAMES 0 (serving 1000000000 { d with rng := { d.rng with terms := [(1, { termIn 3 with defects := 1 })] } })) 1000000000
    (found id).term? 1 = none ∧ (a.term? 1).isSome = true ∧ ((a.term? 1).map (fun y => (y.wc.getD (0 % 4) {}).awaiting)) = some true ∧ termTree 1 = treeOf 0 ∧ a.home 1 = some 0 ∧ (found (withTerm 2)).home 1 ≠ some 0 ∧
    l.lobi 1 = true ∧ (l.term? 1).map (·.state) = some 3 ∧ 0 + l.rdA RGU.LOST_FRAMES ≤ l.treeFrame 0 l.now ∧
    ((found (withTerm 5)).term? 1).map (·.state) = some 5 ∧ (found (withTerm 5)).termBusy 1 = false ∧ (found (fun d => mapped (withTerm 5 d))).termBusy 1 = true := by decide

theorem test_rangingTimeAck : let b := run (.rangingTimeAck 0 1 0) awaiting
    (b.term? 1).map (fun y => (y.state, (y.wc.getD 0 {}).acked)) = some (3, true) := by decide
theorem test_terminalFree : let b := run (.terminalFree 0 1) (fun d => asked (cmdOf 0x11 hTerm 0 0 [] .absent 0 (.working)) (withTerm 5 d))
    b.term? 1 = none ∧ b.how = some (.done stOk 0 true hTerm 0 0) := by decide

theorem witness_RangingMeasures : let a := found awaiting
    (a.term? 1).map (·.wc.length) = some 4 ∧ 600000 ≤ a.upfDelay (treeOf 0) ∧ a.upfDelay (treeOf 0) < 700000 ∧ a.treeFrame 0 a.now < 1 ∧ 0 ≤ a.treeFrame 0 a.now := by decide

theorem test_measured_sets_the_equalization_delay : (((found awaiting).measured 1 0 600000).term? 1).map (fun y => (y.wc.getD 0 {}).eqd) = some 25000 := by decide

theorem witness_SensorsActOnThresholds : let a := found id
    quarter (a.rdA PTM.LIMIT_C) ≤ signed 12 (unsign 12 (hotOf (List.replicate 72 500))) ∧ ¬ quarter (a.rdA PTM.LIMIT_C) ≤ signed 12 (unsign 12 (hotOf (List.replicate 72 100))) ∧
    quarter (a.rdA PTM.TRIP_HIGH_C) < signed 12 (unsign 12 (hotOf (List.replicate 72 500))) ∧ a.on PTM.EMERGENCY = false ∧ a.on PTM.TRIPPED = false ∧
    ¬ (signed 12 (unsign 12 (coldOf (List.replicate 72 100))) < 4 * signed 8 (a.rdA PTM.TRIP_LOW_C)) ∧ (found (serving 1) 1).rd MRU.ROLE = 1 := by decide

theorem test_ptmSample_trips_a_holder : let b := run (.ptmSample 1 (List.replicate 72 500) (List.replicate 36 0)) (serving 1)
    b.on PTM.TRIPPED = true ∧ b.rd MRU.ROLE = 3 ∧ b.ctr 0x003 0x840 = 1 := by decide

theorem test_railAlarm_erases_the_keys : (run (.railAlarm 0 3) withKey).svc.keys.map (fun e => (e.2.st, e.2.key)) = [(.erased, List.replicate 16 0)] := by decide

theorem witness_EnvelopeIsPublished : (found id).pow.tries < 3 ∧ 3 ≤ (found (fun d => { d with pow := { d.pow with tries := 3 } })).pow.tries := by decide

theorem test_divide_keeps_what_is_committed : divide 10 [4, 9, 9, 9] [0, 3, 0, 5] = [4, 6, 0, 5] := by decide
theorem test_voltageWriteResult_gives_up : let b := run (.voltageWriteResult 0 false false) (fun d => { d with pow := { d.pow with tries := 3, lastAck := 700 } })
    b.on PTM.REG_FAULT = true ∧ b.rd PTM.VCORE_MV = 700 := by decide

theorem witness_TripsAndQuietWrites : let a := found (having PTM.TRIPPED 1)
    a.on PTM.TRIPPED = true ∧ (found id).on PTM.TRIPPED = false ∧ a.tripCond = false ∧
    ¬ (quarter (a.rdA PTM.TRIP_HIGH_C) - quarter (a.rdA PTM.HYST_C) ≤ a.tHot) ∧ (found (serving 1) 1).mayPowerDown 0 = false ∧ a.mayPowerDown 1 = true ∧
    bit (a.rd (PTM.QUIET_TREE 0)) 0 = false ∧ bit ((found (having (PTM.LANES_DOWN 0) 1)).rd (PTM.LANES_DOWN 0)) 0 = true ∧ bit (a.rd (PTM.LANES_DOWN 0)) 0 = false := by decide

theorem test_tripRelease : (run (.tripRelease 0 .pf0 true true false) (having PTM.TRIPPED 1)).on PTM.TRIPPED = false := by decide
theorem test_quietTree_of_a_live_tree_is_refused : (run (.quietTree 1 .pf0 0 1) (serving 1)).ctr 0x003 0x868 = 1 := by decide
theorem test_treeLanesReady : (run (.treeLanesReady 0 0) (having (PTM.LANES_DOWN 0) 3)).rd (PTM.LANES_DOWN 0) = 2 := by decide

theorem witness_MemoryAndNumbersStay : Memory.wf (found (fun d => { d with cells := { d.cells with mem := [(8, 1), (9, 255)] } })).cells.mem = true ∧
    Numbered (found (asked (cmdOf 1))) := by
  refine ⟨by decide, ?_, ?_⟩
  · decide
  · decide

/-- The opcodes of the 23 host commands (R309). -/
def opcodes : List Nat :=
  [0x01, 0x02, 0x03, 0x10, 0x11, 0x12, 0x13, 0x20, 0x21, 0x30, 0x31, 0x40, 0x41, 0x42, 0x50, 0x51, 0x60, 0x61, 0x70, 0x71, 0x80, 0x81, 0x90]

theorem witness_CommandsStart : (∀ op ∈ opcodes, (hostCommand op 0 0).isSome = true ∧ Starts (found (asked (cmdOf op))) op 0 (cmdOf op) ∧
      (found (asked (cmdOf op))).now ≤ Cmd.deadline (cmdOf op) ∧ Starts (found (fun d => timed 2000001 (asked (cmdOf op) d)) 2000001) op 0 (cmdOf op) ∧
      Cmd.deadline (cmdOf op) < 2000001) ∧
    opFree 0x10 = false ∧ (found (fun d => having MRU.CAPO 0 (asked (cmdOf 0x10) d))).capo = false ∧ Cmd.reserved { cmdOf 0x10 with words := [0x810] } = true ∧
    Cmd.reserved (cmdOf 0x10) = false ∧ (cmdOf 0x90 (pay := .failed)).pay = .failed := by
  refine ⟨?_, by decide⟩
  simp only [Starts]
  decide

/-- Every host command runs on the holder of the Capo (the premise of the per-command statements). -/
theorem witness_Runs : ∀ op ∈ opcodes, Runs (found (asked (cmdOf op))) op 0 (cmdOf op) := by
  simp only [Runs, Starts]
  decide

theorem witness_Room : Room (found (asked (cmdOf 0x10))) (cmdOf 0x10) := by
  intro h
  exact absurd h (by decide)


theorem witness_CommandsAreAccepted : let a := found hosted
    a.ringWaits 0 = true ∧ a.cqFree 0 = true ∧ a.ringWaits 1 = false ∧ a.dmaTurn a.now 0 = true ∧
    (let o := found (fun d => { hosted (asked (cmdOf 0x10 (st := .done stArg 0 false 0 0 0)) d) with hif := { d.hif with turn := 1 } }); o.dmaTurn o.now 0 = false) ∧
    (found (fun d => having MRU.CAPO 1 (withChan d))).closes (cmdOf 0x31 hChan) = true ∧ (found (fun d => having MRU.CAPO 1 (withQueue d))).closes (cmdOf 0x41 hQueue) = true ∧
    (found (fun d => having MRU.CAPO 1 (withChan d))).closes (cmdOf 0x31 hChan 0 0 [9]) = false ∧ (0 + 16 - a.svc.turn) % 16 = 0 ∧ a.readFree 0x90 = true ∧ (opTimeout 0x10).isSome = true ∧ (opTimeout 0xFF).isSome = false ∧
    opPayload 0x90 = true ∧ (found (asked (cmdOf 2))).query 0 = none ∧ (found (fun d => asked (cmdOf 2 hTerm) (withTerm 3 d))).query hTerm = some (3, 0) ∧
    (found id).cmd? 0 = none ∧ (found (asked (cmdOf 1))).cmd? 0 = some (cmdOf 1) ∧ Cmd.isDone (cmdOf 1) = false ∧ Cmd.deadline (cmdOf 1) < 50001 := by decide

theorem test_commandAccept : let b := run (.commandAccept 0 0 (0x30001 :: List.replicate 15 0) true) hosted
    b.svc.cmds.map (fun c => (Cmd.opcode c, c.st)) = [(1, .waiting)] ∧ b.rd (HIF.CR_CI 0) = 1 ∧ b.ctr 0x001 0x900 = 1 := by decide
theorem test_commandAccept_of_an_unknown_opcode : (run (.commandAccept 0 0 (0xFF :: List.replicate 15 0) true) hosted).how = some (.done stUnknown 0 false 0 0 0) := by decide
theorem test_query : (run (.query 0 0) (fun d => asked (cmdOf 2 hTerm) (withTerm 3 d))).how = some (.done stOk 0 false hTerm 3 0) := by decide
theorem test_nop : (run (.nop 0 0) (asked (cmdOf 1))).how = some (.done stOk 0 false 0 0 0) := by decide
theorem test_commandTimeout : (run (.commandTimeout 50001 0) (fun d => timed 50001 (asked (cmdOf 1) d))).how = some (.done stTimeout 50000 false 0 0 0) := by decide

theorem witness_CompletionsPost : let done := cmdOf 0x10 (st := .done stOk 0 true hTerm 1 0)
    let a := found (fun d => hosted (asked done d))
    a.cmd? 0 = some done ∧ ¬ (a.now < 0) ∧ a.mayPost 0x10 (frameOf 0) a.now true = true ∧ a.cleanedUp done 0 a.now = true ∧ a.hostUp = true ∧ a.on (HIF.CQ_EN 0) = true ∧
    (found id).hostUp = false ∧ a.dmaTurn a.now 1 = false ∧ (found (fun d => having HIF.CMD_EN 0 (hosted (asked done d)))).dmaTurn 0 1 = true ∧ (4 : Nat) ≤ noRing ∧ done.cq < 4 ∧
    (found (asked done)).dmaTurn 0 1 = true ∧ (found id).cmd? 0 = none ∧ Cmd.isDone (cmdOf 1) = false ∧
    Cpl.status ⟨0, 0, a.cplWords done stStale 0 false 0 0 0⟩ = stStale ∧ Cpl.status ⟨0, 0, a.cplWords done stOk 0 true hTerm 1 0⟩ = stOk := by decide

theorem test_completionPost : let b := run (.completionPost 0 0) (fun d => having HIF.CMD_EN 0 (hosted (asked (cmdOf 0x10 (st := .done stOk 0 true hTerm 1 0)) d)))
    b.svc.cmds = [] ∧ b.rd (HIF.CQ_PI 0) = 1 ∧ b.ctr 0x001 0x908 = 1 ∧ b.core.out = [.completion 0 0 [0x100000, hTerm, 0x80000000, 0, 0, 0, 1, 0]] := by decide

theorem witness_TerminalCommands : let c := cmdOf 0x10 0 0 0 [0x41424344, 5, 0]; let a := found (asked c); let u := found (fun d => asked c { d with rng := { d.rng with terms := [(3, { termIn 1 with vendor := 0x41424344, serial := 5 })] } })
    ¬ (∃ e ∈ a.rng.terms, e.2.vendor = 0x41424344 ∧ e.2.serial = 5) ∧ (∃ e ∈ u.rng.terms, e.2.vendor = 0x41424344 ∧ e.2.serial = 5) ∧
    a.svc.chans.length + a.rng.terms.length < 524288 ∧ firstFree (fun x => (a.term? x).isNone && !a.termBusy x) 512 0 = some 0 ∧
    a.termOf hTerm = none ∧ (found (withTerm 3)).termOf hTerm = some 1 ∧ (found (withTerm 3)).termDepends 1 = false ∧ (found (fun d => withAlloc (withTerm 3 d))).termDepends 1 = true ∧
    (∀ n ∈ [1, 2, 3, 4, 5], ((found (withTerm n)).term? 1).map (·.state) = some n) := by decide

theorem test_terminalCreate : let b := run (.terminalCreate 0 0) (asked (cmdOf 0x10 0 0 0 [0x41424344, 5, 0]))
    (b.term? 0).map (fun y => (y.state, y.serial, y.handle)) = some (1, 5, mkHandle .terminal 1 0) ∧
    b.how = some (.done stOk 0 true (mkHandle .terminal 1 0) 1 (mkHandle .allocation 1 0)) := by decide
theorem test_terminalDestroy : ((run (.terminalDestroy 0 0) (fun d => asked (cmdOf 0x11 hTerm) (withTerm 3 d))).term? 1).map (·.state) = some 5 := by decide
theorem test_terminalDisable_of_one_disabled : (run (.terminalDisable 0 0) (fun d => asked (cmdOf 0x12 hTerm) (withTerm 4 d))).how = some (.done stOk 0 false hTerm 0 0) := by decide
theorem test_terminalEnable : ((run (.terminalEnable 0 0) (fun d => asked (cmdOf 0x13 hTerm) (withTerm 4 d))).term? 1).map (·.state) = some 1 := by decide
theorem test_terminalDisable_stale : let b := run (.terminalDisable 0 0) (asked (cmdOf 0x12 hTerm))
    b.how = some (.done stStale 0 false hTerm 0 0) ∧ b.ctr 0x1B6 0x868 = 1 := by decide

theorem witness_AllocationAndChannelCommands : let c := cmdOf 0x20 0 hTerm 0 [1024, 16, 1, 100]; let a := found (fun d => asked c (withTerm 3 d))
    let ch := cmdOf 0x30 0 hTerm 0 [1000 + 2 ^ 16, hQueue, 0, 0, 0]
    a.termOf hTerm = some 1 ∧ a.allocPlan c 1 = .inr 512 ∧ a.allocPlan (cmdOf 0x20 0 hTerm 0 [1, 16, 1, 100]) 1 = .inl stArg ∧ (found id).termOf hTerm = none ∧
    (found withAlloc).allocOf hAlloc = some 600 ∧ (found id).allocOf hAlloc = none ∧ 512 ≤ 600 % 4096 ∧ 5 % 4096 < 512 ∧
    firstFree (fun i => (Tbl.get? a.svc.chans i).isNone) 524288 0 = some 0 ∧ a.chanStale ch 1 = true ∧ (found (fun d => withQueue (withTerm 3 d))).chanStale ch 1 = false ∧
    (found withKey).keyOf hKey = some 1 ∧ a.keyOf (Cmd.arg ch 2) = none ∧
    (found withChan).chan? hChan ≠ none ∧ (found id).chan? hChan = none ∧ Cmd.drain (cmdOf 0x31 hChan 0 0 [9]) = 9 ∧ Cmd.drain (cmdOf 0x31 hChan 0 0 [8]) = 8 := by decide

theorem test_allocCreate_waits_for_the_build : (run (.allocCreate 0 0) (fun d => asked (cmdOf 0x20 0 hTerm 0 [1024, 16, 1, 100]) (withTerm 3 d))).how = some (.working) := by decide
theorem test_allocCreate_commits_at_the_build : let b := run (.mapBuildStart 5 0) (fun d => timed 5 (asked (cmdOf 0x20 0 hTerm 0 [1024, 16, 1, 100] .absent 0 (.working)) (withTerm 3 d)))
    (Tbl.get? b.fret.allocs 512).map (fun al => (al.allocId, al.rate)) = some (1024, 16) := by decide
theorem test_allocDestroy_of_a_default_allocation : (run (.allocDestroy 0 0) (fun d => asked (cmdOf 0x21 (mkHandle .allocation 1 5))
    { d with fret := { d.fret with allocs := [(5, { handle := mkHandle .allocation 1 5, allocId := 5, term := 5 })] } })).how = some (.done stArg 0 false (mkHandle .allocation 1 5) 0 0) := by decide
theorem test_channelDestroy_closes : ((run (.channelDestroy 0 0) (fun d => asked (cmdOf 0x31 hChan) (withChan d))).chan? hChan).map (·.closed) = some true := by decide

theorem test_channelCreate : let b := run (.channelCreate 0 0) (fun d => asked (cmdOf 0x30 0 hTerm hQueue [1000 + 2 ^ 16]) (withTerm 3
      { withPool d with cells := { (withPool d).cells with queues := [(1, { handle := hQueue, pool := 1, maxCells := 64, level := 1, parent := 1 })] } }))
    (Tbl.get? b.svc.chans 0).map (fun c => (c.port, c.dsQueue, c.ds, c.us)) = some (1000, hQueue, true, false) ∧ b.how = some (.done stOk 0 true (mkHandle .channel 1 0) 1000 0) := by decide

theorem witness_QueueCommands : let c := cmdOf 0x40 0 hPool (nodeRef (nodeKey 1 32768)) [64, 1]; let a := found (fun d => asked c (withPool (withNode d)))
    let f := found (fun d => asked (cmdOf 0x42 hQueue (st := .working)) { withQueue d with cells := { (withQueue d).cells with queues := (withQueue d).cells.queues.map (fun e => (e.1, { e.2 with flush := true })) } })
    let k := found (fun d => asked (cmdOf 0x41 hQueue (st := .working)) (withQueue d))
    a.poolOf hPool = some 1 ∧ a.nodeByLink (nodeRef (nodeKey 1 32768)) = some (nodeKey 1 32768) ∧ (found id).poolOf hPool = none ∧ 39 ≤ (Cmd.queue c (nodeKey 1 32768) 1).maxCells ∧
    (Cmd.queue c (nodeKey 1 32768) 1).weight = 1 ∧ (Cmd.queue c (nodeKey 1 32768) 1).lag = 0 ∧ bits (Cmd.arg c 1) 19 13 = 0 ∧ bits (Cmd.arg c 2) 8 24 = 0 ∧ a.linkLeaving (Cmd.link c) = false ∧
    (found (fun d => withTerm 5 d)).linkLeaving hTerm = true ∧ firstFree (fun i => (a.queue? i).isNone) 1048576 0 = some 0 ∧ (found withQueue).queueIdx hQueue = some 1 ∧
    (found withQueue).queueNamed hQueue = false ∧ (found (fun d => withChan (withQueue d))).queueNamed hQueue = true ∧ (found id).queueIdx hQueue = none ∧
    (f.queue? 1).map (·.flush) = some true ∧ (f.queue? 1).map (fun q => f.tailFinal q) = some true ∧ (f.svc.cmds.filter (fun e => Cmd.isWorking e && Cmd.opcode e = 0x42 && Cmd.handle e = hQueue)).length = 1 ∧
    f.capo = true ∧ (k.cmd? 0).map (fun c => (Cmd.isWorking c, Cmd.opcode c, Cmd.drained c 0 0)) = some (true, 0x41, true) ∧ Cmd.drained (cmdOf 0x41 hQueue 0 0 [3]) 0 1 = false := by decide

theorem test_queueCreate : let b := run (.queueCreate 0 0) (fun d => asked (cmdOf 0x40 0 hPool (nodeRef (nodeKey 1 32768)) [64, 1]) (withPool (withNode d)))
    (b.queue? 0).map (fun q => (q.maxCells, q.weight, q.level, q.parent)) = some (64, 1, 1, 32768) := by decide
theorem test_queueCreate_below_39_cells : (run (.queueCreate 0 0) (fun d => asked (cmdOf 0x40 0 hPool (nodeRef (nodeKey 1 32768)) [38, 1]) (withPool (withNode d)))).how =
    some (.done stArg 0 false 0 0 0) := by decide
theorem test_queueFlush : let b := run (.queueFlush 0 0) (fun d => asked (cmdOf 0x42 hQueue) (withQueue d))
    b.how = some (.working) ∧ (b.queue? 1).map (·.flush) = some true := by decide
theorem test_queueDestroy_and_its_commit : (run (.queueDestroy 0 0) (fun d => asked (cmdOf 0x41 hQueue) (withQueue d))).how = some (.working) ∧
    (run (.destroyCommit 0 0) (fun d => asked (cmdOf 0x41 hQueue (st := .working)) (withQueue d))).queue? 1 = none := by decide
theorem test_flushCommit : (run (.flushCommit 0 1) (fun d => asked (cmdOf 0x42 hQueue (st := .working))
    { withQueue d with cells := { (withQueue d).cells with queues := (withQueue d).cells.queues.map (fun e => (e.1, { e.2 with flush := true })) } })).how = some (.done stOk 0 true hQueue 0 0) := by decide

theorem witness_KeyCommands : let a := found (asked (cmdOf 0x50)); let k := found (fun d => asked (cmdOf 0x51 hKey) (withKey d)); let ch := found (fun d => asked (cmdOf 0x50 0 hChan) (withChan d))
    a.on CPE.DEBUG_OPEN = false ∧ (found (having CPE.DEBUG_OPEN 1)).on CPE.DEBUG_OPEN = true ∧ a.chan? 0 = none ∧ firstFree (fun i => (a.key? i).isNone) 65536 0 = some 0 ∧
    (ch.chan? hChan).map SvcChan.freePos = some (some 1) ∧ SvcChan.freePos { handle := 0, term := 0, port := 0, ds := true, us := true, dsQueue := 0, usQueue := 0, alloc := 0, keys := [some 1, some 2] } = none ∧
    k.keyOf hKey = some 1 ∧ a.keyOf hKey = none ∧ ¬ (∃ e ∈ k.svc.chans, (e.2.active.bind (SvcChan.pos e.2)) = some 1) := by decide

theorem test_keyCreate : let b := run (.keyCreate 0 0) (asked { cmdOf 0x50 with words := [0x50, 0, 0, 0, 0x00112233, 0x44556677, 0x8899AABB, 0xCCDDEEFF, 0, 0, 0, 0, 0, 0, 0, 0] })
    (b.key? 0).map (·.key) = some [0, 0x11, 0x22, 0x33, 0x44, 0x55, 0x66, 0x77, 0x88, 0x99, 0xAA, 0xBB, 0xCC, 0xDD, 0xEE, 0xFF] := by decide
theorem test_keyDestroy : (run (.keyDestroy 0 0) (fun d => asked (cmdOf 0x51 hKey) (withKey d))).key? 1 = none := by decide
theorem test_keyZeroizeAll : let b := run (.keyZeroizeAll 0 0) (fun d => asked (cmdOf 0x03) (withKey d))
    b.how = some (.done stOk 0 true 0 1 0) ∧ (b.key? 1).map (fun k => (k.st, k.key)) = some (.erased, List.replicate 16 0) := by decide

/-- A gate list's payload: base 2,000,000 ns, cycle 2,000 ns, two entries. -/
def gatePayload : List Nat := [2000000, 0, 2000, 2, 0, 0, 0, 0, 1000, 1, 1000, 3].flatMap (toBytesLE 4)

theorem witness_PoolShaperGateCommands : let p := cmdOf 0x60 0 0 0 [1, 1, 100, 1]; let a := found (asked p)
    let sh := cmdOf 0x70 0 0 hQueue [1000, 64, 0, 0]; let gate := cmdOf 0x80 0 0 (nodeRef (nodeKey 1 32768)) [] (.bytes gatePayload) 48
    let g := found (fun d => asked gate (withNode d)); let o := cmdOf 0x90 0 hTerm 0 [] (.bytes (List.replicate 48 1)) 48
    (Cmd.pool p).maxU = 100 ∧ (Cmd.pool p).minU ≤ (Cmd.pool p).maxU ∧ (Cmd.pool p).maxU ≤ regionCells true / 64 ∧ (Cmd.pool p).bpU ≤ 100 ∧ (Cmd.pool p).wait = false ∧
    firstFree (fun i => (a.pool? i).isNone) 256 0 = some 0 ∧ (Cmd.pool p).minU * 64 ≤ a.shared true ∧ (found withPool).poolOf hPool = some 1 ∧ (found withPool).poolNamed 1 hPool = false ∧
    (found withQueue).poolNamed 1 hPool = true ∧ (found withQueue).queueIdx hQueue ≠ none ∧ Cmd.arg sh 0 ≠ 0 ∧ 64 ≤ Cmd.arg sh 1 ∧ g.nodeByLink (nodeRef (nodeKey 1 32768)) = some (nodeKey 1 32768) ∧
    gateBad (Cmd.bufLen gate) (Cmd.payload gate) = false ∧ gateBad 40 (Cmd.payload gate) = true ∧ g.now + g.rdA TMG.SETUP_MARGIN_NS ≤ 2000000 ∧ Cmd.bufLen o = 48 ∧ (found (withTerm 3)).leaving 1 = false ∧
    (found (withTerm 5)).leaving 1 = true := by decide

theorem test_poolCreate : ((run (.poolCreate 0 0) (asked (cmdOf 0x60 0 0 0 [1, 1, 100, 1]))).pool? 0).map (fun p => (p.dram, p.minU, p.maxU)) = some (true, 1, 100) := by decide
theorem test_poolDestroy : (run (.poolDestroy 0 0) (fun d => asked (cmdOf 0x61 hPool) (withPool d))).pool? 1 = none := by decide
theorem test_shaperCreate : ((Tbl.get? (run (.shaperCreate 0 0) (fun d => asked (cmdOf 0x70 0 0 hQueue [1000, 64, 0, 0]) (withQueue d))).traffic.shapers 0).map (fun s => (s.rate, s.target))) =
    some (1000, hQueue) := by decide
theorem test_shaperDestroy_while_its_queue_stands : (run (.shaperDestroy 0 0) (fun d => asked (cmdOf 0x71 (mkHandle .shaper 1 0))
    { withQueue d with traffic := { d.traffic with shapers := [(0, { handle := mkHandle .shaper 1 0, rate := 1, burst := 64, adj := 0, target := hQueue, bucket := ⟨0, 0, none⟩ })] } })).how =
    some (.done stBusy 0 false (mkHandle .shaper 1 0) 0 0) := by decide
theorem test_gateListInstall : let b := run (.gateListInstall 0 0) (fun d => asked (cmdOf 0x80 0 0 (nodeRef (nodeKey 1 32768)) [] (.bytes gatePayload) 48) (withNode d))
    (Tbl.get? b.traffic.gates 0).map (fun g => (g.start, g.cycle, g.entries)) = some (2000000, 2000, [(1000, 1), (1000, 3)]) := by decide
theorem test_gateListDestroy : Tbl.get? (run (.gateListDestroy 0 0) (fun d => asked (cmdOf 0x81 (mkHandle .gateList 1 0))
    { d with traffic := { d.traffic with gates := [(0, { handle := mkHandle .gateList 1 0, node := 0, start := 0, cycle := 2000, guard := false, entries := [(2000, 1)] })] } })).traffic.gates 0 = none := by decide
theorem test_omciSend : (run (.omciSend 0 0) (fun d => asked (cmdOf 0x90 0 hTerm 0 [] (.bytes (List.replicate 48 1)) 48) (withTerm 3 d))).omciOf 1 = [List.replicate 48 1] := by decide

/-- A host with inject channel 0 enabled and one descriptor waiting, on the holder of the Capo. -/
def injecting (d : Device) : Device := having MRU.CAPO 1 (having HIF.CMD_EN 0 (having (HIF.IC_EN 0) 1 (having (HIF.IR_PI 0) 1 (hosted (withQueue d)))))

theorem witness_PuntAndInject : (found id).injectReady 0 = false ∧ (found injecting).injectReady 0 = true ∧ injectStatus (found injecting) [0, 0, 60, hQueue] true true 60 = 0 ∧
    injectStatus (found injecting) [0, 0, 59, hQueue] true true 60 = 4 ∧ injectStatus (found injecting) [0, 0, 60, hQueue] false true 60 = 3 ∧
    (found (having (HIF.PC_EN 0) 1)).on (HIF.PC_EN 0) = true ∧ (found injecting).hostUp = true := by decide

theorem test_injectDescriptor : let b := run (.injectDescriptor 0 0 [0, 0, 60, BitVec.ofNat 32 hQueue, 0, 0, 0, 0] true true (List.replicate 60 1)) injecting
    b.ctr 0x001 0x958 = 1 ∧ (b.pkt? 0).map (fun x => (x.stage, x.queue)) = some (.handed, hQueue) := by decide
theorem test_puntChannelDisable_returns_buffers : (run (.puntChannelDisable 0 .pf0 0) (fun d => having (HIF.PC_EN 0) 1 (having (HIF.FB_PI 0) 2 (hosted d)))).core.out.length = 2 := by decide
theorem test_injectChannelDisable_flushes : (run (.injectChannelDisable 0 .pf0 0 [7]) injecting).ctr 0x001 0x960 = 1 := by decide

/-! ### Packets, the cipher, cells, queues and scheduling -/

/-- A network packet of 60 bytes at the crossing of port 0. -/
def pkt1 : Pkt := { src := { kind := 1, port := 0 }, bytes := List.replicate 60 0, stamp := 0 }
def withPkt (x : Pkt) (d : Device) : Device := { d with pkt := { d.pkt with pkts := [(0, x)], next := 1 } }

theorem witness_PacketsClassify : let a := found (withPkt pkt1); let b := found (fun d => having PCL.PCL_EN 1 (withPkt { pkt1 with stage := .slice 3 } d))
    a.pkt? 0 = some pkt1 ∧ a.pkt? 1 = none ∧ pkt1.stage = .crossing ∧ (∀ e ∈ a.pkt.pkts, ¬ e.1 < 0) ∧ (a.fifo 0).length < 512 ∧
    (b.fifo 3).head? = some 0 ∧ (b.fifo 4).head? = none ∧ b.on PCL.PCL_EN = true ∧ (found id).on PCL.PCL_EN = false ∧ ¬ (b.now < 0) ∧ (parse [] pkt1.bytes).bad = false ∧
    actType (b.classify [] 1 false (keyWords [] pkt1.src 0 (parse [] pkt1.bytes))).1 = 0 ∧ b.separated pkt1.src 0 [0, 0, 0, 0] = true := by decide

theorem test_packetIngress : ∃ s, (run (.packetIngress 0 0) (withPkt pkt1)).fifo s = [0] := ⟨setRd [] (spreadField (flowHash [] (parse [] pkt1.bytes) % 256)), by decide⟩
theorem test_packetClassify_with_the_classifier_off : let b := run (.packetClassify 0 3) (withPkt { pkt1 with stage := .slice 3 })
    b.pkt? 0 = none ∧ b.ctr 0x1B3 0x860 = 1 := by decide
theorem test_packetClassify_default_drop : let b := run (.packetClassify 0 3) (fun d => having PCL.PCL_EN 1 (withPkt { pkt1 with stage := .slice 3 } d))
    b.pkt? 0 = none ∧ b.ctr 0x1B3 0x868 = 1 ∧ b.ctr 0x1B3 0x838 = 1 := by decide
theorem test_tagEn : (run (.tagEn 0 .pf0 true)).on MON.TAG_EN = true := by decide

/-- A downstream channel with an active key, and one frame of it at tree 0's egress. -/
def keyed (bs : List Nat) (d : Device) : Device :=
  let c : SvcChan := { handle := hChan, term := hTerm, port := 1000, ds := true, us := true, dsQueue := hQueue, usQueue := 0, alloc := 0, keys := [some 1, none], active := some 1 }
  let k : KeySlot := { handle := hKey, st := .active, key := List.replicate 16 7, pos := 1, chan := hChan }
  { d with svc := { d.svc with keys := [(1, k)], chans := [(1, c)] }, traffic := { d.traffic with egress := [(0, [{ bytes := bs, chan := hChan, term := 1 }])] } }

theorem witness_CipherWorks : let a := found (fun d => having CPE.CPE_EN 1 (keyed (List.replicate 16 0) d)); let w := found (fun d => { withKey d with svc := { (withChan (withKey d)).svc with
      keys := [(1, { handle := hKey, st := .inactive, key := List.replicate 16 7, pos := 1, chan := hChan, waiting := true })] } })
    (Tbl.getD a.traffic.egress 0 []).map (fun e => (e.chan, e.omci)) = [(hChan, false)] ∧ (a.chan? hChan).map (fun c => (c.active, SvcChan.pos c 1)) = some (some 1, some 1) ∧
    (a.key? 1).map (fun k => (k.st, k.hard, k.highFrame, a.overHard k 2)) = some (.active, false, none, false) ∧ a.on CPE.CPE_EN = true ∧ (found id).on CPE.CPE_EN = false ∧
    (a.chanAt 0 1000).map (fun c => (handleIdx c.term, c.us, c.closed)) = some (1, true, false) ∧ (a.chanAt 0 1001).isNone = true ∧ a.chan? 0 = none ∧ a.hostUp = false ∧ (1 % 512 = 1) ∧
    (w.key? 1).map (fun k => (k.waiting, k.activateAt, k.chan)) = some (true, 0, hChan) ∧ w.frame = 0 ∧ (w.chan? hChan).isSome = true ∧
    (found (withPkt { pkt1 with needTag := true })).pkt? 0 = some { pkt1 with needTag := true } := by decide

theorem test_xgemEncrypt_erased_key_drops : let b := run (.xgemEncrypt 0 0) (fun d => having CPE.CPE_EN 1 { keyed [1, 2] d with svc := { (keyed [1, 2] d).svc with
      keys := [(1, { handle := hKey, st := .erased, key := List.replicate 16 0, pos := 1, chan := hChan })] } })
    b.ctr 0x1B4 0x860 = 1 ∧ Tbl.getD b.traffic.egress 0 [] = [] := by decide
theorem test_xgemDecrypt_omci_in_cipher_is_dropped : (run (.xgemDecrypt 0 0 7 1 1 1 0 0 []) (having CPE.CPE_EN 1)).ctr 0x1B4 0x858 = 1 ∧
    (run (.xgemDecrypt 0 0 7 1 1 1 0 0 [])).ctr 0x1B4 0x868 = 1 := by decide
theorem test_tagResult_forged : let b := run (.tagResult 0 0) (withPkt { pkt1 with needTag := true, tagGood := false })
    b.ctr 0x1B4 0x820 = 1 ∧ (b.pkt? 0).map (·.tag) = some (some false) := by decide
theorem test_keyActivation : let b := run (.keyActivation 0 1) (fun d => { withKey d with svc := { (withChan (withKey d)).svc with
      keys := [(1, { handle := hKey, st := .inactive, key := List.replicate 16 7, pos := 1, chan := hChan, waiting := true })] } })
    (b.key? 1).map (·.st) = some .active ∧ (b.chan? hChan).map (·.active) = some (some 1) := by decide
theorem test_clockAlarm : (run (.clockAlarm 0) withKey).ctr 0x1B4 0x888 = 1 := by decide
theorem test_glitchAlarm : ((run (.glitchAlarm 0) withKey).key? 1).map (·.st) = some .erased := by decide
theorem test_temperatureAlarm_inside_its_limits : (run (.temperatureAlarm 0 520) withKey).ctr 0x1B4 0x898 = 0 ∧ (run (.temperatureAlarm 0 521) withKey).ctr 0x1B4 0x898 = 1 := by decide

/-- Cells of DRAM to be had from pool 1. -/
def pooled (d : Device) : Device := having (SKC.READY 0) 1 (having BPM.BPM_EN 1 (withPool d))
/-- A packet of 60 bytes handed to queue 1 from the host, and one pushed with its first cell. -/
def pktH : Pkt := { pkt1 with stage := .handed, queue := hQueue }
def pktC : Pkt := { pktH with first := some (2 ^ 35), last := 2 ^ 35, cells := 1 }

theorem witness_CellsAllocateAndFree : let a := found pooled; let h := found (fun d => pooled (withPkt pktH (withQueue d)))
    (a.window 1 37).isSome = true ∧ (a.pool? 1).map (fun p => (a.mayTake p, p.wait)) = some (true, false) ∧ a.nextChain true = some 0 ∧ a.on BPM.BPM_EN = true ∧ (found id).on BPM.BPM_EN = false ∧
    a.pool? 2 = none ∧ (found withPool).nextChain true = none ∧ h.pkt? 0 = some pktH ∧ pktH.ended = false ∧ pktH.voidAt = false ∧ pktH.cells < cellsFor pktH.bytes.length ∧ Pkt.requester pktH = 37 ∧
    h.pktPool pktH = some 1 ∧ h.cells.waiters = [] ∧
    (let v := found (fun d => timed 9 { withPool d with cells := { (withPool d).cells with waiters := [{ req := 3, pool := 1, stamp := 0, pkt := none }] } })
     (v.cells.waiters.find? (fun w => decide (w.req = 3 ∧ w.stamp + (match v.pool? w.pool with | some p => p.waitNs | none => 0) < v.now))).isSome = true) ∧ ptrOk (2 ^ 35) = true ∧ ptrOk (2 ^ 34) = false ∧ h.cells.poison = [] ∧ h.cells.voided = [] ∧ descFirst (mkDesc 0 true 5 1) = true ∧
    descOwner (mkDesc 0 true 5 1) = 5 ∧ descGen (mkDesc 0 true 5 1) = 1 ∧ cellAddrOk (0xFF * 2 ^ 20 + 0x100) = true ∧ cellAddrOk (2 ^ 28) = false ∧ cellAddrOk 1 = false := by decide

theorem test_cellRequest : let b := run (.cellRequest 0 1 37 1 none none) pooled
    (b.pool? 1).map (·.held) = some 1 ∧ b.ctr 0x1B0 0x810 = 1 ∧ b.core.out = [.cell 37 (2 ^ 35)] ∧ b.desc (2 ^ 35) = mkDesc 0 true 37 1 := by decide
theorem test_bufferFree_of_a_bad_pointer : let b := run (.bufferFree 0 37 (2 ^ 34) 5 1 []) pooled
    b.ctr 0x1B0 0x850 = 1 ∧ b.rd BPM.FLOG_PRODUCED = 1 := by decide
theorem test_bufferFree_returns_the_cell : let b := run (.bufferFree 0 37 (2 ^ 35) 37 1 []) (fun d =>
      match exec (.cellRequest 0 1 37 1 none none) { State.reset with dev := pooled d } with | .next s => s.dev | _ => d)
    (b.pool? 1).map (·.held) = some 0 ∧ descOwner (b.desc (2 ^ 35)) = 0 ∧ b.ctr 0x1B0 0x818 = 1 := by decide
theorem test_waitTimeout : let b := run (.waitTimeout 9 3) (fun d => timed 9 { withPool d with cells := { (withPool d).cells with waiters := [{ req := 3, pool := 1, stamp := 0, pkt := none }] } })
    b.cells.waiters = [] ∧ b.ctr 0x1B0 0x830 = 1 := by decide
theorem test_ownerClear : let b := run (.ownerClear 0) (fun d => { d with cells := { (d.wrWord (descAddr 0) (mkDesc 0 true 5 9)).cells with clearing := [0] } })
    b.desc 0 = mkDesc 0 true 0 9 ∧ b.cells.clearing = [] := by decide
theorem test_cellAddr : (run (.cellAddr 0 .pf0 0) (fun d => { d with cells := { d.cells with addrLo := 0x100 } })).rd BPM.CELL_ADDR_LO = 0x100 := by decide

/-- QMG on, and a packet in queue 1 whose header is in a state. -/
def queued (status : Nat) (d : Device) : Device :=
  let p := 2 ^ 35
  let e := (((withQueue d).wrWord (hdrAddr p) (hdr0 60 status false false false 0)).wrWord (hdrAddr p + 8) (hdr1 p 1)).wrWord (descAddr p) (mkDesc 0 true (queueTag 1) 1)
  let q : Queue := { handle := hQueue, pool := 1, maxCells := 64, level := 1, parent := 32768, head := p, tail := p, pkts := 1, cells := 1 }
  having QMG.QMG_EN 1 { e with cells := { e.cells with queues := [(1, q)] } }

theorem witness_PacketsQueue : let a := found (fun d => having QMG.QMG_EN 1 (withPkt pktC (withQueue d))); let e := found (withPkt { pktC with stage := .pushed })
    a.pkt? 0 = some pktC ∧ a.on QMG.QMG_EN = true ∧ (found (fun d => withPkt pktC (withQueue d))).on QMG.QMG_EN = false ∧ a.queueIdx pktC.queue = some 1 ∧
    (a.queue? 1).map (fun q => (q.flush, q.closed, decide (q.cells < q.maxCells))) = some (false, false, true) ∧ e.pkt? 0 = some { pktC with stage := .pushed } ∧ pktC.bytes.length < 2 ^ 14 ∧ pktC.last < 2 ^ 36 ∧
    (∀ s ∈ [0, 1, 2], ((found (queued s)).queue? 1).map (fun q => (q.pkts, (found (queued s)).hdrStatus q.head, (found (queued s)).staleChan q.head)) = some (1, s, false)) ∧
    ((found (queued 1)).bufCells [] (2 ^ 35)).2.2.1 = false ∧ (found (having (SKC.SCRUB_EN 0) 1)).on (SKC.SCRUB_EN 0) = true ∧ bit (2 ^ 43) 43 = true := by decide

theorem test_packetPush : let b := run (.packetPush 0 0 false []) (fun d => having QMG.QMG_EN 1 (withPkt pktC (withQueue d)))
    (b.queue? 1).map (fun q => (q.pkts, q.cells, q.head, q.tail)) = some (1, 1, 2 ^ 35, 2 ^ 35) ∧ descOwner (b.desc (2 ^ 35)) = 2 ^ 20 + 1 := by decide
theorem test_packetEnd_final : let b := run (.packetEnd 0 0 true) (withPkt { pktC with stage := .pushed })
    b.hdrStatus (2 ^ 35) = stFinal ∧ b.hdrLength (2 ^ 35) = 60 := by decide
theorem test_packetPop_of_a_pending_head : (run (.packetPop 0 1 []) (queued 0)).ctr 0x1B1 0x858 = 1 := by decide
theorem test_packetPop_of_a_void_head : let b := run (.packetPop 0 1 []) (queued 2)
    b.ctr 0x1B1 0x818 = 1 ∧ b.ctr 0x1B1 0x828 = 1 ∧ (b.queue? 1).map (·.pkts) = some 0 := by decide
theorem test_scrubRead_uncorrectable_table_bank : let b := run (.scrubRead 0 (.table 0 (some 1)) .uncorrectable false) (queued 1)
    (b.queue? 1).map (fun q => (q.cut, q.pkts)) = some (true, 0) := by decide
theorem test_dramRefresh : let b := run (.dramRefresh 0 2) (fun d => { d with pow := { d.pow with temps := List.replicate 72 341 } })
    b.on (SKC.REFRESH_2X 2) = true ∧ b.on (SKC.REFRESH_4X 2) = false := by decide
theorem test_skcReady : (run (.skcReady 0 5)).on (SKC.READY 5) = true := by decide

/-- A queue below the node of network port 0's root, ready to be served. -/
def servable (d : Device) : Device := having TMG.TMG_EN 1 { queued 1 (withNode d) with traffic := (withNode d).traffic }

theorem witness_TrafficServes : let g : GateList := { handle := 0, node := 0, start := 0, cycle := 2000, guard := false, entries := [(1000, 1), (1000, 3)] }
    let a := found (fun d => { d with traffic := { d.traffic with gates := [(0, g)], shapers := [(0, { handle := 0, rate := 1, burst := 64, adj := 0, target := hQueue, bucket := ⟨-5, 0, some 0⟩ })] } })
    let o := found (fun d => having TMG.TMG_EN 1 (serving 1 (having (CH.CH_EN 0) 1 { withTerm 3 d with traffic := { d.traffic with omci := [(1, [[1, 2]])] } }))) 1
    (found id).rootServed 0 = false ∧ Tbl.get? a.traffic.gates 0 = some g ∧ g.st = .scheduled ∧ g.start ≤ a.now ∧ Tbl.get? a.traffic.gates 1 = none ∧
    (Tbl.get? a.traffic.shapers 0).map (fun s => (s.bucket.parked, decide (Bucket.at s.bucket s.rate s.burst a.now < 0))) = some (some 0, true) ∧
    (found (servable)).queueReady 1 = true ∧ o.omciOf 1 = [[1, 2]] := by decide

theorem test_gateListStart : ((Tbl.get? (run (.gateListStart 0 0) (fun d => { d with traffic := { d.traffic with
    gates := [(0, { handle := 0, node := 0, start := 0, cycle := 2000, guard := false, entries := [(1000, 1), (1000, 3)] })] } })).traffic.gates 0).map (·.st)) = some .inForce := by decide
theorem test_gateEntryChange : ((Tbl.get? (run (.gateEntryChange 1500 0) (fun d => timed 1500 { d with traffic := { d.traffic with
    gates := [(0, { handle := 0, node := 0, start := 0, cycle := 2000, guard := false, st := .inForce, entries := [(1000, 1), (1000, 3)] })] } })).traffic.gates 0).map (·.cur)) = some 1 := by decide
theorem test_shaperWheelExpiry_unparks : ((Tbl.get? (run (.shaperWheelExpiry 9 false 0) (fun d => timed 9 { d with traffic := { d.traffic with
    shapers := [(0, { handle := 0, rate := 1, burst := 64, adj := 0, target := hQueue, bucket := ⟨-5, 0, some 5⟩ })] } })).traffic.shapers 0).map (fun s => s.bucket.parked)) = some none := by decide
/-- Port 0, enabled under a mode of its quad, at a step of its bring-up. -/
def ported (mode st : Nat) (d : Device) : Device := having (NPC.QUAD_MODE 0) mode (having (NPC.PORT_EN 0 0) 1 (having (NPC.BRINGUP 0 0) st d))
/-- Port 0, up in mode 1. -/
def portedUp (d : Device) : Device := having (NPC.UP 0 0) 1 (ported 1 5 d)

theorem witness_PortsComeUp : let a := found (ported 1 0); let k := found (fun d => { ported 1 2 d with net := { d.net with ports := [(0, { tries := 3, fullAgreed := true, conds := 1 })] } })
    (found (having (NPC.QUAD_MODE 0) 1)).onPort NPC.PORT_EN 0 = false ∧ modeHas 1 0 = true ∧ modeHas 0 0 = false ∧ modeHas 1 1 = false ∧ a.portOn 0 = true ∧ (found id).portOn 0 = false ∧
    a.spm.dead = [] ∧ (found (ported 1 1)).rdPort NPC.BRINGUP 0 = 1 ∧ k.rdPort NPC.BRINGUP 0 = 2 ∧ k.portLanes 0 = [0, 1, 2, 3] ∧ k.stepFull 0 = false ∧ (found (ported 4 2)).stepFull 0 = true ∧
    (found (ported 4 2)).portLanes 0 = [0, 1, 2, 3] ∧ (k.port 0).fullAgreed = true ∧ k.rdA (NPC.TRAIN_RETRIES 0) = 3 ∧ ((a.port 0).tries + 1 < a.rdA (NPC.TRAIN_RETRIES 0)) ∧ bit 15 3 = true ∧ bit 0 3 = false ∧
    (k.port 0).conds % 64 ≠ 0 ∧ a.portPrbs 0 = false ∧ (a.port 0).clearAt + a.rdA (NPC.UP_HOLD_US 0) * 1000 = 1000000 := by decide

theorem test_portBringup : let b := run (.portBringup 7 .pf0 0) (fun d => having (NPC.QUAD_MODE 0) 1 (having (NPC.AN_EN 0 0) 1 d))
    b.rd (NPC.BRINGUP 0 0) = 1 ∧ b.rd (NPC.PORT_EN 0 0) = 1 := by decide
theorem test_autonegComplete_to_training : (run (.autonegComplete 0 0 true true) (fun d => having (NPC.TRAIN_EN 0 0) 1 (ported 1 1 d))).rd (NPC.BRINGUP 0 0) = 2 := by decide
theorem test_autonegComplete_without_common_technology : (run (.autonegComplete 0 0 false false) (ported 1 1)).ctr (npcPage 0) (portCtr 0 0x90) = 1 := by decide
theorem test_linkTrainingComplete_one_step_mode : (run (.linkTrainingComplete 0 0 0 true []) (ported 4 3)).rd (NPC.BRINGUP 0 0) = 5 := by decide
theorem test_linkTrainingComplete_low_rate_kept : (run (.linkTrainingComplete 0 0 0 true []) (fun d => having (NPC.ALLOW_LOW 0 0) 1 (ported 1 3 d))).rd (NPC.BRINGUP 0 0) = 6 := by decide
theorem test_portDefectChange_takes_the_port_down : let b := run (.portDefectChange 0 0 0 0 true) portedUp
    b.rd (NPC.UP 0 0) = 0 ∧ b.rd (NPC.DEFECTS 0 0) = 1 ∧ b.rd (NPC.BRINGUP 0 0) = 2 ∧ b.ctr (npcPage 0) (portCtr 0 0x80) = 1 := by decide
theorem test_upHoldExpiry : (run (.upHoldExpiry 1000000 0) (fun d => timed 1000000 (ported 1 5 d))).rd (NPC.UP 0 0) = 1 ∧
    (run (.upHoldExpiry 999999 0) (fun d => timed 999999 (ported 1 5 d))).rd (NPC.UP 0 0) = 0 := by decide

/-- A frame of 60 zeros with its FCS. -/
def frame64 : List Byte := List.replicate 60 0#8 ++ (toBytesLE 4 (crc32 (List.replicate 60 0))).map (BitVec.ofNat 8)
/-- A packet waiting at network port 0. -/
def outgoing (d : Device) : Device := { portedUp d with traffic := { d.traffic with egress := [(64, [{ bytes := List.replicate 20 1 }])] } }
/-- Port 0 paused since instant 5. -/
def paused (d : Device) : Device := having (NPC.PAUSED 0 0) 1 { portedUp d with net := { d.net with ports := [(0, { pauseSince := 5, pauseUntil := 9 })] } }
/-- Port 0 that watches a pool in back-pressure. -/
def pressed (d : Device) : Device := serving 0 (having (NPC.PAUSE_GEN_EN 0 0) 1 (having (NPC.PAUSE_POOL 0 0) hPool (portedUp
  { withPool d with cells := { (withPool d).cells with pools := [(1, { handle := hPool, dram := true, wait := false, waitNs := 0, minU := 1, maxU := 1, bpU := 2 })] } })))

theorem witness_PortsCarryFrames_receive : let a := found (fun d => serving 0 (portedUp d)); let bs := frame64.map (·.toNat)
    a.portConfigured 0 = true ∧ a.portUp 0 = true ∧ a.capo = true ∧ (found portedUp).capo = false ∧ (found (ported 1 5)).portUp 0 = false ∧ bs.length = 64 ∧
    toBytesLE 4 (crc32 (bs.take 60)) = bs.drop 60 ∧ toBytesLE 4 (crc32 (List.replicate 60 1)) ≠ bs.drop 60 ∧ a.rdA (NPC.MAX_FRAME_BYTES 0) = 9604 := by decide
theorem witness_PortsCarryFrames_send : let o := found (fun d => serving 0 (outgoing d)); let p := found (fun d => serving 9 (paused d)) 9; let g := found pressed
    o.netMaySend = true ∧ o.portPaused 0 = false ∧ Tbl.getD o.traffic.egress 64 [] ≠ [] ∧ ptpEvent (List.replicate 60 0) = none ∧ p.portPaused 0 = true ∧ (p.port 0).pauseUntil ≤ p.now ∧
    (p.on (NPC.PAUSE_IGNORED 0 0)) = false ∧ p.rdA (NPC.PAUSE_MAX_FRAMES 0) = 8 ∧ g.wantsPause 0 = true ∧ o.wantsPause 0 = false ∧ (g.port 0).genQuiet ≤ g.now ∧ g.on (NPC.PAUSE_SENDING 0 0) = false ∧
    (found (having (NPC.PRBS_GEN 0 1) 2)).rd (NPC.PRBS_GEN 0 1) = 2 ∧ (found id).rd (NPC.PRBS_CHK 0 1) = 0 ∧ (found (having (NPC.PRBS_CHK 0 1) 2)).rd (NPC.PRBS_CHK 0 1) ≠ 0 := by decide

theorem test_crc32_check_value : crc32 ("123456789".toList.map Char.toNat) = 0xCBF43926 := by decide
theorem test_networkFrameReceive : let b := run (.networkFrameReceive 0 0 frame64 true true 0 0 0 0 0) (fun d => serving 0 (portedUp d))
    b.ctr (npcPage 0) (portCtr 0 0x00) = 1 ∧ b.ctr (npcPage 0) (portCtr 0 0x08) = 60 ∧ b.pkt.next = 1 := by decide
theorem test_networkFrameReceive_bad_fcs : let b := run (.networkFrameReceive 0 0 (List.replicate 64 1#8) true true 0 0 0 0 0) (fun d => serving 0 (portedUp d))
    b.ctr (npcPage 0) (portCtr 0 0x10) = 1 ∧ b.pkt.next = 0 := by decide
theorem test_networkFrameTransmit_pads : let b := run (.networkFrameTransmit 0 0 0 0) (fun d => serving 0 (outgoing d))
    b.ctr (npcPage 0) (portCtr 0 0x28) = 1 ∧ b.ctr (npcPage 0) (portCtr 0 0x30) = 64 ∧ Tbl.getD b.traffic.egress 64 [] = [] := by decide
theorem test_pauseReceive : let b := run (.pauseReceive 0 0 1000) (fun d => serving 0 (having (NPC.PAUSE_RX_EN 0 0) 1 (portedUp d)))
    b.rd (NPC.PAUSED 0 0) = 1 ∧ (b.port 0).pauseUntil = 640 ∧ b.ctr (npcPage 0) (portCtr 0 0x68) = 1 := by decide
theorem test_pauseQuantaExpiry : (run (.pauseQuantaExpiry 9 0) (fun d => timed 9 (paused d))).rd (NPC.PAUSED 0 0) = 0 := by decide
theorem test_pauseHoldLimit : let b := run (.pauseHoldLimit 1000005 0 false) (fun d => timed 1000005 (paused d))
    b.rd (NPC.PAUSE_IGNORED 0 0) = 1 ∧ b.ctr (npcPage 0) (portCtr 0 0x78) = 1 := by decide
theorem test_pauseGenerate : let b := run (.pauseGenerate 0 0) pressed
    b.rd (NPC.PAUSE_SENDING 0 0) = 1 ∧ b.ctr (npcPage 0) (portCtr 0 0x70) = 1 := by decide
theorem test_eyeMeasure : let b := run (.eyeMeasure 3 5 20 200)
    b.rd (NPC.EYE_V 1 1) = 20 ∧ b.rd (NPC.EYE_H 1 1) = 200 := by decide
theorem test_injectOne : (run (.injectOne 0 .pf0 1 false) (having (NPC.PRBS_GEN 0 1) 2)).core.out = [.bitFlip 1] := by decide
theorem test_prbsLockChange : let b := run (.prbsLockChange 0 1 true 100 3) (having (NPC.PRBS_CHK 0 1) 2)
    b.rd (NPC.PRBS_LOCK 0 1) = 1 ∧ b.ctr (npcPage 0) (laneCtr 1 0x00) = 100 ∧ b.ctr (npcPage 0) (laneCtr 1 0x08) = 3 := by decide

/-- Group 0, number 7, of port 0 in mode 6 with one instance. -/
def grouped (x : FlxGroup) (i : FlxInst) (d : Device) : Device :=
  { ported 6 5 d with net := { d.net with groups := [(0, { x with number := 7, en := true, mask := 1, insts := [(0, i)] })] } }
/-- An overhead frame of group 7. -/
def oh7 (c : Nat) (cr ca : Bool) : FlxOh := { c := c, cr := cr, ca := ca, rpf := false, number := 7, map := 1 }

theorem witness_FlexEWorks : let a := found (grouped {} {}); let l := found (grouped { peerCr := true } { aligned := true, missing := 4, badCrc := 7 }); let k := found (grouped { calReq := true, crSent := true, caSeen := true } {})
    (a.group 0).en = true ∧ a.groupInsts 0 = 1 ∧ (a.inst 0 0).aligned = false ∧ (l.inst 0 0).aligned = true ∧ (l.inst 0 0).missing = 4 ∧ (l.inst 0 0).badCrc + 1 = 8 ∧ (oh7 1 false true).number = (l.group 0).number ∧
    (oh7 1 false true).map = 2 ^ (FlxGroup.phys (l.group 0)).length - 1 ∧ (oh7 1 false true).c ≠ (l.group 0).rxCal ∧ (l.group 0).crSent = false ∧ (a.group 0).switchAt ≠ some a.now ∧ a.calOk 0 = true ∧
    (found (fun d => { grouped {} {} d with net := { (grouped {} {} d).net with conn := [(connKey 0 1 0 0, 5)] } })).calOk 0 = false ∧ (k.group 0).calReq = true ∧ (k.group 0).caSeen = true ∧
    k.rd FLX.CA_TIMEOUT_OHF ≤ (FlxGroup.crFrames { crFrames := 1000 }) ∧ (found id).group 0 = {} := by decide

theorem test_flexeOhCandidate : ((run (.flexeOhCandidate 0 0 0 true) (grouped {} {})).inst 0 0).aligned = true ∧ (run (.flexeOhCandidate 0 0 0 false) (grouped {} {})).ctr flxPage 0x810 = 1 := by decide
theorem test_flexeOhMissing_fifth : let b := run (.flexeOhMissing 0 0 0) (grouped {} { aligned := true, missing := 4 })
    (b.inst 0 0).aligned = false ∧ b.ctr flxPage 0x818 = 1 := by decide
theorem test_flexeOhFrameReceive_bad_crc : (run (.flexeOhFrameReceive 0 0 0 false (oh7 0 false false) false) (grouped {} { aligned := true })).ctr flxPage 0x820 = 1 := by decide
theorem test_flexeOhFrameReceive_ca_of_no_request : (run (.flexeOhFrameReceive 0 0 0 true (oh7 0 false true) false) (grouped {} { aligned := true })).ctr flxPage 0x868 = 1 := by decide
theorem test_calReq : ((run (.calReq 0 .pf0 0 true) (grouped {} { aligned := true })).group 0).calReq = true := by decide
theorem test_txOhFrameBoundary_switches : let b := run (.txOhFrameBoundary 0 0) (grouped { calReq := true, crSent := true, caSeen := true } { aligned := true })
    (b.group 0).txCal = 1 ∧ (b.group 0).calReq = false ∧ b.ctr flxPage 0x828 = 1 := by decide
/-- Device time runs at an instant under the 1PPS source, an edge of EV0 good before. -/
def onPps (t : Nat) (d : Device) : Device := timed t (having TMU.TIME_SOURCE 1 (having (TMU.EDGE 0) 1 { d with tmu := { d.tmu with goodEdges := 1 } }))
/-- Pulse output 0 from instant 0 on, every 5,000 ns. -/
def pulsing (on t : Nat) (d : Device) : Device := timed t (having (TMU.PERIOD_NS 0) 5000 (having (TMU.WIDTH_NS 0) 100 (having (TMU.PO_EN 0) on d)))

theorem witness_TimeIsDisciplined : let a := found id; let e := found (onPps 2000000300) 2000000300; let h := found (fun d => timed 2000000300 (having TMU.TIME_SOURCE 1 d)) 2000000300
    let p := found (pulsing 0 10) 10; let q := found (pulsing 1 5000) 5000; let f := found (having MRU.SP_UP 1)
    a.on TMU.TIME_RUN = false ∧ (found (having TMU.TIME_RUN 1)).on TMU.TIME_RUN = true ∧ (found (having TMU.PAIR_FOLLOW 1)).on TMU.PAIR_FOLLOW = true ∧ (found (having TMU.LOAD_ON_PPS 1)).on TMU.LOAD_ON_PPS = true ∧
    a.running = false ∧ e.running = true ∧ e.rd (TMU.EDGE 0) = 1 ∧ (h.rd (TMU.EDGE 0) = 1 → False) ∧ e.rd (TMU.FILTER_NS 0) ≤ 1000 ∧ e.follows = false ∧ (secErr (e.ptpTime e.now)).natAbs = 300 ∧
    (secErr 2000400000).natAbs = 400000 ∧ a.tmu.holdAt ≠ some a.now ∧ freqMax < (signed 32 0x7FFFFFFF).natAbs ∧ ¬ freqMax < (signed 32 5).natAbs ∧ a.ownFreq = true ∧ h.ownFreq = false ∧
    p.on (TMU.PO_EN 0) = false ∧ ¬ p.rd (TMU.PERIOD_NS 0) ≤ p.rd (TMU.WIDTH_NS 0) ∧ (let z := found (having (TMU.PERIOD_NS 0) 0); z.rd (TMU.PERIOD_NS 0) ≤ z.rd (TMU.WIDTH_NS 0)) ∧ q.on (TMU.PO_EN 0) = true ∧ q.pulseAt 0 (Tbl.getD q.tmu.pulseN 0 0) ≤ q.pulseNow 0 q.now ∧
    h.on TMU.HOLDOVER = false ∧ h.sourceLost h.now = true ∧ f.on MRU.SP_UP = true ∧ f.follows = false ∧ (found (fun d => having MRU.SP_UP 1 (having TMU.PAIR_FOLLOW 1 d))).follows = true ∧
    (found (having TMU.REF_OK 1)).on TMU.REF_OK = true := by decide

theorem test_timeRun_loads : let b := run (.timeRun 0 .pf0 none) (having TMU.TIME_LOAD_LO 500)
    b.now = 500 ∧ b.rd TMU.RUNNING = 1 := by decide
theorem test_timeRun_from_the_partner : let b := run (.timeRun 0 .pf0 (some 777)) (having TMU.PAIR_FOLLOW 1)
    b.now = 777 ∧ b.tmu.following = true := by decide
theorem test_eventEdge : let b := run (.eventEdge 2000000300 3 false 1000) (fun d => having (TMU.EDGE 3) 1 (onPps 2000000300 d))
    b.rd TMU.EVT_PRODUCED = 1 ∧ Tbl.get? b.tmu.evt 0 = some [2000000300, 0, 3, 0] := by decide
theorem test_eventEdge_not_selected : (run (.eventEdge 2000000300 0 true 1000) (onPps 2000000300)).rd TMU.EVT_PRODUCED = 0 := by decide
theorem test_freqAdj : (run (.freqAdj 0 .pf0 1000)).rd TMU.FREQ_APPLIED = 1000 ∧ (run (.freqAdj 0 .pf0 0x7FFFFFFF)).rd TMU.FREQ_ADJ = 0 := by decide
theorem test_phaseAdj_slews : (run (.phaseAdj 0 .pf0 100 false)).rd TMU.PHASE_ADJ_NS = 100 := by decide
theorem test_timeOffset : let b := run (.timeOffset 0 .pf0 2) (fun d => { d with tmu := { d.tmu with offsetLo := some 9 } })
    b.rd TMU.TIME_OFFSET_HI = 2 ∧ b.rd TMU.TIME_OFFSET_LO = 9 := by decide
theorem test_poEn_first_pulse : Tbl.get? (run (.poEn 4100 .pf0 0 true) (pulsing 0 4100)).tmu.pulseN 0 = some 2 := by decide
theorem test_pulseOutput : let b := run (.pulseOutput 5000 0) (fun d => { pulsing 1 5000 d with tmu := { d.tmu with pulseN := [(0, 1)] } })
    b.core.out = [.pulse 0 5000 100 false] ∧ Tbl.get? b.tmu.pulseN 0 = some 2 := by decide
theorem test_holdoverEntry : let b := run (.holdoverEntry 2000000300) (fun d => timed 2000000300 (having TMU.TIME_SOURCE 1 d))
    b.rd TMU.HOLDOVER = 1 ∧ b.ctr 0x004 0x838 = 1 := by decide
theorem test_sat16 : sat16 (-40000) = 0x8000 ∧ sat16 40000 = 0x7FFF ∧ sat16 (-1) = 0xFFFF := by decide
theorem test_timeExchange : (run (.timeExchange 0 5) (having MRU.SP_UP 1)).rd MRU.PARTNER_PRESENT = 1 := by decide
theorem test_timeReferenceChange : (run (.timeReferenceChange 0 false) (having TMU.REF_OK 1)).ctr 0x004 0x868 = 1 := by decide

/-- A holder that streams, with a log. -/
def streams (t : Nat) (d : Device) : Device := timed t (having MRU.CAPO 1 (having MRU.ROLE 1 (having MRU.MIRROR_EN 1 (having MRU.SP_UP 1 { d with mru := { d.mru with logCells := 50816 } }))))
/-- The same with epoch 3 in the log, 5 written, and 5's marker due. -/
def streamed (d : Device) : Device := { streams 750000 d with mru := { (streams 750000 d).mru with log := [(3, { num := 3 }), (4, { num := 4 })], written := 5, toSend := some 5 } }

theorem witness_EpochsStream : let a := found (streams 250000) 250000; let b := found (fun d => { streams 125000000 d with mru := { (streams 125000000 d).mru with base := some 0 } }) 125000000; let k := found streamed 750000
    let r := found (fun d => having MRU.RESYNC 1 (streamed d)) 750000; let z := found (fun d => { streamed d with mru := { (streamed d).mru with replay := some 3 } }) 750000
    a.running = true ∧ (found id).running = false ∧ a.streaming = true ∧ (found (timed 9)).streaming = false ∧ a.mru.logCells ≠ 0 ∧ a.mru.baseAsked = false ∧ a.rd MRU.ROLE = 1 ∧
    ¬ (a.rd MRU.LOG_EPOCHS + a.rewindMark ≤ a.frame - 1) ∧ b.rd MRU.LOG_EPOCHS + b.rewindMark ≤ b.frame - 1 ∧ k.mru.toSend = some 5 ∧ k.on MRU.RESYNC = false ∧ k.mru.replay = none ∧ r.on MRU.RESYNC = true ∧
    z.mru.replay = some 3 ∧ k.on MRU.SP_UP = true ∧ Tbl.get? k.mru.log 3 ≠ none ∧ Tbl.get? k.mru.log 2 = none ∧ k.mru.acked < 4 ∧ 4 ≤ k.mru.written := by decide

theorem test_frameBoundary : let b := run (.frameBoundary 250000 [] [] none) (streams 250000)
    b.mru.written = 1 ∧ b.mru.toSend = some 1 ∧ (Tbl.get? b.mru.log 1).map (·.num) = some 1 := by decide
theorem test_epochMarkerSend : let b := run (.epochMarkerSend 750000 1000 0 none) streamed
    b.core.out = [.soundpost spEpoch 5] ∧ b.rd MRU.EPOCH_SENT = 5 ∧ b.rd MRU.LAST_EPOCH_BYTES = 1000 := by decide
theorem test_epochAckReceive : (run (.epochAckReceive 750000 4) streamed).rd MRU.EPOCH_ACKED = 4 ∧ (run (.epochAckReceive 750000 6) streamed).rd MRU.EPOCH_ACKED = 0 := by decide
theorem test_rewind : let b := run (.rewind 750000 3) streamed
    b.mru.replay = some 3 ∧ b.rd MRU.REPLAYING = 1 ∧ (run (.rewind 750000 2) streamed).mru.baseAsked = true := by decide
theorem test_resyncRequest : (run (.resyncRequest 750000) streamed).mru.baseAsked = true := by decide

/-- A mirroring standby that applied epoch 7, at an instant. -/
def standby (t : Nat) (d : Device) : Device := timed t (having MRU.ROLE 2 (having MRU.MIRROR_EN 1 (having MRU.SP_UP 1 { d with mru := { d.mru with applied := some 7 } })))
/-- Epoch 8, which has a terminal. -/
def epoch8 : Epoch := { num := 8, terms := [(1, some (termIn 3))] }

theorem witness_StandbyApplies : let a := found (standby 1200000) 1200000; let l := found (standby 1245001) 1245001
    a.rd MRU.ROLE = 2 ∧ a.on MRU.MIRROR_EN = true ∧ a.on MRU.SP_UP = true ∧ a.mru.applied = some (epoch8.num - 1) ∧ a.now ≤ (epoch8.num + 1) * 125000 + 120000 ∧ (found id).rd MRU.ROLE ≠ 2 ∧
    (8 + 1) * 125000 + 120000 < l.now ∧ a.now ≤ (8 + 1) * 125000 + 120000 ∧ ¬ (∃ x, l.mru.applied = some x ∧ 8 ≤ x) ∧ ¬ l.now ≤ (8 + 1) * 125000 + 120000 ∧ l.mru.since ≤ 8 ∧ l.mru.judged ≤ 8 ∧
    epoch8.zeroize = false := by
  refine ⟨by decide, by decide, by decide, by decide, by decide, by decide, by decide, by decide, ?_, by decide, by decide, by decide, by decide⟩
  rintro ⟨x, hx, h8⟩
  rw [show (found (standby 1245001) 1245001).mru.applied = some 7 from by decide] at hx
  cases hx; omega

theorem test_epochCommit : let b := run (.epochCommit 1200000 epoch8 true false) (standby 1200000)
    b.rd MRU.EPOCH_APPLIED = 8 ∧ b.core.out = [.soundpost spAck 8] ∧ Tbl.get? b.rng.terms 1 = some (termIn 3) := by decide
theorem test_epochCommit_not_the_next : (run (.epochCommit 1200000 { epoch8 with num := 9 } true false) (standby 1200000)).mru.applied = some 7 := by decide
theorem test_epochDeadline : let b := run (.epochDeadline 1245001 8) (standby 1245001)
    b.ctr 0x005 0x820 = 1 ∧ b.core.out = [.soundpost spRewind 8] := by decide
theorem test_baseMarkerReceive : let b := run (.baseMarkerReceive 1200000 20 { terms := [(4, termIn 2)] } true) (standby 1200000)
    b.mru.applied = some 20 ∧ b.rng.terms = [(4, termIn 2)] ∧ .soundpost spRewind 21 ∈ b.core.out := by decide
theorem test_soundpostRecordReceive : (run (.soundpostRecordReceive 0 false false none) (having MRU.SP_UP 1)).ctr 0x005 0x828 = 1 ∧
    (run (.soundpostRecordReceive 1200000 true true none) (standby 1200000)).mru.overtaken = true := by decide
/-- The holder of the Capo in a pair whose partner is ready. -/
def leased (t : Nat) (d : Device) : Device := timed t (having MRU.CAPO 1 (having MRU.ROLE 1 (having MRU.PAIR_EN 1 (having MRU.PARTNER_READY 1 { d with mru := { d.mru with end_ := some 505000 } }))))
/-- The same, told to release, with its fence set at 380,000 ns. -/
def fencing (t : Nat) (d : Device) : Device := { leased t d with mru := { (leased t d).mru with fenceAt := some 380000 } }
/-- A standby of a lease that ends at 505,000 ns, ready to take over. -/
def readyToTake (t : Nat) (d : Device) : Device :=
  timed t (having MRU.ROLE 2 (having MRU.PAIR_EN 1 (having MRU.MIRROR_EN 1 (having MRU.AUTO_TAKEOVER 1 (having TMU.PAIR_FOLLOW 1 (having TMU.HOLDOVER 1
    { d with mru := { d.mru with end_ := some 505000, resynced := true, followOk := true, applied := some 5 } }))))))
/-- A renewal for the frames up to 8. -/
def renewal8 : PairMsg := { kind := 0, side := true, frame := 8 }
/-- A device of side 0 that claims. -/
def claiming (d : Device) : Device := having MRU.PAIR_EN 1 (having MRU.CLAIM 1 (having MRU.CLAIMING 1 { d with mru := { d.mru with claimEnd := some 6 } }))

theorem witness_LeaseHolds_sent : let a := found (leased 255000) 255000; let f := found (fencing 379000) 379000; let r := found (fun d => { leased 255000 d with mru := { (leased 255000 d).mru with releasing := true } }) 255000
    a.rd MRU.ROLE = 1 ∧ a.mru.fenceAt = none ∧ a.on MRU.CLAIMING = false ∧ a.on MRU.PAIR_EN = true ∧ a.mru.releasing = false ∧ a.on MRU.FORCE_FENCE = false ∧ r.mru.releasing = true ∧
    (found claiming).on MRU.CLAIMING = true ∧ (found (serving 9)).on MRU.PAIR_EN = false ∧ (found (serving 9)).rd MRU.ROLE = 1 ∧ (found (fun d => having MRU.FORCE_FENCE 1 (serving 9 d))).on MRU.FORCE_FENCE = true ∧
    a.on MRU.SP_UP = false ∧ f.mru.fenceAt = some 380000 ∧ 380000 ≤ f.now + 1000 ∧ ¬ 380000 ≤ a.now + 1000 ∧ (found (having MRU.PAIR_EN 1)).rd MRU.ROLE ≠ 1 ∧
    (let p := found (fun d => timed 500001 (having MRU.PARTNER_PRESENT 1 d)) 500001; p.on MRU.PARTNER_PRESENT = true ∧ p.mru.heard + p.rdA MRU.LEASE_FRAMES * 125000 < p.now) := by decide
theorem witness_LeaseHolds_received : let a := found (leased 255000) 255000; let t := found (readyToTake 630000) 630000
    a.mru.lastRenewal ≠ some (renewal8.frame, renewal8.lease) ∧ (found (fun d => having MRU.PAIR_SIDE 1 (leased 255000 d)) 255000).on MRU.PAIR_SIDE = true ∧ a.on MRU.PAIR_SIDE = false ∧ t.rd MRU.ROLE = 2 ∧
    (found (having MRU.PAIR_EN 1)).rd MRU.ROLE = 0 ∧ (found claiming).on MRU.CLAIMING = true ∧ (found claiming).on MRU.PAIR_SIDE = false ∧ renewal8.kind = 0 ∧
    t.mru.end_ = some 505000 ∧ t.now = 505000 + t.mru.margin * 125000 ∧ t.mru.blocked = false ∧ t.ready = true ∧ t.on MRU.AUTO_TAKEOVER = true ∧ (found (standby 9)).ready = false ∧
    ∀ p ∈ t.mru.sweptCtrs ++ t.mru.genCtrs, p.1 / 0x1000 ≠ 0x005 := by decide

theorem test_capoRenewal : let b := run (.capoRenewal 255000 false) (leased 255000)
    b.rd MRU.LEASE_END_FRAME = 6 ∧ b.ctr 0x005 0x860 = 1 ∧ b.mru.end_ = some 755000 := by decide
theorem test_fenceEgressStop : let b := run (.fenceEgressStop 379000) (fencing 379000)
    b.rd MRU.ROLE = 3 ∧ b.capo = false ∧ (run (.fenceEgressStop 378999) (fencing 378999)).rd MRU.ROLE = 1 := by decide
theorem test_beacon : (run (.beacon 0 false) (having MRU.PAIR_EN 1)).core.out = [.lease (some 0xB4110800000000AE) none] := by decide
theorem test_pinMessage_word : PairMsg.word { renewal8 with lease := 4, margin := 1 } = 0xB409080000000847 := by decide
theorem test_partnerAbsent : (run (.partnerAbsent 500001) (fun d => timed 500001 (having MRU.PARTNER_PRESENT 1 d))).rd MRU.PARTNER_PRESENT = 0 := by decide
theorem test_renewalReceive_makes_a_standby : let b := run (.renewalReceive 255000 true renewal8) (fun d => timed 255000 (having MRU.PAIR_EN 1 d))
    b.rd MRU.ROLE = 2 ∧ b.mru.end_ = some 1005000 := by decide
theorem test_pinMessageReceive_bad : (run (.pinMessageReceive 0 (BitVec.ofNat 64 (PairMsg.word renewal8 ^^^ 1)))).ctr 0x005 0x870 = 1 := by decide
theorem test_capoTakeover : let b := run (.capoTakeover 630000 [] false) (readyToTake 630000)
    b.capo = true ∧ b.rd MRU.ROLE = 1 ∧ b.era = 1 ∧ (run (.capoTakeover 629999 [] false) (readyToTake 629999)).capo = false := by decide
theorem test_capoTakeover_blocked : (run (.capoTakeover 630000 [] false) (fun d => having MRU.AUTO_TAKEOVER 0 (readyToTake 630000 d))).ctr 0x005 0x890 = 1 := by decide

/-- A holder with a DRAM pool of the log's size. -/
def logged (d : Device) : Device := having MRU.CAPO 1 (having MRU.LOG_POOL hPool
  { withPool d with cells := { (withPool d).cells with pools := [(1, { handle := hPool, dram := true, wait := false, waitNs := 0, minU := 203264, maxU := 300000, bpU := 1 })] } })

theorem witness_CapoMoves : let a := found (having MRU.PAIR_EN 1); let c := found (fun d => timed 750000 (claiming d)) 750000; let l := found (leased 255000) 255000; let g := found logged
    (found id).on MRU.CLAIM = false ∧ (found id).on MRU.PAIR_EN = false ∧ a.on MRU.PAIR_EN = true ∧ a.rd MRU.ROLE = 0 ∧ l.rd MRU.ROLE = 1 ∧ l.on MRU.CLAIM = false ∧ c.mru.claimEnd = some 6 ∧ 6 * 125000 ≤ c.now ∧
    l.capo = true ∧ a.capo = false ∧ l.on MRU.PARTNER_READY = true ∧ l.mru.fenceAt = none ∧ l.mru.releasing = false ∧ a.on MRU.PARTNER_READY = false ∧ a.on MRU.MIRROR_EN = false ∧ g.logPool = some 1 ∧
    (g.pool? 1).isSome = true ∧ l.logPool = none ∧ (found (standby 9)).on MRU.MIRROR_EN = true := by decide

theorem test_claim : let b := run (.claim 0 .pf0 true false) (having MRU.PAIR_EN 1)
    b.rd MRU.CLAIMING = 1 ∧ b.mru.claimEnd = some 5 := by decide
theorem test_claimEnd : let b := run (.claimEnd 750000) (fun d => timed 750000 (claiming d))
    b.capo = true ∧ b.rd MRU.ROLE = 1 ∧ b.rd MRU.CLAIM = 0 := by decide
theorem test_coldStart : (run (.coldStart 0 .pf0 true false) (fun d => withKey (withTerm 3 d))).rng.terms = [] ∧ (run (.coldStart 0 .pf0 true false) (serving 0)).ctr 0x005 0x808 = 1 := by decide
theorem test_release : (run (.release 0 .pf0 true false) (leased 0)).rd MRU.RELEASE = 1 ∧ (run (.release 0 .pf0 true false)).ctr 0x005 0x8A8 = 1 := by decide
theorem test_mirrorEn_takes_the_log : let b := run (.mirrorEn 0 .pf0 true) logged
    b.rd MRU.MIRROR_EN = 1 ∧ (b.pool? 1).map (·.held) = some (256 * 50816) := by decide
theorem test_forceFence : (run (.forceFence 0 .pf1 true)).rd MRU.FORCE_FENCE = 0 ∧ (run (.forceFence 0 .pf0 true)).rd MRU.FORCE_FENCE = 1 := by decide
theorem test_soundpost : (run (.soundpostTrainingComplete 0) (having MRU.MIRROR_EN 1)).rd MRU.SP_UP = 1 ∧ (run (.soundpostLinkDown 0) (having MRU.SP_UP 1)).rd MRU.SP_UP = 0 := by decide
/-- An image with one empty section, signed by a root whose hash is fused. -/
def img : Image := { words := [0x46657272, 1, 2, 0, 0, 1, 0x2400] ++ List.replicate 25 0 ++ [0x2400, 0x200000, 0, 0], found := [List.replicate 32 0] }
def rooted (d : Device) : Device := { d with fuses := { d.fuses with rootHash := [sha256 (Image.pubkey img)] } }

/-- Whether a signature or a token holds is a free value (log entry 71), so the premises that rest on it are shown to turn on it alone. -/
theorem witness_TrustHolds_boot : (found rooted).bootCheck img =
    if Config.verify (Image.pubkey img) (Image.header img) ((wordBytes (Image.wordsAt img 257 2047)).take (Image.word img 256)) = true then 0 else 7 := by
  have h1 : Image.word img 0 = 0x46657272 ∧ Image.word img 1 = 1 ∧ Image.word img 3 = 0 ∧ Image.word img 4 = 0 := by decide
  have h2 : Image.layoutOk img = true := by decide
  have h3 : (List.range (Image.sections img)).any (fun e => decide (img.found.getD e [] ≠ Image.digest img e)) = false := by decide
  have h4 : (found rooted).fuses.rootHash.getD 0 [] = sha256 (Image.pubkey img) := rfl
  have h5 : (found rooted).fuses.rootState.getD 0 0 = 1 ∧ (found rooted).fuses.svn = 0 := by decide
  obtain ⟨a, b, c, e⟩ := h1
  simp only [Device.bootCheck, a, b, c, e, h2, h3, h4, h5.1, h5.2]
  cases Config.verify (Image.pubkey img) (Image.header img) ((wordBytes (Image.wordsAt img 257 2047)).take (Image.word img 256)) <;> simp [img]
/-- A leaf block is held; a report is being signed; a burn is under way. -/
def leafed (d : Device) : Device := { d with sec := { d.sec with held := some 0, next := 5, signing := some 4 } }
def burning (x : Burn) (d : Device) : Device := having SEC.FUSE_BUSY 1 { d with sec := { d.sec with burns := [x] } }

theorem witness_TrustHolds : let a := found id; let l := found leafed; let r := found (having SEC.REVOKE_SLOT 1); let k := found (fun d => having SEC.REVOKE_SLOT 1 { d with fuses := { d.fuses with rootState := [1, 1, 0] } })
    let v := found (fun d => having SEC.SVN_RAISE_TO 3 (having SEC.IMAGE_SVN 4 d)); let u := found (burning (.leaf 3 false))
    a.rd SEC.BOOT_STATE = 0 ∧ a.bootCheck { img with readable := false } = 1 ∧ a.sec.meas.length = 8 ∧ a.on SEC.ATTEST_BUSY = false ∧ (found (having SEC.ATTEST_BUSY 1)).on SEC.ATTEST_BUSY = true ∧
    (found (having SEC.DEBUG_LEVEL 2)).rd SEC.DEBUG_LEVEL = 2 ∧ a.rd SEC.DEBUG_LEVEL ≠ 2 ∧ l.sec.held = some 0 ∧ l.sec.next < 1024 * (0 + 1) ∧ a.sec.held = none ∧ a.freeBlock 0 = some 0 ∧ l.sec.signing = some 4 ∧
    a.fuses.rootState.getD 0 0 = 1 ∧ (3 ≤ r.rd SEC.REVOKE_SLOT ∨ ∀ i, i < 3 → i ≠ 1 → k.fuses.rootState.getD i 0 ≠ 1) = False ∧ r.on SEC.REVOKE_GO = false ∧ k.mayBurn = true ∧ v.rd SEC.SVN_RAISE_TO ≤ v.rd SEC.IMAGE_SVN ∧
    v.fuses.svn < v.rd SEC.SVN_RAISE_TO ∧ (found (having SEC.SVN_RAISE_TO 3)).rd SEC.IMAGE_SVN < 3 ∧ u.sec.burns = [.leaf 3 false] ∧ u.on SEC.FUSE_BUSY = true ∧ u.mayBurn = true ∧
    (found (fun d => { d with pow := { d.pow with railLow := true } })).mayBurn = false := by
  refine ⟨by decide, by decide, by decide, by decide, by decide, by decide, by decide, by decide, by decide, by decide, by decide, by decide, by decide, ?_, by decide, by decide, by decide, by decide, by decide, by decide,
    by decide, by decide, by decide⟩
  have h : ¬ 3 ≤ (found (having SEC.REVOKE_SLOT 1)).rd SEC.REVOKE_SLOT := by decide
  have g : (found (fun d => having SEC.REVOKE_SLOT 1 { d with fuses := { d.fuses with rootState := [1, 1, 0] } })).fuses.rootState.getD 0 0 = 1 := by decide
  simp only [eq_iff_iff, iff_false, not_or]
  exact ⟨h, fun f => f 0 (by decide) (by decide) g⟩

theorem test_sha256_abc : (sha256 [0x61, 0x62, 0x63]).take 4 = [0xBA, 0x78, 0x16, 0xBF] := by decide
theorem test_boot_fails : let b := run (.boot 0 { readable := false } {})
    b.rd SEC.BOOT_STATE = 3 ∧ b.rd SEC.BOOT_ERROR_A = 1 ∧ b.rd SEC.BOOT_ERROR_B = 2 := by decide
theorem test_attestGo_burns_a_leaf_block : let b := run (.attestGo 0 .pf0 true false)
    b.sec.burns = [.leaf 0 false] ∧ b.rd SEC.ATTEST_BUSY = 1 := by decide
theorem test_attestReportReady : let b := run (.attestReportReady 0) leafed
    b.rd SEC.ATTEST_STATUS = 1 ∧ b.ctr 0x002 0x810 = 1 ∧ b.sec.signing = none := by decide
theorem test_debugGo_without_an_active_root : let b := run (.debugGo 0 .pf0 true 0 false) (fun d => { d with fuses := { d.fuses with rootState := [0, 3, 0] } })
    b.sec.challenge = 1 ∧ b.ctr 0x002 0x830 = 1 ∧ b.rd CPE.DEBUG_OPEN = 0 := by decide
theorem test_revokeGo_of_the_only_root : (run (.revokeGo 0 .keeper true false)).ctr 0x002 0x838 = 1 := by decide
theorem test_svnGo : (run (.svnGo 0 .keeper true false) (fun d => having SEC.SVN_RAISE_TO 3 (having SEC.IMAGE_SVN 4 d))).sec.burns = [.svn 3 false] := by decide
theorem test_fuseBurnComplete : (run (.fuseBurnComplete 0 true) (burning (.leaf 3 false))).fuses.leaf = [3] ∧
    (run (.fuseBurnComplete 0 false) (burning (.leaf 3 false))).sec.burns = [.leaf 3 true] := by decide

/-- The SPM on, with a slice exchange for frame 2, and a copy of SRAM bank 5 that ended in frame 1. -/
def sparing (d : Device) : Device :=
  timed 250000 (having SPM.SPM_EN 1 { d with spm := { d.spm with exch := [{ slice := 3, spare := 32, frame := 2 }], copies := [{ kind := 5, unit := 5, spare := 64, ended := some 200000 }] } })
/-- DRAM unit 0 with more corrected errors than the limit of 0 less 1. -/
def worn (d : Device) : Device := having SPM.SPM_EN 1 (inForce SPM.DRAM_CE_PER_HOUR 1 { d with cells := { d.cells with ceTimes := [(regionIdx 4 0, [0, 0])] } })
/-- No spare of a kind is left. -/
def spareless (kind : Nat) (d : Device) : Device := having SPM.SPM_EN 1 { d with spm := { d.spm with brought := (sparesFor kind 0).map (unitKey kind) } }

theorem witness_SparesComeIn : let a := found (having SPM.SPM_EN 1); let s := found sparing 250000; let w := found worn; let n := found (spareless 2); let p := found (having SPM.AUTO_PLL 1); let q := found (fun d => having SPM.PENDING 1 (having SPM.PENDING_UNIT 4 (having SPM.SPM_EN 1 d)))
    a.inService 1 3 = true ∧ a.inService 1 33 = false ∧ a.isKeeper 0 = true ∧ a.isKeeper 1 = false ∧ a.spareFor 1 3 = some 32 ∧ a.spm.exch = [] ∧ 3 ∈ a.slices ∧ a.spareFor 5 1 = some 64 ∧ n.spareFor 2 0 = none ∧
    unitKey 2 0 ∉ n.spm.seen ∧ s.spm.exch.find? (fun x => x.slice = 3) = some { slice := 3, spare := 32, frame := 2 } ∧ 2 * 125000 ≤ s.now ∧ s.spm.exch.find? (fun x => x.slice = 4) = none ∧
    a.inService 2 0 = true ∧ a.mayExchange 2 = true ∧ (found id).mayExchange 2 = false ∧ w.inService 4 0 = true ∧ w.mayExchange 4 = true ∧ w.regionWorn 4 0 = true ∧ a.spareFor 4 0 = some 32 ∧
    frameOf 200000 < s.frame ∧ s.spm.copies.find? (fun c => decide (c.kind = 5) && decide (c.unit = 5)) = some { kind := 5, unit := 5, spare := 64, ended := some 200000 } ∧ a.inService 8 0 = true ∧ a.spareFor 8 0 = some 2 ∧
    (found (spareless 8)).spareFor 8 0 = none ∧ a.on SPM.AUTO_PLL = false ∧ p.on SPM.AUTO_PLL = true ∧ q.on SPM.PENDING = true ∧ q.mayExchange 8 = true ∧ q.rd SPM.PENDING_UNIT = 4 ∧ a.inService 9 (16 * 64 + 7) = true ∧
    a.spareFor 9 (16 * 64 + 7) = some (16 * 64 + 8) ∧ a.mayExchange 9 = true ∧ a.eyeWorn 3 = false ∧ (found (fun d => timed 10000000000 { d with spm := { d.spm with eyeBad := [(3, 0)] } }) 10000000000).eyeWorn 3 = true := by decide

theorem test_unitFailure_of_a_slice : let b := run (.unitFailure 0 1 3 0 [])
    b.slices.contains 3 = false ∧ b.slices.contains 32 = true ∧ b.ctr 0x006 0x818 = 1 := by decide
theorem test_unitFailure_of_the_keeper : run (.unitFailure 0 3 0 0 []) = found id := by decide
theorem test_sliceExchange : let b := run (.sliceExchange 250000 3) sparing
    b.slices.contains 32 = true ∧ b.ctr 0x006 0x810 = 1 ∧ b.spm.exch = [] := by decide
theorem test_aesLaneExchange_exhausted : (run (.aesLaneExchange 0 0) (spareless 2)).rd SPM.EXHAUSTED = 2 := by decide
theorem test_regionCopyStart : let b := run (.regionCopyStart 0 4 0) worn
    b.spm.copies = [{ kind := 4, unit := 0, spare := 32 }] ∧ b.rd SPM.COPYING = 1 := by decide
theorem test_regionCopyComplete : ((run (.regionCopyComplete 7 4 0) (fun d => timed 7 { d with spm := { d.spm with copies := [{ kind := 4, unit := 0, spare := 32 }] } })).spm.copies.map (·.ended)) = [some 7] := by decide
theorem test_regionRemap : let b := run (.regionRemap 250000 5 5) sparing
    b.ctr 0x006 0x810 = 1 ∧ b.spm.copies = [] := by decide
theorem test_rowRepair : (run (.rowRepair 0 0 8 true)).ctr 0x006 0x838 = 1 ∧ (run (.rowRepair 0 0 7 true)).ctr 0x006 0x838 = 0 := by decide
theorem test_pllWorn : let b := run (.pllWorn 0 4) (having SPM.SPM_EN 1)
    b.rd SPM.PENDING = 1 ∧ b.rd SPM.PENDING_KIND = 8 ∧ b.rd SPM.PENDING_UNIT = 4 := by decide
theorem test_approve : (run (.approve 0 .pf0 true false)).rd SPM.APPROVE = 1 := by decide
theorem test_dfeSwap : let b := run (.dfeSwap 0 64 7 1) (having SPM.SPM_EN 1)
    b.ctr 0x006 0x840 = 1 ∧ unitKey 9 (16 * 64 + 8) ∈ b.spm.brought := by decide

/-- A host that is there, with a DMA read 3 of command 0 since instant 0, a punt record of channel 0, and vector 5 live. -/
def served (t : Nat) (d : Device) : Device :=
  let e := timed t (having HIF.LINK_UP 1 (having HIF.TUNNEL_UP 1 (having HIF.BUS_MASTER 1 (having (HIF.CQ_VECTOR 0) 5 (having (HIF.CQ_PI 0) 1 (asked (cmdOf 0x50 (pay := .reading) (len := 4)) d))))))
  { e with hif := { e.hif with reads := [{ id := 3, cmd := 0, stamp := 0 }], nextRead := 4, unmasked := [5], lastPunt := [(0, 2, 0)] } }
/-- The host lost at instant 0. -/
def lost (t : Nat) (d : Device) : Device := { leased t (having HIF.HOST_LOSS_RELEASE 1 d) with hif := { d.hif with lossAt := some 0 } }

theorem witness_HostComesAndGoes : let a := found (served 40000) 40000; let l := found (lost 5000000000) 5000000000; let m := found (fun d => { served 9 d with hif := { (served 9 d).hif with unmasked := [], pendingMsix := [5] } }) 9
    a.hostUp = true ∧ (found id).hostUp = false ∧ a.on HIF.LINK_UP = true ∧ l.hif.lossAt = some 0 ∧ l.on HIF.HOST_LOSS_RELEASE = true ∧ l.hif.released = false ∧ 0 + l.rd HIF.HOST_LOSS_MS * 1000000 ≤ l.now ∧
    l.rd MRU.ROLE = 1 ∧ l.on MRU.PAIR_EN = true ∧ l.on MRU.PARTNER_READY = true ∧ l.mru.fenceAt = none ∧ l.mru.releasing = false ∧ a.vectorLive 5 = true ∧ (found id).vectorLive 5 = false ∧ Tbl.get? a.hif.told 5 = none ∧
    5 ∈ m.hif.pendingMsix ∧ m.hostUp = true ∧ m.vectorLive 5 = true ∧ a.hif.reads.find? (fun e => e.id = 3) = some { id := 3, cmd := 0, stamp := 0 } ∧ a.now ≤ 0 + 50000 ∧ 0 + 50000 < (found (served 50001) 50001).now ∧
    Tbl.get? a.hif.lastPunt 0 = some (2, 0) ∧ (found (having HIF.IRQ_REPEAT_US 10)).rd HIF.IRQ_REPEAT_US ≠ 0 ∧ (a.cmd? 0).map Cmd.bufLen = some 4 := by decide

theorem test_usb4LinkChange : let b := run (.usb4LinkChange 0 true true 3)
    b.rd HIF.LINK_UP = 1 ∧ b.rd HIF.LINK_GEN = 3 ∧ b.ctr 0x001 0x848 = 1 := by decide
theorem test_busMasterEnableChange_loses_the_host : let b := run (.busMasterEnableChange 9 false) (served 9)
    b.hif.lossAt = some 9 ∧ b.ctr 0x001 0x810 = 1 := by decide
theorem test_hostLossTimeout : (run (.hostLossTimeout 5000000000) (lost 5000000000)).rd MRU.RELEASE = 1 := by decide
theorem test_functionLevelReset : let b := run (.functionLevelReset 9 false) (served 9)
    b.rd (HIF.CQ_PI 0) = 0 ∧ b.hif.unmasked = [] ∧ b.ctr 0x001 0x818 = 1 ∧ run (.functionLevelReset 0 true) = found id := by decide
theorem test_msixSend : let b := run (.msixSend 9 5) (served 9)
    b.core.out = [.msix 5] ∧ Tbl.get? b.hif.told 5 = some 9 ∧ (run (.msixSend 9 6) (served 9)).core.out = [] := by decide
theorem test_msixRepeat : (run (.msixRepeat 10000 5) (fun d => having HIF.IRQ_REPEAT_US 10 { served 10000 d with hif := { (served 10000 d).hif with told := [(5, 0)] } })).core.out = [.msix 5] := by decide
theorem test_msixUnmask : (run (.msixUnmask 9 5 false) (fun d => { served 9 d with hif := { (served 9 d).hif with unmasked := [], pendingMsix := [5] } })).core.out = [.msix 5] := by decide
theorem test_dmaReadComplete : ((run (.dmaReadComplete 40000 3 true [1, 2, 3, 4]) (served 40000)).cmd? 0).map (·.pay) = some (.bytes [1, 2, 3, 4]) := by decide
theorem test_dmaTimeout : let b := run (.dmaTimeout 50001 3) (served 50001)
    (run (.dmaTimeout 50000 3) (served 50000)).hif.reads.length = 1 ∧ (b.cmd? 0).map (·.pay) = some .failed ∧ b.ctr 0x001 0x968 = 1 := by decide
theorem test_dmaWriteRefused : (run (.dmaWriteRefused 9 none) (served 9)).ctr 0x001 0x968 = 1 := by decide

theorem test_wellFormed_commandAccept : WellFormed (.commandAccept 0 0 (List.replicate 16 0) true) = true ∧ WellFormed (.commandAccept 0 0 (List.replicate 15 0) true) = false := by decide
theorem test_wellFormed_injectDescriptor : WellFormed (.injectDescriptor 0 0 (List.replicate 9 0) true true []) = false := by decide
theorem test_wellFormed_ptmSample : WellFormed (.ptmSample 0 (List.replicate 72 0) (List.replicate 36 0)) = true ∧ WellFormed (.ptmSample 0 (List.replicate 71 0) (List.replicate 36 0)) = false ∧
    WellFormed (.ptmSample 0 (List.replicate 72 0) (List.replicate 35 0)) = false := by decide
theorem test_wellFormed_units : WellFormed (.unitFailure 0 1 36 0 []) = false ∧ WellFormed (.unitFailure 0 0 0 0 []) = false ∧ WellFormed (.dfeSwap 0 0 13 0) = true ∧ WellFormed (.dfeSwap 0 0 14 0) = false ∧
    WellFormed (.dfeSwap 0 64 10 0) = false := by decide
theorem test_wellFormed_regions : WellFormed (.regionCopyStart 0 4 271) = true ∧ WellFormed (.regionCopyStart 0 3 0) = false ∧ WellFormed (.regionRemap 0 8 0) = false ∧ WellFormed (.regionCopyComplete 0 7 33) = false := by decide
theorem test_wellFormed_scrubRead : WellFormed (.scrubRead 0 (.cell 8) .clean false) = true ∧ WellFormed (.scrubRead 0 (.cell 4) .clean false) = false ∧ WellFormed (.scrubRead 0 (.cell (2 ^ 28)) .clean false) = false := by decide
theorem test_wellFormed_flexe : WellFormed (.flexeOhFrameReceive 0 0 0 true (oh7 1 false false) false) = true ∧ WellFormed (.flexeOhFrameReceive 0 0 0 true (oh7 2 false false) false) = false ∧
    WellFormed (.flexeOhFrameReceive 0 0 0 true { oh7 0 false false with number := 2 ^ 20 } false) = false := by decide
theorem test_no_word_spells_a_command : decodeTableWord 32 0 = none ∧ decodeTableWord 0 0 = none := by decide
end

section
/-!
PROOFS. COMPLETION_POST (R54, R298, R305, R306, R618, R621, R625): when a decided command waits, what its completion changes where it goes, and the
statement `Obligations.CompletionsPost`.
-/

namespace Sys2Proof.Machine

open Sys2Proof.Safety

variable {d : Device}

/-! ### The two steps of a completion that goes -/

/-- The note of a posted effect that a compatibility-mode device makes for its partner (R54, R55, R546). -/
def Device.noteEffect (c : Cmd) (stamp : Nat) (effect : Bool) (t : Nat) (d : Device) : Device :=
  if d.on MRU.COMPAT && effect && !opFree (Cmd.opcode c) then d.notePosted (frameOf stamp) t else d

/-- Where a completion goes: discarded with its ring (R618), written to its slot, or held while the host is lost (R625). -/
def Device.deliverCpl (x : Cpl) (d : Device) : Device :=
  if 4 ≤ x.cq then d.count 0x001 0x828 1
  else if d.hostUp then (d.writeCpl x).dmaServed 1
  else ({ d with hif := { d.hif with held := d.hif.held ++ [x] } }).count 0x001 0x820 1

/-! ### When COMPLETION_POST changes nothing, and what it does otherwise -/

theorem completionPost_of_no_command (t : Nat) {n : Nat} (h : d.cmd? n = none) : completionPost t n d = d := by
  simp [completionPost, h]

theorem completionPost_of_undecided (t : Nat) {n : Nat} {c : Cmd} (h : d.cmd? n = some c) (hd : Cmd.isDone c = false) :
    completionPost t n d = d := by
  unfold completionPost
  rw [h]
  cases e : c.st with
  | waiting => simp [e]
  | working => simp [e]
  | done status stamp effect handle x y => simp [Cmd.isDone, e] at hd

section Decided

variable {t n status stamp handle x y : Nat} {effect : Bool} {c : Cmd} (h : d.cmd? n = some c) (hs : c.st = .done status stamp effect handle x y)

include hs in
/-- A decided command may be posted once its stamp, its epoch and its clean-up let it (R54, R305, R306). -/
theorem postable_iff_of_decided : d.postable t c = true ↔
    ¬ (t < stamp ∨ d.mayPost (Cmd.opcode c) (frameOf stamp) t effect = false ∨ (status = stOk ∧ d.cleanedUp c stamp t = false)) := by
  simp only [Device.postable, hs, Bool.and_eq_true, Bool.or_eq_true, decide_eq_true_eq, not_or, not_lt, Bool.not_eq_false, not_and, and_assoc, ne_eq,
    ← imp_iff_not_or]

include h hs

theorem completionPost_of_waiting (hw : d.postable t c = false ∨ (d.hostUp = true ∧ d.dmaTurn t 1 = false)) : completionPost t n d = d := by
  unfold completionPost
  simp only [h, hs]
  exact if_pos (by simpa using hw)

theorem completionPost_of_ready (hp : d.postable t c = true) (hturn : ¬ (d.hostUp = true ∧ d.dmaTurn t 1 = false)) :
    completionPost t n d = ((d.noteEffect c stamp effect t).setCmds ((d.noteEffect c stamp effect t).svc.cmds.filter (fun e => e.seq ≠ n))).deliverCpl
      ⟨c.cq, c.cqSlot, d.cplWords c status stamp effect handle x y⟩ := by
  have go : ¬ (!d.postable t c || (d.hostUp && !d.dmaTurn t 1)) = true := by simpa [hp] using hturn
  unfold completionPost
  simp only [h, hs]
  exact if_neg go

end Decided

/-- Outside compatibility mode no effect is noted. -/
theorem Device.noteEffect_of_not_compat (c : Cmd) (stamp : Nat) (effect : Bool) (t : Nat) (h : d.on MRU.COMPAT = false) :
    d.noteEffect c stamp effect t = d := by simp [Device.noteEffect, h]

/-! ### A completion written to its slot -/

/-- The offset of the counter of completions with the status of `x` (R302, R622). -/
def Cpl.counter (x : Cpl) : Nat :=
  if Cpl.status x = stOk then 0x908 else if Cpl.status x = stTimeout then 0x918 else if Cpl.status x = stSwitchover then 0x920 else 0x910

theorem Cpl.counter_mem (x : Cpl) : Cpl.counter x ∈ [0x908, 0x910, 0x918, 0x920] := by
  unfold Cpl.counter
  split_ifs <;> decide

theorem Cpl.counter_of_ok {x : Cpl} (h : Cpl.status x = stOk) : Cpl.counter x = 0x908 := if_pos h

theorem Cpl.counter_of_timeout {x : Cpl} (h : Cpl.status x = stTimeout) : Cpl.counter x = 0x918 := by simp [Cpl.counter, h, stTimeout, stOk]

theorem Cpl.counter_of_switchover {x : Cpl} (h : Cpl.status x = stSwitchover) : Cpl.counter x = 0x920 := by
  simp [Cpl.counter, h, stSwitchover, stTimeout, stOk]

theorem Cpl.counter_of_stale {x : Cpl} (h : Cpl.status x = stStale) : Cpl.counter x = 0x910 := by
  simp [Cpl.counter, h, stStale, stSwitchover, stTimeout, stOk]

section Write

variable (d : Device) (x : Cpl)

theorem Device.writeCpl_ctr (o : Nat) : (d.writeCpl x).ctr 0x001 o =
    ((d.count 0x001 (Cpl.counter x) 1).countIf (decide (Cpl.status x = stStale)) 0x001 0x928).ctr 0x001 o := by
  unfold Device.writeCpl Device.countIf
  dsimp only
  split <;> rfl

theorem Device.writeCpl_hif : (d.writeCpl x).hif = { d.hif with recent := (d.writeCpl x).hif.recent } := by
  simp [Device.writeCpl]

theorem Device.writeCpl_core : (d.writeCpl x).core =
    { d.core with out := d.core.out ++ [.completion x.cq (x.slot % 2 ^ d.rd (HIF.CQ_SIZE_LOG2 x.cq)) x.words] } := by
  simp [Device.writeCpl, Device.emit]

theorem Device.writeCpl_producer : (d.writeCpl x).rd (HIF.CQ_PI x.cq) = (d.rd (HIF.CQ_PI x.cq) + 1) % 2 ^ (HIF.CQ_PI x.cq).width := by
  simp only [Device.writeCpl, Device.rd_wr_same]
  rfl

theorem Device.writeCpl_eq : d.writeCpl x =
    { d with core := { d.core with out := (d.writeCpl x).core.out }, regs := (d.writeCpl x).regs, ctrs := (d.writeCpl x).ctrs, hif := (d.writeCpl x).hif } := by
  unfold Device.writeCpl Device.countIf
  dsimp only
  split <;> rfl

/-- A written completion is counted by its status. -/
theorem Device.writeCpl_counts : Counts 0x001 (Cpl.counter x) 1 d (d.writeCpl x) := by
  have other : ctrKey 0x001 (Cpl.counter x) ≠ ctrKey 0x001 0x928 :=
    (by decide : ∀ o ∈ [0x908, 0x910, 0x918, 0x920], ctrKey 0x001 o ≠ ctrKey 0x001 0x928) _ (Cpl.counter_mem x)
  unfold Counts
  rw [d.writeCpl_ctr, Device.countIf]
  split
  · rw [Device.ctr_count_ne _ _ other, Device.ctr_count_same]
  · exact d.ctr_count_same _ _ _

/-- A completion as STALE is counted a second time, among the stale ones. -/
theorem Device.writeCpl_counts_stale (h : Cpl.status x = stStale) : Counts 0x001 0x928 1 d (d.writeCpl x) := by
  have other : ctrKey 0x001 0x928 ≠ ctrKey 0x001 (Cpl.counter x) := by
    rw [Cpl.counter_of_stale h]
    decide
  unfold Counts
  rw [d.writeCpl_ctr, Device.countIf, if_pos (by simpa using h), Device.ctr_count_same, Device.ctr_count_ne _ _ other]

end Write

/-! ### Where a completion goes -/

section Deliver

variable {x : Cpl}

theorem Device.deliverCpl_of_no_ring (d : Device) (h : 4 ≤ x.cq) : d.deliverCpl x = d.count 0x001 0x828 1 := if_pos h

theorem Device.deliverCpl_of_host_up (h : x.cq < 4) (hup : d.hostUp = true) : d.deliverCpl x = (d.writeCpl x).dmaServed 1 := by
  simp [Device.deliverCpl, Nat.not_le.2 h, hup]

theorem Device.deliverCpl_of_host_lost (h : x.cq < 4) (hup : d.hostUp = false) :
    d.deliverCpl x = ({ d with hif := { d.hif with held := d.hif.held ++ [x] } }).count 0x001 0x820 1 := by
  simp [Device.deliverCpl, Nat.not_le.2 h, hup]

theorem Device.deliverCpl_eq (d : Device) (x : Cpl) : d.deliverCpl x =
    { d with core := { d.core with out := (d.deliverCpl x).core.out }, regs := (d.deliverCpl x).regs, ctrs := (d.deliverCpl x).ctrs,
             hif := (d.deliverCpl x).hif } := by
  unfold Device.deliverCpl
  split
  · rfl
  · split
    · conv_lhs => rw [d.writeCpl_eq]
      rfl
    · rfl

@[simp] theorem Device.deliverCpl_svc (d : Device) (x : Cpl) : (d.deliverCpl x).svc = d.svc := by rw [Device.deliverCpl_eq]

@[simp] theorem Device.deliverCpl_mru (d : Device) (x : Cpl) : (d.deliverCpl x).mru = d.mru := by rw [Device.deliverCpl_eq]

end Deliver

end Sys2Proof.Machine

namespace Sys2Proof.Safety

open Sys2Proof.Machine

/-! ### The note of an effect -/

/-- Nothing differs but the epochs noted as posted, and the count of those posted without an acknowledgement. -/
def NotesOnly (a b : Device) : Prop :=
  b = { a with ctrs := b.ctrs, mru := { a.mru with posted := b.mru.posted, early := b.mru.early } } ∧ Kept [] [(0x005, 0x8B8)] a b

theorem NotesOnly.refl (a : Device) : NotesOnly a a := ⟨rfl, Kept.refl _ _ _⟩

theorem NotesOnly.note {a b : Device} (h : NotesOnly a b) (k : Nat) : NotesOnly a { b with mru := { b.mru with posted := k, early := k } } :=
  ⟨by conv_lhs => rw [h.1], h.2.same rfl rfl⟩

theorem NotesOnly.count {a b : Device} (h : NotesOnly a b) (n : Nat) : NotesOnly a (b.count 0x005 0x8B8 n) :=
  ⟨by conv_lhs => rw [h.1]
      rfl, h.2.count n (by simp)⟩

theorem notesOnly_postUnacked (k : Nat) (d : Device) : NotesOnly d (d.postUnacked k) := by
  unfold Device.postUnacked
  split
  · exact .refl d
  · dsimp only
    split
    · exact .refl d
    · exact ((NotesOnly.refl d).note _).count _

theorem notesOnly_notePosted (k t : Nat) (d : Device) : NotesOnly d (d.notePosted k t) := by
  have unacked : NotesOnly d (if (k + 2) * 125000 + 5000 ≤ t then d.postUnacked (k + 2) else d) := by
    split
    exacts [notesOnly_postUnacked _ d, .refl d]
  unfold Device.notePosted
  generalize (if (k + 2) * 125000 + 5000 ≤ t then d.postUnacked (k + 2) else d) = e at unacked
  dsimp only
  split
  exacts [unacked.note k, unacked]

theorem notesOnly_noteEffect (c : Cmd) (stamp : Nat) (effect : Bool) (t : Nat) (d : Device) : NotesOnly d (d.noteEffect c stamp effect t) := by
  unfold Device.noteEffect
  split
  exacts [notesOnly_notePosted _ _ d, .refl d]

/-- What is noted leaves every counter but its own, and so what is counted after it. -/
theorem NotesOnly.counts {a e b : Device} (h : NotesOnly a e) {p o n : Nat} (hp : ctrKey p o ≠ ctrKey 0x005 0x8B8) (hb : Counts p o n e b) :
    Counts p o n a b := by
  have keeps : e.ctr p o = a.ctr p o := h.2.2 p o (by simpa using hp)
  unfold Counts at hb ⊢
  rw [hb, keeps]

/-! ### What the delivery keeps -/

theorem Kept.weaken {fs fs' : List Fld} {cs cs' : List (Nat × Nat)} {a b : Device} (h : Kept fs cs a b) (hf : fs ⊆ fs') (hc : cs ⊆ cs') :
    Kept fs' cs' a b := ⟨fun f k => h.1 f (fun g m => k g (hf m)), fun p o k => h.2 p o (fun c m => k c (hc m))⟩

/-- A completion is written with the producer index of its ring and the counters of statuses (R302, R622). -/
theorem Kept.writeCpl {fs : List Fld} {cs : List (Nat × Nat)} {a b : Device} (h : Kept fs cs a b) (x : Cpl) (hf : HIF.CQ_PI x.cq ∈ fs)
    (hc : ∀ o ∈ [0x908, 0x910, 0x918, 0x920, 0x928], (0x001, o) ∈ cs) : Kept fs cs a (b.writeCpl x) := by
  have off : Cpl.counter x ∈ [0x908, 0x910, 0x918, 0x920, 0x928] := List.mem_append_left [0x928] (Cpl.counter_mem x)
  have emitted : ∀ r o, Kept fs cs a (Device.emit o { b with hif := { b.hif with recent := r } }) := fun _ _ => h.same rfl rfl
  exact (((emitted _ _).count 1 (hc _ off)).countIf _ (hc 0x928 (by simp))).wr _ ⟨_, hf, rfl⟩

/-- However a completion goes, it touches the producer index of its ring and the counters of completions. -/
theorem Kept.deliverCpl {fs : List Fld} {cs : List (Nat × Nat)} {a b : Device} (h : Kept fs cs a b) (x : Cpl) (hf : HIF.CQ_PI x.cq ∈ fs)
    (hc : ∀ o ∈ [0x820, 0x828, 0x908, 0x910, 0x918, 0x920, 0x928], (0x001, o) ∈ cs) : Kept fs cs a (b.deliverCpl x) := by
  unfold Device.deliverCpl
  split
  · exact h.count 1 (hc _ (by simp))
  · split
    · exact (h.writeCpl x hf (fun o ho => hc o (by simp only [List.mem_cons] at ho ⊢; tauto))).same rfl rfl
    · exact (h.same rfl rfl : Kept fs cs a { b with hif := { b.hif with held := b.hif.held ++ [x] } }).count 1 (hc _ (by simp))

/-! ### A completion that goes -/

section Goes

variable {a e : Device} (h : NotesOnly a e)
include h

theorem NotesOnly.setCmds_kept (l : List Cmd) : Kept [] [(0x005, 0x8B8)] a (e.setCmds l) := h.2.same rfl rfl

theorem NotesOnly.hostUp : e.hostUp = a.hostUp := by rw [h.1]; rfl

variable (x : Cpl) (l : List Cmd)

theorem NotesOnly.deliver_to_no_ring (hq : 4 ≤ x.cq) : let b := (e.setCmds l).deliverCpl x
    Counts 0x001 0x828 1 a b ∧ b.core.out = a.core.out ∧ b.hif = a.hif := by
  rw [Device.deliverCpl_of_no_ring _ hq]
  refine ⟨h.counts (by decide) (Device.ctr_count_same _ _ _ _), ?_, ?_⟩
  · exact congrArg (fun d => d.core.out) h.1
  · exact congrArg (fun d => d.hif) h.1

theorem NotesOnly.deliver_to_lost_host (hq : x.cq < 4) (hup : a.hostUp = false) : let b := (e.setCmds l).deliverCpl x
    b.hif = { a.hif with held := a.hif.held ++ [x] } ∧ Counts 0x001 0x820 1 a b ∧ b.core.out = a.core.out := by
  have lost : (e.setCmds l).hostUp = false := h.hostUp.trans hup
  rw [Device.deliverCpl_of_host_lost hq lost]
  refine ⟨?_, h.counts (by decide) (Device.ctr_count_same _ _ _ _), ?_⟩
  · exact congrArg (fun d => { d.hif with held := d.hif.held ++ [x] }) h.1
  · exact congrArg (fun d => d.core.out) h.1

theorem NotesOnly.deliver_to_host (hq : x.cq < 4) (hup : a.hostUp = true) : let b := (e.setCmds l).deliverCpl x
    b.hif = { a.hif with turn := 2, recent := b.hif.recent } ∧
    b.core.out = a.core.out ++ [.completion x.cq (x.slot % 2 ^ a.rd (HIF.CQ_SIZE_LOG2 x.cq)) x.words] ∧
    b.rd (HIF.CQ_PI x.cq) = (a.rd (HIF.CQ_PI x.cq) + 1) % 2 ^ (HIF.CQ_PI x.cq).width ∧
    Counts 0x001 (Cpl.counter x) 1 a b ∧ (Cpl.status x = stStale → Counts 0x001 0x928 1 a b) := by
  have keeps : ∀ f, e.rd f = a.rd f := fun f => h.2.1 f (by simp)
  have other : ctrKey 0x001 (Cpl.counter x) ≠ ctrKey 0x005 0x8B8 :=
    (by decide : ∀ o ∈ [0x908, 0x910, 0x918, 0x920], ctrKey 0x001 o ≠ ctrKey 0x005 0x8B8) _ (Cpl.counter_mem x)
  have up : (e.setCmds l).hostUp = true := h.hostUp.trans hup
  rw [Device.deliverCpl_of_host_up hq up]
  refine ⟨?_, ?_, ?_, h.counts other (Device.writeCpl_counts _ x), fun hs => h.counts (by decide) (Device.writeCpl_counts_stale _ x hs)⟩
  · have hif : e.hif = a.hif := congrArg (fun d => d.hif) h.1
    simp only [Device.dmaServed]
    rw [Device.writeCpl_hif, Device.setCmds_hif, hif]
  · have core : e.core = a.core := congrArg (fun d => d.core) h.1
    simp only [Device.dmaServed]
    rw [Device.writeCpl_core, Device.setCmds_core, Device.setCmds_rd, core, keeps]
  · exact ((e.setCmds l).writeCpl_producer x).trans (by rw [Device.setCmds_rd, keeps])

theorem NotesOnly.deliver_svc : ((e.setCmds l).deliverCpl x).svc = { a.svc with cmds := l } := by
  have svc : e.svc = a.svc := congrArg (fun d => d.svc) h.1
  simp only [Device.deliverCpl_svc, Device.setCmds, svc]

theorem NotesOnly.deliver_eq : let b := (e.setCmds l).deliverCpl x
    b = { a with core := { a.core with out := b.core.out }, regs := b.regs, ctrs := b.ctrs, svc := b.svc, hif := b.hif,
                 mru := { a.mru with posted := b.mru.posted, early := b.mru.early } } := by
  have framed := Device.deliverCpl_eq (e.setCmds l) x
  dsimp only
  rw [h.deliver_svc, Device.deliverCpl_mru, Device.setCmds_mru]
  generalize (e.setCmds l).deliverCpl x = b at framed ⊢
  rw [framed, h.1]
  rfl

end Goes

/-! ### The statement -/

/-- Settles O38: a decided command that may be posted is noted for the partner, leaves the command list, and its completion goes to its slot, to the
held ones, or with its ring. -/
theorem completionsPost : Obligations.CompletionsPost := by
  unfold Obligations.CompletionsPost
  intro t n s hr
  refine Makes.intro hr (exec_completionPost t n s) ?_
  generalize s.dev.arrive t = a
  refine ⟨completionPost_of_no_command _, fun c hc => ⟨completionPost_of_undecided _ hc, fun status stamp effect h x y hst => ?_⟩⟩
  intro cpl wait
  have wait_iff : wait ↔ a.postable a.now c = false ∨ (a.hostUp = true ∧ a.dmaTurn a.now 1 = false) := by
    rw [← Bool.not_eq_true, postable_iff_of_decided hst]
    tauto
  refine ⟨fun hw => completionPost_of_waiting hc hst (wait_iff.1 hw), fun hw => ?_⟩
  obtain ⟨hp, hturn⟩ := not_or.1 (mt wait_iff.2 hw)
  rw [completionPost_of_ready hc hst (by simpa using hp) hturn]
  have noted := notesOnly_noteEffect c stamp effect a.now a
  have svc : (a.noteEffect c stamp effect a.now).svc = a.svc := congrArg (fun d => d.svc) noted.1
  rw [svc]
  refine ⟨noted.deliver_svc _ _, fun hq hup => ?_, noted.deliver_to_no_ring cpl _, noted.deliver_to_lost_host cpl _, noted.deliver_eq _ _, ?_, fun hcompat => ?_⟩
  · obtain ⟨hif, out, producer, counted, stale⟩ := noted.deliver_to_host cpl (a.svc.cmds.filter (fun e => e.seq ≠ n)) hq hup
    refine ⟨hif, out, producer, fun hs => ?_, fun hs => ?_, fun hs => ?_, fun hs => ⟨?_, stale hs⟩⟩
    · exact Cpl.counter_of_ok hs ▸ counted
    · exact Cpl.counter_of_timeout hs ▸ counted
    · exact Cpl.counter_of_switchover hs ▸ counted
    · exact Cpl.counter_of_stale hs ▸ counted
  · have kept := (noted.setCmds_kept (a.svc.cmds.filter (fun e => e.seq ≠ n))).weaken (List.nil_subset [HIF.CQ_PI c.cq])
      (by decide : [(0x005, 0x8B8)] ⊆ [(0x001, 0x820), (0x001, 0x828), (0x001, 0x908), (0x001, 0x910), (0x001, 0x918), (0x001, 0x920), (0x001, 0x928), (0x005, 0x8B8)])
    exact kept.deliverCpl cpl (List.mem_singleton_self _) (by decide)
  · rw [Device.deliverCpl_mru, Device.setCmds_mru, Device.noteEffect_of_not_compat _ _ _ _ hcompat]

end Sys2Proof.Safety
end

section
/-!
PROOFS. Register writes by master: who lands where, and what PF1's writes come to (R64, R65, R86, R87).
-/

namespace Sys2Proof.Machine

variable {d : Device} {m : Master} {p : Nat} {k : Key} {f : Device → Device}

/-! ### Who may write (R65, R86) -/

theorem mayWrite_pf1 (k : Key) : mayWrite .pf1 k = false := rfl

/-- Every master but PF1 writes K1 fields. -/
theorem mayWrite_k1 (h : m ≠ .pf1) : mayWrite m .k1 = true := by
  cases m with
  | keeper => rfl
  | core => rfl
  | pf0 => rfl
  | pf1 => exact absurd rfl h

@[simp] theorem Device.asMaster_pf1 : d.asMaster .pf1 k p f = d.refuse p := d.asMaster_mayNot p f (mayWrite_pf1 k)

theorem Device.asMaster_k1 (h : m ≠ .pf1) : d.asMaster m .k1 p f = f d := d.asMaster_may p f (mayWrite_k1 h)

theorem Device.colliding_lost (h : m ≠ .pf1) : d.colliding m .k1 p true f = d.writeLost p 1 := Device.asMaster_k1 h

theorem Device.colliding_alone (h : m ≠ .pf1) : d.colliding m .k1 p false f = f d := Device.asMaster_k1 h

/-! ### Where a write lands (R64, R65) -/

theorem Device.landing_unmapped (hp : populated p = false) : d.landing m p f = d.count 0x000 0x810 1 := by simp [Device.landing, hp]

theorem Device.landing_pf1 (hp : populated p = true) : d.landing .pf1 p f = d.refuse p := by simp [Device.landing, hp]

theorem Device.landing_taken (hp : populated p = true) (hm : m ≠ .pf1) : d.landing m p f = f d := by simp [Device.landing, hp, hm]

/-! ### The writes of PF1 -/

/-- What any 32-bit register write by PF1 at page `p` comes to: counted as unmapped or as refused (R64, R65). -/
def Device.dropUser (p : Nat) (d : Device) : Device := if populated p then d.refuse p else d.count 0x000 0x810 1

theorem Device.dropUser_populated (hp : populated p = true) : d.dropUser p = d.refuse p := if_pos hp

theorem Device.dropUser_unmapped (hp : populated p = false) : d.dropUser p = d.count 0x000 0x810 1 := if_neg (by simp [hp])

theorem Device.landing_user : d.landing .pf1 p f = d.dropUser p := by
  cases hp : populated p with
  | false => rw [landing_unmapped hp, dropUser_unmapped hp]
  | true => rw [landing_pf1 hp, dropUser_populated hp]

theorem Device.winStart_user (w op n : Nat) : d.winStart .pf1 p w op n = d.dropUser p := by
  cases hp : populated p with
  | false => rw [dropUser_unmapped hp]; simp [Device.winStart, hp]
  | true => rw [dropUser_populated hp]; simp [Device.winStart, hp]

theorem Device.writeWord_user (t w : Nat) (b : BusWord) (x : Aside) : d.writeWord t .pf1 p w b x = d.dropUser p := by
  unfold Device.writeWord
  exact Device.landing_user

theorem hostLoads_user (w : Nat) (lo : BusWord) (hi : Option BusWord) : hostLoads .pf1 p w lo hi d = d := if_pos rfl

theorem Device.loadCounter_user (o v : Nat) : d.loadCounter .pf1 p o v = d := if_neg (by simp)

theorem onLoaded_idle {load : Device → Device} (t : Nat) (s : State) (h : ∀ d, load d = d) : onLoaded t load f s = onDevice t f s := by
  simp only [onLoaded, onDevice, h]

/-- A command whose effect is a refusal at a populated page comes to what every write of PF1 there does. -/
theorem onDevice_refused (t : Nat) (s : State) (hp : populated p = true) (hf : ∀ d, f d = d.refuse p) :
    onDevice t f s = onDevice t (Device.dropUser p) s := by
  simp only [onDevice, hf, Device.dropUser_populated hp]

theorem onDevice_dropped (t : Nat) (s : State) (hf : ∀ d, f d = d.dropUser p) : onDevice t f s = onDevice t (Device.dropUser p) s := by
  simp only [onDevice, hf]

theorem populated_treePage {x : Nat} (h : x < 64) : populated (treePage x) = true := by
  unfold populated treePage
  simp
  omega

theorem populated_quad {q : Nat} (h : q < 16) : populated (0x180 + q) = true := by
  unfold populated
  simp
  omega

/-- Every register write by PF1 has the one effect. -/
theorem exec_userWrite {c : Instr} {t p : Nat} (h : userWrite c = some (t, p)) (s : State) : exec c s = onDevice t (Device.dropUser p) s := by
  cases c
  case registerWrite t m p w lo hi x =>
    cases m <;> cases hi <;> cases h
    exact (exec_registerWrite ..).trans
      ((onLoaded_idle _ s fun _ => hostLoads_user ..).trans (onDevice_dropped _ s fun _ => Device.writeWord_user ..))
  case counterHighWrite t m p w v inc =>
    cases m <;> cases h
    exact (exec_counterHighWrite ..).trans
      ((onLoaded_idle _ s fun _ => Device.loadCounter_user ..).trans (onDevice_dropped _ s fun _ => Device.landing_user))
  case counterLowWrite t m p w v | watchThresholdWrite t m p n hi | arm t m p v overlap =>
    cases m <;> cases h
    exact onDevice_dropped _ s fun _ => Device.landing_user
  case windowRead t m p win words | windowWrite t m p win words | windowReadClearValid t m p win words =>
    cases m <;> cases h
    exact onDevice_dropped _ s fun _ => Device.winStart_user ..
  case i2cGo t m g v hw =>
    cases m <;> cases h
    exact onDevice_refused _ s (populated_treePage (by omega)) fun _ => rfl
  case portBringup t m p | injectOne t m p hw =>
    cases m <;> cases h
    exact onDevice_refused _ s (populated_quad (by omega)) fun _ => rfl
  case ringConsumed t m v | vlogConsumed t m v | discConsumed t m v | flogConsumed t m v | evtConsumed t m v | txsConsumed t m v | traceConsumed t m v =>
    cases m <;> cases h
    exact onDevice_refused _ s rfl fun _ => rfl
  case tripRelease t m v r hw | quietCh t m i v | quietTree t m i v | cellAddr t m v | calReq t m g v | timeRun t m n | poEn t m o v | phaseAdj t m v hw
      | freqAdj t m v | claim t m v hw | coldStart t m v hw | release t m v hw | forceFence t m v | mirrorEn t m v | tagEn t m v
      | attestGo t m v hw | debugGo t m v l hw | revokeGo t m v hw | svnGo t m v hw
      | approve t m v hw =>
    cases m <;> cases h
    exact onDevice_refused _ s rfl fun _ => rfl
  case timeOffset t m v =>
    cases m <;> cases h
    exact (exec_timeOffset ..).trans (onDevice_refused _ s rfl fun _ => Device.asMaster_pf1)
  case puntChannelDisable t m i =>
    cases m <;> cases h
    exact (exec_puntChannelDisable ..).trans (onDevice_refused _ s rfl fun _ => Device.asMaster_pf1)
  case injectChannelDisable t m i tags =>
    cases m <;> cases h
    exact (exec_injectChannelDisable ..).trans (onDevice_refused _ s rfl fun _ => Device.asMaster_pf1)
  all_goals cases h

end Sys2Proof.Machine
end

section
/-!
PROOFS. The register page's own commands: counter reads and loads (R69, R70), ARM and thresholds (R71, R74, R82), what PF1's writes come to (R65, R87),
and the state after reset (R642).
-/

namespace Sys2Proof.Machine

variable {d : Device} {m : Master} {p w : Nat}

/-! ### Counter reads (R69) -/

theorem counterLowRead_of_mayNot (t : Nat) (h : d.mayReadAt m p (4 * w) = false) : counterLowRead t m p w d = d.answer 0 := by
  simp [counterLowRead, h]

theorem counterLowRead_of_may (t : Nat) (h : d.mayReadAt m p (4 * w) = true) : counterLowRead t m p w d =
    ({ d with pages := { d.pages with
        captured := Tbl.set d.pages.captured (heldKey m p (4 * w)) (d.wide p (4 * w) / 2 ^ 32 % 2 ^ 32) } }).answer (d.wide p (4 * w) % 2 ^ 32) := by
  simp [counterLowRead, h]

theorem counterHighRead_of_mayNot (t : Nat) (h : d.mayReadAt m p (4 * w) = false) : counterHighRead t m p w d = d.answer 0 := by
  simp [counterHighRead, h]

theorem counterHighRead_of_captured (t : Nat) {x : Nat} (h : d.mayReadAt m p (4 * w) = true)
    (hx : Tbl.get? d.pages.captured (heldKey m p (4 * w)) = some x) : counterHighRead t m p w d =
    ({ d with pages := { d.pages with captured := d.pages.captured.erase (heldKey m p (4 * w)) } }).answer x := by
  simp [counterHighRead, h, hx]

theorem counterHighRead_of_live (t : Nat) (h : d.mayReadAt m p (4 * w) = true) (hx : Tbl.get? d.pages.captured (heldKey m p (4 * w)) = none) :
    counterHighRead t m p w d = d.answer (d.wide p (4 * w) / 2 ^ 32 % 2 ^ 32) := by
  simp [counterHighRead, h, hx]

theorem Device.answer_busData (v : Nat) : (d.answer v).core.busData.toNat = v % 2 ^ 32 := BitVec.toNat_ofNat _ _

/-- PF1 reads no counter while MON_USER_EN is 0. -/
theorem mayReadAt_user_off (h : d.on MON.MON_USER_EN = false) (p o : Nat) : d.mayReadAt .pf1 p o = false := by simp [Device.mayReadAt, h]

theorem bitAliasWrite_user {t w b : Nat} {v full hw : Bool} {x : Aside} : bitAliasWrite t .pf1 p w b v full hw x d = d := by simp [bitAliasWrite]

/-! ### Counter loads (R70) -/

theorem populated_of_counterWrites {o : Nat} (h : counterWrites p o = true) : populated p = true := by
  simp only [counterWrites, counterAt, Bool.and_eq_true] at h
  exact h.1.1.1

theorem counterLowWrite_taken (t v : Nat) (hm : m ≠ .pf1) (h : counterWrites p (4 * w) = true) : counterLowWrite t m p w v d =
    { d with pages := { d.pages with held := Tbl.set d.pages.held (heldKey m p (4 * w)) v } } :=
  (Device.landing_taken (populated_of_counterWrites h) hm).trans (if_pos h)

theorem Device.loadCounter_taken {o : Nat} (v : Nat) (hm : m ≠ .pf1) (h : counterWrites p o = true) : d.loadCounter m p o v =
    ({ d with pages := { d.pages with held := d.pages.held.erase (heldKey m p o) } }).setCtr p o
      (v * 2 ^ 32 + (Tbl.get? d.pages.held (heldKey m p o)).getD (d.ctr p o % 2 ^ 32)) := if_pos ⟨h, hm⟩

theorem counterHighWrite_taken (t v inc : Nat) (hm : m ≠ .pf1) (h : counterWrites p (4 * w) = true) :
    counterHighWrite t m p w v inc d = (d.loadCounter m p (4 * w) v).count p (4 * w) inc :=
  (Device.landing_taken (populated_of_counterWrites h) hm).trans (if_pos h)

/-- The counter that a high-word write loads, with the increments of its window. -/
theorem Device.loadCounter_ctr {o : Nat} (v inc : Nat) (hm : m ≠ .pf1) (h : counterWrites p o = true) : ((d.loadCounter m p o v).count p o inc).ctr p o =
    (v * 2 ^ 32 + (Tbl.get? d.pages.held (heldKey m p o)).getD (d.ctr p o % 2 ^ 32) + inc) % 2 ^ 64 := by
  rw [Device.loadCounter_taken v hm h, Device.ctr_count_same, Device.ctr_setCtr_same, Nat.mod_add_mod]

/-- A load of a counter that uses held words up, with its increments, changes the counters and the held words alone. -/
theorem Device.load_eq (d : Device) (l : Tbl Nat) (p o v n : Nat) : let b := ({ d with pages := { d.pages with held := l } }.setCtr p o v).count p o n
    b = { d with ctrs := b.ctrs, pages := { d.pages with held := b.pages.held } } := rfl

end Sys2Proof.Machine

namespace Sys2Proof.Safety

open Sys2Proof.Machine

/-! ### Where a write lands, and what PF1's writes come to -/

theorem unmapped_landing {p : Nat} (hp : populated p = false) (m : Master) (f : Device → Device) (a : Device) : Unmapped a (a.landing m p f) := by
  rw [Device.landing_unmapped hp]
  exact unmapped a

theorem refused_landing {p : Nat} (hp : populated p = true) (f : Device → Device) (a : Device) : Refused p a (a.landing .pf1 p f) := by
  rw [Device.landing_pf1 hp]
  exact refused p a

theorem dropUser_effect (p : Nat) (a : Device) : if populated p then Refused p a (a.dropUser p) else Unmapped a (a.dropUser p) := by
  cases hp : populated p with
  | false => rw [Device.dropUser_unmapped hp]; exact unmapped a
  | true => rw [Device.dropUser_populated hp]; exact refused p a

/-- What a counter counts in two steps, it counts in all. -/
theorem Counts.trans {p o n k : Nat} {a b c : Device} (h : Counts p o n a b) (h' : Counts p o k b c) : Counts p o (n + k) a c := by
  unfold Counts at *
  rw [h', h, Nat.mod_add_mod, Nat.add_assoc]

theorem Only.trans {fs : List Fld} {cs : List (Nat × Nat)} {a b c : Device} (h : Only fs cs a b) (h' : Only fs cs b c) : Only fs cs a c :=
  ⟨by rw [h'.1, h.1], h.2.trans h'.2⟩

/-- Two 32-bit writes of PF1 count two. -/
theorem dropUser_twice (p : Nat) (a : Device) : if populated p
    then Counts p 0x808 2 a ((a.dropUser p).dropUser p) ∧ Only [] [(p, 0x808)] a ((a.dropUser p).dropUser p)
    else Counts 0x000 0x810 2 a ((a.dropUser p).dropUser p) ∧ Only [] [(0x000, 0x810)] a ((a.dropUser p).dropUser p) := by
  have h1 := dropUser_effect p a
  have h2 := dropUser_effect p (a.dropUser p)
  cases hp : populated p <;> simp only [hp, if_true, Bool.false_eq_true, if_false] at h1 h2 ⊢
  all_goals exact ⟨h1.1.trans h2.1, h1.2.trans h2.2⟩

theorem registerWrite_user (t p w : Nat) (x z : BusWord) (y : Aside) (d : Device) :
    registerWrite t .pf1 p w x (some z) y d = if w % 2 = 0 then (d.dropUser p).dropUser p else d.dropUser p := by
  simp only [registerWrite, Device.writeWord_user]

/-- Settles O13: every register write by PF1 has the one effect `Device.dropUser`, two of them where the write is of 64 bits. -/
theorem userFunctionWritesNothing : Obligations.UserFunctionWritesNothing := by
  unfold Obligations.UserFunctionWritesNothing
  refine ⟨fun c t p s h hr => Makes.intro hr (exec_userWrite h s) (dropUser_effect p _), fun t p w x z y s hr => ?_,
    fun t p w i v full hw y s hr => Makes.intro hr (exec_bitAliasWrite ..) bitAliasWrite_user, fun t p w s hr => ⟨?_, ?_⟩⟩
  · have load : exec (.registerWrite t .pf1 p w x (some z) y) s = onLoaded t id (fun d => registerWrite d.now .pf1 p.val w.val x (some z) y d) s :=
      (exec_registerWrite ..).trans (congrArg (fun l => onLoaded t l _ s) (funext fun d => hostLoads_user w.val x (some z)))
    refine MakesLoaded.intro hr load ?_
    simp only [registerWrite_user]
    by_cases even : w.val % 2 = 0
    · simp only [if_pos even]
      exact dropUser_twice p.val _
    · simp only [if_neg even]
      exact dropUser_effect p.val _
  · exact Makes.intro hr (exec_counterLowRead ..) fun off => counterLowRead_of_mayNot _ (mayReadAt_user_off off _ _)
  · exact Makes.intro hr (exec_counterHighRead ..) fun off => counterHighRead_of_mayNot _ (mayReadAt_user_off off _ _)

/-! ### Counter reads -/

/-- Settles O7: a low-word read answers and captures, a high-word read answers what was captured or the live word. -/
theorem counterReads : Obligations.CounterReads := by
  unfold Obligations.CounterReads
  refine ⟨fun t m p w s hr => Makes.intro hr (exec_counterLowRead ..) ?_, fun t m p w s hr => Makes.intro hr (exec_counterHighRead ..) ?_⟩
  all_goals generalize s.dev.arrive t = a
  · cases may : a.mayReadAt m p.val (4 * w.val) with
    | false =>
      rw [counterLowRead_of_mayNot _ may]
      exact ⟨rfl, by simp, fun _ => ⟨rfl, rfl⟩, fun _ _ => rfl⟩
    | true =>
      rw [counterLowRead_of_may _ may]
      refine ⟨rfl, fun _ => ⟨?_, Tbl.get?_set_same _ _ _⟩, by simp, fun k hk => Tbl.get?_set_ne _ _ hk⟩
      rw [Device.answer_busData, Nat.mod_mod]
  · cases may : a.mayReadAt m p.val (4 * w.val) with
    | false =>
      rw [counterHighRead_of_mayNot _ may]
      exact ⟨rfl, by simp, fun _ => ⟨rfl, rfl⟩, fun _ _ => rfl⟩
    | true =>
      cases held : Tbl.get? a.pages.captured (halfOf m p w) with
      | none =>
        rw [counterHighRead_of_live _ may held]
        refine ⟨rfl, fun _ => ⟨by simp, fun _ => ?_⟩, by simp, fun _ _ => rfl⟩
        rw [Device.answer_busData, Nat.mod_mod]
      | some x =>
        rw [counterHighRead_of_captured _ may held]
        refine ⟨rfl, fun _ => ⟨fun y hy => ?_, by simp⟩, by simp, fun k hk => Tbl.get?_erase_ne _ hk⟩
        cases hy
        exact ⟨Device.answer_busData _, Tbl.get?_erase_same _ _⟩

/-! ### Counter loads -/

/-- Settles O8: a low word is held; the high word loads all 64 bits and uses the held word up. -/
theorem counterLoads : Obligations.CounterLoads := by
  unfold Obligations.CounterLoads
  refine ⟨fun t m p w v s hr => Makes.intro hr (exec_counterLowWrite ..) ?_, fun t m p w v inc s hr => MakesLoaded.intro hr (exec_counterHighWrite ..) ?_⟩
  all_goals
    generalize s.dev.arrive t = a
    refine ⟨fun hp => ?_, fun hp hm => ?_, fun hm hw => ?_⟩
  · exact unmapped_landing hp _ _ a
  · subst hm
    exact refused_landing hp _ a
  · rw [counterLowWrite_taken _ _ hm hw]
    exact ⟨rfl, Tbl.get?_set_same _ _ _, fun k hk => Tbl.get?_set_ne _ _ hk⟩
  · exact unmapped_landing hp _ _ a
  · subst hm
    exact refused_landing hp _ a
  · have loaded := a.loadCounter_ctr v.toNat inc hm hw
    rw [counterHighWrite_taken _ _ _ hm hw]
    refine ⟨fun lo hlo => ?_, fun hlo => ?_, ?_⟩
    · rw [loaded, hlo, Option.getD_some]
    · rw [loaded, hlo, Option.getD_none]
    · rw [Device.loadCounter_taken _ hm hw]
      refine ⟨Tbl.get?_erase_same _ _, fun k hk => Tbl.get?_erase_ne _ hk, Device.load_eq .., ?_⟩
      have kept : Kept [] [(p.val, 4 * w.val)] a { a with pages := { a.pages with held := a.pages.held.erase (heldKey m p.val (4 * w.val)) } } :=
        (Kept.refl _ _ a).same rfl rfl
      exact (kept.setCtr _ (List.mem_singleton_self _)).count _ (List.mem_singleton_self _)

/-! ### The state after reset -/

/-- Settles O3: the reset device lists no register and no counter, so each reads its reset value. -/
theorem resetState : Obligations.ResetState :=
  ⟨rfl, rfl, rfl, fun _ => ⟨rfl, rfl⟩, fun _ _ => rfl, rfl, rfl, rfl, fun _ => rfl, rfl, fun _ => rfl⟩

end Sys2Proof.Safety
end

section
/-!
PROOFS. ARM and the thresholds of counter watches (R71, R74, R82), and the consumed indices of the rings (R184, R190, R235, R264, R268, R415, R510, R570).
-/

namespace Sys2Proof.Machine

variable {d : Device} {m : Master} {p n : Nat}

/-! ### ARM (R71, R74) -/

theorem armWrite_taken (t : Nat) (v overlap : Bool) (hp : populated p = true) (hm : m ≠ .pf1) : armWrite t m p v overlap d =
    if (pageInfo p).staged = 0 then d else if overlap && d.pages.applied.contains p then d.writeLost p 1 else d.wr (PG.ARM p) (b2n v) :=
  Device.landing_taken hp hm

/-- A field of one bit written as a truth value reads it. -/
theorem Device.on_wr_b2n {f : Fld} (v : Bool) (hf : f.width = 1) : (d.wr f (b2n v)).on f = v := by
  unfold Device.on
  rw [Device.rd_wr_same, hf]
  cases v <;> rfl

/-! ### Thresholds (R82) -/

theorem Device.before_threshLo : d.before (PG.THRESH_LO p n) = (Tbl.get? d.pages.threshLo (4 * p + n)).getD (d.rd (PG.THRESH_LO p n)) := by
  have watch : (968 + 16 * n - 960) / 16 = n := by omega
  simp [Device.before, PG.THRESH_LO, watch]

theorem watchThresholdWrite_taken (t hi : Nat) (hp : populated p = true) (hm : m ≠ .pf1) : watchThresholdWrite t m p n hi d =
    (({ d with pages := { d.pages with threshLo := d.pages.threshLo.erase (4 * p + n) } }).wr (PG.THRESH_LO p n)
      ((Tbl.get? d.pages.threshLo (4 * p + n)).getD (d.rd (PG.THRESH_LO p n)))).wr (PG.THRESH_HI p n) hi := by
  rw [← Device.before_threshLo]
  exact Device.landing_taken hp hm

theorem threshLo_ne_threshHi : fkey (PG.THRESH_LO p n) ≠ fkey (PG.THRESH_HI p n) := by
  simp only [fkey, PG.THRESH_LO, PG.THRESH_HI]
  omega

end Sys2Proof.Machine

namespace Sys2Proof.Safety

open Sys2Proof.Machine

/-- Settles O10: on a populated page a privileged master's ARM is lost, ignored or taken, and a threshold takes both words. -/
theorem armAndWatchWrites : Obligations.ArmAndWatchWrites := by
  unfold Obligations.ArmAndWatchWrites
  refine ⟨fun t m p v overlap s hr => Makes.intro hr (exec_arm ..) ?_, fun t m p n hi s hr => Makes.intro hr (exec_watchThresholdWrite ..) ?_⟩
  all_goals generalize s.dev.arrive t = a
  · refine ⟨fun hp => unmapped_landing hp _ _ a, fun hp hm => hm ▸ refused_landing hp _ a, fun hp hm none => ?_, fun hp hm staged => ?_⟩
    · rw [armWrite_taken _ _ _ hp hm, if_pos none]
    · rw [armWrite_taken _ _ _ hp hm, if_neg staged]
      by_cases clash : overlap = true ∧ p.val ∈ a.pages.applied
      · rw [if_pos clash, if_pos (by simpa using clash)]
        exact lost p.val a
      · rw [if_neg clash, if_neg (by simpa using clash)]
        exact ⟨Device.on_wr_b2n v rfl, (Only.refl _ _ a).wr _ ⟨_, List.mem_singleton_self _, rfl⟩⟩
  · refine ⟨fun hp => unmapped_landing hp _ _ a, fun hp hm => hm ▸ refused_landing hp _ a, fun hp hm => ?_⟩
    rw [watchThresholdWrite_taken _ _ hp hm]
    refine ⟨?_, ?_, Tbl.get?_erase_same _ _, rfl, ?_⟩
    · exact (Device.rd_wr_same _ _ _).trans (Nat.mod_eq_of_lt hi.isLt)
    · rw [Device.rd_wr_ne _ _ threshLo_ne_threshHi, Device.rd_wr_same]
      rfl
    · have kept : Kept [PG.THRESH_LO p.val n.val, PG.THRESH_HI p.val n.val] [] a
          { a with pages := { a.pages with threshLo := a.pages.threshLo.erase (4 * p.val + n.val) } } := (Kept.refl _ _ a).same rfl rfl
      exact (kept.wr _ ⟨_, by simp, rfl⟩).wr _ ⟨_, by simp, rfl⟩

/-! ### Consumed indices -/

/-- A ring's consumed index, written with a value of its range that the field holds, releases entries or is refused. -/
theorem releases (produced consumed : Fld) {size v : Nat} (hv : v < 2 * size) (hf : v < 2 ^ consumed.width) (m : Master) (p : Nat) (a : Device) :
    Releases m p produced consumed size v a
      (a.asMaster m .k1 p fun d => if unread (d.rd produced) (v % (2 * size)) (2 * size) ≤ size then d.wr consumed v else d.refuse p) := by
  rw [Nat.mod_eq_of_lt hv]
  refine ⟨fun hm => ?_, fun hm room => ?_, fun hm full => ?_⟩
  · subst hm
    exact refused p a
  · rw [Device.asMaster_k1 hm, if_pos room]
    exact ⟨(a.rd_wr_same _ _).trans (Nat.mod_eq_of_lt hf), (Only.refl _ _ a).wr _ ⟨_, List.mem_singleton_self _, rfl⟩⟩
  · rw [Device.asMaster_k1 hm, if_neg (Nat.not_le.2 full)]
    exact refused p a

/-- Settles O19: the seven consumed indices follow the one rule, each for its own ring. -/
theorem consumedIndices : Obligations.ConsumedIndices := fun _ m _ hr =>
  ⟨fun v => Makes.intro hr (exec_ringConsumed ..) (releases GEN.RING_PRODUCED GEN.RING_CONSUMED v.isLt v.isLt m _ _),
    fun v => Makes.intro hr (exec_vlogConsumed ..) (releases DEV.VLOG_PRODUCED DEV.VLOG_CONSUMED v.isLt v.isLt m _ _),
    fun v => Makes.intro hr (exec_discConsumed ..) (releases RGU.DISC_PRODUCED RGU.DISC_CONSUMED v.isLt v.isLt m _ _),
    fun v => Makes.intro hr (exec_flogConsumed ..) (releases BPM.FLOG_PRODUCED BPM.FLOG_CONSUMED v.isLt v.isLt m _ _),
    fun v => Makes.intro hr (exec_evtConsumed ..) (releases TMU.EVT_PRODUCED TMU.EVT_CONSUMED v.isLt v.isLt m _ _),
    fun v => Makes.intro hr (exec_txsConsumed ..) (releases TMU.TXS_PRODUCED TMU.TXS_CONSUMED v.isLt v.isLt m _ _),
    fun v => Makes.intro hr (exec_traceConsumed ..) (releases MON.TRACE_PRODUCED MON.TRACE_CONSUMED v.isLt v.isLt m _ _)⟩

end Sys2Proof.Safety
end

section
/-!
PROOFS. Why `Obligations.RegisterWrites` fails: it says of every `Fld`, also of one that stands in no field table, that a write of a shadow leaves its
applied copy alone.
-/

namespace Sys2Proof.Safety

open Sys2Proof.Machine

/-- Outside the pages that an exchange or a burn writes, what a command makes of the device reads as its effect leaves it. -/
theorem MakesLoaded.reads {c : Instr} {s : State} {t : Nat} {E : Device → Device → Prop} {load g : Device → Device} (h : MakesLoaded load c s t E)
    (hr : s.inReset = false) (hx : exec c s = onLoaded t load g s) {f : Fld} (hf : ¬ exchangePage (fkey f / 0x8000)) :
    ∃ b, E (s.dev.arrive t) b ∧ b.rd f = (g (s.dev.arrive t)).rd f := by
  obtain ⟨b, hb, hE⟩ := h
  have same : Device.after s.dev (load (s.dev.arrive t)) b = Device.after s.dev (load (s.dev.arrive t)) (g (s.dev.arrive t)) := by
    rw [hx, onLoaded_next t load g hr] at hb
    simpa using congrArg State.dev (Host.Outcome.next.inj hb).symm
  refine ⟨b, hE, ?_⟩
  rw [← Device.after_rd s.dev (load (s.dev.arrive t)) b hf, same, Device.after_rd _ _ _ hf]

/-- TIMEOUT_US 100 and TERM_LIMIT 64 as one word. -/
def timeoutWord : BusWord := { v := 0x00400064 }

/-- No table has this field: it stands 0x200 below TIMEOUT_US of tree 0, so that TIMEOUT_US stands where its applied copy would. -/
def unlistedField : Fld := ⟨0x040, 0x200, 0, 10, .S, .k1, 250⟩

theorem unlistedField_rdA (d : Device) : d.rdA unlistedField = d.rd (TPE.TIMEOUT_US 0) := rfl

/-- The machine after reset takes the word into the shadow TIMEOUT_US. -/
theorem timeoutWord_taken : (registerWrite 0 .keeper 0x040 0x100 timeoutWord none {} (State.reset.dev.arrive 0)).rd (TPE.TIMEOUT_US 0) = 100 := by decide

/-- Refutes O9: on the machine after reset the keeper writes 100 to TIMEOUT_US of tree 0 (reset value 250), and the "applied copy" of the unlisted field at
0x200 of that page, which the statement's "no applied copy changes" speaks of too, reads 100 in place of 250. -/
theorem not_registerWrites : ¬ Obligations.RegisterWrites := by
  unfold Obligations.RegisterWrites
  rintro ⟨words, -⟩
  have made := words 0 .keeper 0x040 0x100 timeoutWord none {} State.reset rfl
  obtain ⟨b, hE, timeout⟩ := made.reads (f := TPE.TIMEOUT_US 0) rfl (exec_registerWrite ..) (by unfold exchangePage; decide)
  obtain ⟨-, -, full⟩ := (hE.1 (.inl rfl)).1
  obtain ⟨-, -, -, -, -, staged⟩ := full rfl (by decide) rfl
  obtain ⟨-, applied, -⟩ := staged (by decide) (by decide) (by decide) (by decide) (by decide)
  have kept : b.rdA unlistedField = 250 := applied unlistedField
  have written : b.rdA unlistedField = 100 := (unlistedField_rdA b).trans (timeout.trans timeoutWord_taken)
  omega

end Sys2Proof.Safety
end

section
/-!
PROOFS. The boundary window (R71, R72, R75, R492): what it makes of each page's registers, that the pages of one boundary do not disturb each other, and
the statement `Obligations.BoundaryAppliesArmedSets`.
-/

namespace Sys2Proof

namespace Tbl

variable {α : Type}

theorem get?_append (l r : Tbl α) (k : Nat) : get? (l ++ r) k = (get? l k).or (get? r k) := by
  induction l with
  | nil => rfl
  | cons e l ih =>
    obtain ⟨j, v⟩ := e
    simp only [List.cons_append, get?, ih]
    split <;> rfl

/-- A table filtered by its keys lists the entries of the keys that pass. -/
theorem get?_filter (t : Tbl α) (q : Nat → Bool) (k : Nat) : get? (t.filter fun e => q e.1) k = if q k then get? t k else none := by
  induction t with
  | nil => simp
  | cons e t ih =>
    obtain ⟨j, v⟩ := e
    by_cases hj : q j = true
    · rw [List.filter_cons_of_pos (by simpa using hj)]
      simp only [get?, ih]
      by_cases e : j = k
      · simp [← e, hj]
      · simp only [e, if_false]
    · rw [List.filter_cons_of_neg (by simpa using hj), ih]
      by_cases e : j = k
      · simp [← e, hj]
      · simp only [get?, e, if_false]

theorem get?_shift (t : Tbl α) (c k : Nat) : get? (t.map fun e => (e.1 + c, e.2)) (k + c) = get? t k := by
  induction t with
  | nil => rfl
  | cons e t ih => simp only [List.map_cons, get?, ih, Nat.add_right_cancel_iff]

theorem get?_shift_below (t : Tbl α) {c k : Nat} (h : k < c) : get? (t.map fun e => (e.1 + c, e.2)) k = none := by
  induction t with
  | nil => rfl
  | cons e t ih => simp only [List.map_cons, get?, ih, if_neg (by omega : ¬ e.1 + c = k)]

theorem get?_put_ne [DecidableEq α] (d : α) (t : Tbl α) {k j : Nat} (v : α) (h : j ≠ k) : get? (put d t k v) j = get? t j := by
  unfold put
  split
  exacts [get?_erase_ne t h, get?_set_ne t v h]

end Tbl

namespace Machine

variable {d : Device} {p q k : Nat}

/-! ### The copy of the shadows (R72) -/

theorem Device.shadows_get? (d : Device) (p k : Nat) : Tbl.get? (d.shadows p) k =
    if p * 0x8000 + 0x3000 ≤ k ∧ k < p * 0x8000 + 0x4000 then Tbl.get? d.regs (k - 0x1000) else none := by
  unfold Device.shadows
  by_cases low : k < 0x1000
  · rw [Tbl.get?_shift_below _ low, if_neg (by omega)]
  · obtain ⟨j, rfl⟩ : ∃ j, k = j + 0x1000 := ⟨k - 0x1000, by omega⟩
    rw [Tbl.get?_shift, Tbl.get?_filter _ (fun j => decide (p * 0x8000 + 0x2000 ≤ j ∧ j < p * 0x8000 + 0x3000))]
    simp only [decide_eq_true_eq, Nat.add_sub_cancel]
    exact if_congr (by omega) rfl rfl

/-- The copy moves the shadows of page `p` to the keys of their applied copies and leaves every other key alone. -/
theorem Device.copyStaged_get? (d : Device) (p k : Nat) : Tbl.get? (d.copyStaged p).regs k =
    if p * 0x8000 + 0x3000 ≤ k ∧ k < p * 0x8000 + 0x4000 then Tbl.get? d.regs (k - 0x1000) else Tbl.get? d.regs k := by
  unfold Device.copyStaged
  simp only
  rw [Tbl.get?_append, Tbl.get?_append, Tbl.get?_filter _ (fun j => decide (j < p * 0x8000 + 0x3000)),
    Tbl.get?_filter _ (fun j => decide (p * 0x8000 + 0x4000 ≤ j)), Device.shadows_get?]
  simp only [decide_eq_true_eq]
  rcases Nat.lt_or_ge k (p * 0x8000 + 0x3000) with below | above
  · have before : ¬ p * 0x8000 + 0x4000 ≤ k := by omega
    rw [if_pos below, if_neg (by omega), if_neg before, if_neg (by omega), Option.or_none, Option.or_none]
  · rcases Nat.lt_or_ge k (p * 0x8000 + 0x4000) with inside | past
    · simp [above, inside, Nat.not_lt.2 above, Nat.not_le.2 inside]
    · simp [above, past, Nat.not_lt.2 above, Nat.not_lt.2 past]

/-! ### One page's window -/

/-- Page `p` applies its staged set at its boundary (R72). -/
def Device.Applies (d : Device) (p : Nat) : Prop := d.on (PG.ARM p) = true ∧ (pageInfo p).staged ≠ 0 ∧ d.heldBack p = false

theorem Device.onApplied_regs (d0 : Device) (p : Nat) (d : Device) : (Device.onApplied d0 p d).regs = d.regs := by
  unfold Device.onApplied
  split
  · refine forEach_keeps' (fun d => d.regs) _ _ (fun e d => ?_) d
    simp only [Device.spreadMoved]
    split <;> rfl
  · split
    · rfl
    · split
      · exact forEach_keeps' (fun d => d.regs) _ _ (fun n d => by split <;> rfl) d
      · rfl

theorem Device.bumpBoundary_regs_congr {a b : Device} (h : a.regs = b.regs) (p : Nat) : (a.bumpBoundary p).regs = (b.bumpBoundary p).regs := by
  unfold Device.bumpBoundary Device.wr Device.rd
  simp only [h]

/-- The registers after the window of a page that applies its set. -/
theorem Device.pageWindow_regs_of_applies (h : d.Applies p) : (d.pageWindow p).regs =
    ((((d.copyStaged p).wr (PG.ARM p) 0).wr (PG.APPLY_COUNT p) (d.rd (PG.APPLY_COUNT p) + 1)).bumpBoundary p).regs := by
  obtain ⟨armed, staged, free⟩ := h
  unfold Device.pageWindow
  simp only [armed, staged, free, ne_eq, not_false_eq_true, decide_true, Bool.not_false, Bool.and_self, if_true]
  exact Device.bumpBoundary_regs_congr (Device.onApplied_regs ..) p

/-- The registers after the window of a page that applies nothing. -/
theorem Device.pageWindow_regs_of_not_applies (h : ¬ d.Applies p) : (d.pageWindow p).regs = (d.bumpBoundary p).regs := by
  have idle : (decide ((pageInfo p).staged ≠ 0) && d.on (PG.ARM p) && !d.heldBack p) = false := by
    by_contra go
    simp only [Bool.not_eq_false, Bool.and_eq_true, decide_eq_true_eq, Bool.not_eq_true'] at go
    exact h ⟨go.1.2, go.1.1, go.2⟩
  unfold Device.pageWindow
  simp only [idle, Bool.false_eq_true, if_false]
  exact Device.bumpBoundary_regs_congr rfl p

/-- The keys that the window of page `p` writes: applied copies, ARM, APPLY_COUNT and BOUNDARY_COUNT. -/
def windowKey (p k : Nat) : Prop :=
  (p * 0x8000 + 0x3000 ≤ k ∧ k < p * 0x8000 + 0x4000) ∨ k = fkey (PG.ARM p) ∨ k = fkey (PG.APPLY_COUNT p) ∨ k = fkey (PG.BOUNDARY_COUNT p)

theorem Device.wr_get? {f : Fld} (v : Nat) (h : k ≠ fkey f) : Tbl.get? (d.wr f v).regs k = Tbl.get? d.regs k := Tbl.get?_put_ne _ _ _ h

theorem Device.bumpBoundary_get? (h : k ≠ fkey (PG.BOUNDARY_COUNT p)) : Tbl.get? (d.bumpBoundary p).regs k = Tbl.get? d.regs k :=
  Device.wr_get? _ h

theorem Device.pageWindow_get? (h : ¬ windowKey p k) : Tbl.get? (d.pageWindow p).regs k = Tbl.get? d.regs k := by
  simp only [windowKey, not_or] at h
  obtain ⟨copied, arm, applied, boundary⟩ := h
  by_cases go : d.Applies p
  · rw [Device.pageWindow_regs_of_applies go, Device.bumpBoundary_get? boundary, Device.wr_get? _ applied, Device.wr_get? _ arm,
      Device.copyStaged_get?, if_neg copied]
  · rw [Device.pageWindow_regs_of_not_applies go, Device.bumpBoundary_get? boundary]

end Machine

end Sys2Proof

namespace Sys2Proof.Safety

open Sys2Proof.Machine

/-! ### What a window makes of a page -/

/-- A staged field of page `q`, as R58 places it. -/
def StagedOn (q : Nat) (f : Fld) : Prop := f.page = q ∧ 0x400 ≤ f.off ∧ f.off < 0x600 ∧ f.lo < 32 ∧ f.off % 4 = 0

/-- What the boundary window makes of page `q` (R72). -/
def Windowed (q : Nat) (a b : Device) : Prop :=
  b.rd (PG.BOUNDARY_COUNT q) = (a.rd (PG.BOUNDARY_COUNT q) + 1) % 2 ^ 24 ∧
  (a.Applies q → (∀ f, StagedOn q f → b.rdA f = a.rd f ∧ b.rd f = a.rd f) ∧ b.rd (PG.ARM q) = 0 ∧
    b.rd (PG.APPLY_COUNT q) = (a.rd (PG.APPLY_COUNT q) + 1) % 2 ^ 7) ∧
  (¬ a.Applies q → (∀ f, StagedOn q f → b.rdA f = a.rdA f ∧ b.rd f = a.rd f) ∧ b.rd (PG.ARM q) = a.rd (PG.ARM q) ∧
    b.rd (PG.APPLY_COUNT q) = a.rd (PG.APPLY_COUNT q))

/-- Page `q` stands in `b` as in `a`: its registers, and the HOLD that binds it. -/
def PageAgrees (q : Nat) (a b : Device) : Prop := (∀ k, k / 0x8000 = q → Tbl.get? b.regs k = Tbl.get? a.regs k) ∧ b.heldBack q = a.heldBack q

theorem rd_of_get? {a b : Device} {f : Fld} (h : Tbl.get? b.regs (fkey f) = Tbl.get? a.regs (fkey f)) : b.rd f = a.rd f := by
  simp only [Device.rd, Tbl.getD, h]

theorem rdA_of_get? {a b : Device} {f : Fld} (h : Tbl.get? b.regs (fkeyA f) = Tbl.get? a.regs (fkeyA f)) : b.rdA f = a.rdA f := by
  simp only [Device.rdA, Tbl.getD, h]

section Agreement

variable {q r : Nat} {a b c : Device}

theorem PageAgrees.refl (q : Nat) (a : Device) : PageAgrees q a a := ⟨fun _ _ => Eq.refl _, Eq.refl _⟩

theorem PageAgrees.trans (h : PageAgrees q a b) (h' : PageAgrees q b c) : PageAgrees q a c :=
  ⟨fun k hk => (h'.1 k hk).trans (h.1 k hk), h'.2.trans h.2⟩

theorem PageAgrees.rd (h : PageAgrees q a b) {f : Fld} (hf : fkey f / 0x8000 = q) : b.rd f = a.rd f := rd_of_get? (h.1 _ hf)

theorem PageAgrees.rdA (h : PageAgrees q a b) {f : Fld} (hf : fkeyA f / 0x8000 = q) : b.rdA f = a.rdA f := rdA_of_get? (h.1 _ hf)

theorem StagedOn.key {f : Fld} (h : StagedOn q f) : q * 0x8000 + 0x2000 ≤ fkey f ∧ fkey f < q * 0x8000 + 0x3000 := by
  obtain ⟨rfl, low, high, bit, word⟩ := h
  unfold fkey
  omega

theorem PageAgrees.header (h : PageAgrees q a b) : b.rd (PG.BOUNDARY_COUNT q) = a.rd (PG.BOUNDARY_COUNT q) ∧ b.rd (PG.ARM q) = a.rd (PG.ARM q) ∧
    b.rd (PG.APPLY_COUNT q) = a.rd (PG.APPLY_COUNT q) := by
  refine ⟨h.rd ?_, h.rd ?_, h.rd ?_⟩ <;> simp only [fkey, PG.BOUNDARY_COUNT, PG.ARM, PG.APPLY_COUNT] <;> omega

theorem PageAgrees.staged (h : PageAgrees q a b) {f : Fld} (hf : StagedOn q f) : b.rd f = a.rd f ∧ b.rdA f = a.rdA f := by
  have := hf.key
  exact ⟨h.rd (by omega), h.rdA (by unfold fkeyA; omega)⟩

theorem PageAgrees.applies (h : PageAgrees q a b) : b.Applies q ↔ a.Applies q := by
  unfold Device.Applies Device.on
  rw [h.header.2.1, h.2]

theorem Windowed.congr_left (h : PageAgrees q a b) (hw : Windowed q b c) : Windowed q a c := by
  obtain ⟨boundary, arm, count⟩ := h.header
  unfold Windowed at hw
  rw [h.applies, boundary, arm, count] at hw
  refine ⟨hw.1, fun go => ?_, fun idle => ?_⟩
  · obtain ⟨staged, rest⟩ := hw.2.1 go
    exact ⟨fun f hf => by rw [← (h.staged hf).1]; exact staged f hf, rest⟩
  · obtain ⟨staged, rest⟩ := hw.2.2 idle
    exact ⟨fun f hf => by rw [← (h.staged hf).1, ← (h.staged hf).2]; exact staged f hf, rest⟩

theorem Windowed.congr_right (hw : Windowed q a b) (h : PageAgrees q b c) : Windowed q a c := by
  obtain ⟨boundary, arm, count⟩ := h.header
  unfold Windowed
  rw [boundary, arm, count]
  refine ⟨hw.1, fun go => ?_, fun idle => ?_⟩
  · obtain ⟨staged, rest⟩ := hw.2.1 go
    exact ⟨fun f hf => by rw [(h.staged hf).1, (h.staged hf).2]; exact staged f hf, rest⟩
  · obtain ⟨staged, rest⟩ := hw.2.2 idle
    exact ⟨fun f hf => by rw [(h.staged hf).1, (h.staged hf).2]; exact staged f hf, rest⟩

end Agreement

/-! ### The windows of one boundary -/

/-- No window writes HOLD. -/
theorem heldBack_pageWindow (r q : Nat) (a : Device) : (a.pageWindow r).heldBack q = a.heldBack q := by
  unfold Device.heldBack
  split
  · unfold Device.on
    rw [rd_of_get? (Device.pageWindow_get? _)]
    simp only [windowKey, fkey, PG.HOLD, PG.ARM, PG.APPLY_COUNT, PG.BOUNDARY_COUNT]
    omega
  · rfl

theorem pageAgrees_pageWindow {q r : Nat} (h : r ≠ q) (a : Device) : PageAgrees q a (a.pageWindow r) := by
  refine ⟨fun k hk => Device.pageWindow_get? ?_, heldBack_pageWindow r q a⟩
  simp only [windowKey, fkey, PG.ARM, PG.APPLY_COUNT, PG.BOUNDARY_COUNT]
  omega

theorem pageAgrees_windows {q : Nat} {l : List Nat} (h : q ∉ l) (a : Device) : PageAgrees q a (forEach l Device.pageWindow a) := by
  induction l generalizing a with
  | nil => exact PageAgrees.refl q a
  | cons r l ih =>
    have other : r ≠ q := fun e => h (e ▸ List.mem_cons_self ..)
    exact (pageAgrees_pageWindow other a).trans (ih (fun hq => h (List.mem_cons_of_mem _ hq)) _)

theorem StagedOn.ne_header {q : Nat} {f : Fld} (h : StagedOn q f) {k : Nat} (hk : k < q * 0x8000 + 0x2000) : fkey f ≠ k ∧ fkeyA f ≠ k := by
  have key := h.key
  unfold fkeyA
  omega

/-- The shadows of page `q`, copied. -/
theorem StagedOn.copied {q : Nat} {f : Fld} (h : StagedOn q f) (a : Device) : (a.copyStaged q).rdA f = a.rd f ∧ (a.copyStaged q).rd f = a.rd f := by
  have key := h.key
  have applied : Tbl.get? (a.copyStaged q).regs (fkeyA f) = Tbl.get? a.regs (fkey f) := by
    have inside : q * 0x8000 + 0x3000 ≤ fkeyA f ∧ fkeyA f < q * 0x8000 + 0x4000 := by unfold fkeyA; constructor <;> omega
    have above : fkeyA f - 0x1000 = fkey f := Nat.add_sub_cancel ..
    rw [Device.copyStaged_get?, if_pos inside, above]
  have shadow : Tbl.get? (a.copyStaged q).regs (fkey f) = Tbl.get? a.regs (fkey f) := by rw [Device.copyStaged_get?, if_neg (by omega)]
  exact ⟨by simp only [Device.rdA, Device.rd, Tbl.getD, applied], rd_of_get? shadow⟩

theorem arm_key (q : Nat) : fkey (PG.ARM q) = q * 0x8000 + 0xA0 := by simp [fkey, PG.ARM]
theorem applyCount_key (q : Nat) : fkey (PG.APPLY_COUNT q) = q * 0x8000 + 0x98 := by simp [fkey, PG.APPLY_COUNT]
theorem boundaryCount_key (q : Nat) : fkey (PG.BOUNDARY_COUNT q) = q * 0x8000 + 0x80 := by simp [fkey, PG.BOUNDARY_COUNT]

theorem rd_bumpBoundary_ne {f : Fld} (q : Nat) (a : Device) (h : fkey f ≠ fkey (PG.BOUNDARY_COUNT q)) : (a.bumpBoundary q).rd f = a.rd f := a.rd_wr_ne _ h

theorem rdA_bumpBoundary_ne {f : Fld} (q : Nat) (a : Device) (h : fkeyA f ≠ fkey (PG.BOUNDARY_COUNT q)) : (a.bumpBoundary q).rdA f = a.rdA f := a.rdA_wr_ne _ h

theorem windowed_of_applies {q : Nat} {a : Device} (go : a.Applies q) : Windowed q a (a.pageWindow q) := by
  have regs := Device.pageWindow_regs_of_applies go
  have copied (k : Nat) (low : k < q * 0x8000 + 0x3000) : Tbl.get? (a.copyStaged q).regs k = Tbl.get? a.regs k := by
    rw [Device.copyStaged_get?, if_neg (by omega)]
  refine ⟨?_, fun _ => ⟨fun f hf => ⟨?_, ?_⟩, ?_, ?_⟩, fun idle => absurd go idle⟩
  · rw [rd_of_get? (congrArg (Tbl.get? · _) regs)]
    refine (Device.rd_wr_same _ _ _).trans ?_
    rw [Device.rd_wr_ne _ _ (by rw [boundaryCount_key, applyCount_key]; omega), Device.rd_wr_ne _ _ (by rw [boundaryCount_key, arm_key]; omega),
      rd_of_get? (copied _ (by rw [boundaryCount_key]; omega))]
    rfl
  · rw [rdA_of_get? (congrArg (Tbl.get? · _) regs), rdA_bumpBoundary_ne _ _ (hf.ne_header (by rw [boundaryCount_key]; omega)).2,
      Device.rdA_wr_ne _ _ (hf.ne_header (by rw [applyCount_key]; omega)).2, Device.rdA_wr_ne _ _ (hf.ne_header (by rw [arm_key]; omega)).2]
    exact (hf.copied a).1
  · rw [rd_of_get? (congrArg (Tbl.get? · _) regs), rd_bumpBoundary_ne _ _ (hf.ne_header (by rw [boundaryCount_key]; omega)).1,
      Device.rd_wr_ne _ _ (hf.ne_header (by rw [applyCount_key]; omega)).1, Device.rd_wr_ne _ _ (hf.ne_header (by rw [arm_key]; omega)).1]
    exact (hf.copied a).2
  · rw [rd_of_get? (congrArg (Tbl.get? · _) regs), rd_bumpBoundary_ne _ _ (by rw [arm_key, boundaryCount_key]; omega),
      Device.rd_wr_ne _ _ (by rw [arm_key, applyCount_key]; omega)]
    exact Device.rd_wr_same _ _ _
  · rw [rd_of_get? (congrArg (Tbl.get? · _) regs), rd_bumpBoundary_ne _ _ (by rw [applyCount_key, boundaryCount_key]; omega)]
    exact Device.rd_wr_same _ _ _

theorem windowed_of_not_applies {q : Nat} {a : Device} (idle : ¬ a.Applies q) : Windowed q a (a.pageWindow q) := by
  have regs := Device.pageWindow_regs_of_not_applies idle
  refine ⟨?_, fun go => absurd go idle, fun _ => ⟨fun f hf => ⟨?_, ?_⟩, ?_, ?_⟩⟩
  · rw [rd_of_get? (congrArg (Tbl.get? · _) regs)]
    exact Device.rd_wr_same _ _ _
  · rw [rdA_of_get? (congrArg (Tbl.get? · _) regs), rdA_bumpBoundary_ne _ _ (hf.ne_header (by rw [boundaryCount_key]; omega)).2]
  · rw [rd_of_get? (congrArg (Tbl.get? · _) regs), rd_bumpBoundary_ne _ _ (hf.ne_header (by rw [boundaryCount_key]; omega)).1]
  · rw [rd_of_get? (congrArg (Tbl.get? · _) regs), rd_bumpBoundary_ne _ _ (by rw [arm_key, boundaryCount_key]; omega)]
  · rw [rd_of_get? (congrArg (Tbl.get? · _) regs), rd_bumpBoundary_ne _ _ (by rw [applyCount_key, boundaryCount_key]; omega)]

theorem windowed_pageWindow (q : Nat) (a : Device) : Windowed q a (a.pageWindow q) := by
  by_cases go : a.Applies q
  exacts [windowed_of_applies go, windowed_of_not_applies go]

/-- The windows of distinct pages, one after the other, make of each page what its own makes of it. -/
theorem windowed_windows {l : List Nat} (hl : l.Nodup) {q : Nat} (hq : q ∈ l) (a : Device) : Windowed q a (forEach l Device.pageWindow a) := by
  induction l generalizing a with
  | nil => cases hq
  | cons r l ih =>
    obtain ⟨fresh, hl⟩ := List.nodup_cons.1 hl
    rw [forEach_cons]
    by_cases e : q = r
    · subst e
      exact (windowed_pageWindow q a).congr_right (pageAgrees_windows fresh _)
    · exact (ih hl ((List.mem_cons.1 hq).resolve_left e) _).congr_left (pageAgrees_pageWindow (Ne.symm e) a)

theorem treeBlock_lt {p t : Nat} (h : treeBlock p = some t) : t < 64 := by
  unfold treeBlock at h
  split at h
  · cases h; omega
  · split at h
    · cases h; omega
    · cases h

theorem windowPages_nodup (p : Nat) : (windowPages p).Nodup := by
  unfold windowPages
  split
  next t h =>
    have := treeBlock_lt h
    simp [List.range_succ]
    omega
  next => split <;> simp

/-- Settles O11: the windows of a boundary's distinct pages follow one after the other, and none touches another's page. -/
theorem boundaryAppliesArmedSets : Obligations.BoundaryAppliesArmedSets := by
  unfold Obligations.BoundaryAppliesArmedSets
  refine fun t p s hr => Makes.intro hr (exec_boundaryWindow ..) ?_
  generalize s.dev.arrive t = a
  refine ⟨fun timed still => ?_, fun runs q hq => ?_⟩
  · simp [boundaryWindow, timed, still]
  · have passes : boundaryWindow a.now p.val a = forEach (windowPages p.val) Device.pageWindow a := by
      unfold boundaryWindow
      rw [if_neg]
      intro stops
      simp only [Bool.and_eq_true, Bool.not_eq_true'] at stops
      simp [runs stops.1] at stops
    obtain ⟨boundary, go, idle⟩ := windowed_windows (windowPages_nodup p.val) hq a
    rw [passes]
    refine ⟨boundary, ?_⟩
    split
    next h =>
      obtain ⟨staged, rest⟩ := go h
      exact ⟨fun f page low high bit word => staged f ⟨page, low, high, bit, word⟩, rest⟩
    next h =>
      obtain ⟨staged, rest⟩ := idle h
      exact ⟨fun f page low high bit word => staged f ⟨page, low, high, bit, word⟩, rest⟩

end Sys2Proof.Safety
end

section
/-!
PROOFS. CLAIM, COLD_START, RELEASE, FORCE_FENCE and MIRROR_EN, the end of a claim, and Soundpost's link (R513, R527, R535, R537, R539, R540).
-/

namespace Sys2Proof.Tbl

theorem get?_modify_same {α : Type} {t : Tbl α} {k : Nat} {v : α} (f : α → α) (h : get? t k = some v) : get? (modify t k f) k = some (f v) := by
  simp only [modify, h, get?_set_same]

end Sys2Proof.Tbl

namespace Sys2Proof.Machine

variable {d : Device} {m : Master}

theorem Device.rd_of_regs {a b : Device} (h : b.regs = a.regs) (f : Fld) : b.rd f = a.rd f := by simp only [Device.rd, h]

theorem Device.on_of_regs {a b : Device} (h : b.regs = a.regs) (f : Fld) : b.on f = a.on f := by
  unfold Device.on
  rw [Device.rd_of_regs h]

/-! ### CLAIM (R537) -/

theorem claim_ignored (t : Nat) {v : Bool} (hm : m ≠ .pf1) (h : v = false ∨ d.on MRU.CLAIM = true) : claim t m v d = d :=
  (Device.asMaster_k1 hm).trans (if_pos (by simpa using h))

/-- A claim that is not ignored. -/
theorem claim_taken (t : Nat) {v : Bool} (hm : m ≠ .pf1) (h : ¬ (v = false ∨ d.on MRU.CLAIM = true)) : claim t m v d =
    if d.on MRU.PAIR_EN = false ∧ d.rd MRU.ROLE ≠ 1 then ({ d with mru := { d.mru with claimEnd := some (d.frame + 1) } }).wr MRU.CLAIM 1
    else if d.rd MRU.ROLE = 0 then
      let e := (if t % 125000 ≤ 5000 then d.frame else d.frame + 1) + d.rdA MRU.LEASE_FRAMES + d.rdA MRU.MARGIN_FRAMES
      (({ d with mru := { d.mru with claimEnd := some e } }).wr MRU.CLAIM 1).wr MRU.CLAIMING 1
    else d.count 0x005 0x8A0 1 := by
  refine (Device.asMaster_k1 hm).trans ((if_neg (by simpa using h)).trans ?_)
  simp only [Bool.not_eq_true', mruPage]

/-! ### COLD_START (R539) -/

theorem coldStart_ignored (t : Nat) (hm : m ≠ .pf1) : coldStart t m false d = d := Device.asMaster_k1 hm

theorem coldStart_of_capo (t : Nat) (hm : m ≠ .pf1) (h : d.capo = true) : coldStart t m true d = d.refuse 0x005 := by
  refine (Device.asMaster_k1 hm).trans ?_
  simp [h, mruPage]

/-- A device started cold, its queues freed: no tables, no lease, no role. -/
def Device.emptied (d : Device) : Device :=
  let e := d.setTables {}
  let x : Device := { e with
    fret := { e.fret with took := false, firstOwn := [] },
    mru := { e.mru with end_ := none, fenceAt := none, releasing := false, resynced := false, applied := none, sweptCtrs := [], sweptDepths := [],
                        genCtrs := [], carried := [], cutOff := [], crIdx := [], blocked := false } }
  ((x.wr MRU.ROLE 0).wr MRU.RESYNC 0).balanceSealed

theorem Device.emptied_regs (d : Device) : d.emptied.regs = ((d.wr MRU.ROLE 0).wr MRU.RESYNC 0).regs := rfl

theorem coldStart_taken (t : Nat) (hm : m ≠ .pf1) (h : d.capo = false) : coldStart t m true d = d.freeQueues.2.emptied := by
  refine (Device.asMaster_k1 hm).trans ?_
  simp only [h, Bool.not_true, Bool.false_eq_true, if_false]
  rfl

/-! ### RELEASE and FORCE_FENCE (R540) -/

theorem release_ignored (t : Nat) (hm : m ≠ .pf1) : release t m false d = d := Device.asMaster_k1 hm

theorem release_asked (t : Nat) (hm : m ≠ .pf1) : release t m true d = d.askRelease := Device.asMaster_k1 hm

theorem forceFence_taken (t : Nat) (v : Bool) (hm : m ≠ .pf1) : forceFence t m v d = d.wr MRU.FORCE_FENCE (b2n v) := Device.asMaster_k1 hm

/-! ### MIRROR_EN (R527) -/

theorem mirrorEn_ignored (t : Nat) {v : Bool} (hm : m ≠ .pf1) (h : v = d.on MRU.MIRROR_EN) : mirrorEn t m v d = d :=
  (Device.asMaster_k1 hm).trans (if_pos h)

theorem mirrorEn_without_capo (t : Nat) (hm : m ≠ .pf1) (off : d.on MRU.MIRROR_EN = false) (h : d.capo = false) :
    mirrorEn t m true d = d.wr MRU.MIRROR_EN 1 := by
  refine (Device.asMaster_k1 hm).trans ?_
  simp [off, h]

theorem mirrorEn_without_pool (t : Nat) (hm : m ≠ .pf1) (off : d.on MRU.MIRROR_EN = false) (h : d.capo = true) (none : d.logPool = none) :
    mirrorEn t m true d = d.refuse 0x005 := by
  refine (Device.asMaster_k1 hm).trans ?_
  simp [off, h, none, mruPage]

theorem Device.takeLog_eq (i : Nat) (d : Device) : d.takeLog i = { d with
    cells := { d.cells with
      pools := Tbl.modify d.cells.pools i fun p => { p with held := p.held + d.rd MRU.LOG_EPOCHS * 50816 }
      used := (d.cells.used.1, d.cells.used.2 + d.rd MRU.LOG_EPOCHS * 50816) }
    mru := { d.mru with logCells := d.rd MRU.LOG_EPOCHS * 50816 } } := by
  unfold Device.takeLog
  generalize d.rd MRU.LOG_EPOCHS * 50816 = n
  rfl

/-- The mirror starts with its log in pool `i`. -/
def Device.mirrorStarts (i : Nat) (d : Device) : Device :=
  let e := (d.wr MRU.MIRROR_EN 1).takeLog i
  { e with mru := { e.mru with prev := e.tables } }

theorem Device.mirrorStarts_regs (i : Nat) (d : Device) : (d.mirrorStarts i).regs = (d.wr MRU.MIRROR_EN 1).regs := by
  unfold Device.mirrorStarts
  rw [Device.takeLog_eq]

theorem Device.mirrorStarts_ctrs (i : Nat) (d : Device) : (d.mirrorStarts i).ctrs = d.ctrs := by
  unfold Device.mirrorStarts
  rw [Device.takeLog_eq]
  rfl

theorem mirrorEn_with_pool (t : Nat) {i : Nat} (hm : m ≠ .pf1) (off : d.on MRU.MIRROR_EN = false) (h : d.capo = true) (pool : d.logPool = some i) :
    mirrorEn t m true d = d.mirrorStarts i := by
  refine (Device.asMaster_k1 hm).trans ?_
  simp only [off, h, pool, Bool.true_eq_false, if_false, if_true]
  rfl

theorem mirrorEn_off (t : Nat) (hm : m ≠ .pf1) (on : d.on MRU.MIRROR_EN = true) : mirrorEn t m false d =
    (((d.dropLog.wr MRU.MIRROR_EN 0).wr MRU.SP_UP 0).wr MRU.RESYNC 0).wr MRU.REPLAYING 0 := by
  refine (Device.asMaster_k1 hm).trans ?_
  simp [on]

theorem Device.dropLog_eq (d : Device) : d.dropLog = { d with
    cells := { d.cells with pools := d.dropLog.cells.pools, used := (d.cells.used.1, d.cells.used.2 - d.mru.logCells) }
    mru := { d.mru with logCells := 0, log := [], toSend := none, replay := none, base := none, baseAsked := false } } := by
  unfold Device.dropLog
  split <;> rfl

/-! ### The end of a claim (R535, R537) -/

theorem claimEnd_of_none (t : Nat) (h : d.mru.claimEnd = none) : claimEnd t d = d := by simp only [claimEnd, h]

theorem claimEnd_early {t k : Nat} (h : d.mru.claimEnd = some k) (early : t < k * 125000) : claimEnd t d = d := by simp only [claimEnd, h, early, if_true]

/-- A device whose claim has run its frames. -/
def Device.claimRun (d : Device) : Device := ({ d with mru := { d.mru with claimEnd := none } }.wr MRU.CLAIM 0).wr MRU.CLAIMING 0

theorem claimEnd_due {t k : Nat} (h : d.mru.claimEnd = some k) (due : k * 125000 ≤ t) :
    claimEnd t d = d.claimRun.holdCapo 2 (d.claimRun.rd MRU.LEASE_END_FRAME) 0 0 := by
  simp only [claimEnd, h, Nat.not_lt.2 due, if_false]
  rfl

/-- A device that takes the Capo, before its log takes its cells. -/
def Device.becomeHolder (cause leaseEnd loss sw : Nat) (d : Device) : Device :=
  let d := ((d.wr MRU.CAPO 1).wr MRU.ROLE 1).count mruPage 0x888 1
  let k := d.ctr mruPage 0x888 % 8
  let last := d.mru.applied.getD 0
  let r := [d.frame % 2 ^ 32, d.now % 125000 + cause * 2 ^ 17, last % 2 ^ 32, leaseEnd, loss % 2 ^ 32, loss / 2 ^ 32, sw, 0]
  let m := d.mru
  let d := { d with mru := { m with records := Tbl.set m.records k r, fenceAt := none, releasing := false, end_ := none, resynced := false,
                                    overtaken := false, unacked := false, written := d.frame - 1, posted := d.frame - 1,
                                    base := none, replay := none, prev := d.tables },
                    tmu := { d.tmu with following := false } }
  (d.wr MRU.RESYNC 0).wr MRU.REPLAYING 0

/-- What a log that takes its cells leaves alone reads after the Capo is taken as in the new holder. -/
theorem Device.holdCapo_keeps {β : Type} (g : Device → β) (h : ∀ i d, g (Device.takeLog i d) = g d) (cause leaseEnd loss sw : Nat) (d : Device) :
    g (d.holdCapo cause leaseEnd loss sw) = g (d.becomeHolder cause leaseEnd loss sw) := by
  have steps : d.holdCapo cause leaseEnd loss sw = (let e := d.becomeHolder cause leaseEnd loss sw
    if e.on MRU.MIRROR_EN ∧ e.mru.logCells = 0 then e.whenSome e.logPool Device.takeLog else e) := rfl
  rw [steps]
  dsimp only
  split
  · unfold Device.whenSome
    split
    exacts [h _ _, rfl]
  · rfl

section

variable (cause leaseEnd loss sw : Nat) (d : Device)

theorem Device.becomeHolder_regs : (d.becomeHolder cause leaseEnd loss sw).regs = ((((d.wr MRU.CAPO 1).wr MRU.ROLE 1).wr MRU.RESYNC 0).wr MRU.REPLAYING 0).regs := rfl
theorem Device.becomeHolder_ctrs : (d.becomeHolder cause leaseEnd loss sw).ctrs = (d.count 0x005 0x888 1).ctrs := rfl
theorem Device.becomeHolder_claimEnd : (d.becomeHolder cause leaseEnd loss sw).mru.claimEnd = d.mru.claimEnd := rfl
theorem Device.becomeHolder_fenceAt : (d.becomeHolder cause leaseEnd loss sw).mru.fenceAt = none := rfl
theorem Device.becomeHolder_svc : (d.becomeHolder cause leaseEnd loss sw).svc = d.svc := rfl
theorem Device.becomeHolder_fret : (d.becomeHolder cause leaseEnd loss sw).fret = d.fret := rfl
theorem Device.becomeHolder_rng : (d.becomeHolder cause leaseEnd loss sw).rng = d.rng := rfl
theorem Device.becomeHolder_mem : (d.becomeHolder cause leaseEnd loss sw).cells.mem = d.cells.mem := rfl

theorem Device.holdCapo_regs : (d.holdCapo cause leaseEnd loss sw).regs = ((((d.wr MRU.CAPO 1).wr MRU.ROLE 1).wr MRU.RESYNC 0).wr MRU.REPLAYING 0).regs :=
  (Device.holdCapo_keeps (fun d => d.regs) (fun _ _ => by rw [Device.takeLog_eq]) ..).trans (d.becomeHolder_regs ..)
theorem Device.holdCapo_ctrs : (d.holdCapo cause leaseEnd loss sw).ctrs = (d.count 0x005 0x888 1).ctrs :=
  (Device.holdCapo_keeps (fun d => d.ctrs) (fun _ _ => by rw [Device.takeLog_eq]) ..).trans (d.becomeHolder_ctrs ..)
theorem Device.holdCapo_claimEnd : (d.holdCapo cause leaseEnd loss sw).mru.claimEnd = d.mru.claimEnd :=
  (Device.holdCapo_keeps (fun d => d.mru.claimEnd) (fun _ _ => by rw [Device.takeLog_eq]) ..).trans (d.becomeHolder_claimEnd ..)
theorem Device.holdCapo_fenceAt : (d.holdCapo cause leaseEnd loss sw).mru.fenceAt = none :=
  (Device.holdCapo_keeps (fun d => d.mru.fenceAt) (fun _ _ => by rw [Device.takeLog_eq]) ..).trans (d.becomeHolder_fenceAt ..)
theorem Device.holdCapo_svc : (d.holdCapo cause leaseEnd loss sw).svc = d.svc :=
  (Device.holdCapo_keeps (fun d => d.svc) (fun _ _ => by rw [Device.takeLog_eq]) ..).trans (d.becomeHolder_svc ..)
theorem Device.holdCapo_fret : (d.holdCapo cause leaseEnd loss sw).fret = d.fret :=
  (Device.holdCapo_keeps (fun d => d.fret) (fun _ _ => by rw [Device.takeLog_eq]) ..).trans (d.becomeHolder_fret ..)
theorem Device.holdCapo_rng : (d.holdCapo cause leaseEnd loss sw).rng = d.rng :=
  (Device.holdCapo_keeps (fun d => d.rng) (fun _ _ => by rw [Device.takeLog_eq]) ..).trans (d.becomeHolder_rng ..)
theorem Device.holdCapo_mem : (d.holdCapo cause leaseEnd loss sw).cells.mem = d.cells.mem :=
  (Device.holdCapo_keeps (fun d => d.cells.mem) (fun _ _ => by rw [Device.takeLog_eq]) ..).trans (d.becomeHolder_mem ..)

end

end Sys2Proof.Machine

namespace Sys2Proof.Safety

open Sys2Proof.Machine

/-! ### A write that hardware may cross (R80) -/

section

variable {m : Master} {p : Nat} (f : Device → Device) (a : Device)

theorem refused_asMaster (k : Key) : Refused p a (a.asMaster .pf1 k p f) := by
  rw [Device.asMaster_pf1]
  exact refused p a

theorem refused_colliding (k : Key) (hw : Bool) : Refused p a (a.colliding .pf1 k p hw f) := refused_asMaster _ a k

theorem lost_colliding (hm : m ≠ .pf1) : Lost p a (a.colliding m .k1 p true f) := by
  rw [Device.colliding_lost hm]
  exact lost p a

theorem colliding_own (hm : m ≠ .pf1) {hw : Bool} (h : hw = false ∨ m = .pf1) : a.colliding m .k1 p hw f = f a := by
  rw [h.resolve_right hm, Device.colliding_alone hm]

end

/-! ### The effects -/

theorem emptied_effect (a : Device) : let b := a.emptied
    b.rd MRU.ROLE = 0 ∧ b.on MRU.RESYNC = false ∧ b.mru.end_ = none ∧ b.mru.applied = none ∧ b.mru.fenceAt = none ∧ b.trees.courses = [] ∧
    b.fret.allocs = [] ∧ b.fret.slots = [] ∧ b.rng.terms = [] ∧ b.svc.keys = [] ∧ b.svc.chans = [] ∧ b.cells.queues = [] ∧ b.cells.pools = [] ∧
    b.traffic.nodes = [] ∧ b.traffic.gates = [] ∧ b.pkt.exact = [] ∧ b.gens = [] := by
  refine ⟨?_, ?_, rfl, rfl, rfl, rfl, rfl, rfl, rfl, rfl, rfl, rfl, rfl, rfl, rfl, rfl, rfl⟩
  · have kept : ((a.wr MRU.ROLE 0).wr MRU.RESYNC 0).rd MRU.ROLE = (a.wr MRU.ROLE 0).rd MRU.ROLE := Device.rd_wr_ne _ _ (by decide)
    exact (Device.rd_of_regs a.emptied_regs _).trans (kept.trans (a.rd_wr_same _ _))
  · exact (Device.on_of_regs a.emptied_regs _).trans (Device.on_wr_b2n false rfl)

theorem mirrorStarts_effect {i : Nat} {q : Pool} {a : Device} (hq : a.pool? i = some q) : let b := a.mirrorStarts i
    let n := a.rd MRU.LOG_EPOCHS * 50816
    b.on MRU.MIRROR_EN = true ∧ b.mru.logCells = n ∧ b.pool? i = some { q with held := q.held + n } ∧ b.cells.used = (a.cells.used.1, a.cells.used.2 + n) ∧
    Kept [MRU.MIRROR_EN] [] a b := by
  have epochs : (a.wr MRU.MIRROR_EN 1).rd MRU.LOG_EPOCHS = a.rd MRU.LOG_EPOCHS := a.rd_wr_ne _ (by decide)
  refine ⟨(Device.on_of_regs (a.mirrorStarts_regs i) _).trans (Device.on_wr_b2n true rfl), ?_⟩
  rw [← epochs]
  exact ⟨rfl, Tbl.get?_modify_same _ hq, rfl,
    ((Kept.refl _ _ a).wr 1 ⟨_, List.mem_singleton_self _, rfl⟩).same (a.mirrorStarts_regs i) (a.mirrorStarts_ctrs i)⟩

theorem mirrorEnds_effect (a : Device) : let b := (((a.dropLog.wr MRU.MIRROR_EN 0).wr MRU.SP_UP 0).wr MRU.RESYNC 0).wr MRU.REPLAYING 0
    b.on MRU.MIRROR_EN = false ∧ b.on MRU.SP_UP = false ∧ b.on MRU.RESYNC = false ∧ b.on MRU.REPLAYING = false ∧ b.mru.log = [] ∧ b.mru.logCells = 0 ∧
    b.cells.used = (a.cells.used.1, a.cells.used.2 - a.mru.logCells) ∧ Kept [MRU.MIRROR_EN, MRU.SP_UP, MRU.RESYNC, MRU.REPLAYING] [] a b := by
  have dropped : Kept [MRU.MIRROR_EN, MRU.SP_UP, MRU.RESYNC, MRU.REPLAYING] [] a a.dropLog :=
    (Kept.refl _ _ a).same (by rw [Device.dropLog_eq]) (by rw [Device.dropLog_eq])
  have mru : a.dropLog.mru.log = [] ∧ a.dropLog.mru.logCells = 0 := by rw [Device.dropLog_eq]; exact ⟨rfl, rfl⟩
  have used : a.dropLog.cells.used = (a.cells.used.1, a.cells.used.2 - a.mru.logCells) := by rw [Device.dropLog_eq]
  refine ⟨?_, ?_, ?_, Device.on_wr_b2n false rfl, mru.1, mru.2, used, ?_⟩
  · rw [Device.on_wr_ne _ _ (by decide), Device.on_wr_ne _ _ (by decide), Device.on_wr_ne _ _ (by decide)]
    exact Device.on_wr_b2n false rfl
  · rw [Device.on_wr_ne _ _ (by decide), Device.on_wr_ne _ _ (by decide)]
    exact Device.on_wr_b2n false rfl
  · rw [Device.on_wr_ne _ _ (by decide)]
    exact Device.on_wr_b2n false rfl
  · exact (((dropped.wr _ ⟨MRU.MIRROR_EN, by simp, rfl⟩).wr _ ⟨MRU.SP_UP, by simp, rfl⟩).wr _ ⟨MRU.RESYNC, by simp, rfl⟩).wr _ ⟨MRU.REPLAYING, by simp, rfl⟩

theorem askRelease_effect (a : Device) : let b := a.askRelease
    let may := a.rd MRU.ROLE = 1 ∧ a.on MRU.PAIR_EN = true ∧ a.on MRU.PARTNER_READY = true ∧ a.mru.fenceAt = none ∧ a.mru.releasing = false
    (may → b.on MRU.RELEASE = true ∧ Only [MRU.RELEASE] [] a b) ∧ (¬ may → Counts 0x005 0x8A8 1 a b ∧ Only [] [(0x005, 0x8A8)] a b) := by
  dsimp only
  unfold Device.askRelease
  simp only [Bool.not_eq_true]
  refine ⟨fun h => ?_, fun h => ?_⟩
  · rw [if_pos h]
    exact ⟨Device.on_wr_b2n true rfl, (Only.refl _ _ a).wr _ ⟨_, List.mem_singleton_self _, rfl⟩⟩
  · rw [if_neg h]
    exact ⟨a.ctr_count_same _ _ _, (Only.refl _ _ a).count _ (List.mem_singleton_self _)⟩

theorem holdCapo_effect (cause leaseEnd loss sw : Nat) (a : Device) : let b := a.holdCapo cause leaseEnd loss sw
    b.capo = true ∧ b.rd MRU.ROLE = 1 ∧ b.on MRU.CLAIM = a.on MRU.CLAIM ∧ b.on MRU.CLAIMING = a.on MRU.CLAIMING ∧ b.mru.claimEnd = a.mru.claimEnd ∧
    b.mru.fenceAt = none ∧ Counts 0x005 0x888 1 a b ∧ b.svc = a.svc ∧ b.fret = a.fret ∧ b.rng = a.rng ∧ b.cells.mem = a.cells.mem := by
  have regs := a.holdCapo_regs cause leaseEnd loss sw
  refine ⟨?_, ?_, ?_, ?_, a.holdCapo_claimEnd .., a.holdCapo_fenceAt .., ?_, a.holdCapo_svc .., a.holdCapo_fret .., a.holdCapo_rng .., a.holdCapo_mem ..⟩
  · unfold Device.capo
    rw [Device.on_of_regs regs, Device.on_wr_ne _ _ (by decide), Device.on_wr_ne _ _ (by decide), Device.on_wr_ne _ _ (by decide)]
    exact Device.on_wr_b2n true rfl
  · rw [Device.rd_of_regs regs, Device.rd_wr_ne _ _ (by decide), Device.rd_wr_ne _ _ (by decide)]
    exact Device.rd_wr_same _ _ _
  · rw [Device.on_of_regs regs, Device.on_wr_ne _ _ (by decide), Device.on_wr_ne _ _ (by decide), Device.on_wr_ne _ _ (by decide), Device.on_wr_ne _ _ (by decide)]
  · rw [Device.on_of_regs regs, Device.on_wr_ne _ _ (by decide), Device.on_wr_ne _ _ (by decide), Device.on_wr_ne _ _ (by decide), Device.on_wr_ne _ _ (by decide)]
  · unfold Counts Device.ctr
    rw [a.holdCapo_ctrs cause leaseEnd loss sw]
    exact a.ctr_count_same _ _ _

theorem claimEnd_effect {t k : Nat} {a : Device} (h : a.mru.claimEnd = some k) (due : k * 125000 ≤ t) : let b := claimEnd t a
    b.capo = true ∧ b.rd MRU.ROLE = 1 ∧ b.on MRU.CLAIM = false ∧ b.on MRU.CLAIMING = false ∧ b.mru.claimEnd = none ∧ b.mru.fenceAt = none ∧
    Counts 0x005 0x888 1 a b ∧ b.svc = a.svc ∧ b.fret = a.fret ∧ b.rng = a.rng ∧ b.cells.mem = a.cells.mem := by
  obtain ⟨capo, role, claim, claiming, rest⟩ := holdCapo_effect 2 (a.claimRun.rd MRU.LEASE_END_FRAME) 0 0 a.claimRun
  rw [claimEnd_due h due]
  refine ⟨capo, role, claim.trans ?_, claiming.trans (Device.on_wr_b2n false rfl), rest⟩
  exact (Device.on_wr_ne _ _ (by decide)).trans (Device.on_wr_b2n false rfl)

/-! ### The statement -/

/-- Settles O57: each command by its cases; a claim that ends takes the Capo. -/
theorem capoMoves : Obligations.CapoMoves := by
  unfold Obligations.CapoMoves
  refine ⟨fun t m v s hr => ⟨fun hw => Makes.intro hr (exec_claim ..) ?_, fun hw => Makes.intro hr (exec_coldStart ..) ?_,
      fun hw => Makes.intro hr (exec_release ..) ?_, Makes.intro hr (exec_forceFence ..) ?_, Makes.intro hr (exec_mirrorEn ..) ?_⟩,
    fun t s hr => ⟨Makes.intro hr (exec_claimEnd ..) ?_, Makes.intro hr (exec_soundpostTrainingComplete ..) ?_, Makes.intro hr (exec_soundpostLinkDown ..) ?_⟩⟩
  all_goals generalize s.dev.arrive t = a
  case refine_1 =>
    refine ⟨fun hm hw => hw ▸ lost_colliding _ a hm, fun own => ?_⟩
    intro none_ alone
    refine ⟨fun hm => hm ▸ refused_colliding _ a _ hw, fun hm idle => ?_, fun hm busy lone => ?_, fun hm busy paired role => ?_, fun hm busy paired role => ?_⟩
    all_goals rw [colliding_own _ a hm own]
    · exact claim_ignored _ hm idle
    · rw [claim_taken _ hm busy, if_pos lone]
      exact ⟨Device.on_wr_b2n true rfl, rfl, ((Kept.refl _ _ a).same rfl rfl).wr _ ⟨_, List.mem_singleton_self _, rfl⟩⟩
    · rw [claim_taken _ hm busy, if_neg paired, if_pos role]
      refine ⟨?_, Device.on_wr_b2n true rfl, ?_, rfl⟩
      · rw [Device.on_wr_ne _ _ (by decide)]
        exact Device.on_wr_b2n true rfl
      · exact (((Kept.refl _ _ a).same rfl rfl).wr _ ⟨MRU.CLAIM, by simp, rfl⟩).wr _ ⟨MRU.CLAIMING, by simp, rfl⟩
    · rw [claim_taken _ hm busy, if_neg paired, if_neg role]
      exact ⟨a.ctr_count_same _ _ _, (Only.refl _ _ a).count _ (List.mem_singleton_self _)⟩
  case refine_2 =>
    refine ⟨fun hm hw => hw ▸ lost_colliding _ a hm, fun own => ?_⟩
    refine ⟨fun hm => hm ▸ refused_colliding _ a _ hw, fun hm off => ?_, fun hm on capo => ?_, fun hm on capo => ?_⟩
    all_goals rw [colliding_own _ a hm own]
    · rw [off, coldStart_ignored _ hm]
    · rw [on, coldStart_of_capo _ hm capo]
      exact refused 0x005 a
    · rw [on, coldStart_taken _ hm capo]
      exact emptied_effect _
  case refine_3 =>
    refine ⟨fun hm hw => hw ▸ lost_colliding _ a hm, fun own => ?_⟩
    intro may
    refine ⟨fun hm => hm ▸ refused_colliding _ a _ hw, fun hm off => ?_, fun hm on yes => ?_, fun hm on no => ?_⟩
    all_goals rw [colliding_own _ a hm own]
    · rw [off, release_ignored _ hm]
    · rw [on, release_asked _ hm]
      exact (askRelease_effect a).1 yes
    · rw [on, release_asked _ hm]
      exact (askRelease_effect a).2 no
  case refine_4 =>
    refine ⟨fun hm => hm ▸ refused_asMaster _ a _, fun hm => ?_⟩
    rw [forceFence_taken _ _ hm]
    exact ⟨Device.on_wr_b2n v rfl, (Only.refl _ _ a).wr _ ⟨_, List.mem_singleton_self _, rfl⟩⟩
  case refine_5 =>
    refine ⟨fun hm => hm ▸ refused_asMaster _ a _, fun hm same => mirrorEn_ignored _ hm same, fun hm on off => ⟨fun capo => ?_, fun capo none => ?_, ?_⟩,
      fun hm off on => ?_⟩
    · rw [on, mirrorEn_without_capo _ hm off capo]
      exact ⟨Device.on_wr_b2n true rfl, (Only.refl _ _ a).wr _ ⟨_, List.mem_singleton_self _, rfl⟩⟩
    · rw [on, mirrorEn_without_pool _ hm off capo none]
      exact refused 0x005 a
    · intro i q capo pool hq
      rw [on, mirrorEn_with_pool _ hm off capo pool]
      exact mirrorStarts_effect hq
    · rw [off, mirrorEn_off _ hm on]
      exact mirrorEnds_effect a
  case refine_6 =>
    exact ⟨fun none => claimEnd_of_none _ none, fun k hk => ⟨fun early => claimEnd_early hk early, fun due => claimEnd_effect hk due⟩⟩
  case refine_7 =>
    refine ⟨fun off => if_neg (by simp [off]), fun on => ?_⟩
    rw [show soundpostTrainingComplete a.now a = a.wr MRU.SP_UP 1 from if_pos on]
    exact ⟨Device.on_wr_b2n true rfl, (Only.refl _ _ a).wr _ ⟨_, List.mem_singleton_self _, rfl⟩⟩
  case refine_8 => exact ⟨Device.on_wr_b2n false rfl, (Only.refl _ _ a).wr _ ⟨_, List.mem_singleton_self _, rfl⟩⟩

end Sys2Proof.Safety
end

section
/-!
PROOFS. The optics sideband (R80, R124): how an I2C transaction starts and ends, and the statement `Obligations.OpticsSideband`.
-/

namespace Sys2Proof.Machine

variable {d : Device} {m : Master} {g r : Nat}

/-- Two fields of a page that begin at different bits have different keys. -/
theorem fkey_ne_on_page {f g : Fld} (hp : f.page = g.page := by rfl) (h : (f.off * 8 + f.lo == g.off * 8 + g.lo) = false := by rfl) :
    fkey f ≠ fkey g := by
  have := ne_of_beq_false h
  unfold fkey
  rw [hp]
  omega

/-- A write of a field leaves the other fields of its page. -/
theorem Device.rd_wr_on_page {f k : Fld} (v : Nat) (hp : k.page = f.page := by rfl) (h : (k.off * 8 + k.lo == f.off * 8 + f.lo) = false := by rfl) :
    (d.wr f v).rd k = d.rd k := d.rd_wr_ne v (fkey_ne_on_page hp h)

/-- A write lost on a page leaves the page's fields beyond its header. -/
theorem Device.rd_writeLost_on_page {p n : Nat} {k : Fld} (hp : k.page = p := by rfl) (h : (k.off * 8 + k.lo == 0x018 * 8) = false := by rfl) :
    (d.writeLost p n).rd k = d.rd k := d.rd_wr_ne _ (fkey_ne_on_page hp h)

/-! ### I2C_GO -/

theorem i2cGo_of_busy (t : Nat) (v : Bool) (hm : m ≠ .pf1) (h : d.on (TPE.I2C_BUSY (4 * g)) = true) : i2cGo t m g v d = d.lockedWrite (treePage (4 * g)) := by
  simp [i2cGo, Device.asMaster_k1 hm, h]

theorem i2cGo_cleared (t : Nat) (hm : m ≠ .pf1) (h : d.on (TPE.I2C_BUSY (4 * g)) = false) : i2cGo t m g false d = d.wr (TPE.I2C_GO (4 * g)) 0 := by
  simp [i2cGo, Device.asMaster_k1 hm, h]

theorem i2cGo_started (t : Nat) (hm : m ≠ .pf1) (h : d.on (TPE.I2C_BUSY (4 * g)) = false) : i2cGo t m g true d =
    ((d.wr (TPE.I2C_GO (4 * g)) 1).wr (TPE.I2C_BUSY (4 * g)) 1).emit
      (.i2c g (d.on (TPE.I2C_READ (4 * g))) (d.rd (TPE.I2C_ADDR (4 * g))) (d.rd (TPE.I2C_REG (4 * g))) (d.rd (TPE.I2C_WDATA (4 * g)))) := by
  simp [i2cGo, Device.asMaster_k1 hm, h]

/-! ### I2C_TRANSACTION_END -/

/-- What the end of a transaction on the bus of tree `r` shows, but for a write of I2C_GO in its window. -/
def Device.i2cShown (r : Nat) (nack : Bool) (data : Nat) (d : Device) : Device :=
  ((((d.wr (TPE.I2C_GO r) 0).wr (TPE.I2C_BUSY r) 0).wr (TPE.I2C_NACK r) (b2n nack)).countIf nack (treePage r) 0x840).wrIf
    (!nack && d.on (TPE.I2C_READ r)) (TPE.I2C_RDATA r) data

theorem i2cTransactionEnd_of_idle (t : Nat) (nack : Bool) (data : Nat) (clash : Bool) (h : d.on (TPE.I2C_BUSY (4 * g)) = false) :
    i2cTransactionEnd t g nack data clash d = d := if_neg (by simp [h])

theorem i2cTransactionEnd_of_busy (t : Nat) (nack : Bool) (data : Nat) (clash : Bool) (h : d.on (TPE.I2C_BUSY (4 * g)) = true) :
    i2cTransactionEnd t g nack data clash d =
      if clash then (d.i2cShown (4 * g) nack data).writeLost (treePage (4 * g)) 1 else d.i2cShown (4 * g) nack data := by
  have read : ((((d.wr (TPE.I2C_GO (4 * g)) 0).wr (TPE.I2C_BUSY (4 * g)) 0).wr (TPE.I2C_NACK (4 * g)) (b2n nack)).countIf nack (treePage (4 * g)) 0x840).on
      (TPE.I2C_READ (4 * g)) = d.on (TPE.I2C_READ (4 * g)) := by
    rw [Device.countIf_on, Device.on_wr_ne _ _ fkey_ne_on_page, Device.on_wr_ne _ _ fkey_ne_on_page,
      Device.on_wr_ne _ _ fkey_ne_on_page]
  unfold i2cTransactionEnd Device.i2cShown
  simp only [h, if_true, read]

/-- A field that is not RDATA reads after the end as the three bits' writes leave it. -/
theorem Device.i2cShown_rd (nack : Bool) (data : Nat) {f : Fld} (hf : fkey f ≠ fkey (TPE.I2C_RDATA r)) : (d.i2cShown r nack data).rd f =
    (((d.wr (TPE.I2C_GO r) 0).wr (TPE.I2C_BUSY r) 0).wr (TPE.I2C_NACK r) (b2n nack)).rd f := by
  unfold Device.i2cShown Device.wrIf
  split
  · rw [Device.rd_wr_ne _ _ hf, Device.countIf_rd]
  · rw [Device.countIf_rd]

theorem Device.i2cShown_go (nack : Bool) (data : Nat) : (d.i2cShown r nack data).rd (TPE.I2C_GO r) = 0 := by
  rw [Device.i2cShown_rd _ _ fkey_ne_on_page, Device.rd_wr_on_page, Device.rd_wr_on_page,
    Device.rd_wr_same, Nat.zero_mod]

theorem Device.i2cShown_busy (nack : Bool) (data : Nat) : (d.i2cShown r nack data).rd (TPE.I2C_BUSY r) = 0 := by
  rw [Device.i2cShown_rd _ _ fkey_ne_on_page, Device.rd_wr_on_page, Device.rd_wr_same, Nat.zero_mod]

theorem Device.i2cShown_nack (nack : Bool) (data : Nat) : (d.i2cShown r nack data).rd (TPE.I2C_NACK r) = b2n nack := by
  rw [Device.i2cShown_rd _ _ fkey_ne_on_page, Device.rd_wr_same]
  cases nack <;> rfl

theorem Device.i2cShown_writeLost (nack : Bool) (data : Nat) :
    (d.i2cShown r nack data).rd (PG.WRITE_LOST (treePage r)) = d.rd (PG.WRITE_LOST (treePage r)) := by
  rw [Device.i2cShown_rd _ _ fkey_ne_on_page, Device.rd_wr_on_page, Device.rd_wr_on_page,
    Device.rd_wr_on_page]

/-- The read data is delivered where the transaction was a read without a NACK. -/
theorem Device.i2cShown_rdata (nack : Bool) {data : Nat} (hd : data < 256) : (d.i2cShown r nack data).rd (TPE.I2C_RDATA r) =
    if nack = false ∧ d.on (TPE.I2C_READ r) = true then data else d.rd (TPE.I2C_RDATA r) := by
  unfold Device.i2cShown Device.wrIf
  by_cases h : nack = false ∧ d.on (TPE.I2C_READ r) = true
  · rw [if_pos (by simpa using h), if_pos h, Device.rd_wr_same]
    exact Nat.mod_eq_of_lt hd
  · rw [if_neg (by simpa using h), if_neg h, Device.countIf_rd, Device.rd_wr_on_page,
      Device.rd_wr_on_page, Device.rd_wr_on_page]

theorem Device.i2cShown_ctrs (nack : Bool) (data : Nat) : (d.i2cShown r nack data).ctrs = (d.countIf nack (treePage r) 0x840).ctrs := by
  unfold Device.i2cShown
  rw [Device.wrIf_ctrs]
  unfold Device.countIf
  split <;> rfl

end Sys2Proof.Machine

namespace Sys2Proof.Safety

open Sys2Proof.Machine

/-- A counter that stands in `b` as in `c`, where it counted, counted in `b`. -/
theorem Counts.of_ctrs {p o n : Nat} {a b c : Device} (h : Counts p o n a c) (e : b.ctrs = c.ctrs) : Counts p o n a b := by
  unfold Counts Device.ctr at *
  rw [e, h]

/-- The fields that the end of a transaction on the bus of tree `r` may write. -/
def i2cFields (r : Nat) : List Fld := [TPE.I2C_GO r, TPE.I2C_BUSY r, TPE.I2C_NACK r, TPE.I2C_RDATA r, PG.WRITE_LOST (treePage r)]

theorem only_i2cShown (r : Nat) (nack : Bool) (data : Nat) (a : Device) : Only (i2cFields r) [(treePage r, 0x840)] a (a.i2cShown r nack data) :=
  (((((Only.refl _ _ a).wr _ ⟨TPE.I2C_GO r, by simp [i2cFields], rfl⟩).wr _ ⟨TPE.I2C_BUSY r, by simp [i2cFields], rfl⟩).wr _
    ⟨TPE.I2C_NACK r, by simp [i2cFields], rfl⟩).countIf _ (List.mem_singleton_self _)).wrIf _ _ ⟨TPE.I2C_RDATA r, by simp [i2cFields], rfl⟩

/-- Settles O18: a write of I2C_GO is refused, lost, locked out, or takes effect, and the end of a transaction shows its outcome. -/
theorem opticsSideband : Obligations.OpticsSideband := by
  unfold Obligations.OpticsSideband
  refine ⟨fun t m g v hw s hr => Makes.intro hr (exec_i2cGo ..) ?_, fun t g nack data clash s hr => Makes.intro hr (exec_i2cTransactionEnd ..) ?_⟩
  all_goals generalize s.dev.arrive t = a
  · refine ⟨fun hm => hm ▸ refused_colliding _ a _ hw, fun hm lost => lost ▸ lost_colliding _ a hm, fun hm own busy => ?_, fun hm own idle off => ?_,
      fun hm own idle go => ?_⟩
    all_goals rw [colliding_own _ a hm (.inl own)]
    · rw [i2cGo_of_busy _ _ hm busy]
      exact locked _ a
    · rw [off, i2cGo_cleared _ hm idle]
      exact ⟨a.rd_wr_same _ _, (Only.refl _ _ a).wr _ ⟨_, List.mem_singleton_self _, rfl⟩⟩
    · rw [go, i2cGo_started _ hm idle]
      refine ⟨?_, ?_, rfl, rfl, ?_⟩
      · rw [Device.emit_rd, Device.rd_wr_on_page]
        exact a.rd_wr_same _ _
      · rw [Device.emit_rd]
        exact Device.rd_wr_same _ _ _
      · have written := ((Kept.refl [TPE.I2C_GO (4 * g.val), TPE.I2C_BUSY (4 * g.val)] [] a).wr 1 ⟨TPE.I2C_GO (4 * g.val), by simp, rfl⟩).wr 1
          ⟨TPE.I2C_BUSY (4 * g.val), by simp, rfl⟩
        exact written.same rfl rfl
  · refine ⟨i2cTransactionEnd_of_idle _ _ _ _, fun busy => ?_⟩
    rw [i2cTransactionEnd_of_busy _ _ _ _ busy]
    have counted : nack = true → Counts (treePage (4 * g.val)) 0x840 1 a (a.i2cShown (4 * g.val) nack data.val) := fun h =>
      Counts.of_ctrs (a.ctr_count_same _ _ _) ((a.i2cShown_ctrs nack _).trans (by rw [h]; rfl))
    have uncounted : nack = false → (a.i2cShown (4 * g.val) nack data.val).ctrs = a.ctrs := fun h => (a.i2cShown_ctrs nack _).trans (by rw [h]; rfl)
    cases clash with
    | false => exact ⟨Device.i2cShown_go .., Device.i2cShown_busy .., Device.i2cShown_nack .., counted, uncounted, Device.i2cShown_rdata _ data.isLt,
        Device.i2cShown_writeLost .., only_i2cShown ..⟩
    | true =>
      refine ⟨?_, ?_, ?_, counted, uncounted, ?_, ?_, (only_i2cShown ..).wr _ ⟨PG.WRITE_LOST _, by simp [i2cFields], rfl⟩⟩
      · exact (Device.rd_writeLost_on_page ..).trans (Device.i2cShown_go ..)
      · exact (Device.rd_writeLost_on_page ..).trans (Device.i2cShown_busy ..)
      · exact (Device.rd_writeLost_on_page ..).trans (Device.i2cShown_nack ..)
      · exact (Device.rd_writeLost_on_page ..).trans (Device.i2cShown_rdata _ data.isLt)
      · refine (Device.rd_wr_same _ _ _).trans ?_
        rw [Device.i2cShown_writeLost]
        rfl

end Sys2Proof.Safety
end

section
/-!
PROOFS. Frame assembly and course placement (R97, R99 to R103, R111, R112): what a framer takes of the frames offered, the member the distributor picks,
and the statement `Obligations.FramesAssemble`.
-/

namespace Sys2Proof.Machine

variable {d : Device} {n c x : Nat}

/-! ### Taking offered frames in order (R97, R101) -/

/-- The bytes that the XGEM frames of a list take. -/
def xgemSum (l : List DsXgem) : Nat := (l.map (fun g => xgemBytes g.bytes.length)).sum

theorem xgemSum_append_singleton (l : List DsXgem) (g : DsXgem) : xgemSum (l ++ [g]) = xgemSum l + xgemBytes g.bytes.length := by simp [xgemSum]

/-- `f` placed more frames, and `rest` still waits. -/
structure DsFrame.Placed (f : DsFrame) (l : List DsXgem) (g : DsFrame) (rest : List DsXgem) : Prop where
  frame : g.frame = f.frame
  missed : g.missed = f.missed
  space : g.space = f.space
  order : g.xgems ++ rest = f.xgems ++ l
  fill : f.fill = xgemSum f.xgems → g.fill = xgemSum g.xgems
  fits : f.fill ≤ f.space → g.fill ≤ g.space
  full : ∀ h hs, rest = h :: hs → g.space < g.fill + xgemBytes h.bytes.length

theorem DsFrame.take_placed (f : DsFrame) (l : List DsXgem) : DsFrame.Placed f l (DsFrame.take f l).1 (DsFrame.take f l).2 := by
  induction l generalizing f with
  | nil => exact ⟨rfl, rfl, rfl, rfl, id, id, nofun⟩
  | cons x xs ih =>
    unfold DsFrame.take
    split
    next room =>
      obtain ⟨frame, missed, space, order, fill, fits, full⟩ := ih { f with fill := f.fill + xgemBytes x.bytes.length, xgems := f.xgems ++ [x] }
      refine ⟨frame, missed, space, by simpa using order, fun e => fill ?_, fun _ => fits room, full⟩
      rw [xgemSum_append_singleton, ← e]
    next past =>
      refine ⟨rfl, rfl, rfl, rfl, id, id, fun h hs e => ?_⟩
      cases e
      exact Nat.not_le.1 past

/-! ### FRAME_ASSEMBLY (R97, R99) -/

/-- The frame that FRAME_ASSEMBLY starts with: its map and messages leave it its space. -/
def Device.blankFrame (d : Device) (c k : Nat) (crossed : Bool) : DsFrame :=
  { frame := k, missed := (d.sealedItems c k).isSome && !crossed,
    space := xgemSpace (if crossed then ((d.sealedItems c k).getD []).length else 0) (min (d.rdA (CH.PLOAM_PER_FRAME c)) (d.cfr c).ploamQ.length) }

theorem frameAssembly_eq (t k : Nat) (crossed : Bool) (d : Device) : frameAssembly t c k crossed d =
    d.setCfr c { d.cfr c with
      copied := min (d.rdA (CH.PLOAM_PER_FRAME c)) (d.cfr c).ploamQ.length
      asm := some (DsFrame.take (d.blankFrame c k crossed) (d.cfr c).offered).1
      offered := (DsFrame.take (d.blankFrame c k crossed) (d.cfr c).offered).2 } := rfl

theorem Device.sealedItems_isSome (k : Nat) : (d.sealedItems c k).isSome = true ↔ (d.slot c k).st = .sealed ∧ (d.slot c k).frame = k := by
  unfold Device.sealedItems
  dsimp only
  split <;> simp_all

theorem Device.blankFrame_space (k : Nat) (crossed : Bool) : (d.blankFrame c k crossed).space =
    xgemSpace (match d.sealedItems c k with | some l => if crossed then l.length else 0 | none => 0)
      (min (d.rdA (CH.PLOAM_PER_FRAME c)) (d.cfr c).ploamQ.length) := by
  unfold Device.blankFrame
  cases d.sealedItems c k <;> simp

/-! ### The member with the lowest fill (R112) -/

/-- Channel `c` has a frame under assembly with room for `n` bytes. -/
def Device.HasRoom (d : Device) (n c : Nat) : Prop := ∃ f, (d.cfr c).asm = some f ∧ f.fill + n ≤ f.space

/-- One step of the choice: `c` replaces `best` where it has room and a lower fill. -/
def Device.better (d : Device) (n : Nat) (best : Option Nat) (c : Nat) : Option Nat :=
  match (d.cfr c).asm with
  | some f =>
    if f.fill + n ≤ f.space then
      match best with
      | some b =>
        match (d.cfr b).asm with
        | some g => if f.fill < g.fill then some c else best
        | none => some c
      | none => some c
    else best
  | none => best

theorem pickMember_eq (d : Device) (n : Nat) (l : List Nat) : pickMember d n l = l.foldl (d.better n) none := rfl

theorem Device.better_of_no_room (h : ¬ d.HasRoom n c) (best : Option Nat) : d.better n best c = best := by
  unfold Device.better
  cases e : (d.cfr c).asm with
  | none => rfl
  | some f => exact if_neg fun room => h ⟨f, e, room⟩

theorem Device.better_first (h : d.HasRoom n c) : d.better n none c = some c := by
  obtain ⟨f, e, room⟩ := h
  simp only [Device.better, e, room, if_true]

theorem Device.better_second {b : Nat} {f g : DsFrame} (hf : (d.cfr c).asm = some f) (room : f.fill + n ≤ f.space) (hg : (d.cfr b).asm = some g) :
    d.better n (some b) c = if f.fill < g.fill then some c else some b := by
  simp only [Device.better, hf, hg, room, if_true]

/-- What is chosen is of the list and has room. -/
theorem Device.better_chosen {l : List Nat} {b : Nat} (h : l.foldl (d.better n) none = some b) : b ∈ l ∧ d.HasRoom n b := by
  induction l using List.reverseRecOn generalizing b with
  | nil => cases h
  | append_singleton l c ih =>
    rw [List.foldl_concat] at h
    by_cases room : d.HasRoom n c
    · cases e : l.foldl (d.better n) none with
      | none =>
        rw [e, Device.better_first room] at h
        cases h
        exact ⟨by simp, room⟩
      | some a =>
        have held := ih e
        obtain ⟨f, hf, fits⟩ := room
        obtain ⟨g, hg, -⟩ := held.2
        rw [e, Device.better_second hf fits hg] at h
        split at h <;> cases h
        · exact ⟨by simp, f, hf, fits⟩
        · exact ⟨by simp [held.1], held.2⟩
    · rw [Device.better_of_no_room room] at h
      obtain ⟨hb, hroom⟩ := ih h
      exact ⟨by simp [hb], hroom⟩

theorem pickMember_of_no_room {l : List Nat} (h : ∀ c ∈ l, ¬ d.HasRoom n c) : pickMember d n l = none := by
  rw [pickMember_eq]
  cases e : l.foldl (d.better n) none with
  | none => rfl
  | some b =>
    obtain ⟨hb, room⟩ := Device.better_chosen e
    exact absurd room (h b hb)

/-- Of a rising list, the channel with the lowest fill that has room is picked, the lowest channel on a tie. -/
theorem pickMember_of_lowest {l : List Nat} {f : DsFrame} (rising : l.Pairwise (· < ·)) (hc : c ∈ l) (hf : (d.cfr c).asm = some f)
    (room : f.fill + n ≤ f.space)
    (lowest : ∀ c' h, c' ∈ l → c' ≠ c → (d.cfr c').asm = some h → h.fill + n ≤ h.space → f.fill < h.fill ∨ (f.fill = h.fill ∧ c < c')) :
    pickMember d n l = some c := by
  obtain ⟨l₁, l₂, rfl⟩ := List.append_of_mem hc
  obtain ⟨-, tail, before⟩ := List.pairwise_append.1 rising
  have after := (List.pairwise_cons.1 tail).1
  have reached : d.better n (l₁.foldl (d.better n) none) c = some c := by
    cases e : l₁.foldl (d.better n) none with
    | none => exact Device.better_first ⟨f, hf, room⟩
    | some b =>
      obtain ⟨hb, g, hg, fits⟩ := Device.better_chosen e
      have below : b < c := before b hb c (by simp)
      rw [Device.better_second hf room hg, if_pos]
      rcases lowest b g (by simp [hb]) below.ne hg fits with less | ⟨-, above⟩
      exacts [less, absurd above below.asymm]
  have kept : ∀ m : List Nat, (∀ c' ∈ m, c' ∈ l₂) → m.foldl (d.better n) (some c) = some c := by
    intro m
    induction m with
    | nil => exact fun _ => rfl
    | cons c' m ih =>
      intro hm
      have mem : c' ∈ l₂ := hm c' (by simp)
      have same : d.better n (some c) c' = some c := by
        by_cases other : d.HasRoom n c'
        · obtain ⟨g, hg, fits⟩ := other
          rw [Device.better_second hg fits hf, if_neg]
          rcases lowest c' g (by simp [mem]) (after c' mem).ne' hg fits with less | ⟨tie, -⟩ <;> omega
        · exact Device.better_of_no_room other _
      rw [List.foldl_cons, same]
      exact ih fun b hb => hm b (by simp [hb])
  rw [pickMember_eq, List.foldl_append, List.foldl_cons, reached]
  exact kept l₂ fun _ => id

theorem Device.members_rising (d : Device) (x : Nat) : (d.members x).Pairwise (· < ·) := by
  unfold Device.members
  simp only
  split
  · exact (List.pairwise_lt_range.filter _).map _ fun _ _ less => Nat.add_lt_add_left less _
  · split <;> simp

/-! ### COURSE_XGEM_PLACE (R111, R112) -/

theorem courseXgemPlace_of_empty (t : Nat) (h : d.courseQ x = []) : courseXgemPlace t x d = d := by simp only [courseXgemPlace, h]

section Waiting

variable {g : DsXgem} {rest : List DsXgem} (h : d.courseQ x = g :: rest)
include h

theorem courseXgemPlace_of_plain (t : Nat) (ext : d.courseExt x = false) :
    courseXgemPlace t x d = (d.offerOn (d.ploamChan x) g).setCourseQ x rest := by
  simp [courseXgemPlace, h, ext]

theorem courseXgemPlace_of_no_room (t : Nat) (ext : d.courseExt x = true) (none : pickMember d (xgemBytes g.bytes.length) (d.members x) = none) :
    courseXgemPlace t x d = d := by
  simp only [courseXgemPlace, h, ext, none, if_true]

theorem courseXgemPlace_of_member (t : Nat) (ext : d.courseExt x = true) (some : pickMember d (xgemBytes g.bytes.length) (d.members x) = some c) :
    courseXgemPlace t x d =
      (((d.setCfr c { d.cfr c with
          asm := (d.cfr c).asm.map (fun a => { a with fill := a.fill + xgemBytes g.bytes.length, xgems := a.xgems ++ [g] }) }).setCourse x
        { d.course x with dsNext := ((d.course x).dsNext + 1) % 65536 }).setCourseQ x rest).count (treePage (termTree x)) 0x810 1 := by
  simp only [courseXgemPlace, h, ext, some, if_true]

end Waiting

/-! ### The parts of the trees -/

theorem Device.courseQ_setCourseQ_same (q : List DsXgem) : (d.setCourseQ x q).courseQ x = q := Tbl.getD_put_same _ _ _ _

theorem Device.courseQ_setCourseQ_ne {y : Nat} (q : List DsXgem) (h : y ≠ x) : (d.setCourseQ x q).courseQ y = d.courseQ y := Tbl.getD_put_ne _ _ _ _ h

theorem Device.course_setCourse_ne {y : Nat} (e : Course) (h : y ≠ x) : (d.setCourse x e).course y = d.course y := Tbl.getD_put_ne _ _ _ _ h

end Sys2Proof.Machine

namespace Sys2Proof.Safety

open Sys2Proof.Machine

/-- What COURSE_XGEM_PLACE keeps, whatever it does: the course and the waiting frames of every other terminal, and all but framers, courses, waiting
frames and one counter. -/
def PlacesFor (x : Nat) (a b : Device) : Prop :=
  (∀ y, y ≠ x → b.course y = a.course y ∧ b.courseQ y = a.courseQ y) ∧
  b = { a with ctrs := b.ctrs, trees := { a.trees with cfr := b.trees.cfr, courses := b.trees.courses, courseQ := b.trees.courseQ } } ∧
  Kept [] [(treePage (termTree x), 0x810)] a b

theorem placesFor_courseXgemPlace (t x : Nat) (a : Device) : PlacesFor x a (courseXgemPlace t x a) := by
  have still : PlacesFor x a a := ⟨fun _ _ => ⟨rfl, rfl⟩, rfl, Kept.refl _ _ _⟩
  cases waits : a.courseQ x with
  | nil => rw [courseXgemPlace_of_empty t waits]; exact still
  | cons g rest =>
    cases ext : a.courseExt x with
    | false =>
      rw [courseXgemPlace_of_plain waits t ext]
      exact ⟨fun y hy => ⟨rfl, Device.courseQ_setCourseQ_ne rest hy⟩, rfl, (Kept.refl _ _ a).same rfl rfl⟩
    | true =>
      cases pick : pickMember a (xgemBytes g.bytes.length) (a.members x) with
      | none => rw [courseXgemPlace_of_no_room waits t ext pick]; exact still
      | some c =>
        rw [courseXgemPlace_of_member waits t ext pick]
        refine ⟨fun y hy => ⟨Device.course_setCourse_ne _ hy, Device.courseQ_setCourseQ_ne rest hy⟩, rfl, Kept.count ?_ 1 (List.mem_singleton_self _)⟩
        exact (Kept.refl _ _ a).same rfl rfl

/-- The distributor places a frame on a member with room and the lowest fill. -/
theorem courseXgemPlace_placed (t : Nat) {a : Device} {x c : Nat} {g : DsXgem} {rest : List DsXgem} {f : DsFrame} (waits : a.courseQ x = g :: rest)
    (ext : a.courseExt x = true) (pick : pickMember a (xgemBytes g.bytes.length) (a.members x) = some c) (hf : (a.cfr c).asm = some f) :
    let b := courseXgemPlace t x a
    b.cfr c = { a.cfr c with asm := some { f with fill := f.fill + xgemBytes g.bytes.length, xgems := f.xgems ++ [g] } } ∧
    (∀ c', c' ≠ c → b.cfr c' = a.cfr c') ∧ b.course x = { a.course x with dsNext := ((a.course x).dsNext + 1) % 65536 } ∧ b.courseQ x = rest ∧
    Counts (treePage (termTree x)) 0x810 1 a b := by
  rw [courseXgemPlace_of_member waits t ext pick]
  refine ⟨?_, fun c' hc => Device.cfr_setCfr_ne _ _ hc, Device.course_setCourse_same _ _ _, Device.courseQ_setCourseQ_same _, Device.ctr_count_same _ _ _ _⟩
  exact (Device.cfr_setCfr_same _ _ _).trans (by rw [hf]; rfl)

/-- Settles O14: FRAME_ASSEMBLY takes offered frames while they fit, and COURSE_XGEM_PLACE places the first waiting frame by the member it picks. -/
theorem framesAssemble : Obligations.FramesAssemble := by
  unfold Obligations.FramesAssemble
  refine ⟨fun t c k crossed s hr => Makes.intro hr (exec_frameAssembly ..) ?_, fun t x s hr => Makes.intro hr (exec_courseXgemPlace ..) ?_⟩
  all_goals generalize s.dev.arrive t = a
  · rw [frameAssembly_eq]
    obtain ⟨frame, missed, space, order, fill, fits, full⟩ := DsFrame.take_placed (a.blankFrame c.val k crossed) (a.cfr c.val).offered
    refine ⟨⟨_, _, Device.cfr_setCfr_same _ _ _, frame, space.trans (Device.blankFrame_space k crossed), order, fill rfl, fits (Nat.zero_le _), full, ?_⟩,
      fun w hw => Device.cfr_setCfr_ne _ _ hw, rfl⟩
    rw [missed, ← and_assoc, ← Device.sealedItems_isSome]
    simp [Device.blankFrame]
  · obtain ⟨others, frame, kept⟩ := placesFor_courseXgemPlace a.now x.val a
    refine ⟨courseXgemPlace_of_empty _, fun g rest waits => ⟨fun ext => ?_, fun ext full => ?_, fun c f ext hc hf room lowest => ?_⟩, others, frame, kept⟩
    · rw [courseXgemPlace_of_plain waits _ ext]
      exact ⟨Device.cfr_setCfr_same _ _ _, fun w hw => Device.cfr_setCfr_ne _ _ hw, Device.courseQ_setCourseQ_same _, rfl⟩
    · refine courseXgemPlace_of_no_room waits _ ext (pickMember_of_no_room fun c hc => ?_)
      rintro ⟨f, hf, room⟩
      exact absurd room (Nat.not_le.2 (full c hc f hf))
    · exact courseXgemPlace_placed _ waits ext (pickMember_of_lowest (a.members_rising x.val) hc hf room lowest) hf

end Sys2Proof.Safety
end

section
/-!
PROOFS. The receive group (R113, R114, R116): which held frames pass on, what passing, skipping and limiting leave alone, and the statement
`Obligations.GapsSkip`.
-/

namespace Sys2Proof.Machine

variable {d : Device} {x : Nat}

/-! ### Sequence numbers -/

theorem seqAhead_add {e i : Nat} (he : e < 65536) (hi : i < 65536) : seqAhead ((e + i) % 65536) e = i := by
  unfold seqAhead
  omega

/-- Seen from the number before, every other number is one further ahead. -/
theorem seqAhead_pred {q e : Nat} (hq : q < 65536) (he : e < 65536) (h : q ≠ e) : seqAhead q e = seqAhead q ((e + 1) % 65536) + 1 := by
  unfold seqAhead
  omega

theorem seqAhead_self (e : Nat) : seqAhead e e = 0 := by
  unfold seqAhead
  omega

/-! ### Held frames whose turn it is (R113) -/

theorem passHeld_stops {n e : Nat} {h : List HeldXgem} (none : ∀ f ∈ h, f.seq ≠ e) : passHeld n e h = (e, h, []) := by
  cases n with
  | zero => rfl
  | succ n =>
    have now : h.filter (fun f => f.seq = e) = [] := List.filter_eq_nil_iff.2 fun f hf => by simpa using none f hf
    simp only [passHeld, now]

theorem passHeld_goes (n : Nat) {e : Nat} {h : List HeldXgem} (some : ∃ f ∈ h, f.seq = e) : passHeld (n + 1) e h =
    let r := passHeld n ((e + 1) % 65536) (h.filter (fun g => g.seq ≠ e))
    (r.1, r.2.1, (h.filter (fun f => f.seq = e)).map (·.seq) ++ r.2.2) := by
  obtain ⟨f, hf, he⟩ := some
  have now : h.filter (fun f => f.seq = e) ≠ [] := List.ne_nil_of_mem (List.mem_filter.2 ⟨hf, by simpa using he⟩)
  conv_lhs => unfold passHeld
  split
  next stop => exact absurd stop now
  next => rfl

/-- `m` numbers from `e` on have passed: `r` holds the next one, the frames still held, and the numbers passed. -/
structure Passes (e m : Nat) (h : List HeldXgem) (r : Nat × List HeldXgem × List Nat) : Prop where
  next : r.1 = (e + m) % 65536
  run : ∀ q, q ∈ r.2.2 ↔ ∃ i < m, q = (e + i) % 65536
  count : ∀ q, h.countP (fun f => f.seq = q) = r.2.1.countP (fun f => f.seq = q) + r.2.2.count q
  left : ∀ f, f ∈ r.2.1 ↔ f ∈ h ∧ f.seq ∉ r.2.2
  order : (r.2.2.map (fun q => seqAhead q e)).Pairwise (· ≤ ·)

theorem Passes.zero {e : Nat} (he : e < 65536) (h : List HeldXgem) : Passes e 0 h (e, h, []) where
  next := (Nat.mod_eq_of_lt he).symm
  run := by simp
  count := by simp
  left := by simp
  order := List.Pairwise.nil

/-- What passed was held. -/
theorem Passes.held {e m : Nat} {h : List HeldXgem} {r : Nat × List HeldXgem × List Nat} (p : Passes e m h r) {q : Nat} (hq : q ∈ r.2.2) :
    ∃ f ∈ h, f.seq = q := by
  have := List.count_pos_iff.2 hq
  have positive : 0 < h.countP (fun f => f.seq = q) := by have := p.count q; omega
  simpa using List.countP_pos_iff.1 positive

/-- No number passes twice around, for its frames were gone after the first time. -/
theorem Passes.bound {e m : Nat} {h : List HeldXgem} {r : Nat × List HeldXgem × List Nat} (he : e < 65536)
    (p : Passes ((e + 1) % 65536) m (h.filter (fun g => g.seq ≠ e)) r) : m + 1 ≤ 65536 := by
  by_contra past
  have again : e ∈ r.2.2 := (p.run e).2 ⟨65535, by omega, by omega⟩
  obtain ⟨f, hf, hs⟩ := p.held again
  simp [hs] at hf

theorem Passes.succ {e m : Nat} {h : List HeldXgem} {r : Nat × List HeldXgem × List Nat} (he : e < 65536) (some : ∃ f ∈ h, f.seq = e)
    (p : Passes ((e + 1) % 65536) m (h.filter (fun g => g.seq ≠ e)) r) :
    Passes e (m + 1) h (r.1, r.2.1, (h.filter (fun f => f.seq = e)).map (·.seq) ++ r.2.2) := by
  have mem_now (q : Nat) : q ∈ (h.filter (fun f => f.seq = e)).map (·.seq) ↔ q = e := by
    obtain ⟨f, hf, hs⟩ := some
    simp only [List.mem_map, List.mem_filter, decide_eq_true_eq]
    exact ⟨fun ⟨g, hg, hq⟩ => hq ▸ hg.2, fun hq => ⟨f, ⟨hf, hs⟩, hs.trans hq.symm⟩⟩
  have later {q : Nat} (hq : q ∈ r.2.2) : q < 65536 ∧ q ≠ e := by
    obtain ⟨i, -, rfl⟩ := (p.run q).1 hq
    obtain ⟨f, hf, hs⟩ := p.held hq
    exact ⟨Nat.mod_lt _ (by omega), by rintro hqe; simp [hs, hqe] at hf⟩
  refine ⟨p.next.trans (by omega), fun q => ?_, fun q => ?_, fun f => ?_, ?_⟩
  · rw [List.mem_append, mem_now, p.run]
    constructor
    · rintro (rfl | ⟨i, hi, rfl⟩)
      · exact ⟨0, by omega, by omega⟩
      · exact ⟨i + 1, by omega, by omega⟩
    · rintro ⟨i, hi, rfl⟩
      cases i with
      | zero => exact .inl (by omega)
      | succ i => exact .inr ⟨i, by omega, by omega⟩
  · dsimp only
    have rest := p.count q
    rw [List.countP_filter] at rest
    rw [List.count_append]
    by_cases hq : q = e
    · subst hq
      have now : ((h.filter (fun f => f.seq = q)).map (·.seq)).count q = h.countP (fun f => f.seq = q) := by
        rw [List.count, List.countP_map, List.countP_filter]
        exact List.countP_congr fun f _ => by simp
      have gone : h.countP (fun f => decide (f.seq = q) && decide (f.seq ≠ q)) = 0 := List.countP_eq_zero.2 fun f _ => by simp
      omega
    · have now : ((h.filter (fun f => f.seq = e)).map (·.seq)).count q = 0 := List.count_eq_zero.2 fun mem => hq ((mem_now q).1 mem)
      have same : h.countP (fun f => decide (f.seq = q) && decide (f.seq ≠ e)) = h.countP (fun f => f.seq = q) :=
        List.countP_congr fun f _ => by
          simp only [Bool.and_eq_true, decide_eq_true_eq]
          exact ⟨And.left, fun hs => ⟨hs, hs ▸ hq⟩⟩
      omega
  · rw [p.left, List.mem_append, mem_now, List.mem_filter, decide_eq_true_eq, not_or, and_assoc]
  · rw [List.map_append, List.pairwise_append]
    refine ⟨?_, ?_, ?_⟩
    · refine List.pairwise_map.2 (List.pairwise_of_forall_mem_list fun a ha b hb => ?_)
      rw [(mem_now a).1 ha, (mem_now b).1 hb]
    · refine List.pairwise_map.2 ((List.pairwise_map.1 p.order).imp_of_mem fun {a b} ha hb ab => ?_)
      rw [seqAhead_pred (later ha).1 he (later ha).2, seqAhead_pred (later hb).1 he (later hb).2]
      omega
    · intro a ha b _
      obtain ⟨q, hq, rfl⟩ := List.mem_map.1 ha
      rw [(mem_now q).1 hq, seqAhead_self]
      exact Nat.zero_le _

theorem passHeld_passes (n : Nat) {e : Nat} (he : e < 65536) (h : List HeldXgem) : ∃ m ≤ 65536, Passes e m h (passHeld n e h) := by
  induction n generalizing e h with
  | zero => exact ⟨0, by omega, Passes.zero he h⟩
  | succ n ih =>
    by_cases some : ∃ f ∈ h, f.seq = e
    · obtain ⟨m, -, p⟩ := ih (Nat.mod_lt (e + 1) (by omega)) (h.filter (fun g => g.seq ≠ e))
      rw [passHeld_goes n some]
      exact ⟨m + 1, p.bound he, p.succ he some⟩
    · rw [passHeld_stops fun f hf hs => some ⟨f, hf, hs⟩]
      exact ⟨0, by omega, Passes.zero he h⟩

/-- With enough fuel no frame is left whose turn it is. -/
theorem passHeld_left {n e : Nat} {h : List HeldXgem} (fuel : h.length ≤ n) : ∀ f ∈ (passHeld n e h).2.1, f.seq ≠ (passHeld n e h).1 := by
  induction n generalizing e h with
  | zero =>
    cases List.length_eq_zero_iff.1 (Nat.le_zero.1 fuel)
    exact nofun
  | succ n ih =>
    by_cases some : ∃ f ∈ h, f.seq = e
    · rw [passHeld_goes n some]
      obtain ⟨f, hf, hs⟩ := some
      have fewer : (h.filter (fun g => g.seq ≠ e)).length < h.length := List.length_filter_lt_length_iff_exists.2 ⟨f, hf, by simp [hs]⟩
      exact ih (by omega)
    · have none : ∀ f ∈ h, f.seq ≠ e := fun f hf hs => some ⟨f, hf, hs⟩
      rw [passHeld_stops none]
      exact none

/-! ### What passing, skipping and limiting leave alone -/

/-- `g` sees neither what leaves the device, nor the counters of `C`, nor the courses and held frames of the terminals of `T`. -/
structure ReorderBlind {β : Type} (T : Nat → Prop) (C : Nat → Nat → Prop) (g : Device → β) : Prop where
  emit : ∀ d o, g (Device.emit o d) = g d
  count : ∀ d p o n, C p o → g (Device.count p o n d) = g d
  course : ∀ d y c, T y → g (Device.setCourse y c d) = g d
  reorder : ∀ d y r, T y → g (Device.setReorder y r d) = g d

section

variable {β : Type} {T : Nat → Prop} {C : Nat → Nat → Prop} {g : Device → β} (h : ReorderBlind T C g)
include h

theorem ReorderBlind.passFrom (hx : T x) (e : Nat) (l : List HeldXgem) (d : Device) : g (d.passFrom x e l) = g d := by
  unfold Device.passFrom
  exact (forEach_keeps _ g _ _ fun _ d => h.emit d _).trans ((h.reorder _ _ _ hx).trans (h.course _ _ _ hx))

theorem ReorderBlind.skipGap (hx : T x) (skip : C (treePage (termTree x)) 0x818) (s : Nat) (d : Device) : g (d.skipGap x s) = g d := by
  unfold Device.skipGap
  dsimp only
  split
  · rfl
  · rw [h.passFrom hx, h.reorder _ _ _ hx, h.count _ _ _ _ skip]

theorem ReorderBlind.skipDue (hx : T x) (skip : C (treePage (termTree x)) 0x818) (s n : Nat) (d : Device) : g (d.skipDue x s n) = g d := by
  induction n generalizing d with
  | zero => rfl
  | succ n ih =>
    unfold Device.skipDue
    split
    · split
      · rw [ih, h.skipGap hx skip]
      · rfl
    · rfl

end

/-! ### Gap deadlines -/

theorem Device.skipDue_of_not_due {s : Nat} (n : Nat) (h : ∀ g, (d.reorder x).gap = some g → s ≤ g) : d.skipDue x s n = d := by
  cases n with
  | zero => rfl
  | succ n =>
    unfold Device.skipDue
    cases e : (d.reorder x).gap with
    | none => rfl
    | some g => exact if_neg (Nat.not_lt.2 (h g e))

theorem Device.skipDue_of_due {s n g : Nat} (h : (d.reorder x).gap = some g) (due : g < s) : d.skipDue x s (n + 1) = (d.skipGap x g).skipDue x s n := by
  conv_lhs => unfold Device.skipDue
  simp only [h, due, if_true]

/-- The skipped gaps that are kept while a gap of `n` numbers from `e` on is skipped at deadline `s` (R114). -/
def Reorder.skipped (r : Reorder) (e n s : Nat) : List (Nat × Nat × Nat) :=
  let kept := r.skips.filter (fun k => decide (seqAhead e k.1 < 32768))
  if s = 0 then kept else kept ++ [(e, n, s)]

/-- The gap before the one frame held is skipped. -/
theorem Device.skipGap_single {f : HeldXgem} (s : Nat) (h : (d.reorder x).held = [f]) : d.skipGap x s =
    ((d.count (treePage (termTree x)) 0x818 (seqAhead f.seq (d.course x).usExpected)).setReorder x
      { d.reorder x with skips := Reorder.skipped (d.reorder x) (d.course x).usExpected (seqAhead f.seq (d.course x).usExpected) s }).passFrom x f.seq [f] := by
  unfold Device.skipGap
  simp only [h, List.foldl_nil]
  rfl

theorem passHeld_single (f : HeldXgem) : passHeld 1 f.seq [f] = ((f.seq + 1) % 65536, [], [f.seq]) := by
  simp [passHeld]

/-- The one frame held passes on. -/
theorem Device.passFrom_single (f : HeldXgem) (d : Device) : d.passFrom x f.seq [f] =
    ((d.setCourse x { d.course x with usExpected := (f.seq + 1) % 65536 }).setReorder x { d.reorder x with held := [], gap := none }).emit
      (.xgemUp x f.seq) := by
  unfold Device.passFrom
  simp only [List.length_singleton, passHeld_single]
  rfl

theorem Device.reorder_setReorder_same (r : Reorder) : (d.setReorder x r).reorder x = r := Tbl.getD_put_same _ _ _ _

theorem Device.reorder_setReorder_ne {y : Nat} (r : Reorder) (h : y ≠ x) : (d.setReorder x r).reorder y = d.reorder y := Tbl.getD_put_ne _ _ _ _ h

end Sys2Proof.Machine

namespace Sys2Proof.Safety

open Sys2Proof.Machine

/-! ### The statement -/

/-- A device without what leaves it, its counters, its courses and its held frames. -/
def withoutReorder (d : Device) : Device :=
  { d with core := { d.core with out := [] }, ctrs := [], trees := { d.trees with courses := [], reorder := [] } }

/-- The device `w` with what leaves it, the counters, the courses and the held frames of `b`. -/
def withReorderOf (b w : Device) : Device :=
  { w with core := { w.core with out := b.core.out }, ctrs := b.ctrs, trees := { w.trees with courses := b.trees.courses, reorder := b.trees.reorder } }

theorem eq_withReorderOf {a b : Device} (h : withoutReorder b = withoutReorder a) : b = withReorderOf b a :=
  calc b = withReorderOf b (withoutReorder b) := rfl
    _ = withReorderOf b (withoutReorder a) := by rw [h]
    _ = withReorderOf b a := rfl

/-- The counter of skipped numbers of terminal `x`'s tree. -/
def skipCounter (x p o : Nat) : Prop := p = treePage (termTree x) ∧ o = 0x818

/-- Skipping the gaps of a terminal touches its course, its held frames, what leaves the device, and the count of skipped numbers. -/
theorem skipDue_effect (x s n : Nat) (a : Device) : let b := a.skipDue x s n
    (∀ y, y ≠ x → b.course y = a.course y ∧ b.reorder y = a.reorder y) ∧
    b = { a with core := { a.core with out := b.core.out }, ctrs := b.ctrs, trees := { a.trees with courses := b.trees.courses, reorder := b.trees.reorder } } ∧
    Kept [] [(treePage (termTree x), 0x818)] a b := by
  have keeps {β : Type} {g : Device → β} (h : ReorderBlind (· = x) (skipCounter x) g) : g (a.skipDue x s n) = g a := h.skipDue rfl ⟨rfl, rfl⟩ s n a
  refine ⟨fun y hy => ⟨?_, ?_⟩, eq_withReorderOf (keeps ?_), fun f _ => keeps (g := fun d => d.rd f) ?_, fun p o ho => keeps (g := fun d => d.ctr p o) ?_⟩
  · exact keeps (g := fun d => d.course y)
      ⟨fun _ _ => rfl, fun _ _ _ _ _ => rfl, fun d z c hz => Device.course_setCourse_ne c (hz ▸ hy), fun _ _ _ _ => rfl⟩
  · exact keeps (g := fun d => d.reorder y)
      ⟨fun _ _ => rfl, fun _ _ _ _ _ => rfl, fun _ _ _ _ => rfl, fun d z r hz => Device.reorder_setReorder_ne r (hz ▸ hy)⟩
  · exact ⟨fun _ _ => rfl, fun _ _ _ _ _ => rfl, fun _ _ _ _ => rfl, fun _ _ _ _ => rfl⟩
  · exact ⟨fun _ _ => rfl, fun _ _ _ _ _ => rfl, fun _ _ _ _ => rfl, fun _ _ _ _ => rfl⟩
  · refine ⟨fun _ _ => rfl, fun d q r n hq => d.ctr_count_ne n ?_, fun _ _ _ _ => rfl, fun _ _ _ _ => rfl⟩
    obtain ⟨rfl, rfl⟩ := hq
    exact ho (treePage (termTree x), 0x818) (List.mem_singleton_self _)

/-- The one frame held behind a gap whose deadline passed. -/
theorem skipDue_single {x s g : Nat} {f : HeldXgem} {a : Device} (held : (a.reorder x).held = [f]) (gap : (a.reorder x).gap = some g) (due : g < s) :
    let b := a.skipDue x s 1
    b.core.out = a.core.out ++ [.xgemUp x f.seq] ∧ (b.course x).usExpected = (f.seq + 1) % 65536 ∧ (b.reorder x).held = [] ∧ (b.reorder x).gap = none ∧
    Counts (treePage (termTree x)) 0x818 (seqAhead f.seq (a.course x).usExpected) a b := by
  rw [Device.skipDue_of_due gap due, Device.skipGap_single g held, Device.passFrom_single]
  refine ⟨rfl, ?_, ?_, ?_, ?_⟩
  · exact congrArg Course.usExpected (Tbl.getD_put_same _ _ _ _)
  · exact congrArg Reorder.held (Device.reorder_setReorder_same _)
  · exact congrArg Reorder.gap (Device.reorder_setReorder_same _)
  · exact a.ctr_count_same _ _ _

/-- Settles O17: a gap's deadline skips it where it passed, and passing held frames splits them by the run of numbers from the expected one on. -/
theorem gapsSkip : Obligations.GapsSkip := by
  unfold Obligations.GapsSkip
  refine ⟨fun t x s hr => Makes.intro hr (exec_reorderGapDeadline ..) ?_, fun h e he hh => ?_⟩
  · generalize s.dev.arrive t = a
    refine ⟨fun early => Device.skipDue_of_not_due _ early, fun f g held gap due _ => ?_, skipDue_effect x.val a.now _ a⟩
    have fuel : (a.reorder x.val).held.length = 1 := by rw [held]; rfl
    unfold reorderGapDeadline
    rw [fuel]
    exact skipDue_single held gap due
  · obtain ⟨m, bound, next, run, count, left, order⟩ := passHeld_passes h.length he h
    have last := passHeld_left (n := h.length) (e := e) (h := h) le_rfl
    generalize passHeld h.length e h = r at next run count left order last
    have ahead : m < 65536 → seqAhead r.1 e = m := fun hm => next ▸ seqAhead_add he hm
    have around : m = 65536 → r.1 = e := fun hm => by omega
    refine ⟨fun q => ?_, left, fun q hq => ?_, order, fun i hi => ?_, next ▸ Nat.mod_lt _ (by omega), last⟩
    · split
      next still =>
        obtain ⟨f, hf, rfl⟩ := still
        exact List.count_eq_zero.2 ((left f).1 hf).2
      next gone =>
        have none : r.2.1.countP (fun f => f.seq = q) = 0 := List.countP_eq_zero.2 fun f hf => by simpa using fun hs => gone ⟨f, hf, hs⟩
        rw [count q, none, Nat.zero_add]
    · obtain ⟨i, hi, rfl⟩ := (run q).1 hq
      rcases Nat.lt_or_eq_of_le bound with less | full
      · exact .inl (by rw [ahead less, seqAhead_add he (hi.trans less)]; exact hi)
      · exact .inr (around full)
    · refine (run _).2 ⟨i, ?_, rfl⟩
      rcases Nat.lt_or_eq_of_le bound with less | full
      · exact ahead less ▸ hi
      · rw [around full, seqAhead_self] at hi
        exact absurd hi (Nat.not_lt_zero _)

end Sys2Proof.Safety
end

section
/-!
PROOFS. The arrival of an upstream frame of a course terminal (R113 to R120), case by case, and the statement `Obligations.ReorderPasses`.
-/

namespace Sys2Proof.Machine

variable {d : Device} {x c n seq s : Nat}

/-! ### Options (R110) -/

theorem bit_extension {o : Nat} (h : o < 262144) : bit o 17 = decide (2 ^ 17 ≤ o) := by
  rw [bit, Nat.testBit_eq_decide_div_mod_eq, decide_eq_decide]
  omega

theorem bits_sequence (o : Nat) : bits o 0 16 = o % 65536 := by simp [bits]

/-! ### What an entry of the violation log leaves alone -/

/-- What sees neither the violation log, nor its produced index, nor its two counters, sees no entry of it (R220, R221). -/
theorem Device.logEntry_keeps {β : Type} (g : Device → β) (hcount : ∀ d o k, o ∈ [0x818, 0x820] → g (Device.count 0x000 o k d) = g d)
    (hwr : ∀ d v, g (Device.wr DEV.VLOG_PRODUCED v d) = g d) (hb : ∀ (d : Device) b, g { d with bursts := b } = g d)
    (code source port kind answer era : Nat) (d : Device) : g (d.logEntry code source port kind answer era) = g d := by
  unfold Device.logEntry
  dsimp only
  split
  · exact hb d _
  · split
    · exact hcount d _ _ (by simp)
    · rw [hcount _ _ _ (by simp), hwr, hb]

theorem Device.logPon_keeps {β : Type} (g : Device → β) (hcount : ∀ d o k, o ∈ [0x818, 0x820] → g (Device.count 0x000 o k d) = g d)
    (hwr : ∀ d v, g (Device.wr DEV.VLOG_PRODUCED v d) = g d) (hb : ∀ (d : Device) b, g { d with bursts := b } = g d) (c code source answer : Nat)
    (d : Device) : g (d.logPon c code source answer) = g d := Device.logEntry_keeps g hcount hwr hb ..

@[simp] theorem Device.logPon_trees (c code source answer : Nat) (d : Device) : (d.logPon c code source answer).trees = d.trees :=
  Device.logPon_keeps (fun d => d.trees) (fun _ _ _ _ => rfl) (fun _ _ => rfl) (fun _ _ => rfl) ..

@[simp] theorem Device.logPon_core (c code source answer : Nat) (d : Device) : (d.logPon c code source answer).core = d.core :=
  Device.logPon_keeps (fun d => d.core) (fun _ _ _ _ => rfl) (fun _ _ => rfl) (fun _ _ => rfl) ..

theorem Device.logPon_tree_ctr (c code source answer y o : Nat) (d : Device) :
    (d.logPon c code source answer).ctr (treePage y) o = d.ctr (treePage y) o := by
  refine Device.logPon_keeps (fun d => d.ctr (treePage y) o) (fun d o' k ho => d.ctr_count_ne k ?_) (fun _ _ => rfl) (fun _ _ => rfl) ..
  simp only [List.mem_cons, List.not_mem_nil, or_false] at ho
  unfold ctrKey treePage
  omega

/-! ### Where a frame goes first (R117 to R120) -/

theorem reorderArrival_off_course (t o : Nat) (ext : d.courseExt x = true) (off : d.onCourse x c = false) : reorderArrival t c x o s n d = d := by
  simp [reorderArrival, ext, off]

theorem reorderArrival_plain (t o : Nat) (ext : d.courseExt x = false) : reorderArrival t c x o s n d =
    if bit o 17 && d.detects then ((d.emit (.xgemUp x (bits o 0 16))).count (treePage (termTree x)) 0x838 1).logPon c 0x0B (d.termHandle x) 0
    else d.emit (.xgemUp x (bits o 0 16)) := by
  unfold reorderArrival
  simp only [ext, Bool.false_eq_true, if_false]
  rfl

theorem reorderArrival_bare (t : Nat) {o : Nat} (ext : d.courseExt x = true) (on : d.onCourse x c = true) (bare : bit o 17 = false) :
    reorderArrival t c x o s n d = if d.detects then (d.count (treePage (termTree x)) 0x828 1).logPon c 0x0C (d.termHandle x) 0 else d := by
  simp [reorderArrival, ext, on, bare]

theorem reorderArrival_numbered (t : Nat) {o : Nat} (ext : d.courseExt x = true) (on : d.onCourse x c = true) (numbered : bit o 17 = true) :
    reorderArrival t c x o s n d = d.reorderSeq (min s t) c x (bits o 0 16) n := by
  simp [reorderArrival, ext, on, numbered]

/-! ### A numbered frame once the gaps that are due have been skipped (R113 to R116) -/

/-- What a frame of a terminal makes of it after its overdue gaps. -/
def Device.takeSeq (s c x seq n : Nat) (d : Device) : Device :=
  let a := seqAhead seq (d.course x).usExpected
  if 32768 ≤ a then
    if Reorder.inTime (d.reorder x) seq s then (d.setReorder x (Reorder.fill (d.reorder x) seq s)).emit (.xgemUp x seq)
    else d.count (treePage (termTree x)) 0x820 1
  else if 4096 ≤ a then
    if d.detects then (d.count (treePage (termTree x)) 0x828 1).logPon c 0x0A (d.termHandle x) 0 else d
  else if a = 0 then (d.emit (.xgemUp x seq)).passFrom x (((d.course x).usExpected + 1) % 65536) (d.reorder x).held
  else
    let d := d.limitGroup (termTree x / 4) n (d.trees.reorder.map (fun p => p.2.held.length)).sum
    let r := d.reorder x
    let e := (d.course x).usExpected
    if 32768 ≤ seqAhead seq e then d.emit (.xgemUp x seq)
    else if seqAhead seq e = 0 then (d.emit (.xgemUp x seq)).passFrom x ((e + 1) % 65536) r.held
    else
      let h := r.held ++ [{ seq := seq, stamp := s, bytes := n }]
      let gap := match r.gap with
        | some g => some g
        | none => some (s + d.gapTimeout x)
      let d := d.setReorder x { r with held := h, gap := gap }
      d.limitTerm (d.rdA (TPE.TERM_LIMIT (termTree x)) * 4096) x h.length

theorem Device.reorderSeq_eq : d.reorderSeq s c x seq n = (d.skipDue x s (d.reorder x).held.length).takeSeq s c x seq n := rfl

theorem Device.reorderSeq_of_not_due (early : ∀ g, (d.reorder x).gap = some g → s ≤ g) : d.reorderSeq s c x seq n = d.takeSeq s c x seq n := by
  rw [Device.reorderSeq_eq, Device.skipDue_of_not_due _ early]

theorem Device.takeSeq_past (past : 32768 ≤ seqAhead seq (d.course x).usExpected) : d.takeSeq s c x seq n =
    if Reorder.inTime (d.reorder x) seq s then (d.setReorder x (Reorder.fill (d.reorder x) seq s)).emit (.xgemUp x seq)
    else d.count (treePage (termTree x)) 0x820 1 := if_pos past

theorem Device.takeSeq_far (far : 4096 ≤ seqAhead seq (d.course x).usExpected) (ahead : seqAhead seq (d.course x).usExpected < 32768) :
    d.takeSeq s c x seq n = if d.detects then (d.count (treePage (termTree x)) 0x828 1).logPon c 0x0A (d.termHandle x) 0 else d :=
  (if_neg (Nat.not_le.2 ahead)).trans (if_pos far)

theorem Device.passFrom_nothing (e : Nat) (d : Device) : d.passFrom x e [] =
    (d.setCourse x { d.course x with usExpected := e }).setReorder x { d.reorder x with held := [], gap := none } := rfl

theorem Device.takeSeq_expected (empty : (d.reorder x).held = []) (turn : seqAhead seq (d.course x).usExpected = 0) : d.takeSeq s c x seq n =
    ((d.emit (.xgemUp x seq)).setCourse x { d.course x with usExpected := ((d.course x).usExpected + 1) % 65536 }).setReorder x
      { d.reorder x with held := [], gap := none } := by
  unfold Device.takeSeq
  simp only [turn, empty, Device.passFrom_nothing]
  rfl

/-! ### Limits that do not bind (R116) -/

theorem Device.limitGroup_of_room {g : Nat} (k : Nat) (room : d.groupHeld g + n ≤ 4 * 2 ^ 20) : d.limitGroup g n k = d := by
  cases k with
  | zero => rfl
  | succ k => exact if_neg (Nat.not_lt.2 room)

theorem Device.limitTerm_of_room {lim : Nat} (k : Nat) (room : Reorder.bytes (d.reorder x) ≤ lim) : d.limitTerm lim x k = d := by
  cases k with
  | zero => rfl
  | succ k => exact if_neg (Nat.not_lt.2 room)

theorem Reorder.bytes_append (l : List HeldXgem) (f : HeldXgem) (g : Option Nat) (k : List (Nat × Nat × Nat)) :
    Reorder.bytes { held := l ++ [f], gap := g, skips := k } = (l.map (·.bytes)).sum + f.bytes := by simp [Reorder.bytes]

/-- A frame ahead of the expected one, within the limits, is held. -/
theorem Device.takeSeq_held (ahead : 0 < seqAhead seq (d.course x).usExpected) (near : seqAhead seq (d.course x).usExpected < 4096)
    (group : d.groupHeld (termTree x / 4) + n ≤ 4 * 2 ^ 20)
    (term : Reorder.bytes (d.reorder x) + n ≤ d.rdA (TPE.TERM_LIMIT (termTree x)) * 4096) :
    d.takeSeq s c x seq n = d.setReorder x { d.reorder x with
      held := (d.reorder x).held ++ [{ seq := seq, stamp := s, bytes := n }], gap := some ((d.reorder x).gap.getD (s + d.gapTimeout x)) } := by
  have gap : (match (d.reorder x).gap with | some g => some g | none => some (s + d.gapTimeout x)) =
      some ((d.reorder x).gap.getD (s + d.gapTimeout x)) := by
    cases (d.reorder x).gap <;> rfl
  unfold Device.takeSeq
  dsimp only
  rw [if_neg (by omega), if_neg (by omega), if_neg (by omega), Device.limitGroup_of_room _ group, if_neg (by omega), if_neg (by omega)]
  refine (Device.limitTerm_of_room _ ?_).trans (congrArg (fun g => d.setReorder x { d.reorder x with held := _, gap := g }) gap)
  rw [Device.reorder_setReorder_same]
  exact (Reorder.bytes_append ..).trans_le term

/-! ### What an arrival leaves alone -/

/-- One step of the choice of the largest holder: `p` replaces `best` where it holds more bytes. -/
def Device.larger (d : Device) (best : Option Nat) (p : Nat × Reorder) : Option Nat :=
  match best with
  | some b => if Reorder.bytes (d.reorder b) < Reorder.bytes p.2 then some p.1 else best
  | none => some p.1

theorem Device.larger_listed {l : List (Nat × Reorder)} {y : Nat} (h : l.foldl d.larger none = some y) : ∃ p ∈ l, p.1 = y := by
  induction l using List.reverseRecOn generalizing y with
  | nil => cases h
  | append_singleton l p ih =>
    rw [List.foldl_concat] at h
    cases e : l.foldl d.larger none with
    | none =>
      rw [e] at h
      exact ⟨p, by simp, Option.some.inj h⟩
    | some b =>
      obtain ⟨q, hq, same⟩ := ih e
      rw [e, Device.larger] at h
      split at h
      · exact ⟨p, by simp, Option.some.inj h⟩
      · exact ⟨q, by simp [hq], same.trans (Option.some.inj h)⟩

theorem Device.largestHolder_group {g y : Nat} (h : d.largestHolder g = some y) : termTree y / 4 = g := by
  obtain ⟨p, hp, rfl⟩ := Device.larger_listed h
  exact of_decide_eq_true (List.mem_filter.1 hp).2

section

variable {β : Type} {g : Device → β} (h : ReorderBlind (fun y => termTree y / 4 = termTree x / 4) (fun _ _ => True) g)
include h

theorem ReorderBlind.limitTerm (lim k : Nat) (d : Device) : g (d.limitTerm lim x k) = g d := by
  induction k generalizing d with
  | zero => rfl
  | succ k ih =>
    unfold Device.limitTerm
    split
    · rw [ih, h.count _ _ _ _ trivial, h.skipGap rfl trivial]
    · rfl

theorem ReorderBlind.limitGroup (k : Nat) (d : Device) : g (d.limitGroup (termTree x / 4) n k) = g d := by
  induction k generalizing d with
  | zero => rfl
  | succ k ih =>
    unfold Device.limitGroup
    split
    · split
      next y largest => rw [ih, h.count _ _ _ _ trivial, h.skipGap (Device.largestHolder_group largest) trivial]
      next => rfl
    · rfl

variable (log : ∀ (d : Device) c code source answer, g (d.logPon c code source answer) = g d)
include log

theorem ReorderBlind.takeSeq (d : Device) : g (d.takeSeq s c x seq n) = g d := by
  unfold Device.takeSeq
  dsimp only
  have mine : termTree x / 4 = termTree x / 4 := rfl
  split
  · split
    · rw [h.emit, h.reorder _ _ _ mine]
    · exact h.count _ _ _ _ trivial
  split
  · split
    · rw [log, h.count _ _ _ _ trivial]
    · rfl
  split
  · rw [h.passFrom mine, h.emit]
  rw [← h.limitGroup (n := n) (d.trees.reorder.map (fun p => p.2.held.length)).sum d]
  generalize d.limitGroup _ n _ = d
  split
  · exact h.emit d _
  split
  · rw [h.passFrom mine, h.emit]
  · rw [h.limitTerm, h.reorder _ _ _ mine]

/-- What sees no receive group's work on the group of terminal `x` sees no arrival of a frame of it. -/
theorem ReorderBlind.reorderArrival (t o : Nat) (d : Device) : g (reorderArrival t c x o s n d) = g d := by
  have mine : termTree x / 4 = termTree x / 4 := rfl
  cases ext : d.courseExt x with
  | false =>
    rw [reorderArrival_plain t o ext]
    split
    · rw [log, h.count _ _ _ _ trivial, h.emit]
    · exact h.emit d _
  | true =>
    cases on : d.onCourse x c with
    | false => rw [reorderArrival_off_course t o ext on]
    | true =>
      cases numbered : bit o 17 with
      | false =>
        rw [reorderArrival_bare t ext on numbered]
        split
        · rw [log, h.count _ _ _ _ trivial]
        · rfl
      | true => rw [reorderArrival_numbered t ext on numbered, Device.reorderSeq_eq, h.takeSeq log, h.skipDue mine trivial]

end

end Sys2Proof.Machine

namespace Sys2Proof.Safety

open Sys2Proof.Machine

/-! ### The statement -/

/-- An arrival leaves the courses of other receive groups, the cells, the packets, the services and the terminals. -/
theorem reorderArrival_keeps (t c x o s n : Nat) (a : Device) : let b := reorderArrival t c x o s n a
    (∀ y, y ≠ x → b.course y = a.course y ∨ termTree y / 4 = termTree x / 4) ∧ b.cells = a.cells ∧ b.pkt = a.pkt ∧ b.svc = a.svc ∧ b.rng = a.rng := by
  refine ⟨fun y _ => ?_, ?_, ?_, ?_, ?_⟩
  · by_cases group : termTree y / 4 = termTree x / 4
    · exact .inr group
    · refine .inl (ReorderBlind.reorderArrival (g := fun d => d.course y) ⟨fun _ _ => rfl, fun _ _ _ _ _ => rfl, fun d z e hz => ?_, fun _ _ _ _ => rfl⟩
        (fun d c code source answer => ?_) t o a)
      · exact Device.course_setCourse_ne e fun same => group (same ▸ hz)
      · unfold Device.course
        rw [Device.logPon_trees]
  · exact ReorderBlind.reorderArrival (g := fun d => d.cells) ⟨fun _ _ => rfl, fun _ _ _ _ _ => rfl, fun _ _ _ _ => rfl, fun _ _ _ _ => rfl⟩
      (fun _ _ _ _ _ => Device.logPon_keeps _ (fun _ _ _ _ => rfl) (fun _ _ => rfl) (fun _ _ => rfl) ..) t o a
  · exact ReorderBlind.reorderArrival (g := fun d => d.pkt) ⟨fun _ _ => rfl, fun _ _ _ _ _ => rfl, fun _ _ _ _ => rfl, fun _ _ _ _ => rfl⟩
      (fun _ _ _ _ _ => Device.logPon_keeps _ (fun _ _ _ _ => rfl) (fun _ _ => rfl) (fun _ _ => rfl) ..) t o a
  · exact ReorderBlind.reorderArrival (g := fun d => d.svc) ⟨fun _ _ => rfl, fun _ _ _ _ _ => rfl, fun _ _ _ _ => rfl, fun _ _ _ _ => rfl⟩
      (fun _ _ _ _ _ => Device.logPon_keeps _ (fun _ _ _ _ => rfl) (fun _ _ => rfl) (fun _ _ => rfl) ..) t o a
  · exact ReorderBlind.reorderArrival (g := fun d => d.rng) ⟨fun _ _ => rfl, fun _ _ _ _ _ => rfl, fun _ _ _ _ => rfl, fun _ _ _ _ => rfl⟩
      (fun _ _ _ _ _ => Device.logPon_keeps _ (fun _ _ _ _ => rfl) (fun _ _ => rfl) (fun _ _ => rfl) ..) t o a

/-- A violation counted on a tree's page and logged. -/
theorem counts_logged (y o c code source : Nat) (a : Device) : Counts (treePage y) o 1 a ((a.count (treePage y) o 1).logPon c code source 0) :=
  (Device.logPon_tree_ctr ..).trans (a.ctr_count_same _ _ _)

/-- A violation that only the holder of the Capo counts. -/
theorem detected_effect (y o c code source : Nat) (a : Device) :
    let b := if a.detects then (a.count (treePage y) o 1).logPon c code source 0 else a
    if a.detects = true then Counts (treePage y) o 1 a b ∧ b.trees = a.trees else b = a := by
  dsimp only
  split
  · exact ⟨counts_logged .., Device.logPon_trees ..⟩
  · rfl

/-- A frame of a terminal without a course passes as it comes. -/
theorem reorderArrival_plain_effect (t c x s n : Nat) {o : Nat} (ho : o < 262144) {a : Device} (ext : a.courseExt x = false) :
    let b := reorderArrival t c x o s n a
    b.core.out = a.core.out ++ [.xgemUp x (o % 65536)] ∧ b.trees = a.trees ∧
    (a.detects = true → 2 ^ 17 ≤ o → Counts (treePage (termTree x)) 0x838 1 a b) ∧ (a.detects = false ∨ o < 2 ^ 17 → b.ctrs = a.ctrs) := by
  rw [reorderArrival_plain t o ext, bits_sequence, bit_extension ho]
  by_cases logged : 2 ^ 17 ≤ o ∧ a.detects = true
  · rw [if_pos (by simpa using logged)]
    refine ⟨by rw [Device.logPon_core]; rfl, Device.logPon_trees .., fun _ _ => counts_logged _ _ _ _ _ (a.emit _), ?_⟩
    rintro (off | bare)
    · exact absurd logged.2 (by simp [off])
    · exact absurd logged.1 (Nat.not_le.2 bare)
  · rw [if_neg (by simpa using logged)]
    exact ⟨rfl, rfl, fun detects numbered => absurd ⟨numbered, detects⟩ logged, fun _ => rfl⟩

/-- Settles O16: each arrival by where its frame goes first, and a numbered one by its distance from the expected number. -/
theorem reorderPasses : Obligations.ReorderPasses := by
  unfold Obligations.ReorderPasses
  refine fun t c x o stamp n s hr => Makes.intro hr (exec_reorderArrival ..) ?_
  generalize s.dev.arrive t = a
  refine ⟨reorderArrival_off_course _ _, reorderArrival_plain_effect _ _ _ _ _ o.isLt, fun ext on bare => ?_, fun ext on numbered early => ?_,
    reorderArrival_keeps ..⟩
  · rw [reorderArrival_bare _ ext on (by rw [bit_extension o.isLt]; simpa using bare)]
    exact detected_effect ..
  · rw [reorderArrival_numbered _ ext on (by rw [bit_extension o.isLt]; simpa using numbered), bits_sequence, Device.reorderSeq_of_not_due early]
    refine ⟨fun empty turn => ?_, fun ahead near group term => ?_, fun far ahead => ?_, fun past => ?_⟩
    · rw [Device.takeSeq_expected empty turn]
      exact ⟨rfl, congrArg Course.usExpected (Device.course_setCourse_same _ _ _), rfl⟩
    · rw [Device.takeSeq_held ahead near group term]
      exact ⟨Device.reorder_setReorder_same _, rfl⟩
    · rw [Device.takeSeq_far far ahead]
      exact detected_effect ..
    · rw [Device.takeSeq_past past]
      split
      · exact ⟨rfl, rfl⟩
      · exact ⟨a.ctr_count_same _ _ _, (Only.refl _ _ a).count _ (List.mem_singleton_self _)⟩

end Sys2Proof.Safety
end

section
/-!
PROOFS. POOL, SHAPER and GATE_LIST commands and OMCI_SEND (R104, R314, R395, R396, R436, R441 to R445): how a command that runs commits, what serving the
waiters of pools leaves alone, each command by its cases, and the statement `Obligations.PoolShaperGateCommands`.
-/

namespace Sys2Proof.Machine

open Sys2Proof.Safety

variable {a d : Device} {n i op : Nat} {c : Cmd}

/-! ### A command that runs (R299, R300, R304, R308, R521) -/

theorem run_of_runs (h : Runs a op n c) (body : Cmd → Device → Device) : Device.run op a.now n body a = body c a := by
  obtain ⟨⟨found, waiting, opcode, turn, notReading, stamped⟩, inTime, allowed, unreserved, paid⟩ := h
  have free : (!opFree op && !a.capo) = false := by
    rcases allowed with h | h <;> simp [h]
  unfold Device.run
  simp only [found, waiting, opcode, turn, notReading, Nat.not_lt.2 stamped, Nat.not_lt.2 inTime, free, unreserved, paid]
  simp

/-- An effect with room in its epoch happens on the device, of which only the mirror notes it. -/
theorem commit_of_room (h : Room a c) : ∃ m, ∀ f, a.commit c f = f { a with mru := m } := by
  unfold Device.commit Device.change
  by_cases mirrored : a.on MRU.MIRROR_EN = true ∧ a.rd MRU.ROLE = 1
  · have room := h mirrored.1 mirrored.2
    refine ⟨{ a.mru with change := a.mru.change + Config.changeBytes (Cmd.opcode c) c.words, deferred := a.mru.deferred.filter (· ≠ c.seq) }, fun f => ?_⟩
    rw [if_pos (by simpa using mirrored)]
    exact if_neg (Nat.not_lt.2 room)
  · refine ⟨a.mru, fun f => ?_⟩
    rw [if_neg (by simpa using mirrored)]

/-! ### Serving the waiters of pools (R397 to R400) -/

theorem Tbl.get?_modify_isNone {α : Type} (t : Tbl α) (k j : Nat) (f : α → α) : (Tbl.get? (Tbl.modify t k f) j).isNone = (Tbl.get? t j).isNone := by
  unfold Tbl.modify
  cases e : Tbl.get? t k with
  | none => rfl
  | some v =>
    by_cases hj : j = k
    · subst hj
      simp only [Tbl.get?_set_same, e, Option.isNone_some]
    · simp only [Tbl.get?_set_ne t _ hj]

/-- `e` has the registers and the services of `d`, and a pool wherever `d` has one. -/
structure Serves (d e : Device) : Prop where
  regs : e.regs = d.regs
  svc : e.svc = d.svc
  pools : ∀ i, (e.pool? i).isNone = (d.pool? i).isNone

namespace Serves

variable {e f : Device}

theorem refl (d : Device) : Serves d d := ⟨rfl, rfl, fun _ => rfl⟩

theorem trans (h : Serves d e) (h' : Serves e f) : Serves d f :=
  ⟨h'.regs.trans h.regs, h'.svc.trans h.svc, fun i => (h'.pools i).trans (h.pools i)⟩

/-- A device with the same registers, services and pools is as good. -/
theorem same (h : Serves d e) (regs : f.regs = e.regs) (svc : f.svc = e.svc) (pools : f.cells.pools = e.cells.pools) : Serves d f :=
  h.trans ⟨regs, svc, fun i => by unfold Device.pool?; rw [pools]⟩

theorem modPool (h : Serves d e) (i : Nat) (p : Pool → Pool) : Serves d (e.modPool i p) :=
  h.trans ⟨rfl, rfl, fun j => Tbl.get?_modify_isNone _ i j p⟩

theorem ite {p : Prop} [Decidable p] (h : Serves d e) (h' : Serves d f) : Serves d (if p then e else f) := by
  split
  exacts [h, h']

theorem cells (h : Serves d e) {x : Cells} (pools : x.pools = e.cells.pools) : Serves d { e with cells := x } := h.same rfl rfl pools

theorem setPkt (h : Serves d e) (k : Nat) (x : Pkt) : Serves d (e.setPkt k x) := h.same rfl rfl rfl

theorem wrWord (h : Serves d e) (x v : Nat) : Serves d (e.wrWord x v) := h.cells rfl

theorem setNext (h : Serves d e) (p n : Nat) : Serves d (e.setNext p n) := h.wrWord _ _

theorem modQueue (h : Serves d e) (q : Nat) (x : Queue → Queue) : Serves d (e.modQueue q x) := h.cells rfl

theorem popChain (h : Serves d e) (dram : Bool) (k : Nat) : Serves d (e.popChain dram k none) := h.same rfl rfl rfl

theorem useCells (h : Serves d e) (dram : Bool) (x : Nat → Nat) : Serves d (e.useCells dram x) := h.cells rfl

theorem emit (h : Serves d e) (o : Out) : Serves d (e.emit o) := h.same rfl rfl rfl

theorem count (h : Serves d e) (p o k : Nat) : Serves d (e.count p o k) := h.same rfl rfl rfl

theorem attach (h : Serves d e) (k p : Nat) : Serves d (e.attach k p) := by
  unfold Device.attach
  split
  · exact h
  · extract_lets base m ps src stored next linked placed
    have stored : Serves d stored := h.cells rfl
    have linked : Serves d linked := stored.ite ((stored.setNext _ _).setNext _ _)
    have placed : Serves d placed := linked.setPkt _ _
    split
    · split
      exacts [placed.modQueue _ _, placed]
    · exact placed

theorem grantCell (h : Serves d e) (i r : Nat) (k : Option Nat) : Serves d (e.grantCell i r k none) := by
  unfold Device.grantCell
  split
  · exact h
  · split
    · exact h
    · extract_lets c fromMin held first x written cs bp sh mn listed shown counted
      have held : Serves d held := ((h.popChain _ _).useCells _ _).modPool _ _
      have listed : Serves d listed := (held.wrWord _ _).cells rfl
      have shown : Serves d shown := (listed.count _ _ _).emit _
      have counted : Serves d counted := (shown.count _ _ _).ite shown
      split
      · refine attach ?_ _ _
        split
        exacts [counted.setPkt _ _, counted]
      · exact counted

theorem serveWaiters (h : Serves d e) (k : Nat) : Serves d (e.serveWaiters k) := by
  induction k generalizing e with
  | zero => exact h
  | succ k ih =>
    unfold Device.serveWaiters
    dsimp only
    split
    · exact h
    · refine ih (grantCell ?_ _ _ _)
      exact h.cells rfl

end Serves

theorem serves_serve (d : Device) : Serves d d.serve := (Serves.refl d).serveWaiters _

/-- Serving the waiters makes no pool. -/
theorem Device.serve_pool?_none (h : d.pool? i = none) : d.serve.pool? i = none := by
  have same := (serves_serve d).pools i
  rw [h] at same
  exact Option.isNone_iff_eq_none.1 same

/-! ### POOL_CREATE and POOL_DESTROY (R314, R395, R396) -/

/-- Why a POOL_CREATE's limits are refused (R395). -/
def Cmd.badPool (c : Cmd) : Prop :=
  bits (Cmd.arg c 0) 2 14 ≠ 0 ∨ (Cmd.pool c).maxU = 0 ∨ (Cmd.pool c).maxU < (Cmd.pool c).minU ∨ regionCells (Cmd.pool c).dram / 64 < (Cmd.pool c).maxU ∨
    (Cmd.pool c).maxU < (Cmd.pool c).bpU ∨ ((Cmd.pool c).wait = true ∧ (Cmd.pool c).waitNs = 0)

/-- A pool stands at index `i`. -/
def Device.withPool (i : Nat) (p : Pool) (d : Device) : Device := { d with cells := { d.cells with pools := Tbl.set d.cells.pools i p } }

theorem poolCreate_of_bad (h : Runs a 0x60 n c) (bad : Cmd.badPool c) : poolCreate a.now n a = a.refuseCmd c stArg a.now := by
  unfold poolCreate
  rw [run_of_runs h]
  exact if_pos bad

theorem poolCreate_of_short (h : Runs a 0x60 n c) (good : ¬ Cmd.badPool c) (free : firstFree (fun i => (a.pool? i).isNone) 256 0 = some i)
    (short : a.shared (Cmd.pool c).dram < (Cmd.pool c).minU * 64) : poolCreate a.now n a = a.refuseCmd c stLimit a.now := by
  unfold poolCreate
  rw [run_of_runs h]
  refine (if_neg good).trans ?_
  rw [free]
  exact if_pos short

theorem poolCreate_made (h : Runs a 0x60 n c) (good : ¬ Cmd.badPool c) (free : firstFree (fun i => (a.pool? i).isNone) 256 0 = some i)
    (room : (Cmd.pool c).minU * 64 ≤ a.shared (Cmd.pool c).dram) (epoch : Room a c) : ∃ m, poolCreate a.now n a =
      ((({ a with mru := m } : Device).issue .pool i).2.withPool i { Cmd.pool c with handle := (a.issue .pool i).1 }).createdCmd c a.now
        (a.issue .pool i).1 ((Cmd.pool c).minU * 64) 0 := by
  obtain ⟨m, commits⟩ := commit_of_room epoch
  refine ⟨m, ?_⟩
  unfold poolCreate
  rw [run_of_runs h]
  refine (if_neg good).trans ?_
  rw [free]
  exact (if_neg (Nat.not_lt.2 room)).trans (commits _)

theorem poolDestroy_of_stale (h : Runs a 0x61 n c) (stale : a.poolOf (Cmd.handle c) = none) : poolDestroy a.now n a = a.refuseCmd c stStale a.now := by
  unfold poolDestroy
  rw [run_of_runs h]
  simp only [stale]

theorem poolDestroy_of_named (h : Runs a 0x61 n c) (found : a.poolOf (Cmd.handle c) = some i) (named : a.poolNamed i (Cmd.handle c) = true) :
    poolDestroy a.now n a = a.refuseCmd c stBusy a.now := by
  unfold poolDestroy
  rw [run_of_runs h]
  simp only [found, named, if_true]

theorem poolDestroy_done (h : Runs a 0x61 n c) (found : a.poolOf (Cmd.handle c) = some i) (free : a.poolNamed i (Cmd.handle c) = false)
    (epoch : Room a c) : ∃ m, poolDestroy a.now n a =
      (({ a with cells := { a.cells with pools := a.cells.pools.erase i }, mru := m } : Device).okCmd c a.now 0 0).serve := by
  obtain ⟨m, commits⟩ := commit_of_room epoch
  refine ⟨m, ?_⟩
  unfold poolDestroy
  rw [run_of_runs h]
  simp only [found, free, Bool.false_eq_true, if_false]
  exact commits _

/-! ### SHAPER_CREATE and SHAPER_DESTROY (R309, R314, R436) -/

/-- LINK names a live queue, or a node. -/
def Device.linkLive (d : Device) (l : Nat) : Prop := if handleKind l = 0 then d.nodeByRef l ≠ none else d.queueIdx l ≠ none

/-- Why a SHAPER_CREATE's arguments are refused (R436). -/
def Cmd.badShaper (c : Cmd) : Prop :=
  Cmd.arg c 0 = 0 ∨ Cmd.arg c 1 < 64 ∨ 2 ^ 24 ≤ Cmd.arg c 1 ∨ 256 ≤ Cmd.arg c 2 ∨ (64 ≤ Cmd.arg c 2 ∧ Cmd.arg c 2 < 192) ∨ Cmd.arg c 3 ≠ 0

/-- The shaper that a SHAPER_CREATE makes. -/
def Cmd.shaper (c : Cmd) (handle now : Nat) : Shaper :=
  { handle := handle, rate := Cmd.arg c 0, burst := Cmd.arg c 1, adj := Cmd.arg c 2, target := Cmd.link c, bucket := ⟨bucketMax (Cmd.arg c 1), now, none⟩ }

/-- A shaper stands at index `i`. -/
def Device.withShaper (i : Nat) (x : Shaper) (d : Device) : Device :=
  { d with traffic := { d.traffic with shapers := Tbl.set d.traffic.shapers i x } }

theorem Device.linkLive_iff (d : Device) (l : Nat) : d.linkLive l ↔ (if handleKind l = 0 then (d.nodeByRef l).isSome else (d.queueIdx l).isSome) = true := by
  unfold Device.linkLive
  split <;> exact Option.isSome_iff_ne_none.symm

theorem shaperCreate_of_stale (h : Runs a 0x70 n c) (stale : ¬ a.linkLive (Cmd.link c)) : shaperCreate a.now n a = a.refuseCmd c stStale a.now := by
  rw [Device.linkLive_iff] at stale
  unfold shaperCreate
  rw [run_of_runs h]
  exact if_pos (by simpa using stale)

section Live

variable (h : Runs a 0x70 n c) (live : a.linkLive (Cmd.link c))
include h live

theorem shaperCreate_of_bad (bad : Cmd.badShaper c) : shaperCreate a.now n a = a.refuseCmd c stArg a.now := by
  rw [Device.linkLive_iff] at live
  unfold shaperCreate
  rw [run_of_runs h]
  exact (if_neg (by rw [live]; exact Bool.false_ne_true)).trans (if_pos bad)

variable (good : ¬ Cmd.badShaper c)
include good

theorem shaperCreate_of_taken (taken : ∃ e ∈ a.traffic.shapers, e.2.target = Cmd.link c) : shaperCreate a.now n a = a.refuseCmd c stBusy a.now := by
  rw [Device.linkLive_iff] at live
  unfold shaperCreate
  rw [run_of_runs h]
  exact (if_neg (by rw [live]; exact Bool.false_ne_true)).trans ((if_neg good).trans (if_pos (List.any_eq_true.2 (by simpa using taken))))

theorem shaperCreate_made (untaken : ¬ ∃ e ∈ a.traffic.shapers, e.2.target = Cmd.link c)
    (free : firstFree (fun i => (Tbl.get? a.traffic.shapers i).isNone) 1048576 0 = some i) (epoch : Room a c) : ∃ m, shaperCreate a.now n a =
      ((({ a with mru := m } : Device).issue .shaper i).2.withShaper i (Cmd.shaper c (a.issue .shaper i).1 a.now)).createdCmd c a.now
        (a.issue .shaper i).1 0 0 := by
  obtain ⟨m, commits⟩ := commit_of_room epoch
  refine ⟨m, ?_⟩
  rw [Device.linkLive_iff] at live
  unfold shaperCreate
  rw [run_of_runs h]
  refine (if_neg (by rw [live]; exact Bool.false_ne_true)).trans ((if_neg good).trans ((if_neg fun any => untaken (by simpa using List.any_eq_true.1 any)).trans ?_))
  rw [free]
  exact commits _

end Live

theorem shaperDestroy_of_stale (h : Runs a 0x71 n c) (stale : a.shaperAt (Cmd.handle c) = none) :
    shaperDestroy a.now n a = a.refuseCmd c stStale a.now := by
  unfold shaperDestroy
  rw [run_of_runs h]
  simp only [stale, Option.bind_none]

section Shaped

variable {x : Shaper} (h : Runs a 0x71 n c) (found : a.shaperAt (Cmd.handle c) = some i) (stands : Tbl.get? a.traffic.shapers i = some x)
include h found stands

theorem shaperDestroy_of_named (named : a.shaperNamed x = true) : shaperDestroy a.now n a = a.refuseCmd c stBusy a.now := by
  unfold shaperDestroy
  rw [run_of_runs h]
  simp only [found, stands, named, Option.bind_some, Option.map_some, if_true]

theorem shaperDestroy_done (free : a.shaperNamed x = false) (epoch : Room a c) : ∃ m, shaperDestroy a.now n a =
    ({ a with traffic := { a.traffic with shapers := a.traffic.shapers.erase i }, mru := m } : Device).okCmd c a.now 0 0 := by
  obtain ⟨m, commits⟩ := commit_of_room epoch
  refine ⟨m, ?_⟩
  unfold shaperDestroy
  rw [run_of_runs h]
  simp only [found, stands, free, Option.bind_some, Option.map_some, Bool.false_eq_true, if_false]
  exact commits _

end Shaped

/-! ### GATE_LIST_INSTALL and GATE_LIST_DESTROY (R314, R441 to R445) -/

/-- A gate list starts at the first cycle from its base at or after the bound (R444). -/
theorem gateStart_spec {base cycle bound : Nat} (hc : 0 < cycle) :
    ((gateStart base cycle bound).1 ≠ 0 ↔ base < bound) ∧ bound ≤ (gateStart base cycle bound).2 ∧
    ((gateStart base cycle bound).2 = base ∨ (gateStart base cycle bound).2 < bound + cycle) ∧
    (gateStart base cycle bound).2 = base + (gateStart base cycle bound).1 * cycle := by
  unfold gateStart
  by_cases early : bound ≤ base
  · simp [early]
  · have quotient := Nat.div_add_mod (bound - base + cycle - 1) cycle
    have remainder := Nat.mod_lt (bound - base + cycle - 1) hc
    have positive : 0 < ceilDiv (bound - base) cycle := Nat.div_pos (by omega) hc
    rw [Nat.mul_comm] at quotient
    simp only [early, if_false]
    unfold ceilDiv at *
    generalize (bound - base + cycle - 1) / cycle = q at *
    generalize (bound - base + cycle - 1) % cycle = r at *
    exact ⟨by omega, by omega, .inr (by omega), trivial⟩

theorem gateBad_of_short_cycle {len : Nat} {bs : List Nat} (h : payWord bs 2 < 1000) : gateBad len bs = true := by simp [gateBad, h]

theorem cycle_pos_of_good {len : Nat} {bs : List Nat} (h : gateBad len bs = false) : 0 < payWord bs 2 := by
  by_contra zero
  simp [gateBad_of_short_cycle (len := len) (bs := bs) (by omega)] at h

/-- A gate list of the node waits for its start, or the terminal that LINK names is leaving. -/
def Device.gateBusy (d : Device) (l k : Nat) : Prop := (∃ e ∈ d.traffic.gates, e.2.node = nodeRef k ∧ e.2.st = .scheduled) ∨ d.linkLeaving l = true

theorem Device.gateBusy_iff (d : Device) (l k : Nat) :
    d.gateBusy l k ↔ (d.traffic.gates.any (fun e => e.2.node = nodeRef k && decide (e.2.st = .scheduled)) || d.linkLeaving l) = true := by
  simp [Device.gateBusy]

/-- The base instant of a gate list's payload. -/
def gateBase (bs : List Nat) : Nat := payWord bs 0 + 2 ^ 32 * payWord bs 1

/-- The cycles that a GATE_LIST_INSTALL skips from its base, and its start. -/
def Device.gateFrom (d : Device) (bs : List Nat) : Nat × Nat := gateStart (gateBase bs) (payWord bs 2) (d.now + d.rdA TMG.SETUP_MARGIN_NS)

/-- The gate list that a GATE_LIST_INSTALL makes. -/
def Cmd.gateList (c : Cmd) (handle k start : Nat) : GateList :=
  { handle := handle, node := nodeRef k, start := start, cycle := payWord (Cmd.payload c) 2, guard := bit (payWord (Cmd.payload c) 3) 17,
    entries := gateEntries (Cmd.payload c) (payWord (Cmd.payload c) 3 % 512) }

/-- A gate list stands at index `i`. -/
def Device.withGate (i : Nat) (g : GateList) (d : Device) : Device := { d with traffic := { d.traffic with gates := Tbl.set d.traffic.gates i g } }

theorem gateListInstall_of_stale (h : Runs a 0x80 n c) (stale : a.nodeByLink (Cmd.link c) = none) :
    gateListInstall a.now n a = a.refuseCmd c stStale a.now := by
  unfold gateListInstall
  rw [run_of_runs h]
  simp only [stale]

section Gated

variable {k : Nat} (h : Runs a 0x80 n c) (node : a.nodeByLink (Cmd.link c) = some k)
include h node

theorem gateListInstall_of_bad (bad : gateBad (Cmd.bufLen c) (Cmd.payload c) = true) : gateListInstall a.now n a = a.refuseCmd c stArg a.now := by
  unfold gateListInstall
  rw [run_of_runs h]
  simp only [node]
  exact if_pos bad

variable (good : gateBad (Cmd.bufLen c) (Cmd.payload c) = false)
include good

theorem gateListInstall_of_busy (busy : a.gateBusy (Cmd.link c) k) : gateListInstall a.now n a = a.refuseCmd c stBusy a.now := by
  unfold gateListInstall
  rw [run_of_runs h]
  simp only [node]
  exact (if_neg (by simp [good])).trans (if_pos ((a.gateBusy_iff _ _).1 busy))

variable (idle : ¬ a.gateBusy (Cmd.link c) k) (free : firstFree (fun i => (Tbl.get? a.traffic.gates i).isNone) 1024 0 = some i)
include idle free

theorem gateListInstall_of_past (skips : (a.gateFrom (Cmd.payload c)).1 ≠ 0) (strict : bit (payWord (Cmd.payload c) 3) 16 = true) :
    gateListInstall a.now n a = ((a.refuseCmd c stArg a.now).count 0x1B2 0x840 1).count 0x1B2 0x848 1 := by
  unfold gateListInstall
  rw [run_of_runs h]
  simp only [node]
  refine (if_neg (by simp [good])).trans ((if_neg (mt (a.gateBusy_iff _ _).2 idle)).trans ?_)
  rw [free]
  exact if_pos ⟨skips, strict⟩

theorem gateListInstall_made (fits : ¬ ((a.gateFrom (Cmd.payload c)).1 ≠ 0 ∧ bit (payWord (Cmd.payload c) 3) 16 = true)) (epoch : Room a c) :
    ∃ m, gateListInstall a.now n a =
      (((({ a with mru := m } : Device).issue .gateList i).2.withGate i
          (Cmd.gateList c (a.issue .gateList i).1 k (a.gateFrom (Cmd.payload c)).2)).countIf (decide ((a.gateFrom (Cmd.payload c)).1 ≠ 0)) 0x1B2 0x840).createdCmd
        c a.now (a.issue .gateList i).1 ((a.gateFrom (Cmd.payload c)).2 % 2 ^ 32) ((a.gateFrom (Cmd.payload c)).2 / 2 ^ 32 % 2 ^ 32) := by
  obtain ⟨m, commits⟩ := commit_of_room epoch
  refine ⟨m, ?_⟩
  unfold gateListInstall
  rw [run_of_runs h]
  simp only [node]
  refine (if_neg (by simp [good])).trans ((if_neg (mt (a.gateBusy_iff _ _).2 idle)).trans ?_)
  rw [free]
  exact (if_neg fits).trans (commits _)

end Gated

theorem gateListDestroy_of_stale (h : Runs a 0x81 n c) (stale : a.gateAt (Cmd.handle c) = none) :
    gateListDestroy a.now n a = a.refuseCmd c stStale a.now := by
  unfold gateListDestroy
  rw [run_of_runs h]
  simp only [stale, Option.bind_none]

section Listed

variable {g : GateList} (h : Runs a 0x81 n c) (found : a.gateAt (Cmd.handle c) = some i) (stands : Tbl.get? a.traffic.gates i = some g)
include h found stands

theorem gateListDestroy_of_inForce (inForce : g.st = .inForce) : gateListDestroy a.now n a = a.refuseCmd c stBusy a.now := by
  unfold gateListDestroy
  rw [run_of_runs h]
  simp only [found, stands, inForce, Option.bind_some, Option.map_some, if_true]

theorem gateListDestroy_done (free : g.st ≠ .inForce) (epoch : Room a c) : ∃ m, gateListDestroy a.now n a =
    ({ a with traffic := { a.traffic with gates := a.traffic.gates.erase i }, mru := m } : Device).okCmd c a.now 0 0 := by
  obtain ⟨m, commits⟩ := commit_of_room epoch
  refine ⟨m, ?_⟩
  unfold gateListDestroy
  rw [run_of_runs h]
  simp only [found, stands, free, Option.bind_some, Option.map_some, if_false]
  exact commits _

end Listed

/-! ### OMCI_SEND (R104, R309) -/

theorem omciSend_of_stale (h : Runs a 0x90 n c) (stale : a.termOf (Cmd.parent c) = none) : omciSend a.now n a = a.staleTerm c a.now := by
  unfold omciSend
  rw [run_of_runs h]
  simp only [stale]

section Heard

variable {x : Nat} (h : Runs a 0x90 n c) (found : a.termOf (Cmd.parent c) = some x)
include h found

theorem omciSend_of_length (bad : Cmd.bufLen c < 48 ∨ 1980 < Cmd.bufLen c) : omciSend a.now n a = a.refuseCmd c stArg a.now := by
  unfold omciSend
  rw [run_of_runs h]
  simp only [found, bad, if_true]

theorem omciSend_of_leaving (good : ¬ (Cmd.bufLen c < 48 ∨ 1980 < Cmd.bufLen c)) (leaving : a.leaving x = true) :
    omciSend a.now n a = a.refuseCmd c stBusy a.now := by
  unfold omciSend
  rw [run_of_runs h]
  simp only [found, good, leaving, if_false, if_true]

theorem omciSend_done (good : ¬ (Cmd.bufLen c < 48 ∨ 1980 < Cmd.bufLen c)) (stays : a.leaving x = false) (epoch : Room a c) :
    ∃ m, omciSend a.now n a = ({ a with
      traffic := { a.traffic with omci := Tbl.set a.traffic.omci x (a.omciOf x ++ [(Cmd.payload c).take (Cmd.bufLen c)]) }, mru := m } : Device).okCmd c a.now 0 0 := by
  obtain ⟨m, commits⟩ := commit_of_room epoch
  refine ⟨m, ?_⟩
  unfold omciSend
  rw [run_of_runs h]
  simp only [found, good, stays, Bool.false_eq_true, if_false]
  exact commits _

end Heard

end Sys2Proof.Machine

namespace Sys2Proof.Safety

open Sys2Proof.Machine

/-! ### The statement -/

theorem refusedAs (c : Cmd) (status : Nat) (a : Device) : RefusedAs c status a (a.refuseCmd c status a.now) := ⟨rfl, rfl⟩

/-- A command completed on a device that has the services of `a`. -/
theorem ended_of_svc {a d : Device} (c : Cmd) (status stamp : Nat) (effect : Bool) (handle x y : Nat) (h : d.svc = a.svc) :
    Ended c status stamp effect handle x y a (d.endCmd c status stamp effect handle x y) :=
  congrArg (fun s : Service => s.cmds.map _) h

/-- Settles O43: each of the seven commands by its causes, in their order, and by what it makes. -/
theorem poolShaperGateCommands : Obligations.PoolShaperGateCommands := by
  unfold Obligations.PoolShaperGateCommands
  refine ⟨fun t n s hr => Makes.intro hr (exec_poolCreate ..) ?_, fun t n s hr => Makes.intro hr (exec_poolDestroy ..) ?_,
    fun t n s hr => Makes.intro hr (exec_shaperCreate ..) ?_, fun t n s hr => Makes.intro hr (exec_shaperDestroy ..) ?_,
    fun t n s hr => Makes.intro hr (exec_gateListInstall ..) ?_, fun t n s hr => Makes.intro hr (exec_gateListDestroy ..) ?_,
    fun t n s hr => Makes.intro hr (exec_omciSend ..) ?_⟩
  all_goals
    generalize s.dev.arrive t = a
    intro c h
  case refine_1 =>
    refine ⟨fun bad => ?_, fun i good free => ⟨fun short => ?_, fun room epoch => ?_⟩⟩
    · rw [poolCreate_of_bad h bad]
      exact refusedAs ..
    · rw [poolCreate_of_short h good free short]
      exact refusedAs ..
    · obtain ⟨m, made⟩ := poolCreate_made h good free room epoch
      rw [made]
      exact ⟨Tbl.get?_set_same _ _ _, fun j hj => Tbl.get?_set_ne _ _ hj, ended_of_svc _ _ _ _ _ _ _ rfl, rfl, rfl⟩
  case refine_2 =>
    refine ⟨fun stale => ?_, fun i found => ⟨fun named => ?_, fun free epoch => ?_⟩⟩
    · rw [poolDestroy_of_stale h stale]
      exact refusedAs ..
    · rw [poolDestroy_of_named h found named]
      exact refusedAs ..
    · obtain ⟨m, done⟩ := poolDestroy_done h found free epoch
      rw [done]
      exact ⟨Device.serve_pool?_none (Tbl.get?_erase_same _ _), congrArg Service.cmds (serves_serve _).svc, (serves_serve _).regs⟩
  case refine_3 =>
    refine ⟨fun stale => ?_, fun live bad => ?_, fun live good taken => ?_, fun i live good untaken free epoch => ?_⟩
    · rw [shaperCreate_of_stale h stale]
      exact refusedAs ..
    · rw [shaperCreate_of_bad h live bad]
      exact refusedAs ..
    · rw [shaperCreate_of_taken h live good taken]
      exact refusedAs ..
    · obtain ⟨m, made⟩ := shaperCreate_made h live good untaken free epoch
      rw [made]
      exact ⟨Tbl.get?_set_same _ _ _, fun j hj => Tbl.get?_set_ne _ _ hj, ended_of_svc _ _ _ _ _ _ _ rfl, rfl, rfl⟩
  case refine_4 =>
    refine ⟨fun stale => ?_, fun i x found stands => ⟨fun named => ?_, fun free epoch => ?_⟩⟩
    · rw [shaperDestroy_of_stale h stale]
      exact refusedAs ..
    · rw [shaperDestroy_of_named h found stands named]
      exact refusedAs ..
    · obtain ⟨m, done⟩ := shaperDestroy_done h found stands free epoch
      rw [done]
      exact ⟨Tbl.get?_erase_same _ _, ended_of_svc _ _ _ _ _ _ _ rfl, rfl, rfl⟩
  case refine_5 =>
    refine ⟨fun stale => ?_, fun k node => ⟨fun bad => ?_, fun good busy => ?_, fun i good idle free => ?_⟩⟩
    · rw [gateListInstall_of_stale h stale]
      exact refusedAs ..
    · rw [gateListInstall_of_bad h node bad]
      exact refusedAs ..
    · rw [gateListInstall_of_busy h node good busy]
      exact refusedAs ..
    · obtain ⟨skips, after, first, cycles⟩ := gateStart_spec (base := gateBase (Cmd.payload c)) (bound := a.now + a.rdA TMG.SETUP_MARGIN_NS) (cycle_pos_of_good good)
      refine ⟨fun past strict => ?_, fun fits epoch => ?_⟩
      · rw [gateListInstall_of_past h node good idle free (skips.2 past) strict]
        refine ⟨ended_of_svc _ _ _ _ _ _ _ rfl, ?_, ?_, rfl⟩
        · exact (Device.ctr_count_ne _ _ (by decide)).trans (Device.ctr_count_same _ _ _ _)
        · exact (Device.ctr_count_same _ _ _ _).trans (congrArg (fun v => (v + 1) % 2 ^ 64) (Device.ctr_count_ne _ _ (by decide)))
      · obtain ⟨m, made⟩ := gateListInstall_made h node good idle free
          (fun clash => fits.elim (fun onTime => absurd (skips.1 clash.1) (Nat.not_lt.2 onTime)) fun lax => by simp [lax] at clash) epoch
        rw [made]
        refine ⟨Cmd.gateList c (a.issue .gateList i).1 k (a.gateFrom (Cmd.payload c)).2, ?_, rfl, rfl, rfl, rfl, rfl, rfl, after, first, ⟨_, cycles⟩,
          ended_of_svc _ _ _ _ _ _ _ (Device.countIf_svc _ _ _ _)⟩
        exact (congrArg (fun x : Traffic => Tbl.get? x.gates i) (Device.countIf_traffic _ _ _ _)).trans (Tbl.get?_set_same _ _ _)
  case refine_6 =>
    refine ⟨fun stale => ?_, fun i g found stands => ⟨fun inForce => ?_, fun free epoch => ?_⟩⟩
    · rw [gateListDestroy_of_stale h stale]
      exact refusedAs ..
    · rw [gateListDestroy_of_inForce h found stands inForce]
      exact refusedAs ..
    · obtain ⟨m, done⟩ := gateListDestroy_done h found stands free epoch
      rw [done]
      exact ⟨Tbl.get?_erase_same _ _, ended_of_svc _ _ _ _ _ _ _ rfl, rfl, rfl⟩
  case refine_7 =>
    refine ⟨fun stale => ?_, fun x found => ⟨fun bad => ?_, fun low high leaving => ?_, fun low high stays epoch => ?_⟩⟩
    · rw [omciSend_of_stale h stale]
      exact ⟨ended_of_svc _ _ _ _ _ _ _ rfl, a.ctr_count_same _ _ _⟩
    · rw [omciSend_of_length h found bad]
      exact refusedAs ..
    · rw [omciSend_of_leaving h found (by omega) leaving]
      exact refusedAs ..
    · obtain ⟨m, done⟩ := omciSend_done h found (by omega) stays epoch
      rw [done]
      exact ⟨Tbl.getD_set_same _ _ _ _, fun y hy => Tbl.getD_set_ne _ _ _ hy, ended_of_svc _ _ _ _ _ _ _ rfl, rfl, rfl, rfl⟩

end Sys2Proof.Safety
end

section
/-!
PROOFS. Why `Obligations.TreeFrameStarts` fails: it says of every device that a counter which counts nothing reads its value modulo two to the 64, but a
counter that nothing counts on stands as it is, and no premise keeps it below two to the 64.
-/

namespace Sys2Proof.Safety

open Sys2Proof.Machine

/-- Where nothing that follows a command counts, what a command makes of the device counts as its effect leaves it. -/
theorem Makes.counts {c : Instr} {s : State} {t : Nat} {E : Device → Device → Prop} {g : Device → Device} (h : Makes c s t E) (hr : s.inReset = false)
    (hx : exec c s = onDevice t g s) {p o : Nat} (hf : ¬ followCtr (ctrKey p o)) :
    ∃ b, E (s.dev.arrive t) b ∧ b.ctr p o = (g (s.dev.arrive t)).ctr p o := by
  obtain ⟨b, hb, hE⟩ := h
  have same : Device.after s.dev (s.dev.arrive t) b = Device.after s.dev (s.dev.arrive t) (g (s.dev.arrive t)) := by
    rw [hx, onDevice_next t g hr] at hb
    simpa using congrArg State.dev (Host.Outcome.next.inj hb).symm
  refine ⟨b, hE, ?_⟩
  rw [← Device.after_ctr s.dev (s.dev.arrive t) b hf, same, Device.after_ctr _ _ _ hf]

/-- Device time runs, and the count of frames that channel 0 sent stands past the 64 bits of a counter. -/
def overfull : State := { dev := { regs := [(fkey TMU.RUNNING, 1)], ctrs := [(ctrKey (chanPage 0) 0x810, 2 ^ 64)] } }

theorem overfull_runs : (overfull.dev.arrive 0).running = true := by decide

/-- No channel of tree 0 may send: the device does not hold the Capo. -/
theorem overfull_idle : (overfull.dev.arrive 0).laneMaySend 0 = false := by decide

theorem overfull_before : (overfull.dev.arrive 0).ctr (chanPage 0) 0x810 = 2 ^ 64 := by decide

/-- The channel that falls idle leaves its count alone. -/
theorem overfull_after : (treeFrameBoundary (overfull.dev.arrive 0).now 0 (overfull.dev.arrive 0)).ctr (chanPage 0) 0x810 = 2 ^ 64 := by decide

/-- Refutes O15: where tree 0 starts a frame without the Capo and channel 0 has counted 2^64 frames (which no counter does: the statement admits every
state), the idle channel's count stands at 2^64, and the statement's "counts no frame" makes it 0. -/
theorem not_treeFrameStarts : ¬ Obligations.TreeFrameStarts := by
  unfold Obligations.TreeFrameStarts
  intro starts
  obtain ⟨b, ⟨-, frame, -⟩, stands⟩ := (starts 0 0 overfull rfl).counts rfl (exec_treeFrameBoundary ..) (p := chanPage 0) (o := 0x810)
    (by unfold followCtr followPage ctrKey chanPage; decide)
  obtain ⟨-, idle, -⟩ := frame overfull_runs 0
  obtain ⟨-, -, -, uncounted, -⟩ := idle (.inl (by simp [overfull_idle]))
  have wrapped : b.ctr (chanPage 0) 0x810 = ((overfull.dev.arrive 0).ctr (chanPage 0) 0x810 + 0) % 2 ^ 64 := uncounted
  rw [overfull_before] at wrapped
  have kept : b.ctr (chanPage 0) 0x810 = 2 ^ 64 := stands.trans overfull_after
  omega

end Sys2Proof.Safety
end

section
/-!
PROOFS. The limits of grants: line words (R157), shares by weight (R156), the limits of a map (R160, R161) and the quota of a class (R165, R166), and the
statement `Obligations.GrantsKeepTheirLimits`.
-/

namespace Sys2Proof.Machine

/-! ### Line words (R157) -/

/-- A grant fits so many line words exactly where it is no larger than the largest that does. -/
theorem lineLen_le_iff (l n : Nat) : lineLen n ≤ l ↔ n ≤ maxData l := by
  unfold lineLen maxData ceilDiv
  omega

/-! ### Shares by weight (R156) -/

theorem length_filter_lt_of_mem {α : Type} {l : List α} {q : α → Bool} {a : α} (mem : a ∈ l) (out : q a = false) : (l.filter q).length < l.length :=
  List.length_filter_lt_length_iff_exists.2 ⟨a, mem, by simp [out]⟩

/-- Rounding each of a list of quotients down loses less than one for each. -/
theorem sum_div_bounds {t : Nat} (ht : 0 < t) (l : List Nat) :
    t * (l.map (· / t)).sum ≤ l.sum ∧ l.sum ≤ t * ((l.map (· / t)).sum + l.length) := by
  induction l with
  | nil => simp
  | cons x r ih =>
    have split := Nat.div_add_mod x t
    have small := Nat.mod_lt x ht
    simp only [List.map_cons, List.sum_cons, List.length_cons, Nat.mul_add] at ih ⊢
    omega

theorem shareLeft_sum {n : Nat} {l : List (Cand × Nat)} (h : n ≤ l.length) : ((shareLeft n l).map (·.2)).sum = (l.map (·.2)).sum + n := by
  induction l generalizing n with
  | nil => cases n <;> simp_all [shareLeft]
  | cons p r ih =>
    cases n with
    | zero => simp [shareLeft]
    | succ n =>
      have rest := ih (n := n) (by simpa using h)
      simp only [shareLeft, List.map_cons, List.sum_cons, rest]
      omega

theorem mem_shareLeft {n : Nat} {l : List (Cand × Nat)} {p : Cand × Nat} (h : p ∈ shareLeft n l) : ∃ q ∈ l, p.1 = q.1 ∧ p.2 ≤ q.2 + 1 := by
  induction l generalizing n with
  | nil => cases n <;> simp [shareLeft] at h
  | cons q r ih =>
    cases n with
    | zero => exact ⟨p, h, rfl, Nat.le_succ _⟩
    | succ n =>
      rcases List.mem_cons.1 h with rfl | later
      · exact ⟨q, List.mem_cons_self .., rfl, le_rfl⟩
      · obtain ⟨x, hx, same⟩ := ih later
        exact ⟨x, List.mem_cons_of_mem _ hx, same⟩

/-- The weights of allocations, and their sizes, in all. -/
def weightSum (cs : List Cand) : Nat := (cs.map (fun c => c.al.weight)).sum
def sizeSum (cs : List Cand) : Nat := (cs.map (·.size)).sum

/-- Whether an allocation's share of `w` words reaches its size, among allocations of weight `t` in all. -/
def Cand.capped (w t : Nat) (c : Cand) : Bool := decide (c.size * t ≤ w * c.al.weight)

/-- The words of each allocation, rounded down. -/
def floorShares (w : Nat) (cs : List Cand) : List (Cand × Nat) := cs.map (fun c => (c, w * c.al.weight / weightSum cs))

theorem shareRounds_uncapped (n w : Nat) {cs : List Cand} (h : cs.filter (Cand.capped w (weightSum cs)) = []) :
    shareRounds (n + 1) w cs = shareLeft (w - ((floorShares w cs).map (·.2)).sum) (floorShares w cs) := if_pos h

theorem shareRounds_capped (n w : Nat) {cs : List Cand} (h : cs.filter (Cand.capped w (weightSum cs)) ≠ []) :
    shareRounds (n + 1) w cs = (cs.filter (Cand.capped w (weightSum cs))).map (fun c => (c, c.size)) ++
      shareRounds n (w - sizeSum (cs.filter (Cand.capped w (weightSum cs)))) (cs.filter (fun c => !Cand.capped w (weightSum cs) c)) := by
  refine (if_neg h).trans (congrArg (fun l => _ ++ shareRounds n _ l) (List.filter_congr fun c hc => congrArg (!·) ?_))
  rw [Bool.eq_iff_iff, List.contains_iff_mem]
  exact List.mem_filter.trans (and_iff_right hc)

theorem sizeSum_filter (cs : List Cand) (p : Cand → Bool) : sizeSum (cs.filter p) + sizeSum (cs.filter (fun c => !p c)) = sizeSum cs := by
  have all := ((List.filter_append_perm p cs).map (·.size)).sum_eq
  simpa [sizeSum] using all

theorem weightSum_filter_le (cs : List Cand) (p : Cand → Bool) : weightSum (cs.filter p) ≤ weightSum cs := by
  have all := ((List.filter_append_perm p cs).map (fun c => c.al.weight)).sum_eq
  simp only [List.map_append, List.sum_append] at all
  exact Nat.le.intro all

theorem sizeSum_mul (t : Nat) (cs : List Cand) : (cs.map (fun c => c.size * t)).sum = sizeSum cs * t := List.sum_map_mul_right ..

theorem weightSum_mul (w : Nat) (cs : List Cand) : (cs.map (fun c => w * c.al.weight)).sum = w * weightSum cs := List.sum_map_mul_left ..

theorem weightSum_pos {cs : List Cand} (weighted : ∀ c ∈ cs, 1 ≤ c.al.weight) (h : cs ≠ []) : 0 < weightSum cs := by
  obtain ⟨c, hc⟩ := List.exists_mem_of_ne_nil _ h
  exact lt_of_lt_of_le (weighted c hc) (List.single_le_sum (fun _ _ => Nat.zero_le _) _ (List.mem_map_of_mem hc))

/-- The capped allocations take no more than there is. -/
theorem sizeSum_capped_le {w : Nat} {cs : List Cand} (pos : 0 < weightSum cs) : sizeSum (cs.filter (Cand.capped w (weightSum cs))) ≤ w := by
  have each : sizeSum (cs.filter (Cand.capped w (weightSum cs))) * weightSum cs ≤ w * weightSum (cs.filter (Cand.capped w (weightSum cs))) := by
    rw [← sizeSum_mul, ← weightSum_mul]
    exact List.sum_le_sum fun c hc => of_decide_eq_true (List.mem_filter.1 hc).2
  exact Nat.le_of_mul_le_mul_right (each.trans (Nat.mul_le_mul_left w (weightSum_filter_le ..))) pos

section Uncapped

variable {w : Nat} {cs : List Cand} (uncapped : ∀ c ∈ cs, w * c.al.weight < c.size * weightSum cs)
include uncapped

theorem le_sizeSum_of_uncapped (pos : 0 < weightSum cs) : w ≤ sizeSum cs := by
  refine Nat.le_of_mul_le_mul_right ?_ pos
  rw [← sizeSum_mul, ← weightSum_mul]
  exact List.sum_le_sum fun c hc => (uncapped c hc).le

theorem floorShares_lt {p : Cand × Nat} (h : p ∈ floorShares w cs) : p.1 ∈ cs ∧ p.2 < p.1.size := by
  obtain ⟨c, hc, rfl⟩ := List.mem_map.1 h
  exact ⟨hc, (Nat.div_lt_iff_lt_mul (Nat.pos_of_lt_mul_left (uncapped c hc))).2 (uncapped c hc)⟩

end Uncapped

/-- What rounding down leaves over is no more than one word for each allocation. -/
theorem floorShares_sum {cs : List Cand} (pos : 0 < weightSum cs) (w : Nat) :
    ((floorShares w cs).map (·.2)).sum ≤ w ∧ w ≤ ((floorShares w cs).map (·.2)).sum + cs.length := by
  have bounds := sum_div_bounds pos (cs.map (fun c => w * c.al.weight))
  have same : (cs.map (fun c => w * c.al.weight)).map (· / weightSum cs) = (floorShares w cs).map (·.2) := by simp [floorShares, Function.comp_def]
  rw [same, weightSum_mul, List.length_map, Nat.mul_comm w] at bounds
  exact ⟨Nat.le_of_mul_le_mul_left bounds.1 pos, Nat.le_of_mul_le_mul_left bounds.2 pos⟩

/-- Sharing gives each allocation at most its size, and in all the smaller of the words and the sizes. -/
theorem shareRounds_shares {n w : Nat} {cs : List Cand} (fuel : cs.length < n) (weighted : ∀ c ∈ cs, 1 ≤ c.al.weight) :
    ((shareRounds n w cs).map (·.2)).sum = min w (sizeSum cs) ∧ ∀ p ∈ shareRounds n w cs, p.1 ∈ cs ∧ p.2 ≤ p.1.size := by
  induction n generalizing w cs with
  | zero => omega
  | succ n ih =>
    by_cases none : cs.filter (Cand.capped w (weightSum cs)) = []
    · rw [shareRounds_uncapped n w none]
      have uncapped : ∀ c ∈ cs, w * c.al.weight < c.size * weightSum cs := fun c hc => by
        simpa [Cand.capped] using List.filter_eq_nil_iff.1 none c hc
      refine ⟨?_, fun p hp => ?_⟩
      · rcases eq_or_ne cs [] with rfl | some
        · cases w <;> simp [floorShares, shareLeft, sizeSum]
        · have pos := weightSum_pos weighted some
          obtain ⟨low, high⟩ := floorShares_sum pos w
          rw [shareLeft_sum (by simpa [floorShares] using Nat.sub_le_iff_le_add'.2 high), Nat.min_eq_left (le_sizeSum_of_uncapped uncapped pos)]
          exact Nat.add_sub_cancel' low
      · obtain ⟨q, hq, same, le⟩ := mem_shareLeft hp
        obtain ⟨mem, lt⟩ := floorShares_lt uncapped hq
        exact same ▸ ⟨mem, le.trans lt⟩
    · rw [shareRounds_capped n w none]
      have some : cs ≠ [] := fun e => none (by simp [e])
      have capped := sizeSum_capped_le (w := w) (weightSum_pos weighted some)
      have parts := sizeSum_filter cs (Cand.capped w (weightSum cs))
      have shorter : (cs.filter (fun c => !Cand.capped w (weightSum cs) c)).length < n := by
        obtain ⟨c, hc⟩ := List.exists_mem_of_ne_nil _ none
        obtain ⟨mem, cap⟩ := List.mem_filter.1 hc
        have := length_filter_lt_of_mem (q := fun c => !Cand.capped w (weightSum cs) c) mem (by simp [cap])
        omega
      obtain ⟨sum, each⟩ := ih (w := w - sizeSum (cs.filter (Cand.capped w (weightSum cs)))) shorter fun c hc => weighted c (List.mem_filter.1 hc).1
      refine ⟨?_, fun p hp => ?_⟩
      · have first : (((cs.filter (Cand.capped w (weightSum cs))).map (fun c => (c, c.size))).map (·.2)).sum =
          sizeSum (cs.filter (Cand.capped w (weightSum cs))) := by simp [sizeSum, Function.comp_def]
        rw [List.map_append, List.sum_append, first, sum]
        omega
      · rcases List.mem_append.1 hp with cap | rest
        · obtain ⟨c, hc, rfl⟩ := List.mem_map.1 cap
          exact ⟨(List.mem_filter.1 hc).1, le_rfl⟩
        · exact (each p rest).imp_left fun mem => (List.mem_filter.1 mem).1

/-! ### The limits of a map (R160, R161) -/

/-- The grant to remove first: of the highest class, and of the highest index within it. -/
def worse (best : Option (Cand × Nat)) (p : Cand × Nat) : Option (Cand × Nat) :=
  match best with
  | none => some p
  | some b => if b.1.al.cls < p.1.al.cls ∨ (b.1.al.cls = p.1.al.cls ∧ b.1.idx < p.1.idx) then some p else some b

/-- That of a map; fixed grants are never removed. -/
def worst (l : List (Cand × Nat)) : Option (Cand × Nat) := (l.filter (fun p => p.1.al.cls ≠ 0)).foldl worse none

/-- Whether a map keeps its limits beside `e` entries of the RGU. -/
def WithinLimits (course : Alloc → Bool) (e : Nat) (l : List (Cand × Nat)) : Prop := l.length + e ≤ 512 ∧ burstCount course l + e ≤ 256

theorem worse_eq (best : Option (Cand × Nat)) (p : Cand × Nat) : worse best p = some p ∨ (worse best p = best ∧ best ≠ none) := by
  unfold worse
  split
  · exact .inl rfl
  · split
    exacts [.inl rfl, .inr ⟨rfl, Option.some_ne_none _⟩]

theorem foldl_worse (l : List (Cand × Nat)) (best : Option (Cand × Nat)) :
    (l.foldl worse best = best ∧ (l = [] ∨ best ≠ none)) ∨ ∃ p ∈ l, l.foldl worse best = some p := by
  induction l generalizing best with
  | nil => exact .inl ⟨rfl, .inl rfl⟩
  | cons p r ih =>
    rcases ih (worse best p) with ⟨same, -⟩ | ⟨q, hq, found⟩
    · rcases worse_eq best p with new | ⟨old, some⟩
      · exact .inr ⟨p, List.mem_cons_self .., same.trans new⟩
      · exact .inl ⟨same.trans old, .inr some⟩
    · exact .inr ⟨q, List.mem_cons_of_mem _ hq, found⟩

theorem mem_of_worst {l : List (Cand × Nat)} {p : Cand × Nat} (h : worst l = some p) : p ∈ l ∧ p.1.al.cls ≠ 0 := by
  rcases foldl_worse (l.filter (fun p => p.1.al.cls ≠ 0)) none with ⟨none, -⟩ | ⟨q, hq, found⟩
  · exact absurd (h.symm.trans none) (Option.some_ne_none _)
  · obtain rfl := Option.some.inj (found.symm.trans h)
    simpa using hq

theorem fixed_of_no_worst {l : List (Cand × Nat)} (h : worst l = none) : ∀ p ∈ l, p.1.al.cls = 0 := by
  rcases foldl_worse (l.filter (fun p => p.1.al.cls ≠ 0)) none with ⟨-, empty | some⟩ | ⟨q, -, found⟩
  · simpa using empty
  · exact absurd rfl some
  · exact absurd (found.symm.trans h) (Option.some_ne_none _)

/-- A step of the enforcement: within its limits, or with fixed grants alone, a map stays; else the allocation of its worst grant goes. -/
theorem enforce_succ (course : Alloc → Bool) (e n : Nat) (l : List (Cand × Nat)) :
    ((WithinLimits course e l ∨ ∀ p ∈ l, p.1.al.cls = 0) ∧ enforce course e (n + 1) l = l) ∨
    ∃ p ∈ l, p.1.al.cls ≠ 0 ∧ enforce course e (n + 1) l = enforce course e n (l.filter (fun q => q.1.idx ≠ p.1.idx)) := by
  by_cases full : 512 < l.length + e ∨ 256 < burstCount course l + e
  · have step : enforce course e (n + 1) l =
        match worst l with
        | some p => enforce course e n (l.filter (fun q => q.1.idx ≠ p.1.idx))
        | none => l := if_pos full
    cases found : worst l with
    | none => exact .inl ⟨.inr (fixed_of_no_worst found), by rw [step, found]⟩
    | some p =>
      obtain ⟨mem, cls⟩ := mem_of_worst found
      exact .inr ⟨p, mem, cls, by rw [step, found]⟩
  · exact .inl ⟨.inl (by unfold WithinLimits; omega), if_neg full⟩

theorem enforce_limits (course : Alloc → Bool) (e : Nat) {n : Nat} {l : List (Cand × Nat)} (fuel : l.length ≤ n) :
    WithinLimits course e (enforce course e n l) ∨ ∀ p ∈ enforce course e n l, p.1.al.cls = 0 := by
  induction n generalizing l with
  | zero =>
    obtain rfl := List.length_eq_zero_iff.1 (Nat.le_zero.1 fuel)
    exact .inr fun _ h => absurd h List.not_mem_nil
  | succ n ih =>
    rcases enforce_succ course e n l with ⟨done, same⟩ | ⟨p, mem, -, step⟩
    · rwa [same]
    · rw [step]
      exact ih (Nat.le_of_lt_succ ((length_filter_lt_of_mem mem (by simp)).trans_le fuel))

theorem mem_of_mem_enforce (course : Alloc → Bool) (e : Nat) {n : Nat} {l : List (Cand × Nat)} {p : Cand × Nat} (h : p ∈ enforce course e n l) : p ∈ l := by
  induction n generalizing l with
  | zero => exact h
  | succ n ih =>
    rcases enforce_succ course e n l with ⟨-, same⟩ | ⟨q, -, -, step⟩
    · rwa [same] at h
    · rw [step] at h
      exact (List.mem_filter.1 (ih h)).1

/-- No fixed grant is removed, where one allocation's grants are all of its class. -/
theorem mem_enforce_of_fixed (course : Alloc → Bool) (e : Nat) {n : Nat} {l : List (Cand × Nat)}
    (oneClass : ∀ p ∈ l, p.1.al.cls = 0 → ∀ q ∈ l, q.1.idx = p.1.idx → q.1.al.cls = 0) {p : Cand × Nat} (mem : p ∈ l) (fixed : p.1.al.cls = 0) :
    p ∈ enforce course e n l := by
  induction n generalizing l with
  | zero => exact mem
  | succ n ih =>
    rcases enforce_succ course e n l with ⟨-, same⟩ | ⟨q, hq, cls, step⟩
    · rwa [same]
    · rw [step]
      refine ih (fun a ha fixed b hb => oneClass a (List.mem_filter.1 ha).1 fixed b (List.mem_filter.1 hb).1) (List.mem_filter.2 ⟨mem, ?_⟩)
      exact decide_eq_true fun same => cls (oneClass p mem fixed q hq same.symm)

/-! ### The quota of a class (R165, R166) -/

/-- The smaller of two ratios, as numerator and denominator. -/
def lowerRatio (b x : Nat × Nat) : Nat × Nat := if x.1 * b.2 < b.1 * x.2 then x else b

theorem foldl_lowerRatio_le {b : Nat × Nat} (h : b.1 ≤ b.2) (l : List (Nat × Nat)) : (l.foldl lowerRatio b).1 ≤ (l.foldl lowerRatio b).2 := by
  induction l generalizing b with
  | nil => exact h
  | cons x r ih =>
    refine ih ?_
    unfold lowerRatio
    split
    · next lower =>
      have : x.1 * b.2 < x.2 * b.2 := lower.trans_le (by rw [Nat.mul_comm x.2]; exact Nat.mul_le_mul_right _ h)
      exact (Nat.lt_of_mul_lt_mul_right this).le
    · exact h

variable (d : Device) (p : Plan) (u k m : Nat) (is : List Item)

theorem Device.lowerFactor_le (n q : Nat) : d.lowerFactor p u k m is n q ≤ q := by
  induction n generalizing q with
  | zero => exact Nat.zero_le _
  | succ n ih =>
    unfold Device.lowerFactor
    split
    exacts [le_rfl, (ih (q - 1)).trans (Nat.sub_le _ _)]

theorem workAt_zero (wb : Nat) : workAt wb 0 = 0 := by
  unfold workAt ceilDiv
  cases wb <;> simp

/-- Grants scaled to nothing fit every quota. -/
theorem Device.fits_zero : d.fits p u k 0 m is = true := by
  refine List.all_eq_true.2 fun x hx => decide_eq_true ?_
  obtain ⟨j, -, rfl⟩ := List.mem_map.1 hx
  have nothing : (((Plan.loads p u k 0 m is).filter (fun l => l.1.contains j)).map (·.2)).sum = 0 := by
    refine List.sum_eq_zero fun w hw => ?_
    obtain ⟨l, hl, rfl⟩ := List.mem_map.1 hw
    obtain ⟨i, -, rfl⟩ := List.mem_map.1 (List.mem_filter.1 hl).1
    simp [workAt_zero]
  exact nothing.trans_le (Nat.zero_le _)

theorem Device.fits_lowerFactor (n q : Nat) : d.fits p u k (d.lowerFactor p u k m is n q) m is = true := by
  induction n generalizing q with
  | zero => exact d.fits_zero ..
  | succ n ih =>
    unfold Device.lowerFactor
    split
    exacts [by assumption, ih (q - 1)]

theorem Device.factor_le : (d.factor p u k is).1 ≤ (d.factor p u k is).2 :=
  (d.lowerFactor_le ..).trans (foldl_lowerRatio_le le_rfl _)

theorem Device.fits_factor : d.fits p u k (d.factor p u k is).1 (d.factor p u k is).2 is = true := d.fits_lowerFactor ..

/-- Work that fits a quota's rest is within the quota beside what is committed, or is none. -/
theorem Device.fits_within {q m : Nat} (h : d.fits p u k q m is = true) {x : Nat × Nat} (hx : x ∈ frameLoads (Plan.loads p u k q m is)) :
    x.2 + (d.led x.1).committed.getD k 0 ≤ max ((d.led x.1).quota.getD k 0) ((d.led x.1).committed.getD k 0) := by
  have fit : x.2 ≤ d.quotaLeft x.1 k := of_decide_eq_true (List.all_eq_true.1 h x hx)
  unfold Device.quotaLeft at fit
  omega

end Sys2Proof.Machine

namespace Sys2Proof.Safety

open Sys2Proof.Machine

/-- Settles O20: line words by arithmetic, shares by the rounds of R156, limits by the grants removed, and a class's work by its factor. -/
theorem grantsKeepTheirLimits : Obligations.GrantsKeepTheirLimits := by
  unfold Obligations.GrantsKeepTheirLimits
  refine ⟨lineLen_le_iff, fun w cs weighted => shareRounds_shares (Nat.lt_succ_self _) weighted, fun course e l => ?_, fun d p u k is => ?_⟩
  · exact ⟨enforce_limits course e le_rfl, fun _ => mem_of_mem_enforce course e, fun oneClass _ => mem_enforce_of_fixed course e oneClass⟩
  · exact ⟨d.factor_le .., d.fits_factor .., fun _ => d.fits_within _ _ _ _ (d.fits_factor ..)⟩

end Sys2Proof.Safety
end

section
/-!
PROOFS. Commands on allocations and service channels (R149, R150, R259, R311, R312, R314, R315, R358): each command and each commit by its cases, and the
statement `Obligations.AllocationAndChannelCommands`.
-/

namespace Sys2Proof.Tbl

/-- An entry changed where there is one; every other entry stands. -/
theorem get?_modify {α : Type} (t : Tbl α) (k j : Nat) (f : α → α) : get? (modify t k f) j = if j = k then (get? t k).map f else get? t j := by
  cases stands : get? t k with
  | none =>
    simp only [modify, stands, Option.map_none]
    split
    · next same => rw [same, stands]
    · rfl
  | some v =>
    simp only [modify, stands, Option.map_some]
    split
    · next same => rw [same, get?_set_same]
    · next other => exact get?_set_ne t _ other

theorem get?_modify_ne {α : Type} (t : Tbl α) {k j : Nat} (f : α → α) (h : j ≠ k) : get? (modify t k f) j = get? t j :=
  (get?_modify ..).trans (if_neg h)

end Sys2Proof.Tbl

namespace Sys2Proof.Machine

open Sys2Proof.Safety

variable {a d : Device} {n i x : Nat} {c : Cmd}

/-! ### ALLOC_CREATE and its commit (R149, R316) -/

theorem allocCreate_of_stale (h : Runs a 0x20 n c) (stale : a.termOf (Cmd.parent c) = none) : allocCreate a.now n a = a.staleTerm c a.now := by
  unfold allocCreate
  rw [run_of_runs h]
  simp only [stale]

theorem allocCreate_of_refused {e : Nat} (h : Runs a 0x20 n c) (found : a.termOf (Cmd.parent c) = some x) (bad : a.allocPlan c x = .inl e) :
    allocCreate a.now n a = a.refuseCmd c e a.now := by
  unfold allocCreate
  rw [run_of_runs h]
  simp only [found, bad]

theorem allocCreate_taken (h : Runs a 0x20 n c) (found : a.termOf (Cmd.parent c) = some x) (good : a.allocPlan c x = .inr i) :
    allocCreate a.now n a = a.workCmd c := by
  unfold allocCreate
  rw [run_of_runs h]
  simp only [found, good]

/-- An allocation stands at index `i`. -/
def Device.withAllocation (i : Nat) (al : Alloc) (d : Device) : Device := { d with fret := { d.fret with allocs := Tbl.set d.fret.allocs i al } }

/-- The allocation of handle `h` that an ALLOC_CREATE makes on terminal `x` at instant `t`. -/
def Device.newAlloc (d : Device) (c : Cmd) (x h t : Nat) : Alloc := { Cmd.allocation c x with handle := h, bornFrame := d.treeFrame (termTree x) t }

theorem createAlloc_made (t : Nat) (found : d.termOf (Cmd.parent c) = some x) (good : d.allocPlan c x = .inr i) (epoch : Room d c) : ∃ m, d.createAlloc c t =
    ((({ d with mru := m } : Device).issue .allocation i).2.withAllocation i (d.newAlloc c x (d.issue .allocation i).1 t)).createdCmd c t
      (d.issue .allocation i).1 (Cmd.allocation c x).allocId 0 := by
  obtain ⟨m, commits⟩ := commit_of_room epoch
  refine ⟨m, ?_⟩
  unfold Device.createAlloc
  simp only [found, good]
  exact commits _

/-! ### ALLOC_DESTROY and its commit (R150, R259, R314) -/

theorem allocDestroy_of_stale (h : Runs a 0x21 n c) (stale : a.allocOf (Cmd.handle c) = none) : allocDestroy a.now n a = a.refuseCmd c stStale a.now := by
  unfold allocDestroy
  rw [run_of_runs h]
  simp only [stale]

section Found

variable (h : Runs a 0x21 n c) (found : a.allocOf (Cmd.handle c) = some i)
include h found

theorem allocDestroy_of_default (default : i % 4096 < 512) : allocDestroy a.now n a = a.refuseCmd c stArg a.now := by
  unfold allocDestroy
  rw [run_of_runs h]
  simp only [found, default, if_true]

variable (own : 512 ≤ i % 4096)
include own

theorem allocDestroy_of_named (named : ∃ e ∈ a.svc.chans, e.2.alloc = Cmd.handle c) : allocDestroy a.now n a = a.refuseCmd c stBusy a.now := by
  have any : (a.svc.chans.any fun e => e.2.alloc = Cmd.handle c) = true := List.any_eq_true.2 (by simpa using named)
  unfold allocDestroy
  rw [run_of_runs h]
  simp only [found, Nat.not_lt.2 own, any, if_false, if_true]

theorem allocDestroy_taken (free : ∀ e ∈ a.svc.chans, e.2.alloc ≠ Cmd.handle c) : allocDestroy a.now n a =
    ({ a with fret := { a.fret with allocs := Tbl.modify a.fret.allocs i (fun al => { al with leaving := true }) } } : Device).workCmd c := by
  have any : (a.svc.chans.any fun e => e.2.alloc = Cmd.handle c) = false := List.any_eq_false.2 (by simpa using free)
  unfold allocDestroy
  rw [run_of_runs h]
  simp only [found, Nat.not_lt.2 own, any, if_false, Bool.false_eq_true]

end Found

theorem allocOf_stands {h : Nat} (found : d.allocOf h = some i) : ∃ al, Tbl.get? d.fret.allocs i = some al ∧ al.handle = h := by
  unfold Device.allocOf at found
  split at found
  · next al stands =>
    split at found
    · next same =>
      obtain rfl := Option.some.inj found
      exact ⟨al, stands, same⟩
    · cases found
  · cases found

theorem destroyAlloc_done (t : Nat) (found : d.allocOf (Cmd.handle c) = some i) (epoch : Room d c) : ∃ m, d.destroyAlloc c t =
    ({ d with mru := m, fret := { d.fret with allocs := d.fret.allocs.erase i } } : Device).okCmd c t 0 0 := by
  obtain ⟨m, commits⟩ := commit_of_room epoch
  refine ⟨m, ?_⟩
  unfold Device.destroyAlloc
  simp only [found]
  exact commits _

/-! ### CHANNEL_CREATE (R311, R312, R358) -/

theorem channelCreate_of_no_terminal (h : Runs a 0x30 n c) (stale : a.termOf (Cmd.parent c) = none) :
    channelCreate a.now n a = a.refuseCmd c stStale a.now := by
  unfold channelCreate
  rw [run_of_runs h]
  simp only [stale]

/-- A service channel stands at index `i`. -/
def Device.withChannel (i : Nat) (ch : SvcChan) (d : Device) : Device := { d with svc := { d.svc with chans := Tbl.set d.svc.chans i ch } }

/-- The channel of handle `h` that a CHANNEL_CREATE makes, with its first key in slot `k` where it has one. -/
def Cmd.newChannel (c : Cmd) (h : Nat) (k : Option Nat) : SvcChan :=
  { Cmd.channel c with handle := h, keys := [k, none], active := k.map fun _ => 1 }

/-- Key slot `k` is bound as the first key of the channel of handle `h` (R358, R382). -/
def Device.bindKey (k h : Nat) (d : Device) : Device :=
  (d.count 0x1B4 0x870 1).modKey k (fun s => { s with st := if s.st = KeySt.erased then .erased else .active, pos := 1, everBound := true, chan := h })

section Terminal

variable (h : Runs a 0x30 n c) (found : a.termOf (Cmd.parent c) = some x)
include h found

theorem channelCreate_of_stale (stale : a.chanStale c x = true) : channelCreate a.now n a = a.refuseCmd c stStale a.now := by
  unfold channelCreate
  rw [run_of_runs h]
  simp only [found, stale, if_true]

variable (live : a.chanStale c x = false)
include live

theorem channelCreate_of_bad (bad : a.chanArgBad c x = true) : channelCreate a.now n a = a.refuseCmd c stArg a.now := by
  unfold channelCreate
  rw [run_of_runs h]
  simp only [found, live, bad, if_true, Bool.false_eq_true, if_false]

variable (good : a.chanArgBad c x = false)
include good

theorem channelCreate_of_leaving (leaving : a.leaving x = true) : channelCreate a.now n a = a.refuseCmd c stBusy a.now := by
  unfold channelCreate
  rw [run_of_runs h]
  simp only [found, live, good, leaving, if_true, Bool.false_eq_true, if_false]

theorem channelCreate_made (stays : a.leaving x = false) (room : a.svc.chans.length + a.rng.terms.length < 524288)
    (free : firstFree (fun i => (Tbl.get? a.svc.chans i).isNone) 524288 0 = some i) (epoch : Room a c) : ∃ m, channelCreate a.now n a =
      (((({ a with mru := m } : Device).issue .channel i).2.whenSome (a.keyOf (Cmd.arg c 2)) (fun k => Device.bindKey k (a.issue .channel i).1)).withChannel i
        (Cmd.newChannel c (a.issue .channel i).1 (a.keyOf (Cmd.arg c 2)))).createdCmd c a.now (a.issue .channel i).1 (Cmd.channel c).port 0 := by
  obtain ⟨m, commits⟩ := commit_of_room epoch
  refine ⟨m, ?_⟩
  unfold channelCreate
  rw [run_of_runs h]
  simp only [found, live, good, stays, Nat.not_le.2 room, Bool.false_eq_true, if_false, free, commits]
  have same : (({ a with mru := m } : Device).issue .channel i).2.keyOf (Cmd.arg c 2) = a.keyOf (Cmd.arg c 2) := rfl
  rw [same]
  cases a.keyOf (Cmd.arg c 2) <;> rfl

end Terminal

/-! ### CHANNEL_DESTROY (R315) -/

theorem chan?_handle {h : Nat} {ch : SvcChan} (found : d.chan? h = some ch) : ch.handle = h := by
  unfold Device.chan? at found
  split at found
  · split at found
    · next same => exact Option.some.inj found ▸ same
    · cases found
  · cases found

theorem channelDestroy_of_stale (h : Runs a 0x31 n c) (stale : a.chan? (Cmd.handle c) = none) : channelDestroy a.now n a = a.refuseCmd c stStale a.now := by
  unfold channelDestroy
  rw [run_of_runs h]
  simp only [stale]

theorem channelDestroy_of_long {ch : SvcChan} (h : Runs a 0x31 n c) (found : a.chan? (Cmd.handle c) = some ch) (long : 8 < Cmd.drain c) :
    channelDestroy a.now n a = a.refuseCmd c stArg a.now := by
  unfold channelDestroy
  rw [run_of_runs h]
  simp only [found, long, if_true]

theorem channelDestroy_taken {ch : SvcChan} (h : Runs a 0x31 n c) (found : a.chan? (Cmd.handle c) = some ch) (short : Cmd.drain c ≤ 8) :
    channelDestroy a.now n a = (a.modChan (handleIdx (Cmd.handle c)) (fun x => { x with closed := true })).workCmd c := by
  unfold channelDestroy
  rw [run_of_runs h]
  simp only [found, Nat.not_lt.2 short, if_false, chan?_handle found]
  rfl

/-- Whatever channel a handle names after all channels of its index were closed, it is closed. -/
theorem closed_of_modChan {h : Nat} {y : SvcChan} (found : (d.modChan (handleIdx h) (fun x => { x with closed := true })).chan? h = some y) :
    y.closed = true := by
  unfold Device.chan? at found
  split at found
  · next z stands =>
    split at found
    · obtain rfl := Option.some.inj found
      have changed := (Tbl.get?_modify d.svc.chans (handleIdx h) (handleIdx h) (fun x => { x with closed := true })).symm.trans stands
      rw [if_pos rfl] at changed
      obtain ⟨x, -, rfl⟩ := Option.map_eq_some_iff.1 changed
      rfl
    · cases found
  · cases found

end Sys2Proof.Machine

namespace Sys2Proof.Safety

open Sys2Proof.Machine

/-- Settles O40: each command and each commit by its causes, in their order, and by what it makes. -/
theorem allocationAndChannelCommands : Obligations.AllocationAndChannelCommands := by
  unfold Obligations.AllocationAndChannelCommands
  refine ⟨fun t n s hr => Makes.intro hr (exec_allocCreate ..) ?_, fun t n s hr => Makes.intro hr (exec_allocDestroy ..) ?_,
    fun d c t x i found good epoch => ?_, fun d c t i found epoch => ?_,
    fun t n s hr => Makes.intro hr (exec_channelCreate ..) ?_, fun t n s hr => Makes.intro hr (exec_channelDestroy ..) ?_⟩
  case refine_1 =>
    generalize s.dev.arrive t = a
    refine fun c h => ⟨fun stale => ?_, fun x found => ⟨fun e bad => ?_, fun i good => ?_⟩⟩
    · rw [allocCreate_of_stale h stale]
      exact ⟨ended_of_svc _ _ _ _ _ _ _ rfl, a.ctr_count_same _ _ _⟩
    · rw [allocCreate_of_refused h found bad]
      exact refusedAs ..
    · rw [allocCreate_taken h found good]
      exact ⟨rfl, rfl⟩
  case refine_2 =>
    generalize s.dev.arrive t = a
    refine fun c h => ⟨fun stale => ?_, fun i found => ⟨fun default => ?_, fun own named => ?_, fun own free => ?_⟩⟩
    · rw [allocDestroy_of_stale h stale]
      exact refusedAs ..
    · rw [allocDestroy_of_default h found default]
      exact refusedAs ..
    · rw [allocDestroy_of_named h found own named]
      exact refusedAs ..
    · obtain ⟨al, stands, -⟩ := allocOf_stands found
      rw [allocDestroy_taken h found own free]
      exact ⟨rfl, ⟨_, Tbl.get?_modify_same _ stands, rfl⟩, fun j hj => Tbl.get?_modify_ne _ _ hj, rfl⟩
  case refine_3 =>
    obtain ⟨m, made⟩ := createAlloc_made t found good epoch
    rw [made]
    exact ⟨_, Tbl.get?_set_same _ _ _, rfl, rfl, rfl, rfl, ended_of_svc _ _ _ _ _ _ _ rfl⟩
  case refine_4 =>
    obtain ⟨m, done⟩ := destroyAlloc_done t found epoch
    rw [done]
    exact ⟨Tbl.get?_erase_same _ _, ended_of_svc _ _ _ _ _ _ _ rfl⟩
  case refine_5 =>
    generalize s.dev.arrive t = a
    refine fun c h => ⟨fun none => ?_, fun x found => ⟨fun stale => ?_, fun live bad => ?_, fun live good leaving => ?_, fun i live good stays room free epoch => ?_⟩⟩
    · rw [channelCreate_of_no_terminal h none]
      exact refusedAs ..
    · rw [channelCreate_of_stale h found stale]
      exact refusedAs ..
    · rw [channelCreate_of_bad h found live bad]
      exact refusedAs ..
    · rw [channelCreate_of_leaving h found live good leaving]
      exact refusedAs ..
    · obtain ⟨m, made⟩ := channelCreate_made h found live good stays room free epoch
      rw [made]
      have port : (Cmd.channel c).port = Cmd.arg c 0 % 65536 := rfl
      cases key : a.keyOf (Cmd.arg c 2) with
      | none =>
        refine ⟨_, Tbl.get?_set_same _ _ _, rfl, rfl, rfl, ?_, ?_, rfl, rfl, rfl, rfl, ?_, fun _ => rfl⟩
        all_goals simp [Cmd.newChannel]
      | some k =>
        refine ⟨_, Tbl.get?_set_same _ _ _, rfl, rfl, rfl, ?_, ?_, rfl, rfl, rfl, rfl, fun _ => a.ctr_count_same _ _ _, ?_⟩
        all_goals simp [Cmd.newChannel]
  case refine_6 =>
    generalize s.dev.arrive t = a
    refine fun c h => ⟨fun stale => ?_, fun ch found => ⟨fun long => ?_, fun short => ?_⟩⟩
    · rw [channelDestroy_of_stale h stale]
      exact refusedAs ..
    · rw [channelDestroy_of_long h found long]
      exact refusedAs ..
    · rw [channelDestroy_taken h found short]
      exact ⟨rfl, fun y => closed_of_modChan, rfl, rfl⟩

end Sys2Proof.Safety
end

section
/-!
PROOFS. Completion records (R168 to R176, R190, R201): what the ranging and the report that a record feeds leave alone, what the ring takes, when
GRANT_RECORD_POST changes nothing and what it posts, and the statement `Obligations.RecordsPost`.
-/

namespace Sys2Proof.Machine

open Sys2Proof.Safety

/-! ### What a record's part in ranging leaves alone (R171, R241, R247 to R250, R260) -/

/-- What a change of terminals, their PLOAM messages and the counters of the RGU may touch, `g` does not see. -/
structure RangeBlind {β : Type} (g : Device → β) : Prop where
  count : ∀ d o n, g (Device.count 0x1B6 o n d) = g d
  cfr : ∀ d c x, g (Device.setCfr c x d) = g d
  rng : ∀ (d : Device) x, g { d with rng := x } = g d

namespace RangeBlind

variable {β : Type} {g : Device → β} (h : RangeBlind g) (d : Device) (x c : Nat)
include h

theorem setTerm (t : Term) : g (d.setTerm x t) = g d := h.rng d _

theorem ploam (m : Ploam) : g (d.ploam c m) = g d := h.cfr d _ _

theorem modWc (w : Nat) (f : TermWc → TermWc) : g (d.modWc x w f) = g d := by
  unfold Device.modWc
  split
  exacts [h.setTerm .., rfl]

theorem raiseDefect (b : Nat) : g (d.raiseDefect x b) = g d := by
  unfold Device.raiseDefect
  split
  · rfl
  · split
    exacts [rfl, (h.count ..).trans (h.setTerm ..)]

theorem clearDefect (b : Nat) : g (d.clearDefect x b) = g d := by
  unfold Device.clearDefect
  split
  · rfl
  · split
    exacts [h.setTerm .., rfl]

theorem setState (st : Nat) : g (d.setState x st) = g d := by
  unfold Device.setState
  split
  · rfl
  · dsimp only
    split
    exacts [(h.raiseDefect ..).trans (h.setTerm ..), (h.clearDefect ..).trans (h.setTerm ..)]

theorem deactivate : g (d.deactivate x) = g d := by
  unfold Device.deactivate
  dsimp only
  rw [h.setState, forEach_keeps' g _ _ fun _ _ => h.modWc .., h.rng, h.ploam]

theorem disableTerm : g (d.disableTerm x) = g d := by
  unfold Device.disableTerm
  split
  · rfl
  · split
    · rfl
    · dsimp only
      rw [h.setState, h.rng, h.ploam]

theorem wantRange (r : RangeReq) : g (d.wantRange r) = g d := h.rng d _

theorem rangingTime (e : Int) : g (d.rangingTime x c e) = g d := by
  unfold Device.rangingTime
  dsimp only
  rw [h.rng, h.ploam, h.modWc]

theorem markSufi (w : Nat) (on : Bool) : g (d.markSufi x w on) = g d := by
  have marked := h.modWc d x w (fun y => { y with sufi := on })
  unfold Device.markSufi
  dsimp only
  split
  · exact marked
  · split
    exacts [(h.raiseDefect ..).trans marked, (h.clearDefect ..).trans marked]

theorem measured (rho : Nat) : g (d.measured x c rho) = g d := by
  unfold Device.measured
  split
  · rfl
  · dsimp only
    split
    · split
      · rw [h.deactivate, h.raiseDefect, h.count]
      · rw [h.modWc, h.raiseDefect, h.count]
    · rw [h.rangingTime]
      split
      · rw [h.setTerm, h.modWc, h.clearDefect, h.clearDefect, h.markSufi, h.count]
      · rw [h.modWc, h.clearDefect, h.clearDefect, h.markSufi, h.count]

theorem rangeFailed (lo hi : Nat) : g (d.rangeFailed x c lo hi) = g d := by
  unfold Device.rangeFailed
  split
  · rfl
  · dsimp only
    split <;> split
    · rw [h.deactivate, h.markSufi, h.setTerm, h.count]
    · rw [h.wantRange, h.setTerm, h.count]
    · rw [h.markSufi, h.modWc, h.setTerm, h.count]
    · rw [h.wantRange, h.modWc, h.setTerm, h.count]

theorem correct (mean : Int) : g (d.correct x c mean) = g d := by
  unfold Device.correct
  split
  · rfl
  · dsimp only
    split
    · rw [h.raiseDefect, h.count]
    · split
      · rw [h.raiseDefect, h.rangingTime, h.clearDefect, h.count, h.modWc]
      · rw [h.rangingTime, h.clearDefect, h.count, h.modWc]

theorem driftSample (off : Int) (late : Bool) : g (d.driftSample x c off late) = g d := by
  unfold Device.driftSample
  split
  · rfl
  · dsimp only
    split
    · split
      exacts [h.modWc .., rfl]
    · split
      · exact h.correct ..
      · split
        exacts [(h.correct ..).trans (h.modWc ..), h.modWc ..]

theorem lobRecord (k : Nat) (kind : RecKind) (s : Slot) : g (d.lobRecord x c k kind s) = g d := by
  have reset (t : Term) (b : Bool) : g (if b then d.setTerm x t else d) = g d := by
    split
    exacts [h.setTerm .., rfl]
  unfold Device.lobRecord
  dsimp only
  split
  · rfl
  · split
    · exact (h.clearDefect ..).trans (reset ..)
    · exact (h.clearDefect ..).trans (reset ..)
    · split
      · split
        exacts [(h.count ..).trans ((h.raiseDefect ..).trans (h.setTerm ..)), h.setTerm ..]
      · rfl
    · exact reset ..

theorem rangeRecord (s : Slot) (i : Item) (kind : RecKind) (y : Option Delim) : g (d.rangeRecord c s i kind y) = g d := by
  unfold Device.rangeRecord
  dsimp only
  split
  · rfl
  · split
    · rfl
    · split
      · rfl
      · split
        · split
          exacts [h.measured .., h.rangeFailed ..]
        · split
          exacts [h.measured .., h.rangeFailed ..]
        · exact h.rangeFailed ..
  · split
    · rfl
    · split
      · rfl
      · have heard := h.lobRecord d i.term c s.frame kind s
        split
        · split
          exacts [(h.driftSample ..).trans heard, heard]
        · exact heard

end RangeBlind

/-! ### What a report leaves alone (R152, R153, R217) -/

/-- What a report may touch besides: its allocation, the violation log and its counters, `g` does not see. -/
structure ReportBlind {β : Type} (g : Device → β) : Prop extends RangeBlind g where
  refused : ∀ d, g (Device.count 0x1B5 0x860 1 d) = g d
  logged : ∀ d o n, o ∈ [0x818, 0x820] → g (Device.count 0x000 o n d) = g d
  produced : ∀ d v, g (Device.wr DEV.VLOG_PRODUCED v d) = g d
  bursts : ∀ (d : Device) b, g { d with bursts := b } = g d
  allocs : ∀ (d : Device) t, g { d with fret := { d.fret with allocs := t } } = g d

namespace ReportBlind

variable {β : Type} {g : Device → β} (h : ReportBlind g) (d : Device) (c : Nat)
include h

theorem logPon (code source answer : Nat) : g (d.logPon c code source answer) = g d := Device.logPon_keeps g h.logged h.produced h.bursts ..

theorem charge (x code : Nat) : g (d.charge c x code) = g d := by
  unfold Device.charge
  extract_lets k blk old n b e lim
  have charged : g e = g d := h.bursts d _
  split
  exacts [(h.logPon ..).trans ((h.disableTerm ..).trans charged), charged]

theorem applyReport (s : Slot) (i : Item) (r : Nat) : g (d.applyReport c s i r) = g d := by
  unfold Device.applyReport
  split
  · rfl
  · split
    · rfl
    · split
      · split
        · rw [h.charge, h.logPon, h.refused]
        · rfl
      · exact h.allocs d _

end ReportBlind

/-! ### The ring (R173, R175, R190) -/

variable {d : Device} {r : Rec}

theorem Device.ringWrite_of_left (h : r.kind = .received) (off : d.on GEN.RING_ALL = false) : d.ringWrite r = d := by
  simp [Device.ringWrite, h, off]

section Listed

variable (h : r.kind ≠ .received ∨ d.on GEN.RING_ALL = true)
include h

theorem Device.ringWrite_of_full (full : d.ringCount = 65536) : d.ringWrite r = d.count 0x1B5 0x868 1 := by
  unfold Device.ringWrite
  rw [if_neg (by rintro ⟨e, off⟩; exact h.elim (· e) off), if_pos full]

theorem Device.ringWrite_of_room (room : d.ringCount ≠ 65536) : d.ringWrite r =
    ({ d with fret := { d.fret with ring := Tbl.set d.fret.ring (d.rd GEN.RING_PRODUCED % 65536) r } } : Device).wr GEN.RING_PRODUCED
      (d.rd GEN.RING_PRODUCED + 1) := by
  unfold Device.ringWrite
  rw [if_neg (by rintro ⟨e, off⟩; exact h.elim (· e) off), if_neg room]

end Listed

/-- What the ring, its producer index and its overflow counter are not, a record's write leaves alone. -/
theorem Device.ringWrite_keeps {β : Type} (g : Device → β) (hc : ∀ d, g (Device.count 0x1B5 0x868 1 d) = g d)
    (hp : ∀ d v, g (Device.wr GEN.RING_PRODUCED v d) = g d) (hr : ∀ (d : Device) t, g { d with fret := { d.fret with ring := t } } = g d)
    (r : Rec) (d : Device) : g (d.ringWrite r) = g d := by
  unfold Device.ringWrite
  split
  · rfl
  · split
    exacts [hc d, (hp ..).trans (hr d _)]

/-! ### The record of an item (R168 to R174, R201) -/

/-- An item with what was decoded of its own grant, where its burst has not ended (R201). -/
def Device.heardItem (d : Device) (c : Nat) (g : GrantDecode) (j : Item) : Item :=
  if j.decoded then j else Item.withDecode (d.rdA (CH.LDPC_MAX_ITER c)) g j

/-- The report of an item whose record is of a kind that carries one. -/
def goodReport (kind : RecKind) (i : Item) : Option Nat := if (match kind with | .received => true | .damaged => true | _ => false) then i.report else none

/-- The record of item `i` of map `k` on channel `c`, of a kind, resting on delimiter `x`. -/
def Device.recordOf (d : Device) (c k : Nat) (m : Slot) (i : Item) (kind : RecKind) (x : Option Delim) : Rec :=
  ⟨i.handle, kind, false,
    match goodReport kind i, Tbl.get? d.fret.allocs i.alloc with
    | some r, some a => if r ≤ a.reportMax then some r else none
    | r, _ => r,
    c, k % 65536, x.map (fun y => nearest ((y.stamp : Int) * (wordsPerFrame m.rate : Int) - d.expectX c m i) (wordsPerFrame m.rate)), min 255 i.uncorrected⟩

/-- A map whose item `ix` has its record. -/
def Slot.posted (m : Slot) (ix : Nat) (i : Item) (kind : RecKind) : Slot :=
  { m with items := m.items.set ix { i with done := some kind },
           st := if (m.items.set ix { i with done := some kind }).all (fun j => j.done.isSome) then .closed else m.st }

/-- What a posted record does once the ring has taken it: a LATE grant's words are counted and a good report taken. -/
def Device.heedRecord (c : Nat) (m : Slot) (i : Item) (kind : RecKind) (d : Device) : Device :=
  let d := if kind = .late then d.count 0x1B5 0x870 i.words else d
  match goodReport kind i with
  | some r => d.applyReport c m i r
  | none => d

/-- The record of item `i` of map `k` on channel `c` is posted: counted by its kind, written to the ring and heeded; the item is closed, and the terminal's
ranging hears of it. -/
def Device.postRecord (c k ix : Nat) (i : Item) (d : Device) : Device :=
  let m := d.slot c k
  let kind := (d.judge c m i).1
  let x := (d.judge c m i).2
  ((((d.count 0x1B5 (recCounter kind) 1).ringWrite (d.recordOf c k m i kind x)).heedRecord c m i kind).setSlot c k (Slot.posted m ix i kind)).rangeRecord c
    (Slot.posted m ix i kind) i kind x

variable {t c k ix : Nat} {g : GrantDecode} {j : Item}

theorem grantRecordPost_of_no_item (t : Nat) (g : GrantDecode) (none : (d.slot c k).items[ix]? = none) : grantRecordPost t c k ix g d = d := by
  unfold grantRecordPost
  simp only [none]

theorem Device.heardItem_done : (d.heardItem c g j).done = j.done := by
  unfold Device.heardItem
  split <;> rfl

section Item

variable (found : (d.slot c k).items[ix]? = some j)
include found

theorem grantRecordPost_of_undue (t : Nat) (g : GrantDecode)
    (undue : (d.slot c k).st ≠ .inFlight ∨ (d.slot c k).frame ≠ k ∨ j.done.isSome = true ∨ d.rd MRU.ROLE = 2 ∨
      (t : Int) * wordsPerFrame (d.slot c k).rate < d.settleX c (d.slot c k) (d.heardItem c g j)) : grantRecordPost t c k ix g d = d := by
  unfold grantRecordPost
  simp only [found]
  exact if_pos (by rw [← Device.heardItem_done (d := d) (c := c) (g := g)] at undue; exact undue)

theorem grantRecordPost_of_due (flying : (d.slot c k).st = .inFlight) (frame : (d.slot c k).frame = k) (open_ : j.done = none) (active : d.rd MRU.ROLE ≠ 2)
    (settled : d.settleX c (d.slot c k) (d.heardItem c g j) ≤ (t : Int) * wordsPerFrame (d.slot c k).rate) :
    grantRecordPost t c k ix g d = d.postRecord c k ix (d.heardItem c g j) := by
  unfold grantRecordPost
  simp only [found]
  refine if_neg ?_
  have undone : ¬ (d.heardItem c g j).done.isSome = true := by simp [Device.heardItem_done, open_]
  rintro (h | h | h | h | h)
  exacts [h flying, h frame, undone h, active h, absurd h (not_lt.2 settled)]

end Item

section Posted

variable {β : Type} {v : Device → β} (i : Item) (a : Device)

/-- Beside what a report may touch, heeding a record counts a LATE grant's words. -/
theorem ReportBlind.heedRecord (h : ReportBlind v) (m : Slot) (kind : RecKind) (d : Device) :
    v (d.heedRecord c m i kind) = v (if kind = .late then d.count 0x1B5 0x870 i.words else d) := by
  unfold Device.heedRecord
  dsimp only
  split
  exacts [h.applyReport .., rfl]

/-- The device once the ring has taken a posted record. -/
def Device.ringed (c k : Nat) (i : Item) (d : Device) : Device :=
  (d.count 0x1B5 (recCounter (d.judge c (d.slot c k) i).1) 1).ringWrite (d.recordOf c k (d.slot c k) i (d.judge c (d.slot c k) i).1 (d.judge c (d.slot c k) i).2)

/-- Past the ring, a posted record touches the map, the report's allocation, the terminals and their logs, and the count of LATE words. -/
theorem ReportBlind.postRecord (h : ReportBlind v) (slot : ∀ d s, v (Device.setSlot c k s d) = v d) :
    v (a.postRecord c k ix i) = v (if (a.judge c (a.slot c k) i).1 = .late then (a.ringed c k i).count 0x1B5 0x870 i.words else a.ringed c k i) :=
  (h.rangeRecord ..).trans ((slot ..).trans (h.heedRecord i ..))

theorem ReportBlind.postRecord_past_ring (h : ReportBlind v) (late : ∀ d n, v (Device.count 0x1B5 0x870 n d) = v d)
    (slot : ∀ d s, v (Device.setSlot c k s d) = v d) : v (a.postRecord c k ix i) = v (a.ringed c k i) := by
  refine (h.postRecord i a slot).trans ?_
  split
  exacts [late .., rfl]

/-- What the ring is not part of either, a posted record leaves as the count of its kind does. -/
theorem ReportBlind.postRecord_past_count (h : ReportBlind v) (late : ∀ d n, v (Device.count 0x1B5 0x870 n d) = v d)
    (slot : ∀ d s, v (Device.setSlot c k s d) = v d) (full : ∀ d, v (Device.count 0x1B5 0x868 1 d) = v d)
    (produced : ∀ d n, v (Device.wr GEN.RING_PRODUCED n d) = v d) (ring : ∀ (d : Device) t, v { d with fret := { d.fret with ring := t } } = v d) :
    v (a.postRecord c k ix i) = v (a.count 0x1B5 (recCounter (a.judge c (a.slot c k) i).1) 1) :=
  (h.postRecord_past_ring i a late slot).trans (Device.ringWrite_keeps v full produced ring _ _)

theorem rangeBlind_slot (w n : Nat) : RangeBlind (fun d : Device => d.slot w n) := ⟨fun _ _ _ => rfl, fun _ _ _ => rfl, fun _ _ => rfl⟩

theorem reportBlind_slot (w n : Nat) : ReportBlind (fun d : Device => d.slot w n) :=
  { rangeBlind_slot w n with refused := fun _ => rfl, logged := fun _ _ _ _ => rfl, produced := fun _ _ => rfl, bursts := fun _ _ => rfl, allocs := fun _ _ => rfl }

theorem reportBlind_ring : ReportBlind (fun d : Device => d.fret.ring) :=
  ⟨⟨fun _ _ _ => rfl, fun _ _ _ => rfl, fun _ _ => rfl⟩, fun _ => rfl, fun _ _ _ _ => rfl, fun _ _ => rfl, fun _ _ => rfl, fun _ _ => rfl⟩

theorem reportBlind_produced : ReportBlind (fun d : Device => d.rd GEN.RING_PRODUCED) :=
  ⟨⟨fun _ _ _ => rfl, fun _ _ _ => rfl, fun _ _ => rfl⟩, fun _ => rfl, fun _ _ _ _ => rfl, fun d v => d.rd_wr_ne v (by decide), fun _ _ => rfl, fun _ _ => rfl⟩

theorem reportBlind_elsewhere : ReportBlind (fun d : Device => (d.cells, d.svc, d.pkt, d.hif, d.net)) :=
  ⟨⟨fun _ _ _ => rfl, fun _ _ _ => rfl, fun _ _ => rfl⟩, fun _ => rfl, fun _ _ _ _ => rfl, fun _ _ => rfl, fun _ _ => rfl, fun _ _ => rfl⟩

/-- A counter of GEN other than that of refused reports. -/
theorem reportBlind_ctr {o : Nat} (small : o < 0x1000) (h : o ≠ 0x860) : ReportBlind (fun d : Device => d.ctr 0x1B5 o) :=
  ⟨⟨fun d r n => d.ctr_count_ne n (by unfold ctrKey; omega), fun _ _ _ => rfl, fun _ _ => rfl⟩, fun d => d.ctr_count_ne 1 (by unfold ctrKey; omega),
    fun d r n hr => d.ctr_count_ne n (by simp only [List.mem_cons, List.not_mem_nil, or_false] at hr; unfold ctrKey; omega),
    fun _ _ => rfl, fun _ _ => rfl, fun _ _ => rfl⟩

theorem genCtr_ne {o r : Nat} (h : r ≠ o) : ctrKey 0x1B5 o ≠ ctrKey 0x1B5 r := by
  unfold ctrKey
  omega

theorem recCounter_bounds (kind : RecKind) : recCounter kind < 0x860 := by
  cases kind <;> decide

theorem postRecord_counts : Counts 0x1B5 (recCounter (a.judge c (a.slot c k) i).1) 1 a (a.postRecord c k ix i) := by
  have low := recCounter_bounds (a.judge c (a.slot c k) i).1
  refine ((reportBlind_ctr (by omega) (by omega)).postRecord_past_count i a (fun d n => d.ctr_count_ne n (genCtr_ne (by omega))) (fun _ _ => rfl)
    (fun d => d.ctr_count_ne 1 (genCtr_ne (by omega))) (fun _ _ => rfl) (fun _ _ => rfl)).trans (a.ctr_count_same ..)

theorem postRecord_counts_late (late : (a.judge c (a.slot c k) i).1 = .late) : let b := a.postRecord c k ix i
    Counts 0x1B5 0x830 1 a b ∧ Counts 0x1B5 0x870 i.words a b := by
  have kind := postRecord_counts (c := c) (k := k) (ix := ix) i a
  rw [late] at kind
  refine ⟨kind, ((reportBlind_ctr (o := 0x870) (by decide) (by decide)).postRecord i a (fun _ _ => rfl)).trans ?_⟩
  have before : (a.ringed c k i).ctr 0x1B5 0x870 = a.ctr 0x1B5 0x870 :=
    (Device.ringWrite_keeps (fun d => d.ctr 0x1B5 0x870) (fun d => d.ctr_count_ne 1 (by decide)) (fun _ _ => rfl) (fun _ _ => rfl) _ _).trans
      (a.ctr_count_ne 1 (by rw [late]; decide))
  rw [if_pos late, Device.ctr_count_same, before]

theorem postRecord_slot : (a.postRecord c k ix i).slot c k = Slot.posted (a.slot c k) ix i (a.judge c (a.slot c k) i).1 :=
  ((rangeBlind_slot c k).rangeRecord ..).trans (Device.slot_setSlot_same ..)

theorem slot_setSlot_ne {w n : Nat} (s : Slot) (d : Device) (h : slotKey w n ≠ slotKey c k) : (d.setSlot c k s).slot w n = d.slot w n :=
  Tbl.getD_put_ne _ _ _ _ h

theorem postRecord_slot_ne {w n : Nat} (h : slotKey w n ≠ slotKey c k) : (a.postRecord c k ix i).slot w n = a.slot w n :=
  (reportBlind_slot w n).postRecord_past_count i a (fun _ _ => rfl) (fun d s => slot_setSlot_ne s d h) (fun _ => rfl) (fun _ _ => rfl) (fun _ _ => rfl)

theorem postRecord_elsewhere : let b := a.postRecord c k ix i
    b.cells = a.cells ∧ b.svc = a.svc ∧ b.pkt = a.pkt ∧ b.hif = a.hif ∧ b.net = a.net := by
  have same := (reportBlind_elsewhere).postRecord_past_count (c := c) (k := k) (ix := ix) i a (fun _ _ => rfl) (fun _ _ => rfl) (fun _ => rfl) (fun _ _ => rfl)
    (fun _ _ => rfl)
  simpa using same

theorem postRecord_ring : (a.postRecord c k ix i).fret.ring = (a.ringed c k i).fret.ring ∧
    (a.postRecord c k ix i).rd GEN.RING_PRODUCED = (a.ringed c k i).rd GEN.RING_PRODUCED :=
  ⟨reportBlind_ring.postRecord_past_ring i a (fun _ _ => rfl) (fun _ _ => rfl), reportBlind_produced.postRecord_past_ring i a (fun _ _ => rfl) (fun _ _ => rfl)⟩

theorem postRecord_left (h : (a.judge c (a.slot c k) i).1 = .received) (off : a.on GEN.RING_ALL = false) : let b := a.postRecord c k ix i
    b.fret.ring = a.fret.ring ∧ b.rd GEN.RING_PRODUCED = a.rd GEN.RING_PRODUCED := by
  have left : a.ringed c k i = a.count 0x1B5 (recCounter (a.judge c (a.slot c k) i).1) 1 := Device.ringWrite_of_left h off
  have ring := postRecord_ring (c := c) (k := k) (ix := ix) i a
  rw [left] at ring
  exact ring

section Listed

variable (h : (a.judge c (a.slot c k) i).1 ≠ .received ∨ a.on GEN.RING_ALL = true)
include h

theorem postRecord_full (full : a.ringCount = 65536) : let b := a.postRecord c k ix i
    Counts 0x1B5 0x868 1 a b ∧ b.fret.ring = a.fret.ring := by
  have counted : a.ringed c k i = (a.count 0x1B5 (recCounter (a.judge c (a.slot c k) i).1) 1).count 0x1B5 0x868 1 := Device.ringWrite_of_full h full
  refine ⟨?_, (postRecord_ring i a).1.trans (by rw [counted]; rfl)⟩
  have low := recCounter_bounds (a.judge c (a.slot c k) i).1
  refine ((reportBlind_ctr (o := 0x868) (by decide) (by decide)).postRecord_past_ring i a (fun d n => d.ctr_count_ne n (by decide)) (fun _ _ => rfl)).trans ?_
  rw [counted, Device.ctr_count_same, Device.ctr_count_ne _ _ (genCtr_ne (by omega))]

theorem postRecord_listed (room : a.ringCount ≠ 65536) : let b := a.postRecord c k ix i
    b.rd GEN.RING_PRODUCED = (a.rd GEN.RING_PRODUCED + 1) % 131072 ∧
    (∀ n, n ≠ a.rd GEN.RING_PRODUCED % 65536 → Tbl.get? b.fret.ring n = Tbl.get? a.fret.ring n) ∧
    Tbl.get? b.fret.ring (a.rd GEN.RING_PRODUCED % 65536) =
      some (a.recordOf c k (a.slot c k) i (a.judge c (a.slot c k) i).1 (a.judge c (a.slot c k) i).2) := by
  obtain ⟨ring, produced⟩ := postRecord_ring (c := c) (k := k) (ix := ix) i a
  have written : a.ringed c k i = _ := Device.ringWrite_of_room h room
  rw [written] at ring produced
  dsimp only
  rw [ring]
  exact ⟨produced.trans (Device.rd_wr_same ..), fun n hn => Tbl.get?_set_ne _ _ hn, Tbl.get?_set_same ..⟩

end Listed

end Posted

theorem goodReport_of_bad {kind : RecKind} (i : Item) (h : kind ≠ .received ∧ kind ≠ .damaged) : goodReport kind i = none := by
  cases kind <;> simp_all [goodReport]

theorem recordOf_report_of_bad {kind : RecKind} (m : Slot) (i : Item) (x : Option Delim) (h : kind ≠ .received ∧ kind ≠ .damaged) :
    (d.recordOf c k m i kind x).report = none := by
  unfold Device.recordOf
  simp only [goodReport_of_bad i h]

end Sys2Proof.Machine

namespace Sys2Proof.Safety

open Sys2Proof.Machine

/-- Settles O23: without its item, or before its time, a record changes nothing; a due one is posted. -/
theorem recordsPost : Obligations.RecordsPost := by
  unfold Obligations.RecordsPost
  intro t c k ix g s hr
  refine Makes.intro hr (exec_grantRecordPost ..) ?_
  generalize s.dev.arrive t = a
  refine ⟨fun none => grantRecordPost_of_no_item _ _ none, fun j found => ⟨grantRecordPost_of_undue found _ _, fun flying frame open_ active settled => ?_, ?_⟩⟩
  · rw [grantRecordPost_of_due found flying frame open_ active settled]
    refine ⟨fun _ => postRecord_counts .., postRecord_counts_late _ a, ?_, postRecord_left _ a,
      fun listed => ⟨postRecord_full _ a listed, fun room => ?_⟩⟩
    · refine (postRecord_slot ..).trans ?_
      unfold Slot.posted
      rw [flying]
      rfl
    · obtain ⟨produced, others, record⟩ := postRecord_listed (ix := ix) _ a listed room
      exact ⟨produced, others, _, record, rfl, rfl, rfl, rfl, rfl, rfl, Option.map_eq_none_iff, fun bad => recordOf_report_of_bad _ _ _ bad⟩
  · by_cases due : (a.slot c.val k).st = .inFlight ∧ (a.slot c.val k).frame = k ∧ j.done = none ∧ a.rd MRU.ROLE ≠ 2 ∧
      a.settleX c.val (a.slot c.val k) (a.heardItem c.val g j) ≤ (a.now : Int) * wordsPerFrame (a.slot c.val k).rate
    · obtain ⟨flying, frame, open_, active, settled⟩ := due
      rw [grantRecordPost_of_due found flying frame open_ active settled]
      exact ⟨fun w n apart => postRecord_slot_ne _ a apart, postRecord_elsewhere ..⟩
    · rw [grantRecordPost_of_undue found]
      · exact ⟨fun _ _ _ => rfl, rfl, rfl, rfl, rfl, rfl⟩
      · rw [← not_le, Option.isSome_iff_ne_none]
        tauto

end Sys2Proof.Safety
end

section
/-!
PROOFS. Reclaim and seal (R140 to R144): what is counted as a slot is reclaimed, and what a reclaim and a seal leave unseen.
-/

namespace Sys2Proof.Machine

open Sys2Proof.Safety

/-! ### Reclaim (R143, R144) -/

/-- What the forced records of a reclaimed map may touch, `g` does not see. -/
structure ForceBlind {β : Type} (g : Device → β) : Prop extends RangeBlind g where
  forced : ∀ d o, o ∈ [0x828, 0x848, 0x868] → g (Device.count 0x1B5 o 1 d) = g d
  produced : ∀ d v, g (Device.wr GEN.RING_PRODUCED v d) = g d
  ring : ∀ (d : Device) t, g { d with fret := { d.fret with ring := t } } = g d

/-- The slot and the device once item `n` of the slot was looked at: where it has no record, it gets one by force. -/
def Device.forceStep (c : Nat) (acc : Slot × Device) (n : Nat) : Slot × Device :=
  match acc.1.items[n]? with
  | none => acc
  | some i =>
    if i.done.isSome then acc
    else
      let s := { acc.1 with items := acc.1.items.set n { i with done := some .noShow } }
      (s, (((acc.2.count 0x1B5 0x828 1).count 0x1B5 0x848 1).ringWrite ⟨i.handle, .noShow, true, none, c, s.frame % 65536, none, 0⟩).rangeRecord c s i .noShow
        none)

variable {c f k n o t : Nat} {d : Device} {s : Slot} {acc : Slot × Device}

theorem Device.forceClose_eq : d.forceClose c s = ((List.range s.items.length).foldl (Device.forceStep c) (s, d)).2 := rfl

/-- An item without a record is closed and counted; any other is left. -/
theorem Device.forceStep_cases (c n : Nat) (acc : Slot × Device) :
    (Device.forceStep c acc n = acc ∧ ∀ i, acc.1.items[n]? = some i → i.done.isSome = true) ∨
    ∃ i s r, acc.1.items[n]? = some i ∧ i.done = none ∧ s.items = acc.1.items.set n { i with done := some .noShow } ∧
      Device.forceStep c acc n = (s, (((acc.2.count 0x1B5 0x828 1).count 0x1B5 0x848 1).ringWrite r).rangeRecord c s i .noShow none) := by
  unfold Device.forceStep
  cases found : acc.1.items[n]? with
  | none => exact .inl ⟨rfl, fun i h => nomatch h⟩
  | some i =>
    cases done : i.done with
    | some r => exact .inl ⟨by simp [done], fun j h => by simp [← Option.some.inj h, done]⟩
    | none => exact .inr ⟨i, { acc.1 with items := acc.1.items.set n { i with done := some .noShow } }, _, rfl, done, rfl, if_neg (by simp [done])⟩

theorem ForceBlind.forceStep {β : Type} {g : Device → β} (h : ForceBlind g) (c n : Nat) (acc : Slot × Device) : g (Device.forceStep c acc n).2 = g acc.2 := by
  rcases Device.forceStep_cases c n acc with ⟨same, -⟩ | ⟨i, s, r, -, -, -, step⟩
  · rw [same]
  · rw [step, h.rangeRecord, Device.ringWrite_keeps g (fun _ => h.forced _ _ (by simp)) h.produced h.ring, h.forced _ _ (by simp), h.forced _ _ (by simp)]

theorem ForceBlind.forceClose {β : Type} {g : Device → β} (h : ForceBlind g) (c : Nat) (s : Slot) (d : Device) : g (d.forceClose c s) = g d := by
  rw [Device.forceClose_eq]
  generalize List.range s.items.length = l
  induction l generalizing s d with
  | nil => rfl
  | cons n r ih => exact (ih _ _).trans (h.forceStep c n (s, d))

/-- How many of the first `n` items of a slot have no record. -/
def Slot.openBelow (s : Slot) (n : Nat) : Nat := ((s.items.take n).filter (fun i => decide (i.done = none))).length

theorem openBelow_succ (s : Slot) (n : Nat) :
    Slot.openBelow s (n + 1) = Slot.openBelow s n + (s.items[n]?.toList.filter (fun i => decide (i.done = none))).length := by
  unfold Slot.openBelow
  rw [List.take_add_one, List.filter_append, List.length_append]

/-- A forced record counts once among the records of no-shows, and once among the forced ones. -/
theorem forced_ctr (ho : o ∈ [0x828, 0x848]) (r : Rec) (i : Item) (d : Device) :
    ((((d.count 0x1B5 0x828 1).count 0x1B5 0x848 1).ringWrite r).rangeRecord c s i .noShow none).ctr 0x1B5 o = (d.ctr 0x1B5 o + 1) % 2 ^ 64 := by
  simp only [List.mem_cons, List.not_mem_nil, or_false] at ho
  have counts : ((d.count 0x1B5 0x828 1).count 0x1B5 0x848 1).ctr 0x1B5 o = (d.ctr 0x1B5 o + 1) % 2 ^ 64 := by
    rcases ho with rfl | rfl
    · rw [Device.ctr_count_ne _ _ (by decide), Device.ctr_count_same]
    · rw [Device.ctr_count_same, Device.ctr_count_ne _ _ (by decide)]
  refine ((reportBlind_ctr (by omega) (by omega)).rangeRecord ..).trans (Eq.trans ?_ counts)
  exact Device.ringWrite_keeps (fun d => d.ctr 0x1B5 o) (fun d => d.ctr_count_ne 1 (genCtr_ne (by omega))) (fun _ _ => rfl) (fun _ _ => rfl) _ _

/-- Once the first `n` items were looked at, the others stand as they were, and each counter has counted those without a record. -/
theorem forceSteps (c : Nat) (s : Slot) (d : Device) (n : Nat) : let e := (List.range n).foldl (Device.forceStep c) (s, d)
    (∀ m, n ≤ m → e.1.items[m]? = s.items[m]?) ∧
    ∀ o ∈ [0x828, 0x848], e.2.ctr 0x1B5 o % 2 ^ 64 = (d.ctr 0x1B5 o + Slot.openBelow s n) % 2 ^ 64 := by
  induction n with
  | zero => exact ⟨fun _ _ => rfl, fun _ _ => rfl⟩
  | succ n ih =>
    rw [List.range_succ, List.foldl_append]
    generalize (List.range n).foldl (Device.forceStep c) (s, d) = e at ih
    obtain ⟨later, counted⟩ := ih
    have here := later n le_rfl
    rw [List.foldl_cons, List.foldl_nil]
    rcases Device.forceStep_cases c n e with ⟨same, closed⟩ | ⟨i, z, r, found, open_, items, step⟩
    · rw [same, openBelow_succ, ← here]
      refine ⟨fun m hm => later m (by omega), fun o ho => ?_⟩
      cases found : e.1.items[n]? with
      | none => simpa using counted o ho
      | some i =>
        have done : i.done ≠ none := Option.isSome_iff_ne_none.1 (closed i found)
        simpa [done] using counted o ho
    · rw [step, openBelow_succ, ← here, found]
      refine ⟨fun m hm => ?_, fun o ho => ?_⟩
      · rw [items, List.getElem?_set_ne (by omega)]
        exact later m (by omega)
      · have before := counted o ho
        simp only [forced_ctr ho, open_, Option.toList_some, List.filter_cons, decide_true, if_true, List.filter_nil, List.length_cons, List.length_nil]
        omega

theorem forceClose_ctr (c : Nat) (s : Slot) (d : Device) (ho : o ∈ [0x828, 0x848]) :
    (d.forceClose c s).ctr 0x1B5 o % 2 ^ 64 = (d.ctr 0x1B5 o + (Slot.open_ s).length) % 2 ^ 64 := by
  have counted := (forceSteps c s d s.items.length).2 o ho
  unfold Slot.openBelow at counted
  rwa [List.take_length] at counted

/-- The items that a reclaim closes by force. -/
def Device.forcedOpen (d : Device) (s : Slot) : Nat := if s.st = .inFlight ∧ d.rd MRU.ROLE ≠ 2 then (Slot.open_ s).length else 0

theorem reclaim_ctr (c f : Nat) (d : Device) (ho : o ∈ [0x828, 0x848]) :
    (d.reclaim c f).ctr 0x1B5 o % 2 ^ 64 = (d.ctr 0x1B5 o + d.forcedOpen (d.slot c (f + 1))) % 2 ^ 64 := by
  unfold Device.reclaim Device.forcedOpen
  dsimp only
  rw [Device.setSlot_ctr]
  split
  exacts [forceClose_ctr c _ d ho, rfl]

theorem ForceBlind.reclaim {β : Type} {g : Device → β} (h : ForceBlind g) (c f : Nat) (d : Device) (slot : ∀ d s, g (Device.setSlot c (f + 1) s d) = g d) :
    g (d.reclaim c f) = g d := by
  unfold Device.reclaim
  dsimp only
  rw [slot]
  split
  exacts [h.forceClose .., rfl]

theorem reclaim_slot (c f : Nat) (d : Device) : (d.reclaim c f).slot c (f + 1) = { frame := f + 1 } := Device.slot_setSlot_same ..

theorem forceBlind_slot (w n : Nat) : ForceBlind (fun d : Device => d.slot w n) :=
  { rangeBlind_slot w n with forced := fun _ _ _ => rfl, produced := fun _ _ => rfl, ring := fun _ _ => rfl }

theorem reclaim_slot_ne {w n : Nat} (h : slotKey w n ≠ slotKey c (f + 1)) : (d.reclaim c f).slot w n = d.slot w n :=
  (forceBlind_slot w n).reclaim c f d (fun d s => slot_setSlot_ne s d h)

theorem forceBlind_elsewhere : ForceBlind (fun d : Device => (d.cells, d.svc, d.pkt, d.hif, d.net)) :=
  ⟨⟨fun _ _ _ => rfl, fun _ _ _ => rfl, fun _ _ => rfl⟩, fun _ _ _ => rfl, fun _ _ => rfl, fun _ _ => rfl⟩

theorem forceBlind_rd {x : Fld} (h : fkey x ≠ fkey GEN.RING_PRODUCED) : ForceBlind (fun d : Device => d.rd x) :=
  ⟨⟨fun _ _ _ => rfl, fun _ _ _ => rfl, fun _ _ => rfl⟩, fun _ _ _ => rfl, fun d v => d.rd_wr_ne v h, fun _ _ => rfl⟩

theorem forceBlind_plans : ForceBlind (fun d : Device => (d.fret.plans, d.fret.ledger, d.fret.allocs, d.core, d.mru)) :=
  ⟨⟨fun _ _ _ => rfl, fun _ _ _ => rfl, fun _ _ => rfl⟩, fun _ _ _ => rfl, fun _ _ => rfl, fun _ _ => rfl⟩

/-- The reclaim of a slot leaves alone what the seal looks at. -/
structure SealSame (a d : Device) : Prop where
  plans : d.fret.plans = a.fret.plans
  ledger : d.fret.ledger = a.fret.ledger
  allocs : d.fret.allocs = a.fret.allocs
  now : d.now = a.now
  mru : d.mru = a.mru
  offset : ∀ t, d.rd (TPE.OFFSET_NS t) = a.rd (TPE.OFFSET_NS t)
  capo : d.capo = a.capo
  fenced : d.fenced = a.fenced

theorem sealSame_reclaim (c f : Nat) (a : Device) : SealSame a (a.reclaim c f) := by
  have parts := forceBlind_plans.reclaim c f a (fun _ _ => rfl)
  simp only [Prod.mk.injEq] at parts
  obtain ⟨plans, ledger, allocs, core, mru⟩ := parts
  have rd {x : Fld} (h : fkey x ≠ fkey GEN.RING_PRODUCED) : (a.reclaim c f).rd x = a.rd x := (forceBlind_rd h).reclaim c f a (fun _ _ => rfl)
  refine ⟨plans, ledger, allocs, congrArg Core.time core, mru, fun t => rd ?_, ?_, ?_⟩
  · simp only [fkey, TPE.OFFSET_NS, GEN.RING_PRODUCED]
    omega
  · simp only [Device.capo, Device.on, rd (x := MRU.CAPO) (by decide)]
  · simp only [Device.fenced, Device.on, rd (x := MRU.ROLE) (by decide), rd (x := PTM.TRIPPED) (by decide)]

end Sys2Proof.Machine
end

section
/-!
PROOFS. What the work ledger admits of a plan and is charged (R164 to R166), what the allocations give (R148, R152), and the statement
`Obligations.MapsSeal`.
-/

namespace Sys2Proof.Machine

open Sys2Proof.Safety

variable {c f k o t u j x : Nat} {d e : Device} {p : Plan} {i : Item}

/-! ### Admission (R164 to R166) -/

theorem mem_insertBy {α : Type} (key : α → Nat) (a b : α) (l : List α) : a ∈ insertBy key b l ↔ a = b ∨ a ∈ l := by
  induction l with
  | nil => simp [insertBy]
  | cons c r ih =>
    unfold insertBy
    split
    · exact List.mem_cons
    · rw [List.mem_cons, List.mem_cons, ih]
      tauto

/-- Sorting neither loses nor makes an element. -/
theorem mem_sortBy {α : Type} (key : α → Nat) (a : α) (l : List α) : a ∈ sortBy key l ↔ a ∈ l := by
  suffices h : ∀ done : List α, a ∈ l.foldl (fun r b => insertBy key b r) done ↔ a ∈ done ∨ a ∈ l from (h []).trans (by simp)
  induction l with
  | nil => simp
  | cons b r ih =>
    intro done
    rw [List.foldl_cons, ih, mem_insertBy, List.mem_cons]
    tauto

/-- `g` is item `i` with at most its words, placed elsewhere in its burst. -/
def Item.Lessened (i g : Item) : Prop :=
  g.kind = i.kind ∧ g.handle = i.handle ∧ g.alloc = i.alloc ∧ g.term = i.term ∧ g.cls = i.cls ∧ g.start = i.start ∧ g.words ≤ i.words

/-- Every item of `gs` is one of `is` lessened. -/
def Lessens (is gs : List Item) : Prop := ∀ g ∈ gs, ∃ i ∈ is, Item.Lessened i g

theorem Item.Lessened.refl (i : Item) : Item.Lessened i i := ⟨rfl, rfl, rfl, rfl, rfl, rfl, le_rfl⟩

theorem Item.Lessened.trans {i y z : Item} (l : Item.Lessened i y) (l' : Item.Lessened y z) : Item.Lessened i z := by
  obtain ⟨k1, h1, a1, t1, c1, s1, w1⟩ := l
  obtain ⟨k2, h2, a2, t2, c2, s2, w2⟩ := l'
  exact ⟨k2.trans k1, h2.trans h1, a2.trans a1, t2.trans t1, c2.trans c1, s2.trans s1, w2.trans w1⟩

theorem Lessens.refl (is : List Item) : Lessens is is := fun g hg => ⟨g, hg, .refl g⟩

theorem Lessens.trans {is gs hs : List Item} (l : Lessens is gs) (l' : Lessens gs hs) : Lessens is hs := fun h hh =>
  have ⟨g, hg, gh⟩ := l' h hh
  have ⟨i, hi, ig⟩ := l g hg
  ⟨i, hi, ig.trans gh⟩

theorem lessens_filter (is : List Item) (q : Item → Bool) : Lessens is (is.filter q) := fun i hi => ⟨i, (List.mem_filter.1 hi).1, .refl i⟩

theorem lessens_map {q : Item → Item} (h : ∀ i, Item.Lessened i (q i)) (is : List Item) : Lessens is (is.map q) := fun _ hg =>
  have ⟨i, hi, e⟩ := List.mem_map.1 hg
  ⟨i, hi, e ▸ h i⟩

/-- An item behind the one placed before it: the items placed, the StartTime and the end of the last. -/
def repackStep (acc : List Item × Nat × Nat) (i : Item) : List Item × Nat × Nat :=
  let o := if i.start = acc.2.1 then acc.2.2 else i.start
  (acc.1 ++ [{ i with own := o, line := lineLen i.words }], i.start, o + lineLen i.words)

theorem repack_eq (is : List Item) : repack is = (is.foldl repackStep ([], 2 ^ 32, 0)).1 := rfl

theorem lessens_repack (is : List Item) : Lessens is (repack is) := by
  suffices h : ∀ acc : List Item × Nat × Nat, ∀ g ∈ (is.foldl repackStep acc).1, g ∈ acc.1 ∨ ∃ i ∈ is, Item.Lessened i g by
    intro g hg
    exact (h _ g hg).resolve_left List.not_mem_nil
  induction is with
  | nil => exact fun _ _ => .inl
  | cons i r ih =>
    intro acc g hg
    rcases ih _ g hg with old | ⟨y, hy, less⟩
    · rcases List.mem_append.1 old with old | new
      · exact .inl old
      · obtain rfl := List.mem_singleton.1 new
        exact .inr ⟨i, List.mem_cons_self .., rfl, rfl, rfl, rfl, rfl, rfl, le_rfl⟩
    · exact .inr ⟨y, List.mem_cons_of_mem _ hy, less⟩

/-- The items after class `k` was admitted, and how many were reduced or omitted. -/
def Device.admitClass (d : Device) (p : Plan) (u : Nat) (acc : List Item × Nat) (k : Nat) : List Item × Nat :=
  let (is, n) := acc
  if d.fits p u k 1 1 is then (is, n)
  else
    let (q, m) := d.factor p u k is
    let is' := is.map (fun i => if i.cls = k then { i with words := i.words * q / m } else i)
    let hit := (is.filter (fun i => i.cls = k)).length
    (repack (is'.filter (fun i => i.cls ≠ k || 16 ≤ i.words)), n + hit)

/-- A plan's grants in the order of their places. -/
def Plan.grants (p : Plan) : List Item := sortBy (fun i => i.own) (p.items.filter (fun i => i.kind = .grant))

theorem Device.admitWork_eq (d : Device) (p : Plan) (u : Nat) : d.admitWork p u = (List.range 4).foldl (d.admitClass p u) (Plan.grants p, 0) := rfl

theorem lessens_admitClass (d : Device) (p : Plan) (u k : Nat) (acc : List Item × Nat) : Lessens acc.1 (d.admitClass p u acc k).1 := by
  obtain ⟨is, n⟩ := acc
  have lower := d.factor_le p u k is
  unfold Device.admitClass
  dsimp only
  split
  · exact .refl _
  · generalize d.factor p u k is = r at lower
    refine ((lessens_map (fun i => ?_) is).trans (lessens_filter _ _)).trans (lessens_repack _)
    split
    · exact ⟨rfl, rfl, rfl, rfl, rfl, rfl, Nat.div_le_of_le_mul (by rw [Nat.mul_comm]; exact Nat.mul_le_mul_right _ lower)⟩
    · exact .refl i

theorem lessens_admitWork (d : Device) (p : Plan) (u : Nat) : Lessens (Plan.grants p) (d.admitWork p u).1 := by
  rw [Device.admitWork_eq]
  suffices h : ∀ (l : List Nat) (acc : List Item × Nat), Lessens acc.1 (l.foldl (d.admitClass p u) acc).1 from h _ _
  intro l
  induction l with
  | nil => exact fun acc => .refl acc.1
  | cons k r ih => exact fun acc => (lessens_admitClass d p u k acc).trans (ih _)

/-- Where every class fits its quota, all is admitted as planned. -/
theorem admitWork_of_fits (h : ∀ k, k < 4 → d.fits p u k 1 1 (Plan.grants p) = true) : d.admitWork p u = (Plan.grants p, 0) := by
  rw [Device.admitWork_eq]
  suffices all : ∀ l : List Nat, (∀ k ∈ l, d.fits p u k 1 1 (Plan.grants p) = true) → l.foldl (d.admitClass p u) (Plan.grants p, 0) = (Plan.grants p, 0) from
    all _ fun k hk => h k (List.mem_range.1 hk)
  intro l fits
  induction l with
  | nil => rfl
  | cons k r ih =>
    have stays : d.admitClass p u (Plan.grants p, 0) k = (Plan.grants p, 0) := if_pos (fits k (List.mem_cons_self ..))
    rw [List.foldl_cons, stays]
    exact ih fun y hy => fits y (List.mem_cons_of_mem _ hy)

section Ledger

variable (same : d.fret.ledger = e.fret.ledger)
include same

/-- What fits a quota rests on the ledger alone. -/
theorem fits_of_ledger (p : Plan) (u k q m : Nat) (is : List Item) : d.fits p u k q m is = e.fits p u k q m is := by
  unfold Device.fits Device.quotaLeft Device.led
  rw [same]

end Ledger

theorem grants_kind (h : i ∈ Plan.grants p) : i.kind = .grant := by
  simpa using (List.mem_filter.1 ((mem_sortBy ..).1 h)).2

/-- Setting PLOAM flags changes nothing else. -/
theorem ploamFlags_eq_map (d : Device) (is : List Item) : ∃ q : Item → Bool, d.ploamFlags is = is.map (fun i => { i with ploam := q i }) := by
  refine ⟨fun i => if i.kind = .grant ∧ d.rng.ploamAsk.contains i.term ∧ ploamAlloc is i.term = some i.alloc then true else i.ploam, ?_⟩
  unfold Device.ploamFlags
  refine List.map_congr_left fun i _ => ?_
  dsimp only
  split <;> rfl

/-! ### Charging the ledger (R164) -/

theorem led_commitWork (j k n y : Nat) (d : Device) : (d.commitWork j k n).led y =
    if y = j then { d.led j with committed := (d.led j).committed.set k ((d.led j).committed.getD k 0 + n) } else d.led y := by
  split
  · next e => exact e ▸ Tbl.getD_set_same ..
  · next e => exact Tbl.getD_set_ne _ _ _ e

/-- What class `k` has committed of frame `j`. -/
def Device.committed (d : Device) (j k : Nat) : Nat := (d.led j).committed.getD k 0

theorem commitWork_length (y l n j : Nat) (d : Device) : ((d.commitWork y l n).led j).committed.length = (d.led j).committed.length := by
  rw [led_commitWork]
  split
  · next e => rw [List.length_set, e]
  · rfl

theorem committed_commitWork (y l n : Nat) (d : Device) (four : (d.led j).committed.length = 4) (hk : k < 4) :
    (d.commitWork y l n).committed j k = d.committed j k + if y = j ∧ l = k then n else 0 := by
  unfold Device.committed
  rw [led_commitWork]
  by_cases frame : j = y
  · subst frame
    by_cases cls : l = k
    · subst cls
      simp [List.getD_eq_getElem?_getD, List.getElem?_set_self (four ▸ hk)]
    · simp [cls, List.getD_eq_getElem?_getD, List.getElem?_set_ne cls]
  · rw [if_neg frame, if_neg (fun h => frame h.1.symm), Nat.add_zero]

/-- An item's work goes once to each frame of a list without repeats. -/
theorem committed_forEach (l n : Nat) {ys : List Nat} (once : ys.Nodup) (d : Device) (four : (d.led j).committed.length = 4) (hk : k < 4) :
    ((forEach ys (fun y d => d.commitWork y l n) d).led j).committed.length = 4 ∧
    (forEach ys (fun y d => d.commitWork y l n) d).committed j k = d.committed j k + if l = k ∧ j ∈ ys then n else 0 := by
  induction ys generalizing d with
  | nil => exact ⟨four, by simp⟩
  | cons y r ih =>
    obtain ⟨new, rest⟩ := List.nodup_cons.1 once
    obtain ⟨length, counted⟩ := ih rest (d.commitWork y l n) ((commitWork_length ..).trans four)
    refine ⟨length, counted.trans ?_⟩
    rw [committed_commitWork y l n d four hk, Nat.add_assoc]
    congr 1
    by_cases cls : l = k
    · by_cases frame : y = j
      · subst frame
        simp [cls, new]
      · simp [cls, frame, Ne.symm frame]
    · simp [cls]

theorem framesOf_nodup (p : Plan) (u : Nat) (i : Item) : (Plan.framesOf p u i).Nodup :=
  List.Nodup.map (fun _ _ => Nat.add_left_cancel) List.nodup_range

/-- The work that items of class `k` bring to frame `j`. -/
def Plan.workIn (p : Plan) (u j k : Nat) (gs : List Item) : Nat :=
  ((gs.filter (fun g => g.cls = k && (Plan.framesOf p u g).contains j)).map (fun g => workAt p.workBytes g.words)).sum

theorem chargeItems_cons (p : Plan) (u : Nat) (g : Item) (r : List Item) (d : Device) : d.chargeItems p u (g :: r) =
    (forEach (Plan.framesOf p u g) (fun y d => d.commitWork y g.cls (workAt p.workBytes g.words)) d).chargeItems p u r := by
  unfold Device.chargeItems
  rw [forEach_cons]

theorem committed_chargeItems (p : Plan) (u : Nat) (gs : List Item) (d : Device) (four : (d.led j).committed.length = 4) (hk : k < 4) :
    (d.chargeItems p u gs).committed j k = d.committed j k + Plan.workIn p u j k gs := by
  induction gs generalizing d with
  | nil => simp [Device.chargeItems, Plan.workIn]
  | cons g r ih =>
    obtain ⟨length, counted⟩ := committed_forEach g.cls (workAt p.workBytes g.words) (framesOf_nodup p u g) d four hk
    rw [chargeItems_cons, ih _ length, counted, Nat.add_assoc]
    congr 1
    unfold Plan.workIn
    by_cases here : g.cls = k ∧ j ∈ Plan.framesOf p u g
    · rw [if_pos here, List.filter_cons_of_pos (by simpa using here), List.map_cons, List.sum_cons]
    · rw [if_neg here, List.filter_cons_of_neg (by simpa using here), Nat.zero_add]

theorem chargeItems_keeps {β : Type} (v : Device → β) (h : ∀ (d : Device) l, v { d with fret := { d.fret with ledger := l } } = v d) (p : Plan) (u : Nat)
    (gs : List Item) (d : Device) : v (d.chargeItems p u gs) = v d :=
  forEach_keeps' v _ _ (fun _ d => forEach_keeps' v _ _ (fun _ d => h d _) d) d

/-! ### What the allocations give (R148, R152) -/

/-- An allocation after a grant of `w` words was sealed. -/
def Alloc.given (al : Alloc) (w : Nat) : Alloc := { al with estimate := al.estimate - w, credit := if al.cls = 1 then al.credit - w else al.credit }

/-- The words that grants give to the allocation at index `x` of handle `h`. -/
def wordsFor (x h : Nat) (gs : List Item) : Nat := ((gs.filter (fun i => decide (i.alloc = x ∧ i.handle = h))).map (·.words)).sum

theorem Alloc.given_zero (al : Alloc) : Alloc.given al 0 = al := by
  unfold Alloc.given
  split <;> rfl

theorem Alloc.given_given (al : Alloc) (v w : Nat) : Alloc.given (Alloc.given al v) w = Alloc.given al (v + w) := by
  unfold Alloc.given
  by_cases one : al.cls = 1 <;> simp [one, Nat.sub_sub]

theorem takeSealed_alloc {al : Alloc} (i : Item) (d : Device) (stands : Tbl.get? d.fret.allocs x = some al) :
    Tbl.get? (d.takeSealed i).fret.allocs x = some (if i.kind = .grant ∧ i.alloc = x ∧ i.handle = al.handle then Alloc.given al i.words else al) := by
  refine (Tbl.get?_modify ..).trans ?_
  by_cases here : x = i.alloc
  · subst here
    rw [if_pos rfl, stands]
    simp only [Option.map_some, true_and, eq_comm (a := al.handle)]
    rfl
  · rw [if_neg here, stands, if_neg (fun h => here h.2.1.symm)]

theorem forEach_takeSealed_alloc {al : Alloc} (is : List Item) (d : Device) (stands : Tbl.get? d.fret.allocs x = some al) :
    Tbl.get? (forEach is Device.takeSealed d).fret.allocs x = some (Alloc.given al (wordsFor x al.handle (is.filter (fun i => i.kind = .grant)))) := by
  induction is generalizing d al with
  | nil => simpa [wordsFor, Alloc.given_zero] using stands
  | cons i r ih =>
    refine (ih _ (takeSealed_alloc i d stands)).trans (congrArg some ?_)
    by_cases kind : i.kind = .grant
    · by_cases mine : i.alloc = x ∧ i.handle = al.handle
      · rw [if_pos ⟨kind, mine⟩, Alloc.given_given]
        congr 1
        unfold wordsFor
        rw [List.filter_cons_of_pos (by simpa using kind), List.filter_cons_of_pos (by simpa using mine), List.map_cons, List.sum_cons]
        rfl
      · rw [if_neg (fun h => mine h.2)]
        congr 1
        unfold wordsFor
        rw [List.filter_cons_of_pos (by simpa using kind), List.filter_cons_of_neg (by simpa using mine)]
    · rw [if_neg (fun h => kind h.1), List.filter_cons_of_neg (by simpa using kind)]

theorem takeSealed_keeps {β : Type} (v : Device → β) (h : ∀ (d : Device) l, v { d with fret := { d.fret with allocs := l } } = v d) (is : List Item)
    (d : Device) : v (forEach is Device.takeSealed d) = v d := forEach_keeps' v _ _ (fun _ d => h d _) d

/-! ### The seal (R140, R148, R152, R164 to R166) -/

/-- A device without the plan of channel `c`. -/
def Device.dropPlan (c : Nat) (d : Device) : Device := { d with fret := { d.fret with plans := Tbl.erase d.fret.plans c } }

/-- What the work ledger admits of a plan of tree `t`. It is not unfolded: a seal's device rests on it in many places. -/
@[irreducible] def Device.admission (d : Device) (t : Nat) (p : Plan) : List Item × Nat := d.admitWork p (d.planUpf t p)

theorem Device.admission_eq (d : Device) (t : Nat) (p : Plan) : d.admission t p = d.admitWork p (d.planUpf t p) := by
  unfold Device.admission
  rfl

/-- The grants that a plan's map has: those admitted, with the PLOAM flags asked for. -/
def Device.sealedGrants (d : Device) (t : Nat) (p : Plan) : List Item := d.ploamFlags (d.admission t p).1

/-- The items of the map that a plan becomes: its windows' grants, and those admitted. -/
def Device.sealedItemsOf (d : Device) (t : Nat) (p : Plan) : List Item := p.items.filter (fun i => i.kind ≠ .grant) ++ d.sealedGrants t p

/-- The device once a plan's admitted grants were counted and charged. -/
def Device.chargePlan (t : Nat) (p : Plan) (d : Device) : Device :=
  let e := (d.count 0x1B5 0x858 (d.admission t p).2).chargeItems p (d.planUpf t p) (d.sealedGrants t p)
  { e with rng := { e.rng with ploamAsk := e.rng.ploamAsk.filter (fun x => !(d.sealedGrants t p).any (fun i => i.term = x && i.ploam)) } }

theorem admitPlan_eq (t : Nat) (p : Plan) (d : Device) : d.admitPlan t p = (d.sealedItemsOf t p, d.chargePlan t p) := by
  unfold Device.admitPlan Device.sealedItemsOf Device.chargePlan Device.sealedGrants
  rw [Device.admission_eq]

/-- The map of frame `f` that a plan becomes. -/
def Plan.slot (p : Plan) (f now : Nat) (is : List Item) : Slot :=
  { st := .sealed, frame := f, mapped := true, items := is, dark := p.dark, sealedAt := now, upfDelay := p.upfDelay, rate := p.rate }

/-- What a seal notes: discovery grants are counted, the first map after a takeover is remembered, and windows that have closed are forgotten. -/
def Device.noteSeal (c f : Nat) (is : List Item) (d : Device) : Device :=
  let d := d.count 0x1B6 0x810 (is.filter (fun i => match i.kind with | .discovery _ _ => true | _ => false)).length
  let own := if d.fret.took && (Tbl.get? d.fret.firstOwn c).isNone then Tbl.set d.fret.firstOwn c f else d.fret.firstOwn
  let d := { d with fret := { d.fret with firstOwn := own } }
  { d with rng := { d.rng with windows := d.rng.windows.filter (fun w => w.chan ≠ c || d.now < w.closes) } }

/-- A plan is sealed as the map of frame `f`. -/
def Device.sealPlan (c f : Nat) (p : Plan) (d : Device) : Device :=
  let is := d.sealedItemsOf (treeOf c) p
  let e := d.chargePlan (treeOf c) p
  forEach is Device.takeSealed ((e.setSlot c f (Plan.slot p f e.now is)).noteSeal c f is)

/-- Whether a plan of channel `c` is sealed as the map of frame `f` (R140, R534). -/
def Device.Seals (d : Device) (c f : Nat) (p : Plan) : Prop := p.frame = f ∧ d.fenced = false ∧ d.capo = true ∧ d.pastFence (treeOf c) f = false

/-- The frame whose map a seal at this instant makes. -/
def Device.sealFrame (d : Device) (c : Nat) : Nat := d.treeFrame (treeOf c) d.now + 1

theorem mapSeal_eq (t c : Nat) (d : Device) : mapSeal t c d =
    match Tbl.get? (d.reclaim c (d.sealFrame c)).fret.plans c with
    | none => d.reclaim c (d.sealFrame c)
    | some p =>
      if p.frame = d.sealFrame c ∧ ¬ ((d.reclaim c (d.sealFrame c)).dropPlan c).fenced ∧ ((d.reclaim c (d.sealFrame c)).dropPlan c).capo ∧
          ¬ ((d.reclaim c (d.sealFrame c)).dropPlan c).pastFence (treeOf c) (d.sealFrame c) then
        ((d.reclaim c (d.sealFrame c)).dropPlan c).sealPlan c (d.sealFrame c) p
      else (d.reclaim c (d.sealFrame c)).dropPlan c := by
  unfold mapSeal Device.sealPlan Device.noteSeal Device.sealFrame
  simp only [admitPlan_eq]
  rfl

theorem SealSame.pastFence {a d : Device} (h : SealSame a d) (t k : Nat) : d.pastFence t k = a.pastFence t k := by
  unfold Device.pastFence Device.treeFrameStart
  rw [h.mru, h.offset]

theorem SealSame.planUpf {a d : Device} (h : SealSame a d) (t : Nat) (p : Plan) : d.planUpf t p = a.planUpf t p := by
  unfold Device.planUpf Device.treeFrameStart
  rw [h.offset]

theorem SealSame.dropPlan {a d : Device} (h : SealSame a d) (c : Nat) : (d.dropPlan c).planUpf = a.planUpf ∧ (d.dropPlan c).fret.ledger = a.fret.ledger ∧
    (d.dropPlan c).fret.allocs = a.fret.allocs ∧ (d.dropPlan c).now = a.now :=
  ⟨funext fun t => funext (h.planUpf t), h.ledger, h.allocs, h.now⟩

section Cases

variable (t c : Nat) (a : Device)

theorem mapSeal_sealed {p : Plan} (plan : Tbl.get? a.fret.plans c = some p) (h : a.Seals c (a.sealFrame c) p) :
    mapSeal t c a = ((a.reclaim c (a.sealFrame c)).dropPlan c).sealPlan c (a.sealFrame c) p := by
  have same := sealSame_reclaim c (a.sealFrame c) a
  obtain ⟨frame, fenced, capo, past⟩ := h
  rw [mapSeal_eq, same.plans, plan]
  refine if_pos ⟨frame, ?_, ?_, ?_⟩
  · exact fun h => Bool.false_ne_true (fenced.symm.trans (same.fenced.symm.trans h))
  · exact same.capo.trans capo
  · exact fun h => Bool.false_ne_true (past.symm.trans ((same.pastFence ..).symm.trans h))

/-- Where no plan is sealed, the slot is reclaimed and the plan, if there is one, dropped. -/
theorem mapSeal_dropped (h : ∀ p, Tbl.get? a.fret.plans c = some p → ¬ a.Seals c (a.sealFrame c) p) :
    mapSeal t c a = a.reclaim c (a.sealFrame c) ∧ Tbl.get? a.fret.plans c = none ∨ mapSeal t c a = (a.reclaim c (a.sealFrame c)).dropPlan c := by
  have same := sealSame_reclaim c (a.sealFrame c) a
  rw [mapSeal_eq, same.plans]
  cases plan : Tbl.get? a.fret.plans c with
  | none => exact .inl ⟨rfl, rfl⟩
  | some p =>
    refine .inr (if_neg ?_)
    rintro ⟨frame, fenced, capo, past⟩
    refine h p plan ⟨frame, ?_, same.capo.symm.trans capo, ?_⟩
    · exact same.fenced.symm.trans (Bool.not_eq_true _ ▸ fenced)
    · exact (same.pastFence ..).symm.trans (Bool.not_eq_true _ ▸ past)

end Cases

/-- What admitting, charging and noting a sealed plan may touch, `v` does not see. -/
structure SealBlind {β : Type} (v : Device → β) : Prop where
  allocs : ∀ (d : Device) l, v { d with fret := { d.fret with allocs := l } } = v d
  ledger : ∀ (d : Device) l, v { d with fret := { d.fret with ledger := l } } = v d
  firstOwn : ∀ (d : Device) l, v { d with fret := { d.fret with firstOwn := l } } = v d
  rng : ∀ (d : Device) x, v { d with rng := x } = v d
  reduced : ∀ d n, v (Device.count 0x1B5 0x858 n d) = v d
  discovery : ∀ d n, v (Device.count 0x1B6 0x810 n d) = v d

namespace SealBlind

variable {β : Type} {v : Device → β} (h : SealBlind v)
include h

theorem chargePlan (t : Nat) (p : Plan) (d : Device) : v (d.chargePlan t p) = v d :=
  (h.rng ..).trans ((chargeItems_keeps v h.ledger ..).trans (h.reduced ..))

theorem noteSeal (c f : Nat) (is : List Item) (d : Device) : v (d.noteSeal c f is) = v d := (h.rng ..).trans ((h.firstOwn ..).trans (h.discovery ..))

/-- Once the map stands, a seal touches nothing that `v` sees. -/
theorem sealPlan_past_slot (c f : Nat) (p : Plan) (d : Device) : v (d.sealPlan c f p) =
    v ((d.chargePlan (treeOf c) p).setSlot c f (Plan.slot p f (d.chargePlan (treeOf c) p).now (d.sealedItemsOf (treeOf c) p))) := by
  unfold Device.sealPlan
  dsimp only
  rw [takeSealed_keeps v h.allocs, h.noteSeal]

theorem sealPlan (c f : Nat) (p : Plan) (d : Device) (slot : ∀ d s, v (Device.setSlot c f s d) = v d) : v (d.sealPlan c f p) = v d := by
  rw [h.sealPlan_past_slot, slot, h.chargePlan]

end SealBlind

theorem sealBlind_slot (w n : Nat) : SealBlind (fun d : Device => d.slot w n) :=
  ⟨fun _ _ => rfl, fun _ _ => rfl, fun _ _ => rfl, fun _ _ => rfl, fun _ _ => rfl, fun _ _ => rfl⟩

theorem sealBlind_plans : SealBlind (fun d : Device => d.fret.plans) :=
  ⟨fun _ _ => rfl, fun _ _ => rfl, fun _ _ => rfl, fun _ _ => rfl, fun _ _ => rfl, fun _ _ => rfl⟩

theorem sealBlind_elsewhere : SealBlind (fun d : Device => (d.cells, d.svc, d.pkt, d.hif, d.net)) :=
  ⟨fun _ _ => rfl, fun _ _ => rfl, fun _ _ => rfl, fun _ _ => rfl, fun _ _ => rfl, fun _ _ => rfl⟩

theorem sealBlind_ctr (small : o < 0x858) : SealBlind (fun d : Device => d.ctr 0x1B5 o) :=
  ⟨fun _ _ => rfl, fun _ _ => rfl, fun _ _ => rfl, fun _ _ => rfl, fun d n => d.ctr_count_ne n (genCtr_ne (by omega)),
    fun d n => d.ctr_count_ne n (by unfold ctrKey; omega)⟩

theorem chargePlan_now (t : Nat) (p : Plan) (d : Device) : (d.chargePlan t p).now = d.now :=
  SealBlind.chargePlan (v := Device.now) ⟨fun _ _ => rfl, fun _ _ => rfl, fun _ _ => rfl, fun _ _ => rfl, fun _ _ => rfl, fun _ _ => rfl⟩ t p d

theorem sealPlan_slot (c f : Nat) (p : Plan) (d : Device) : (d.sealPlan c f p).slot c f = Plan.slot p f d.now (d.sealedItemsOf (treeOf c) p) := by
  have slot := (sealBlind_slot c f).sealPlan_past_slot c f p d
  rw [slot, Device.slot_setSlot_same, chargePlan_now]

theorem sealPlan_slot_ne {w n : Nat} (p : Plan) (d : Device) (h : slotKey w n ≠ slotKey c f) : (d.sealPlan c f p).slot w n = d.slot w n :=
  (sealBlind_slot w n).sealPlan c f p d (fun d s => slot_setSlot_ne s d h)

theorem chargePlan_committed (t : Nat) (p : Plan) (d : Device) (four : (d.led j).committed.length = 4) (hk : k < 4) :
    (d.chargePlan t p).committed j k = d.committed j k + Plan.workIn p (d.planUpf t p) j k (d.sealedGrants t p) :=
  committed_chargeItems p _ _ (d.count ..) four hk

theorem sealPlan_led (c f : Nat) (p : Plan) (d : Device) : (d.sealPlan c f p).led j = (d.chargePlan (treeOf c) p).led j := by
  have taken (is : List Item) (e : Device) := takeSealed_keeps (fun d => d.led j) (fun _ _ => rfl) is e
  unfold Device.sealPlan
  dsimp only
  rw [taken]
  rfl

theorem sealPlan_committed (c f : Nat) (p : Plan) (d : Device) (four : (d.led j).committed.length = 4) (hk : k < 4) :
    (d.sealPlan c f p).committed j k = d.committed j k + Plan.workIn p (d.planUpf (treeOf c) p) j k (d.sealedGrants (treeOf c) p) := by
  rw [← chargePlan_committed _ p d four hk]
  unfold Device.committed
  rw [sealPlan_led]

theorem filter_grants {is gs : List Item} (h : ∀ g ∈ gs, g.kind = .grant) :
    (is.filter (fun i => i.kind ≠ .grant) ++ gs).filter (fun i => i.kind = .grant) = gs := by
  have windows : (is.filter (fun i => i.kind ≠ .grant)).filter (fun i => i.kind = .grant) = [] := by simp
  rw [List.filter_append, windows, List.nil_append, List.filter_eq_self]
  simpa using h

theorem lessens_sealedGrants (t : Nat) (p : Plan) (d : Device) : Lessens (Plan.grants p) (d.sealedGrants t p) := by
  obtain ⟨q, flags⟩ := ploamFlags_eq_map d (d.admission t p).1
  unfold Device.sealedGrants
  rw [flags, Device.admission_eq]
  exact Lessens.trans (lessens_admitWork _ _ _) (lessens_map (q := fun i => { i with ploam := q i }) (fun i => ⟨rfl, rfl, rfl, rfl, rfl, rfl, le_rfl⟩) _)

theorem sealedGrants_kind (t : Nat) (p : Plan) (d : Device) : ∀ g ∈ d.sealedGrants t p, g.kind = .grant := fun g hg =>
  have ⟨_, hi, kind, _⟩ := lessens_sealedGrants t p d g hg
  kind.trans (grants_kind hi)

/-- Where every class fits, the grants sealed are those planned but for their PLOAM flags. -/
theorem sealedGrants_of_fits (t : Nat) (p : Plan) (d : Device) (h : ∀ k, k < 4 → d.fits p (d.planUpf t p) k 1 1 (Plan.grants p) = true) :
    (d.sealedGrants t p).map (fun i => ({ i with ploam := false } : Item)) = (Plan.grants p).map (fun i => ({ i with ploam := false } : Item)) := by
  obtain ⟨q, flags⟩ := ploamFlags_eq_map d (d.admission t p).1
  unfold Device.sealedGrants
  rw [flags, Device.admission_eq, admitWork_of_fits h, List.map_map]
  rfl

theorem noteSeal_allocs (c f : Nat) (is : List Item) (d : Device) : (d.noteSeal c f is).fret.allocs = d.fret.allocs := rfl

theorem chargePlan_allocs (t : Nat) (p : Plan) (d : Device) : (d.chargePlan t p).fret.allocs = d.fret.allocs :=
  chargeItems_keeps (fun d => d.fret.allocs) (fun _ _ => rfl) p _ _ (d.count ..)

theorem sealPlan_alloc (c f : Nat) (p : Plan) (d : Device) {al : Alloc} (stands : Tbl.get? d.fret.allocs x = some al) :
    Tbl.get? (d.sealPlan c f p).fret.allocs x = some (Alloc.given al (wordsFor x al.handle (d.sealedGrants (treeOf c) p))) := by
  unfold Device.sealPlan
  dsimp only
  rw [← chargePlan_allocs (treeOf c) p] at stands
  rw [forEach_takeSealed_alloc (al := al)]
  · unfold Device.sealedItemsOf
    rw [filter_grants (sealedGrants_kind _ _ _)]
  · rw [noteSeal_allocs]
    exact stands

end Sys2Proof.Machine

namespace Sys2Proof.Safety

open Sys2Proof.Machine

theorem slotKey_ne_of_frame {c k f : Nat} (h : k % 8 ≠ f % 8) : slotKey c k ≠ slotKey c f := by
  unfold slotKey
  omega

theorem slotKey_ne_of_chan {w k c f : Nat} (h : w ≠ c) : slotKey w k ≠ slotKey c f := by
  unfold slotKey
  omega

/-- Past the reclaim, which left device `r`, a seal touches the slot of frame `f`, and leaves no plan. -/
structure PastReclaim (c f : Nat) (r b : Device) : Prop where
  slot : ∀ w k, slotKey w k ≠ slotKey c f → b.slot w k = r.slot w k
  plan : Tbl.get? b.fret.plans c = none
  ctr : ∀ o ∈ [0x828, 0x848], b.ctr 0x1B5 o = r.ctr 0x1B5 o
  elsewhere : (b.cells, b.svc, b.pkt, b.hif, b.net) = (r.cells, r.svc, r.pkt, r.hif, r.net)

theorem pastReclaim_drop (c f : Nat) (r : Device) : PastReclaim c f r (r.dropPlan c) :=
  ⟨fun _ _ _ => rfl, Tbl.get?_erase_same .., fun _ _ => rfl, rfl⟩

theorem pastReclaim_seal (c f : Nat) (p : Plan) (r : Device) : PastReclaim c f r ((r.dropPlan c).sealPlan c f p) where
  slot _ _ apart := sealPlan_slot_ne p (r.dropPlan c) apart
  plan := (congrArg (fun x => Tbl.get? x c) (sealBlind_plans.sealPlan c f p (r.dropPlan c) (fun _ _ => rfl))).trans (Tbl.get?_erase_same ..)
  ctr o ho := (sealBlind_ctr (by simp only [List.mem_cons, List.not_mem_nil, or_false] at ho; omega)).sealPlan c f p (r.dropPlan c) (fun _ _ => rfl)
  elsewhere := sealBlind_elsewhere.sealPlan c f p (r.dropPlan c) (fun _ _ => rfl)

theorem pastReclaim_mapSeal (t c : Nat) (a : Device) : PastReclaim c (a.sealFrame c) (a.reclaim c (a.sealFrame c)) (mapSeal t c a) := by
  by_cases sealing : ∃ p, Tbl.get? a.fret.plans c = some p ∧ a.Seals c (a.sealFrame c) p
  · obtain ⟨p, plan, seals⟩ := sealing
    rw [mapSeal_sealed t c a plan seals]
    exact pastReclaim_seal ..
  · rcases mapSeal_dropped t c a (fun p plan seals => sealing ⟨p, plan, seals⟩) with ⟨left, none⟩ | dropped
    · rw [left]
      exact ⟨fun _ _ _ => rfl, by rw [(sealSame_reclaim ..).plans, none], fun _ _ => rfl, rfl⟩
    · rw [dropped]
      exact pastReclaim_drop ..

/-- What a sealed plan's map has, what is charged for it and what its allocations give. -/
theorem mapSeal_effect (t c : Nat) (a : Device) {p : Plan} (plan : Tbl.get? a.fret.plans c = some p) (seals : a.Seals c (a.sealFrame c) p) :
    ∃ gs, (mapSeal t c a).slot c (a.sealFrame c) = Plan.slot p (a.sealFrame c) a.now (p.items.filter (fun i => i.kind ≠ .grant) ++ gs) ∧
      Lessens (Plan.grants p) gs ∧
      ((∀ k, k < 4 → a.fits p (a.planUpf (treeOf c) p) k 1 1 (Plan.grants p) = true) →
        gs.map (fun i => ({ i with ploam := false } : Item)) = (Plan.grants p).map (fun i => ({ i with ploam := false } : Item))) ∧
      (∀ j, (a.led j).committed.length = 4 → ∀ k, k < 4 → (mapSeal t c a).committed j k = a.committed j k + Plan.workIn p (a.planUpf (treeOf c) p) j k gs) ∧
      ∀ x al, Tbl.get? a.fret.allocs x = some al → Tbl.get? (mapSeal t c a).fret.allocs x = some (Alloc.given al (wordsFor x al.handle gs)) := by
  obtain ⟨upf, ledger, allocs, now⟩ := (sealSame_reclaim c (a.sealFrame c) a).dropPlan c
  have led (j : Nat) : ((a.reclaim c (a.sealFrame c)).dropPlan c).led j = a.led j := by
    unfold Device.led
    rw [ledger]
  rw [mapSeal_sealed t c a plan seals]
  generalize (a.reclaim c (a.sealFrame c)).dropPlan c = d at upf ledger allocs now led
  refine ⟨d.sealedGrants (treeOf c) p, ?_, lessens_sealedGrants _ _ _, fun fits => ?_, fun j four k hk => ?_, fun x al stands => ?_⟩
  · rw [sealPlan_slot, now]
    rfl
  · exact sealedGrants_of_fits _ _ _ fun k hk => by rw [upf, fits_of_ledger ledger, fits k hk]
  · have charged := sealPlan_committed c (a.sealFrame c) p d (led j ▸ four) hk
    rw [charged, upf]
    unfold Device.committed
    rw [led]
  · exact sealPlan_alloc c (a.sealFrame c) p d (allocs.symm ▸ stands)

/-- Settles O22: the slot reclaimed, then the plan sealed as the work ledger admits it, or dropped. -/
theorem mapsSeal : Obligations.MapsSeal := by
  unfold Obligations.MapsSeal
  intro t c s hr
  refine Makes.intro hr (exec_mapSeal ..) ?_
  generalize s.dev.arrive t = a
  have past := pastReclaim_mapSeal a.now c.val a
  have counted (o : Nat) (ho : o ∈ [0x828, 0x848]) : (mapSeal a.now c.val a).ctr 0x1B5 o % 2 ^ 64 =
      (a.ctr 0x1B5 o + a.forcedOpen (a.slot c.val (a.sealFrame c.val + 1))) % 2 ^ 64 :=
    (congrArg (· % 2 ^ 64) (past.ctr o ho)).trans (reclaim_ctr _ _ _ ho)
  have kept (w k : Nat) (sealed : slotKey w k ≠ slotKey c.val (a.sealFrame c.val)) (opened : slotKey w k ≠ slotKey c.val (a.sealFrame c.val + 1)) :
      (mapSeal a.now c.val a).slot w k = a.slot w k := (past.slot w k sealed).trans (reclaim_slot_ne opened)
  have elsewhere := past.elsewhere.trans (forceBlind_elsewhere.reclaim c.val (a.sealFrame c.val) a (fun _ _ => rfl))
  simp only [Prod.mk.injEq] at elsewhere
  refine ⟨(past.slot c.val (a.sealFrame c.val + 1) (slotKey_ne_of_frame (by omega))).trans (reclaim_slot ..), past.plan, ⟨counted 0x828 (by decide), counted 0x848 (by decide)⟩,
    fun p plan frame fenced capo fence => ?_, fun idle => ?_, fun k sealed opened => kept _ _ (slotKey_ne_of_frame sealed) (slotKey_ne_of_frame opened),
    fun w k apart => kept _ _ (slotKey_ne_of_chan apart) (slotKey_ne_of_chan apart), elsewhere⟩
  · obtain ⟨gs, slot, less, planned, charged, given⟩ := mapSeal_effect a.now c.val a plan ⟨frame, fenced, capo, fence⟩
    refine ⟨gs, slot, fun g hg => ?_, planned, charged, given⟩
    obtain ⟨i, hi, -, same⟩ := less g hg
    exact ⟨i, hi, same⟩
  · have same := sealSame_reclaim c.val (a.sealFrame c.val) a
    have slot : (a.reclaim c.val (a.sealFrame c.val)).slot c.val (a.sealFrame c.val) = a.slot c.val (a.sealFrame c.val) :=
      reclaim_slot_ne (slotKey_ne_of_frame (by omega))
    have drops (p : Plan) (plan : Tbl.get? a.fret.plans c.val = some p) : ¬ a.Seals c.val (a.sealFrame c.val) p := by
      rintro ⟨frame, fenced, capo, fence⟩
      rcases idle p plan with other | h | h | h
      exacts [other frame, Bool.false_ne_true (fenced.symm.trans h), Bool.false_ne_true (h.symm.trans capo), Bool.false_ne_true (fence.symm.trans h)]
    rcases mapSeal_dropped a.now c.val a drops with ⟨left, -⟩ | dropped
    · rw [left]
      exact ⟨slot, same.allocs, same.ledger⟩
    · rw [dropped]
      exact ⟨slot, same.allocs, same.ledger⟩

end Sys2Proof.Safety
end

section
/-!
PROOFS. The envelope's publication and the voltage writes (R165, R274, R275, R277, R279, R281, R289): how a frame's room is divided, what the ledger
holds once its rows were published, what the steps of a publication leave alone, and the statement `Obligations.EnvelopeIsPublished`.
-/

namespace Sys2Proof.Machine

open Sys2Proof.Safety

variable {d : Device} {rows : List PlanRow} {r : PlanRow}

/-! ### Dividing a frame's room (R165) -/

theorem length_divide (room : Nat) (dem com : List Nat) : (divide room dem com).length = dem.length := by
  induction dem generalizing room com with
  | nil => rfl
  | cons q dem ih => exact congrArg (· + 1) (ih _ _)

/-- No quota lies below what is committed. -/
theorem committed_le_divide (room : Nat) (dem com : List Nat) {i : Nat} (h : i < dem.length) : com.getD i 0 ≤ (divide room dem com).getD i 0 := by
  induction dem generalizing room com i with
  | nil => exact absurd h (Nat.not_lt_zero _)
  | cons q dem ih =>
    cases i with
    | zero => cases com <;> simp [divide]
    | succ i =>
      have rest := ih (room - max (com.headD 0) (min q room)) (com.drop 1) (Nat.lt_of_succ_lt_succ h)
      cases com with
      | nil => simp
      | cons c com => simpa [divide] using rest

/-- All quotas together exceed the room by no more than what is committed. -/
theorem sum_divide_le (room : Nat) (dem com : List Nat) : (divide room dem com).sum ≤ room + (com.take dem.length).sum := by
  induction dem generalizing room com with
  | nil => simp [divide]
  | cons q dem ih =>
    have rest := ih (room - max (com.headD 0) (min q room)) (com.drop 1)
    cases com with
    | nil => simp [divide] at *; omega
    | cons c com => simp [divide] at *; omega

/-! ### The rows of the ledger (R165) -/

/-- The ledger's row of a plan row, where `com` is committed. -/
def ledgerRow (fc : Nat) (dem com : List Nat) (r : PlanRow) : Ledger :=
  { env := r.env, forecast := fc, demand := dem, quota := divide (r.env - fc) dem com, committed := com }

/-- One row published. -/
def publishRow (fc : Nat) (dem : List Nat) (l : Tbl Ledger) (r : PlanRow) : Tbl Ledger :=
  Tbl.set l r.frame (ledgerRow fc dem (Tbl.getD l r.frame {}).committed r)

theorem get?_publishRows_ne (fc : Nat) (dem : List Nat) (l : Tbl Ledger) {k : Nat} (h : ∀ r ∈ rows, r.frame ≠ k) :
    Tbl.get? (rows.foldl (publishRow fc dem) l) k = Tbl.get? l k := by
  induction rows generalizing l with
  | nil => rfl
  | cons r rows ih =>
    exact (ih _ fun q hq => h q (List.mem_cons_of_mem _ hq)).trans (Tbl.get?_set_ne _ _ (h r List.mem_cons_self).symm)

/-- Of rows of distinct frames each stands in the ledger, with what was committed there before. -/
theorem get?_publishRows (fc : Nat) (dem : List Nat) (l : Tbl Ledger) (apart : (rows.map (·.frame)).Nodup) (hr : r ∈ rows) :
    Tbl.get? (rows.foldl (publishRow fc dem) l) r.frame = some (ledgerRow fc dem (Tbl.getD l r.frame {}).committed r) := by
  induction rows generalizing l with
  | nil => cases hr
  | cons q rows ih =>
    obtain ⟨new, apart⟩ := List.nodup_cons.1 apart
    have others : ∀ p ∈ rows, p.frame ≠ q.frame := fun p hp e => new (List.mem_map.2 ⟨p, hp, e⟩)
    rcases List.mem_cons.1 hr with rfl | hr
    · exact (get?_publishRows_ne _ _ _ others).trans (Tbl.get?_set_same _ _ _)
    · rw [List.foldl_cons, ih _ apart hr, publishRow, Tbl.getD_set_ne _ _ _ (others r hr)]

theorem Device.publishLedger_ledger (rows : List PlanRow) (fc : Nat) (d : Device) : (d.publishLedger rows fc).fret.ledger =
    rows.foldl (publishRow fc ((List.range 4).map d.demand)) (d.fret.ledger.filter fun p => d.frame ≤ p.1) := rfl

theorem Device.led_filter (d : Device) {j k : Nat} (h : j ≤ k) : Tbl.getD (d.fret.ledger.filter fun p => j ≤ p.1) k {} = d.led k := by
  unfold Device.led Tbl.getD
  rw [Tbl.get?_filter _ (fun q => decide (j ≤ q)), if_pos (decide_eq_true h)]

/-- Whether a map is built hangs on five fields, the framer and the time. -/
theorem buildsNone_congr {a b : Device} {c : Nat} (rd : ∀ f ∈ [CH.CH_EN c, TPE.TREE_EN (treeOf c), MRU.CAPO, MRU.ROLE, PTM.TRIPPED], b.rd f = a.rd f)
    (trees : b.trees = a.trees) (core : b.core = a.core) : b.buildsNone c = a.buildsNone c := by
  simp only [List.forall_mem_cons, List.not_mem_nil, false_imp_iff, implies_true, and_true] at rd
  obtain ⟨chan, tree, capo, role, trip⟩ := rd
  unfold Device.buildsNone Device.capo Device.fenced Device.cfr Device.now Device.on
  rw [chan, tree, capo, role, trip, trees, core]

/-- No demand reads what a publication of rows writes. -/
theorem Device.demand_publishLedger (rows : List PlanRow) (fc k : Nat) (d : Device) : (d.publishLedger rows fc).demand k = d.demand k := by
  have rd (f : Fld) (h : fkey f ≠ fkey GEN.ENVELOPE_TIGHT) : (d.publishLedger rows fc).rd f = d.rd f := Device.rd_wr_ne _ _ h
  have quiet (n : Nat) : (d.publishLedger rows fc).rd (PTM.QUIET_CH n) = d.rd (PTM.QUIET_CH n) :=
    rd _ (by simp only [fkey, PTM.QUIET_CH, GEN.ENVELOPE_TIGHT]; omega)
  have none (c : Nat) : (d.publishLedger rows fc).buildsNone c = d.buildsNone c := by
    refine buildsNone_congr ?_ rfl rfl
    simp only [List.forall_mem_cons, List.not_mem_nil, false_imp_iff, implies_true, and_true]
    refine ⟨rd _ ?_, rd _ ?_, rd _ (by decide), rd _ (by decide), rd _ (by decide)⟩
    · simp only [fkey, CH.CH_EN, GEN.ENVELOPE_TIGHT]; omega
    · simp only [fkey, TPE.TREE_EN, GEN.ENVELOPE_TIGHT]; omega
  have work (n : Nat) : (d.publishLedger rows fc).workOf n = d.workOf n := congrArg (workAt · n) (Device.rdA_wr_ne _ _ (by decide))
  have same : (d.publishLedger rows fc).fret.allocs = d.fret.allocs ∧ (d.publishLedger rows fc).rng = d.rng ∧ (d.publishLedger rows fc).trees = d.trees :=
    ⟨rfl, rfl, rfl⟩
  generalize d.publishLedger rows fc = b at *
  obtain ⟨allocs, rng, trees⟩ := same
  unfold Device.demand Device.home Device.course Device.term?
  simp only [quiet, work, none, allocs, rng, trees]

/-! ### What the steps of a publication leave alone -/

/-- What the forecast is taken from, and what no step before the ledger touches. -/
def Device.beside (d : Device) := ((d.core.time, d.rdA PTM.FORECAST_FLOOR, d.rdA PTM.FORECAST_HEADROOM, d.pow.handled), d.fret, d.cells, d.svc, d.rng)

/-- That, with the publications counted and the power shown. -/
def Device.pubView (d : Device) := (d.beside, d.ctr 0x003 0x810, d.rd PTM.CORE_POWER_W)

/-- The fields that the steps of a publication write, the power apart. -/
def pubFields : List Fld :=
  [PTM.WARN, PTM.EMERGENCY, PTM.TRIPPED, PTM.CEILING_MV, PTM.FLOOR_OVER_CEIL, PTM.VCORE_MV, PTM.FORECAST, MRU.ROLE, MRU.CAPO, SPM.EXHAUSTED,
    SPM.EXCHANGING]

theorem forecast_of_beside {a b : Device} (h : b.beside = a.beside) : b.forecast = a.forecast := by
  simp only [Device.beside, Prod.mk.injEq] at h
  obtain ⟨⟨now, least, extra, handled⟩, -⟩ := h
  unfold Device.forecast Device.frame Device.now
  rw [now, least, extra, handled]

theorem beside_wr {f : Fld} (d : Device) (v : Nat) (least : fkeyA PTM.FORECAST_FLOOR ≠ fkey f) (extra : fkeyA PTM.FORECAST_HEADROOM ≠ fkey f) :
    (d.wr f v).beside = d.beside := by
  unfold Device.beside
  rw [d.rdA_wr_ne v least, d.rdA_wr_ne v extra]
  rfl

theorem pubView_wr {f : Fld} (hf : f ∈ pubFields) (v : Nat) (d : Device) : (d.wr f v).pubView = d.pubView := by
  have keys : ∀ f ∈ pubFields, fkeyA PTM.FORECAST_FLOOR ≠ fkey f ∧ fkeyA PTM.FORECAST_HEADROOM ≠ fkey f ∧ fkey PTM.CORE_POWER_W ≠ fkey f := by decide
  obtain ⟨least, extra, power⟩ := keys f hf
  unfold Device.pubView
  rw [beside_wr d v least extra, d.rd_wr_ne v power]
  rfl

theorem pubView_count {p o : Nat} (h : ctrKey 0x003 0x810 ≠ ctrKey p o) (n : Nat) (d : Device) : (d.count p o n).pubView = d.pubView := by
  unfold Device.pubView
  rw [d.ctr_count_ne n h]
  rfl

theorem pubView_counted {c w : Nat} {v} (h : d.pubView = (v, c, w)) : (d.count 0x003 0x810 1).pubView = (v, (c + 1) % 2 ^ 64, w) := by
  simp only [Device.pubView, Prod.mk.injEq] at h
  obtain ⟨rfl, rfl, rfl⟩ := h
  rw [← d.ctr_count_same]
  rfl

theorem pubView_countIf {p o : Nat} (h : ctrKey 0x003 0x810 ≠ ctrKey p o) (c : Bool) (d : Device) : (d.countIf c p o).pubView = d.pubView := by
  unfold Device.countIf
  split
  exacts [pubView_count h 1 d, rfl]

theorem pubView_pow (d : Device) (x : Power) (h : x.handled = d.pow.handled) : { d with pow := x }.pubView = d.pubView := by
  unfold Device.pubView Device.beside
  rw [h]
  rfl

theorem pubView_raiseEmergency (d : Device) : d.raiseEmergency.pubView = d.pubView := by
  unfold Device.raiseEmergency
  split
  · rfl
  · exact (pubView_count (by decide) 1 _).trans ((pubView_wr (by decide) 1 _).trans (pubView_pow d _ rfl))

theorem pubView_fenceNow (d : Device) : d.fenceNow.pubView = d.pubView := by
  have fenced : d.becomeFenced.pubView = d.pubView := by
    unfold Device.becomeFenced
    split
    · rw [pubView_count (by decide), pubView_wr (by decide), pubView_wr (by decide)]
    · rfl
  refine (forEach_keeps' Device.pubView _ _ (fun p e => ?_) _).trans fenced
  have apart : ctrKey 0x003 0x810 ≠ ctrKey (chanPage p.1) 0x848 := by simp only [ctrKey, chanPage]; omega
  exact pubView_count apart 1 _

theorem pubView_trip {o : Nat} (h : ctrKey 0x003 0x810 ≠ ctrKey 0x003 o) (d : Device) : (d.trip o).pubView = d.pubView := by
  unfold Device.trip
  dsimp only
  split
  · exact pubView_count h 1 d
  · rw [pubView_fenceNow, pubView_wr (by decide), pubView_count h]

theorem pubView_thresholds (d : Device) : d.thresholds.pubView = d.pubView := by
  have warned := pubView_wr (f := PTM.WARN) (by decide) (b2n (decide (quarter (d.rdA PTM.WARN_C) ≤ d.tHot))) d
  unfold Device.thresholds
  generalize d.wr PTM.WARN _ = e at *
  dsimp only
  have hot : (if decide (quarter (e.rdA PTM.LIMIT_C) ≤ e.tHot) || e.on PTM.EMERG_FORCE then e.raiseEmergency else e).pubView = d.pubView := by
    split
    exacts [(pubView_raiseEmergency e).trans warned, warned]
  generalize (if decide (quarter (e.rdA PTM.LIMIT_C) ≤ e.tHot) || e.on PTM.EMERG_FORCE then e.raiseEmergency else e) = e' at *
  split
  exacts [(pubView_trip (by decide) e').trans hot, hot]

theorem pubView_command (mv : Nat) (d : Device) : (d.command mv).pubView = d.pubView :=
  (pubView_wr (f := PTM.VCORE_MV) (by decide) mv _).trans (pubView_pow d _ rfl)

theorem pubView_noSpare (kind u : Nat) (d : Device) : (d.noSpare kind u).pubView = d.pubView := by
  unfold Device.noSpare
  split
  · rfl
  · dsimp only
    rw [pubView_count (by decide), pubView_wr (by decide)]
    rfl

theorem pubView_wearCheck (pace : Nat) (d : Device) : (d.wearCheck pace).pubView = d.pubView := by
  unfold Device.wearCheck
  dsimp only
  split
  · rfl
  · split
    · exact forEach_keeps' Device.pubView _ _ (fun s e => pubView_noSpare 1 s e) _
    · split
      · rfl
      · exact pubView_wr (by decide) _ _

/-! ### A publication (R277 to R281) -/

/-- What a publication makes of `a`: the rows of the next 8 frames join the plan and are published last, with the forecast of `a`. -/
def Device.Publishes (a : Device) (watts : Nat) (b : Device) : Prop :=
  ∃ e rows, b = Device.publishLedger rows a.forecast e ∧ rows.map (·.frame) = (List.range 8).map (a.frame + 1 + ·) ∧ rows ⊆ e.pow.plan ∧
    e.pubView = (a.beside, (a.ctr 0x003 0x810 + 1) % 2 ^ 64, watts % 2 ^ PTM.CORE_POWER_W.width)

/-- Each step is taken with what it leaves of the view, then forgotten: only the rows and the view reach the ledger. -/
theorem publish_publishes (watts : Nat) (d : Device) : d.Publishes watts (publish watts d) := by
  unfold publish
  extract_lets a k _ b w _
  have start : a.pubView = (d.beside, d.ctr 0x003 0x810, watts % 2 ^ PTM.CORE_POWER_W.width) := by
    have hot := pubView_thresholds d
    unfold Device.pubView at hot ⊢
    simp only [Prod.mk.injEq] at hot ⊢
    exact ⟨(beside_wr _ _ (by decide) (by decide)).trans hot.1, hot.2.1, Device.rd_wr_same _ _ _⟩
  have frame : k = d.frame := congrArg (fun v => frameOf (Prod.fst (Prod.fst (Prod.fst v)))) start
  have emergency : b.pubView = a.pubView := by
    unfold b
    split
    · dsimp only
      split
      exacts [(pubView_wr (by decide) 0 _).trans (pubView_pow a _ rfl), pubView_pow a _ rfl]
    · rfl
  have warned : w.pubView = a.pubView := (pubView_countIf (by decide) _ b).trans emergency
  clear_value k w
  generalize w.nextCeiling = ceiling
  obtain ⟨ceil, cool⟩ := ceiling
  dsimp -zeta only
  extract_lets e fc pv core rows above late f g h old ct m v n x
  have ceiled : e.pubView = a.pubView := (pubView_wr (by decide) ceil _).trans ((pubView_pow w _ rfl).trans warned)
  have forecast : fc = d.forecast := forecast_of_beside (congrArg Prod.fst (ceiled.trans start))
  have floors : g.pubView = a.pubView := by
    have shown : f.pubView = a.pubView := (pubView_countIf (by decide) above _).trans ((pubView_wr (by decide) _ e).trans ceiled)
    unfold g
    split
    exacts [(pubView_count (by decide) late f).trans shown, shown]
  have counted : h.pubView = (d.beside, (d.ctr 0x003 0x810 + 1) % 2 ^ 64, watts % 2 ^ PTM.CORE_POWER_W.width) :=
    pubView_counted ((pubView_wr (f := PTM.FORECAST) (by decide) fc g).trans (floors.trans start))
  have planned : v.pubView = h.pubView := pubView_pow h _ rfl
  have holds : rows ⊆ v.pow.plan := List.subset_append_right old rows
  clear_value v fc pv core
  have frames : rows.map (·.frame) = (List.range 8).map (d.frame + 1 + ·) := by
    unfold rows
    rw [← frame, List.map_map]
    rfl
  clear_value rows
  rw [forecast]
  refine ⟨_, _, rfl, frames, ?_, ?_⟩
  · unfold x Device.when
    split
    exacts [holds, holds]
  · unfold x Device.when
    split
    exacts [(pubView_command n v).trans (planned.trans counted), planned.trans counted]

theorem Device.Publishes.of_pubView {a e b : Device} {watts : Nat} (h : e.Publishes watts b) (same : e.pubView = a.pubView) : a.Publishes watts b := by
  have beside : e.beside = a.beside := congrArg Prod.fst same
  have counted : e.ctr 0x003 0x810 = a.ctr 0x003 0x810 := congrArg (fun v => v.2.1) same
  have frame : e.frame = a.frame := congrArg (fun v => frameOf (Prod.fst (Prod.fst v))) beside
  unfold Device.Publishes at *
  rwa [← frame, ← beside, ← counted, ← forecast_of_beside beside]

end Sys2Proof.Machine

namespace Sys2Proof.Safety

open Sys2Proof.Machine

/-! ### What a publication shows -/

theorem publication_effect {a b : Device} {watts : Nat} (h : a.Publishes watts b) :
    b.rd PTM.CORE_POWER_W = watts % 2 ^ PTM.CORE_POWER_W.width ∧ Counts 0x003 0x810 1 a b ∧
    (∀ i < 8, ∃ r ∈ b.pow.plan, r.frame = a.frame + 1 + i ∧ Tbl.get? b.fret.ledger (a.frame + 1 + i) =
      some (ledgerRow a.forecast ((List.range 4).map b.demand) (a.led (a.frame + 1 + i)).committed r)) ∧
    b.fret.allocs = a.fret.allocs ∧ b.fret.slots = a.fret.slots ∧ b.cells = a.cells ∧ b.svc = a.svc ∧ b.rng = a.rng := by
  obtain ⟨e, rows, rfl, frames, planned, view⟩ := h
  simp only [Device.pubView, Device.beside, Prod.mk.injEq] at view
  obtain ⟨⟨⟨now, -⟩, fret, cells, svc, rng⟩, counted, power⟩ := view
  refine ⟨(Device.rd_wr_ne _ _ (by decide)).trans power, counted, fun i hi => ?_, congrArg (·.allocs) fret, congrArg (·.slots) fret, cells, svc, rng⟩
  have apart : (rows.map (·.frame)).Nodup := frames ▸ List.nodup_range.map fun i j h => Nat.add_left_cancel h
  have listed : a.frame + 1 + i ∈ rows.map (·.frame) := frames ▸ List.mem_map_of_mem (List.mem_range.2 hi)
  obtain ⟨r, hr, at_frame⟩ := List.mem_map.1 listed
  have later : e.frame ≤ a.frame + 1 + i := by
    have : e.frame = a.frame := congrArg frameOf now
    omega
  have led : Tbl.getD (e.fret.ledger.filter fun p => e.frame ≤ p.1) r.frame {} = a.led (a.frame + 1 + i) := by
    rw [at_frame, e.led_filter later]
    unfold Device.led
    rw [fret]
  refine ⟨r, planned hr, at_frame, ?_⟩
  rw [funext fun k => Device.demand_publishLedger rows a.forecast k e]
  rw [Device.publishLedger_ledger, ← at_frame, get?_publishRows _ _ _ apart hr, led, at_frame]

/-! ### A voltage write (R274, R289) -/

variable {a : Device} (t : Nat)

theorem status_acknowledged : let b := voltageWriteResult t true true a
    b.on PTM.REG_FAULT = false ∧ Only [PTM.REG_FAULT] [] a b :=
  ⟨Device.on_wr_b2n false rfl, (Only.refl _ _ a).wr 0 ⟨_, List.mem_singleton_self _, rfl⟩⟩

theorem voltage_acknowledged : let b := voltageWriteResult t true false a
    Counts 0x003 0x818 1 a b ∧ b = { a with ctrs := b.ctrs, pow := { a.pow with lastAck := a.pow.wanted, tries := 0 } } ∧ Kept [] [(0x003, 0x818)] a b :=
  ⟨Device.ctr_count_same _ _ _ _, rfl, (Kept.same (Kept.refl _ _ a) rfl rfl).count 1 (List.mem_singleton_self _)⟩

theorem voltage_retried (again : a.pow.tries < 3) : let b := voltageWriteResult t false false a; let v := if a.on PTM.PTM_EN then a.pow.wanted else 750
    b.pow = { a.pow with tries := a.pow.tries + 1, wanted := v } ∧ b.rd PTM.VCORE_MV = v % 2 ^ PTM.VCORE_MV.width ∧ Counts 0x003 0x820 1 a b ∧
      b.core.out = a.core.out ++ [.voltage v] ∧ Kept [PTM.VCORE_MV] [(0x003, 0x820)] a b := by
  have retry : voltageWriteResult t false false a =
      (((({ a with pow := { a.pow with tries := a.pow.tries + 1, wanted := a.retryMv } } : Device).wr PTM.VCORE_MV a.retryMv).count 0x003 0x820 1).emit
        (.voltage a.retryMv)) := if_pos again
  rw [retry]
  refine ⟨rfl, Device.rd_wr_same _ _ _, Device.ctr_count_same _ _ _ _, rfl, ?_⟩
  have start : Kept [PTM.VCORE_MV] [(0x003, 0x820)] a { a with pow := { a.pow with tries := a.pow.tries + 1, wanted := a.retryMv } } :=
    (Kept.refl _ _ a).same rfl rfl
  exact ((start.wr _ ⟨_, List.mem_singleton_self _, rfl⟩).count 1 (List.mem_singleton_self _)).same rfl rfl

theorem voltage_failed (last : 3 ≤ a.pow.tries) : let b := voltageWriteResult t false false a
    b.on PTM.REG_FAULT = true ∧ b.rd PTM.VCORE_MV = a.pow.lastAck % 2 ^ PTM.VCORE_MV.width ∧ b.pow.tries = 0 ∧
      Counts 0x003 0x828 1 a b ∧ ∀ r ∈ b.pow.plan, a.frame < r.frame → r.mv = a.pow.lastAck := by
  have failed : voltageWriteResult t false false a = a.regFault := if_neg (Nat.not_lt.2 last)
  rw [failed]
  refine ⟨?_, ?_, rfl, ?_, fun r hr later => ?_⟩
  · exact ((Device.on_wr_ne _ _ (by decide)).trans (Device.on_wr_ne _ _ (by decide))).trans (Device.on_wr_b2n true rfl)
  · exact (Device.rd_wr_ne _ _ (by decide)).trans (Device.rd_wr_same _ _ _)
  · exact (Device.ctr_count_ne _ _ (by decide)).trans (Device.ctr_count_same _ _ _ _)
  · obtain ⟨q, -, rfl⟩ := List.mem_map.1 hr
    split at later
    · rw [if_pos ‹_›]
    · exact absurd later ‹_›

/-- Settles O33: a publication shows the power and publishes the rows of its plan, a division of the room keeps its bounds, and a voltage write is
acknowledged, retried or failed. -/
theorem envelopeIsPublished : Obligations.EnvelopeIsPublished := by
  unfold Obligations.EnvelopeIsPublished
  refine ⟨fun t watts pace s hr => Makes.intro hr (exec_envelopePublication ..) ?_,
    fun room dem com => ⟨length_divide room dem com, fun i => committed_le_divide room dem com, sum_divide_le room dem com⟩,
    fun t ok status s hr => Makes.intro hr (exec_voltageWriteResult ..) ?_⟩
  all_goals generalize s.dev.arrive t = a
  · obtain ⟨power, counted, rows, rest⟩ := publication_effect
      ((publish_publishes watts.val (a.wearCheck pace)).of_pubView (pubView_wearCheck pace a))
    refine ⟨power.trans (Nat.mod_eq_of_lt watts.isLt), counted, fun i => ?_, rest⟩
    obtain ⟨r, planned, at_frame, row⟩ := rows i.val i.isLt
    exact ⟨r, planned, at_frame, _, row, rfl, rfl, rfl, rfl, rfl⟩
  · cases status <;> cases ok
    · refine ⟨nofun, nofun, nofun, fun _ _ => voltage_retried _, fun _ _ => voltage_failed _⟩
    · exact ⟨nofun, nofun, fun _ _ => voltage_acknowledged _, nofun, nofun⟩
    · exact ⟨nofun, fun _ _ => rfl, nofun, nofun, nofun⟩
    · exact ⟨fun _ _ => status_acknowledged _, nofun, nofun, nofun, nofun⟩

end Sys2Proof.Safety
end

section
/-!
PROOFS. The build of a map (R134, R139, R145 to R148, R155, R158, R181): what it leaves alone, that no grant it places is below 16 words, how the
pieces of course grants join the plans, and the statement `Obligations.MapsBuild`.
-/

namespace Sys2Proof.Tbl

/-- Where a map keeps the keys, the values are found mapped. -/
theorem get?_map {α : Type} (g : α → α) (t : Tbl α) (k : Nat) : get? (t.map fun p => (p.1, g p.2)) k = (get? t k).map g := by
  induction t with
  | nil => rfl
  | cons p t ih =>
    simp only [List.map_cons, get?]
    split
    exacts [rfl, ih]

end Sys2Proof.Tbl

namespace Sys2Proof.Machine

open Sys2Proof.Safety

variable {d e : Device} {c f w : Nat}

/-! ### What a build leaves alone -/

/-- The device without what a build changes, the credits apart. -/
def Device.unbuilt (d : Device) : Device :=
  { d with ctrs := [], fret := { d.fret with plans := [], courseWait := [] }, rng := { d.rng with windows := [], wants := [] },
           bursts := { d.bursts with brx := [] } }

/-- That, and the plans. -/
def Device.planned (d : Device) := (d.unbuilt, d.fret.plans)

theorem eq_of_unbuilt (h : e.unbuilt = d.unbuilt) :
    e = { d with ctrs := e.ctrs, fret := e.fret, rng := e.rng, bursts := { d.bursts with brx := e.bursts.brx } } :=
  congrArg (fun r : Device => { r with ctrs := e.ctrs, fret := e.fret, rng := e.rng, bursts := { r.bursts with brx := e.bursts.brx } }) h

theorem buildsEmpty_of_unbuilt (h : e.unbuilt = d.unbuilt) (c : Nat) : e.buildsEmpty c = d.buildsEmpty c := by
  change e.unbuilt.buildsEmpty c = d.unbuilt.buildsEmpty c
  rw [h]

theorem planOf_of_unbuilt (h : e.unbuilt = d.unbuilt) (c f : Nat) (is : List Item) (ks : List Dark) : e.planOf c f is ks = d.planOf c f is ks := by
  change e.unbuilt.planOf c f is ks = d.unbuilt.planOf c f is ks
  rw [h]

theorem planned_rewant (c f : Nat) (d : Device) : (d.rewant c f).planned = d.planned := rfl

theorem planned_fixDiscovery (c f : Nat) (d : Device) : (d.fixDiscovery c f).planned = d.planned := by
  unfold Device.fixDiscovery
  dsimp only
  split
  · split <;> rfl
  · rfl

theorem planned_fixRanging (c f : Nat) (d : Device) : (d.fixRanging c f).planned = d.planned := by
  unfold Device.fixRanging
  split
  · rfl
  · split
    · rfl
    · extract_lets
      split
      extract_lets
      split <;> rfl

theorem planned_fixQuiet (c f : Nat) (d : Device) : (d.fixQuiet c f).planned = d.planned := by
  unfold Device.fixQuiet
  dsimp only
  split
  · rfl
  · split
    · rfl
    · split <;> rfl

theorem planned_windowRoom (c f : Nat) (d : Device) : (d.windowRoom c f).planned = d.planned := by
  unfold Device.windowRoom
  dsimp only
  split <;> rfl

/-! ### No grant below 16 words (R147) -/

/-- Every grant has 16 words or more. -/
def Large (l : List (Cand × Nat)) : Prop := ∀ p ∈ l, 16 ≤ p.2

theorem large_sizeGrants (d : Device) (c : Nat) (dark : List (Nat × Nat)) (profile : Nat → Nat) : Large (d.sizeGrants c dark profile).1 :=
  fun _ hp => of_decide_eq_true (List.mem_filter.1 hp).2

theorem Large.subset {l m : List (Cand × Nat)} (h : Large l) (sub : ∀ p ∈ m, p ∈ l) : Large m := fun p hp => h p (sub p hp)

theorem Large.burstGrants {l : List (Cand × Nat)} (h : Large l) (x : Nat) : Large (burstGrants x l) :=
  h.subset fun _ hp => (List.mem_filter.1 ((mem_sortBy _ _ _).1 hp)).1

theorem Large.trimGrants {l : List (Cand × Nat)} (h : Large l) (ex : Nat) : Large (trimGrants ex l).2 := by
  induction l with
  | nil => exact h
  | cons p l ih =>
    obtain ⟨first, rest⟩ := List.forall_mem_cons.1 h
    have rest := ih rest
    unfold Machine.trimGrants
    dsimp only
    split
    · exact List.forall_mem_cons.2 ⟨first, rest⟩
    · generalize (if lineLen p.2 ≤ (Machine.trimGrants ex l).1 then 0 else maxData (lineLen p.2 - (Machine.trimGrants ex l).1)) = n
      split
      · exact rest
      · exact List.forall_mem_cons.2 ⟨Nat.le_of_not_lt ‹_›, rest⟩

theorem large_trimBursts {l : List Burst} (h : ∀ b ∈ l, Large b.grants) (ex : Nat) : ∀ b ∈ (trimBursts ex l).2, Large b.grants := by
  induction l with
  | nil => exact h
  | cons b l ih =>
    obtain ⟨first, rest⟩ := List.forall_mem_cons.1 h
    have rest := ih rest
    unfold trimBursts
    dsimp only
    split
    · exact List.forall_mem_cons.2 ⟨first, rest⟩
    · exact List.forall_mem_cons.2 ⟨first.trimGrants _, rest⟩

theorem large_layRun {l : List Burst} (h : ∀ b ∈ l, Large b.grants) (w : Nat) : ∀ b ∈ layRun w l, Large b.grants := by
  induction l generalizing w with
  | nil => exact h
  | cons b l ih =>
    obtain ⟨first, rest⟩ := List.forall_mem_cons.1 h
    exact List.forall_mem_cons.2 ⟨first, ih rest _⟩

theorem large_placeRest (top : Nat) {l : List Burst} (h : ∀ b ∈ l, Large b.grants) (occ : List (Nat × Nat)) :
    ∀ b ∈ (placeRest top l occ).1, Large b.grants := by
  induction l generalizing occ with
  | nil => exact h
  | cons b l ih =>
    obtain ⟨first, rest⟩ := List.forall_mem_cons.1 h
    unfold placeRest
    dsimp only
    split
    · exact List.forall_mem_cons.2 ⟨first, ih rest _⟩
    · split
      · exact ih rest _
      · exact List.forall_mem_cons.2 ⟨first.trimGrants _, ih rest _⟩

theorem large_burstItems {b : Burst} (h : Large b.grants) (tm : Timing) : ∀ i ∈ burstItems b tm, 16 ≤ i.words :=
  List.foldlRecOn (motive := fun acc : List Item × Nat => ∀ i ∈ acc.1, 16 ≤ i.words) b.grants _ (by simp) fun acc large p hp i hi => by
    rcases List.mem_append.1 hi with hi | hi
    · exact large i hi
    · rw [List.mem_singleton.1 hi]
      exact h p hp

theorem large_windowItems (d : Device) (c f : Nat) : ∀ i ∈ d.windowItems c f, 16 ≤ i.words := fun i hi => by
  obtain ⟨w, -, rfl⟩ := List.mem_map.1 hi
  exact le_refl 16

/-! ### The normal map (R155) -/

/-- A plan of no grant below 16 words joins the plans of `d`, and nothing else that is not built changes. -/
def Device.Maps (d : Device) (c f : Nat) (e : Device) : Prop :=
  ∃ is ks, (∀ i ∈ is, 16 ≤ i.words) ∧ e.unbuilt = d.unbuilt ∧ e.fret.plans = Tbl.set d.fret.plans c (d.planOf c f is ks)

theorem planned_count (p o n : Nat) (d : Device) : (d.count p o n).planned = d.planned := rfl

theorem buildMap_maps (d : Device) (c f : Nat) : d.Maps c f (d.buildMap c f) := by
  unfold Device.buildMap
  extract_lets t rate u tm top darks dw
  have sized : Large (d.sizeGrants c dw (d.profile c)).1 := large_sizeGrants _ _ _ _
  generalize d.sizeGrants c dw (d.profile c) = size at *
  obtain ⟨gs, cut⟩ := size
  dsimp -zeta only at sized ⊢
  extract_lets d₁ win gs' d₂ course own terms mk fx ot lim run cutF laid occ d₃ placed is longs d₄ wait src
  have grants : Large own := sized.subset fun p hp => mem_of_mem_enforce _ _ (List.mem_filter.1 hp).1
  have bursts (l : List Nat) : ∀ b ∈ l.map mk, Large b.grants := fun b hb => by
    obtain ⟨x, -, rfl⟩ := List.mem_map.1 hb
    exact grants.burstGrants x
  have counted : d₃.planned = d.planned := by
    unfold d₃ d₂ d₁
    rw [planned_count, planned_count, planned_count]
  clear_value d₃ own
  have rest : ∀ b ∈ (placeRest top ot occ).1, Large b.grants := large_placeRest top (bursts _) occ
  have fixed : ∀ b ∈ laid, Large b.grants := large_layRun (large_trimBursts (bursts _) _) 0
  have put : ∀ i ∈ placed, 16 ≤ i.words := fun i hi => by
    obtain ⟨b, hb, hi⟩ := List.mem_flatMap.1 hi
    exact large_burstItems ((List.mem_append.1 ((mem_sortBy _ _ _).1 hb)).elim (fixed b) (rest b)) tm i hi
  have asked : ∀ i ∈ is, 16 ≤ i.words := fun i hi => by
    obtain ⟨j, hj, rfl⟩ := List.mem_map.1 hi
    split
    exacts [put j hj, put j hj]
  have same : d₄.planned = d.planned := by
    unfold d₄
    rw [forEach_keeps' Device.planned longs _ fun _ _ => planned_count ..]
    exact counted
  clear_value is d₄
  obtain ⟨unbuilt, plans⟩ := Prod.mk.inj same
  refine ⟨win ++ is, darks, fun i hi => (List.mem_append.1 hi).elim (large_windowItems d₁ c f i) (asked i), unbuilt, ?_⟩
  rw [← planOf_of_unbuilt unbuilt, ← plans]

/-! ### The pieces of course grants (R181) -/

/-- What of an item the pieces that follow leave as it is. -/
def Item.mark (i : Item) : Nat × Nat × Nat := (i.handle, i.words, i.start)

/-- A plan that took pieces, or none: where every build is sealed empty (`none`), an empty plan stays empty. -/
structure Plan.Grows (empty : Bool) (p q : Plan) : Prop where
  frame : q.frame = p.frame
  dark : q.dark = p.dark
  delay : q.upfDelay = p.upfDelay
  rate : q.rate = p.rate
  first : p.items.map Item.mark <+: q.items.map Item.mark
  large : (∀ i ∈ p.items, 16 ≤ i.words) → ∀ i ∈ q.items, 16 ≤ i.words
  still : empty = true → p.items = [] → q.items = []

theorem Plan.Grows.refl (empty : Bool) (p : Plan) : Plan.Grows empty p p := ⟨rfl, rfl, rfl, rfl, List.prefix_rfl, id, fun _ => id⟩

theorem Plan.Grows.trans {empty : Bool} {p q r : Plan} (h : Plan.Grows empty p q) (h' : Plan.Grows empty q r) : Plan.Grows empty p r :=
  ⟨h'.frame.trans h.frame, h'.dark.trans h.dark, h'.delay.trans h.delay, h'.rate.trans h.rate, h.first.trans h'.first, h'.large ∘ h.large,
    fun idle => h'.still idle ∘ h.still idle⟩

/-- A piece of 16 words or more joins a plan that is not sealed empty. -/
theorem Plan.grows_append (p : Plan) {i : Item} (large : 16 ≤ i.words) : Plan.Grows false p { p with items := p.items ++ [i] } := by
  refine ⟨rfl, rfl, rfl, rfl, ?_, fun all j hj => ?_, nofun⟩
  · rw [List.map_append]
    exact List.prefix_append _ _
  · rcases List.mem_append.1 hj with hj | hj
    · exact all j hj
    · exact List.mem_singleton.1 hj ▸ large

/-- Items that are only marked anew make the plan no other. -/
theorem Plan.grows_map (empty : Bool) (p : Plan) (g : Item → Item) (same : ∀ i, Item.mark (g i) = Item.mark i) :
    Plan.Grows empty p { p with items := p.items.map g } := by
  refine ⟨rfl, rfl, rfl, rfl, ?_, fun all j hj => ?_, fun _ none => by rw [none]; rfl⟩
  · rw [List.map_map, show Item.mark ∘ g = Item.mark from funext same]
  · obtain ⟨i, hi, rfl⟩ := List.mem_map.1 hj
    have words : (g i).words = i.words := congrArg (fun m : Nat × Nat × Nat => m.2.1) (same i)
    exact words ▸ all i hi

/-- The plans of `e` are those of `d` with their pieces, and nothing that a build leaves alone changed. -/
structure Device.Pieces (d e : Device) : Prop where
  unbuilt : e.unbuilt = d.unbuilt
  plans : ∀ w, Option.Rel (Plan.Grows (d.buildsEmpty w)) (Tbl.get? d.fret.plans w) (Tbl.get? e.fret.plans w)

namespace Device.Pieces

theorem of_planned (h : e.planned = d.planned) : d.Pieces e := by
  obtain ⟨unbuilt, plans⟩ := Prod.mk.inj h
  refine ⟨unbuilt, fun w => ?_⟩
  rw [plans]
  cases Tbl.get? d.fret.plans w with
  | none => exact .none
  | some p => exact .some (.refl _ p)

theorem trans {a b : Device} (h : a.Pieces d) (h' : d.Pieces b) : a.Pieces b := by
  refine ⟨h'.unbuilt.trans h.unbuilt, fun w => ?_⟩
  have first := h.plans w
  have next := h'.plans w
  rw [buildsEmpty_of_unbuilt h.unbuilt] at next
  generalize Tbl.get? a.fret.plans w = p, Tbl.get? d.fret.plans w = q, Tbl.get? b.fret.plans w = r at *
  cases first with
  | none =>
    cases next
    exact .none
  | some first =>
    cases next with
    | some next => exact .some (first.trans next)

/-- One plan grows. -/
theorem of_set {p q : Plan} (stands : Tbl.get? d.fret.plans c = some p) (grows : Plan.Grows (d.buildsEmpty c) p q) (unbuilt : e.unbuilt = d.unbuilt)
    (plans : e.fret.plans = Tbl.set d.fret.plans c q) : d.Pieces e := by
  refine ⟨unbuilt, fun w => ?_⟩
  by_cases at_c : w = c
  · subst at_c
    rw [stands, plans, Tbl.get?_set_same]
    exact .some grows
  · rw [plans, Tbl.get?_set_ne _ _ at_c]
    exact (of_planned rfl : d.Pieces d).plans w

theorem placePiece (g : CourseGrant) (left : Nat) (takes : d.buildsEmpty c = false) : d.Pieces (d.placePiece g c left).2 := by
  unfold Device.placePiece
  split
  · exact of_planned rfl
  next p stands =>
    extract_lets r n i e
    split
    · exact of_planned rfl
    next room =>
      have large : 16 ≤ n := by
        by_contra small
        exact room (.inr (.inl (Nat.lt_of_not_le small)))
      have same : e.planned = d.planned := by
        unfold e
        split
        · split
          exacts [planned_count .., rfl]
        · rfl
      obtain ⟨unbuilt, plans⟩ := Prod.mk.inj same
      refine of_set stands (by rw [takes]; exact Plan.grows_append p (i := i) large) unbuilt ?_
      rw [← plans]

theorem pieceReport (g : CourseGrant) (c : Nat) (d : Device) : d.Pieces (d.pieceReport g c) := by
  unfold Device.pieceReport Tbl.modify
  cases stands : Tbl.get? d.fret.plans c with
  | none => exact of_planned rfl
  | some p => exact of_set stands (Plan.grows_map _ p _ fun i => by split <;> rfl) rfl rfl

/-- One member takes its piece: the words left, the members with a piece, and the device. -/
def pieceStep (g : CourseGrant) (acc : Nat × List Nat × Device) (c : Nat) : Nat × List Nat × Device :=
  let piece := acc.2.2.placePiece g c acc.1
  (acc.1 - piece.1, if piece.1 = 0 then acc.2.1 else acc.2.1 ++ [c], piece.2)

/-- The members of a course take their pieces one by one. -/
theorem foldl_pieceStep (g : CourseGrant) (cs : List Nat) (acc : Nat × List Nat × Device) (takes : ∀ c ∈ cs, acc.2.2.buildsEmpty c = false) :
    acc.2.2.Pieces (cs.foldl (pieceStep g) acc).2.2 := by
  induction cs generalizing acc with
  | nil => exact of_planned rfl
  | cons c cs ih =>
    obtain ⟨first, rest⟩ := List.forall_mem_cons.1 takes
    have piece := placePiece g acc.1 first
    exact piece.trans (ih (pieceStep g acc c) fun w hw => (buildsEmpty_of_unbuilt piece.unbuilt w).trans (rest w hw))

theorem splitCourse (g : CourseGrant) (d : Device) : d.Pieces (d.splitCourse g) := by
  unfold Device.splitCourse
  extract_lets cs
  have takes : ∀ c ∈ cs, d.buildsEmpty c = false := fun c hc => by
    have ok := (List.mem_filter.1 ((mem_sortBy _ _ _).1 hc)).2
    exact Bool.not_eq_eq_eq_not.mp (Bool.and_eq_true_iff.1 ok).2
  have pieces : d.Pieces (cs.foldl (pieceStep g) (g.words, [], d)).2.2 := foldl_pieceStep g cs (g.words, [], d) takes
  generalize folded : List.foldl _ _ cs = acc
  rw [show cs.foldl (pieceStep g) (g.words, [], d) = acc from folded] at pieces
  obtain ⟨left, placed, e⟩ := acc
  dsimp -zeta only at pieces ⊢
  extract_lets at_ reported
  have report : e.Pieces reported := by
    unfold reported Device.whenSome
    split
    · cases at_ with
      | none => exact of_planned rfl
      | some c => exact pieceReport g c e
    · exact of_planned rfl
  split
  · exact (pieces.trans report).trans (of_planned (planned_count ..))
  · exact pieces.trans report

theorem forEach_splitCourse (gs : List CourseGrant) (d : Device) : d.Pieces (forEach gs Device.splitCourse d) := by
  induction gs generalizing d with
  | nil => exact of_planned rfl
  | cons g gs ih => exact (splitCourse g d).trans (ih _)

theorem splitReady (f t : Nat) (d : Device) : d.Pieces (d.splitReady f t) := by
  unfold Device.splitReady
  extract_lets ready gs _ e
  exact (of_planned rfl : d.Pieces e).trans (forEach_splitCourse gs e)

end Device.Pieces

/-! ### The credits at a build start (R148) -/

/-- An allocation with its credit grown, where channel `c` is its terminal's home. -/
def Device.grown (d : Device) (c : Nat) (a : Alloc) : Alloc :=
  let r := (Alloc.seenAt d.now a).rate
  if a.cls = 1 ∧ d.home a.term = some c then { a with credit := min (8 * r) (a.credit + r) } else a

/-- The device once the credits grew, which they do on no standby. -/
def Device.credited (c : Nat) (d : Device) : Device := if d.rd MRU.ROLE = 2 then d else d.growCredits c

theorem growCredits_allocs (c : Nat) (d : Device) : (d.growCredits c).fret.allocs = d.fret.allocs.map fun p => (p.1, d.grown c p.2) := by
  refine List.map_congr_left fun p _ => ?_
  unfold Device.grown
  dsimp only
  split <;> rfl

theorem get?_credited (c : Nat) (d : Device) (x : Nat) : Tbl.get? (d.credited c).fret.allocs x = (Tbl.get? d.fret.allocs x).map fun al =>
    let r := (Alloc.seenAt d.now al).rate
    if d.rd MRU.ROLE ≠ 2 ∧ al.cls = 1 ∧ d.home al.term = some c then { al with credit := min (8 * r) (al.credit + r) } else al := by
  unfold Device.credited
  split
  next standby => simp [standby]
  next active =>
    rw [growCredits_allocs, Tbl.get?_map]
    simp only [ne_eq, active, not_false_iff, true_and]
    rfl

/-- Of the fretboard only the credits are other. -/
theorem credited_eq (c : Nat) (d : Device) : d.credited c = { d with fret := { d.fret with allocs := (d.credited c).fret.allocs } } := by
  unfold Device.credited
  split <;> rfl

/-! ### The build (R139, R145, R146) -/

/-- The device once channel `c` had its plan for tree frame `f`. -/
def Device.built (c f : Nat) (d : Device) : Device :=
  if d.buildsNone c then d.rewant c f
  else if d.buildsEmpty c then
    { d.rewant c f with fret := { d.fret with plans := Tbl.set d.fret.plans c ((d.rewant c f).planOf c f [] []) } }
  else ((((d.fixDiscovery c f).fixRanging c f).fixQuiet c f).windowRoom c f).buildMap c f

theorem buildStart_eq (c : Nat) (d : Device) : buildStart c d =
    ((d.credited c).built c (d.treeFrame (treeOf c) d.now + 1)).splitReady (d.treeFrame (treeOf c) d.now + 1) (treeOf c) := rfl

theorem built_none (idle : d.buildsNone c = true) (f : Nat) : (d.built c f).planned = d.planned := by
  unfold Device.built
  rw [if_pos idle]
  exact planned_rewant c f d

theorem built_maps (builds : d.buildsNone c = false) (f : Nat) : ∃ is ks, (∀ i ∈ is, 16 ≤ i.words) ∧ (d.buildsEmpty c = true → is = [] ∧ ks = []) ∧
    (d.built c f).unbuilt = d.unbuilt ∧ (d.built c f).fret.plans = Tbl.set d.fret.plans c (d.planOf c f is ks) := by
  unfold Device.built
  rw [builds, if_neg Bool.false_ne_true]
  split
  · exact ⟨[], [], nofun, fun _ => ⟨rfl, rfl⟩, rfl, rfl⟩
  next busy =>
    obtain ⟨is, ks, large, unbuilt, plans⟩ := buildMap_maps ((((d.fixDiscovery c f).fixRanging c f).fixQuiet c f).windowRoom c f) c f
    have same : ((((d.fixDiscovery c f).fixRanging c f).fixQuiet c f).windowRoom c f).planned = d.planned := by
      rw [planned_windowRoom, planned_fixQuiet, planned_fixRanging, planned_fixDiscovery]
    obtain ⟨kept, before⟩ := Prod.mk.inj same
    exact ⟨is, ks, large, fun idle => absurd idle busy, unbuilt.trans kept, by rw [plans, before, planOf_of_unbuilt kept]⟩

theorem unbuilt_built (c f : Nat) (d : Device) : (d.built c f).unbuilt = d.unbuilt := by
  cases builds : d.buildsNone c with
  | true => exact congrArg Prod.fst (built_none builds f)
  | false =>
    obtain ⟨_, _, _, _, unbuilt, _⟩ := built_maps builds f
    exact unbuilt

theorem pieces_buildStart (c : Nat) (d : Device) : ((d.credited c).built c (d.treeFrame (treeOf c) d.now + 1)).Pieces (buildStart c d) := by
  rw [buildStart_eq]
  exact Device.Pieces.splitReady ..

theorem unbuilt_buildStart (c : Nat) (d : Device) : (buildStart c d).unbuilt = (d.credited c).unbuilt :=
  (pieces_buildStart c d).unbuilt.trans (unbuilt_built ..)

theorem credited_reads (c : Nat) (d : Device) : (d.credited c).buildsNone c = d.buildsNone c ∧ (d.credited c).buildsEmpty c = d.buildsEmpty c ∧
    (d.credited c).fret.plans = d.fret.plans ∧ ∀ f is ks, (d.credited c).planOf c f is ks = d.planOf c f is ks := by
  rw [credited_eq]
  exact ⟨rfl, rfl, rfl, fun _ _ _ => rfl⟩

/-- The plan of a channel that builds, its pieces taken. -/
theorem buildStart_plan (builds : d.buildsNone c = false) : ∃ p, Tbl.get? (buildStart c d).fret.plans c = some p ∧
    p.frame = d.treeFrame (treeOf c) d.now + 1 ∧ p.upfDelay = d.upfDelay (treeOf c) ∧ p.rate = d.rd (CH.US_RATE c) ∧
    (d.buildsEmpty c = true → p.items = [] ∧ p.dark = []) ∧ ∀ i ∈ p.items, 16 ≤ i.words := by
  obtain ⟨none, idle, -, planOf⟩ := credited_reads c d
  obtain ⟨is, ks, large, empty, unbuilt, plans⟩ := built_maps (none.trans builds) (d.treeFrame (treeOf c) d.now + 1)
  have pieces := (pieces_buildStart c d).plans c
  rw [plans, Tbl.get?_set_same, planOf, buildsEmpty_of_unbuilt unbuilt, idle] at pieces
  rw [idle] at empty
  generalize Tbl.get? (buildStart c d).fret.plans c = o at *
  cases pieces with
  | some grows =>
    exact ⟨_, rfl, grows.frame, grows.delay, grows.rate, fun still => ⟨grows.still still (empty still).1, grows.dark.trans (empty still).2⟩,
      grows.large large⟩

/-- Every other plan stands with the pieces it took. -/
theorem buildStart_others (other : w ≠ c ∨ d.buildsNone c = true) :
    ∃ empty, Option.Rel (Plan.Grows empty) (Tbl.get? d.fret.plans w) (Tbl.get? (buildStart c d).fret.plans w) := by
  obtain ⟨none, -, before, -⟩ := credited_reads c d
  have kept : Tbl.get? ((d.credited c).built c (d.treeFrame (treeOf c) d.now + 1)).fret.plans w = Tbl.get? (d.credited c).fret.plans w := by
    cases builds : d.buildsNone c with
    | true => exact congrArg (fun v => Tbl.get? (Prod.snd v) w) (built_none (none.trans builds) _)
    | false =>
      obtain ⟨_, _, _, _, _, plans⟩ := built_maps (none.trans builds) (d.treeFrame (treeOf c) d.now + 1)
      rw [plans, Tbl.get?_set_ne _ _ (other.resolve_right (by simp [builds]))]
  have pieces := (pieces_buildStart c d).plans w
  rw [kept, before] at pieces
  exact ⟨_, pieces⟩

theorem buildStart_tables (c : Nat) (d : Device) : (buildStart c d).fret.slots = d.fret.slots ∧ (buildStart c d).fret.ledger = d.fret.ledger ∧
    (buildStart c d).fret.ring = d.fret.ring ∧ (buildStart c d).rng.terms = d.rng.terms := by
  have same := unbuilt_buildStart c d
  rw [credited_eq] at same
  have tables := congrArg (fun d : Device => (d.fret.slots, d.fret.ledger, d.fret.ring, d.rng.terms)) same
  simpa only [Device.unbuilt, Prod.mk.injEq] using tables

/-! ### The commands of a build start keep the time (R150) -/

theorem core_commit {g : Device → Device} (k : Cmd) (keeps : ∀ d, (g d).core = d.core) (d : Device) : (d.commit k g).core = d.core := by
  unfold Device.commit Device.change
  split
  · dsimp only
    split
    · split <;> rfl
    · exact keeps _
  · exact keeps d

theorem core_createAlloc (k : Cmd) (t : Nat) (d : Device) : (d.createAlloc k t).core = d.core := by
  unfold Device.createAlloc
  split
  · rfl
  · split
    · rfl
    · refine core_commit k (fun e => ?_) d
      rfl

theorem core_destroyAlloc (k : Cmd) (t : Nat) (d : Device) : (d.destroyAlloc k t).core = d.core := by
  unfold Device.destroyAlloc
  split
  · rfl
  · refine core_commit k (fun e => ?_) d
    rfl

theorem core_allocCommits (c t : Nat) (d : Device) : (d.allocCommits c t).core = d.core := by
  refine forEach_keeps' (·.core) _ _ (fun k e => ?_) d
  split
  · split
    · exact core_createAlloc k t e
    · split
      exacts [core_destroyAlloc k t e, rfl]
  · split
    · rfl
    · split
      · rfl
      · split
        exacts [core_createAlloc k t e, core_destroyAlloc k t e]

end Sys2Proof.Machine

namespace Sys2Proof.Safety

open Sys2Proof.Machine

/-- Settles O21: the credits grow, the channel's plan is made for the next tree frame, or none, or an empty one, and the plans take their pieces. -/
theorem mapsBuild : Obligations.MapsBuild := by
  unfold Obligations.MapsBuild
  intro t c s hr
  refine Makes.intro hr (exec_mapBuildStart ..) ?_
  generalize s.dev.arrive t = a
  have now : (a.allocCommits c.val a.now).now = a.now := congrArg (·.time) (core_allocCommits c.val a.now a)
  unfold mapBuildStart
  generalize a.allocCommits c.val a.now = e at now
  have same := unbuilt_buildStart c.val e
  refine ⟨buildStart_plan, fun w other => ?_, fun x => ?_, ?_, buildStart_tables c.val e⟩
  · obtain ⟨_, plans⟩ := buildStart_others (d := e) other
    generalize Tbl.get? (buildStart c.val e).fret.plans w = new, Tbl.get? e.fret.plans w = old at *
    cases plans with
    | none => exact ⟨fun _ => rfl, nofun⟩
    | some grows =>
      refine ⟨nofun, fun p same => ?_⟩
      obtain rfl := Option.some.inj same
      exact ⟨_, rfl, grows.frame, grows.dark, grows.delay, grows.rate, grows.first⟩
  · rw [← now]
    exact (congrArg (fun d : Device => Tbl.get? d.fret.allocs x) same).trans (get?_credited c.val e x)
  · refine (eq_of_unbuilt same).trans ?_
    rw [credited_eq]

end Sys2Proof.Safety
end

section
/-!
PROOFS. Before a burst: the peg's load (R193, R212), the strobe (R194) and the Burst_Profile messages (R196), and the statement
`Obligations.BurstsArePrepared`.
-/

namespace Sys2Proof.Machine

open Sys2Proof.Safety

variable {d : Device} {t c k ix : Nat}

theorem Device.brx_setBrx_ne {w : Nat} (x : Brx) (h : w ≠ c) : (d.setBrx c x).brx w = d.brx w := Tbl.getD_put_ne _ _ _ _ h

theorem setBrx_only (x : Brx) (d : Device) : d.setBrx c x = { d with bursts := { d.bursts with brx := (d.setBrx c x).bursts.brx } } := rfl

/-! ### PEG_LOAD -/

/-- The receiver with the preset of a terminal's peg. -/
def Device.pegLoaded (c : Nat) (i : Item) (d : Device) : Device :=
  let p := d.peg c (i.term % 512)
  d.setBrx c { d.brx c with loaded := some i.term, preset := (p.w0, p.w1, p.phase) }

theorem pegLoad_of_no_item (t : Nat) (h : d.item? c k ix = none) : pegLoad t c k ix d = d := by simp [pegLoad, h]

theorem pegLoad_of_item {i : Item} (t : Nat) (h : d.item? c k ix = some i) : pegLoad t c k ix d =
    if d.receiving c = true ∧ d.loadAt c (d.slot c k) i ≤ t then d.pegLoaded c i else d := by
  simp [pegLoad, h, Device.pegLoaded]

/-- A load changes the channel's receiver alone. -/
theorem pegLoad_only (t c k ix : Nat) (d : Device) : let b := pegLoad t c k ix d
    (∀ w, w ≠ c → b.brx w = d.brx w) ∧ b = { d with bursts := { d.bursts with brx := b.bursts.brx } } := by
  cases h : d.item? c k ix with
  | none => rw [pegLoad_of_no_item t h]; exact ⟨fun _ _ => rfl, rfl⟩
  | some i =>
    rw [pegLoad_of_item t h]
    split
    exacts [⟨fun w other => Device.brx_setBrx_ne _ other, setBrx_only ..⟩, ⟨fun _ _ => rfl, rfl⟩]

/-! ### STROBE_PULSE -/

/-- Whether the strobe of channel `c` pulses at all (R194). -/
def Device.strobes (d : Device) (c : Nat) : Prop := d.receiving c = true ∧ d.on (CH.STROBE_EN c) = true

/-- The strobe of channel `c` leads `lead` by STROBE_LEAD_NS, but waits for the end of the burst before `start`, which is counted. -/
def Device.pulse (c lead start : Nat) (d : Device) : Device :=
  (d.countIf (decide (lead - d.rdA (CH.STROBE_LEAD_NS c) < d.prevEnd c start)) (chanPage c) 0x960).emit
    (.strobe c (max (lead - d.rdA (CH.STROBE_LEAD_NS c)) (d.prevEnd c start)) (d.rd (CH.WIDTH_NS c)) (d.on (CH.ACTIVE_LOW c)))

theorem strobePulse_idle (t : Nat) (ix : Option Nat) (h : ¬ d.strobes c) : strobePulse t c k ix d = d := by
  unfold strobePulse
  dsimp only
  split
  · rw [if_neg (by simpa [Device.strobes] using h)]
  · rfl

theorem strobePulse_of_no_item {n : Nat} (t : Nat) (h : d.item? c k n = none) : strobePulse t c k (some n) d = d := by
  simp [strobePulse, h]

theorem strobePulse_of_item {n : Nat} {i : Item} (t : Nat) (h : d.item? c k n = some i) (fires : d.strobes c) :
    strobePulse t c k (some n) d = d.pulse c (d.strobeLeads c (d.slot c k) i) (d.wordNs c (d.slot c k) i i.start) := by
  simp [strobePulse, h, fires.1, fires.2, Device.pulse, Device.strobeRest]

theorem strobePulse_of_no_window (t : Nat)
    (h : (d.slot c k).mapped = false ∨ (d.slot c k).frame ≠ k ∨ ∀ x ∈ (d.slot c k).dark, x.quiet = false) : strobePulse t c k none d = d := by
  have noWindow : (if (d.slot c k).mapped = true ∧ (d.slot c k).frame = k then (d.slot c k).dark.find? (fun x => x.quiet) else none) = none := by
    split
    · rename_i held
      obtain unmapped | other | lit := h
      · simp [unmapped] at held
      · exact absurd held.2 other
      · exact List.find?_eq_none.2 (by simpa using lit)
    · rfl
  unfold strobePulse
  dsimp only
  by_cases held : (d.slot c k).mapped = true ∧ (d.slot c k).frame = k
  · rw [if_pos held] at noWindow
    simp [noWindow]
  · simp [held]

theorem strobePulse_of_window {x : Dark} {l r : List Dark} (t : Nat) (mapped : (d.slot c k).mapped = true) (frame : (d.slot c k).frame = k)
    (dark : (d.slot c k).dark = l ++ x :: r) (before : ∀ y ∈ l, y.quiet = false) (quiet : x.quiet = true) (fires : d.strobes c) :
    strobePulse t c k none d = d.pulse c x.opens x.opens := by
  have found : (d.slot c k).dark.find? (fun x => x.quiet) = some x := by
    rw [dark, List.find?_append, List.find?_eq_none.2 (by simpa using before), List.find?_cons_of_pos quiet]
    rfl
  simp [strobePulse, mapped, frame, found, fires.1, fires.2, Device.pulse, Device.strobeRest]

/-- A command of the strobe does nothing or pulses. -/
theorem strobePulse_cases (t c k : Nat) (ix : Option Nat) (d : Device) :
    strobePulse t c k ix d = d ∨ ∃ lead start, strobePulse t c k ix d = d.pulse c lead start := by
  unfold strobePulse
  dsimp only
  split
  · split
    exacts [.inr ⟨_, _, rfl⟩, .inl rfl]
  · exact .inl rfl

/-- A pulse shows itself, counts where it had to wait, and changes nothing else. -/
theorem pulse_shows (c lead start : Nat) (d : Device) : let b := d.pulse c lead start; let x := lead - d.rdA (CH.STROBE_LEAD_NS c); let e := d.prevEnd c start
    b.core.out = d.core.out ++ [.strobe c (max x e) (d.rd (CH.WIDTH_NS c)) (d.on (CH.ACTIVE_LOW c))] ∧
    (if x < e then Counts (chanPage c) 0x960 1 d b else b.ctrs = d.ctrs) := by
  refine ⟨by simp [Device.pulse, Device.emit], ?_⟩
  by_cases late : lead - d.rdA (CH.STROBE_LEAD_NS c) < d.prevEnd c start
  · simp only [Device.pulse, Device.countIf, late, decide_true, if_true]
    exact d.ctr_count_same _ _ _
  · simp [Device.pulse, Device.countIf, late]

theorem pulse_only (c lead start : Nat) (d : Device) : let b := d.pulse c lead start
    b = { d with core := { d.core with out := b.core.out }, ctrs := b.ctrs } ∧ Safety.Kept [] [(chanPage c, 0x960)] d b := by
  refine ⟨?_, ((Kept.refl _ _ d).countIf _ (List.mem_cons_self ..)).same rfl rfl⟩
  unfold Device.pulse Device.countIf
  dsimp only
  split <;> rfl

/-! ### BURST_PROFILE_QUEUE -/

/-- The messages that wait at a channel's framer, in their order. -/
def Cfr.waiting (x : Cfr) : List Ploam := x.ploamQ ++ x.fwQ

theorem Cfr.waiting_pump (x : Cfr) : Cfr.waiting (Cfr.pump x) = Cfr.waiting x := by
  simp [Cfr.waiting, Cfr.pump]

theorem waiting_ploam (c : Nat) (m : Ploam) (d : Device) : Cfr.waiting ((d.ploam c m).cfr c) = Cfr.waiting (d.cfr c) ++ [m] := by
  rw [Device.ploam, Device.cfr_setCfr_same, Cfr.waiting_pump]
  simp [Cfr.waiting]

/-- The Burst_Profile messages of both profiles of a channel (R196). -/
def Device.profileMessages (d : Device) (c : Nat) : List Ploam :=
  [.burstProfile 0 (d.timing c).short (d.rd (CH.DELIM_LO c)) (d.rd (CH.DELIM_HI c)), .burstProfile 1 (d.timing c).long (d.rd (CH.DELIM_LO c)) (d.rd (CH.DELIM_HI c))]

theorem waiting_burstProfiles (c : Nat) (d : Device) : Cfr.waiting ((d.burstProfiles c).cfr c) = Cfr.waiting (d.cfr c) ++ d.profileMessages c := by
  rw [Device.burstProfiles, waiting_ploam, waiting_ploam, List.append_assoc]
  rfl

theorem burstProfiles_only (c : Nat) (d : Device) : d.burstProfiles c = { d with trees := { d.trees with cfr := (d.burstProfiles c).trees.cfr } } := rfl

theorem burstProfiles_brx (c w : Nat) (d : Device) : (d.burstProfiles c).brx w = d.brx w := rfl

theorem burstProfiles_cfr_ne {w : Nat} (d : Device) (h : w ≠ c) : (d.burstProfiles c).cfr w = d.cfr w :=
  (Device.cfr_setCfr_ne _ _ h).trans (Device.cfr_setCfr_ne _ _ h)

/-- Whether the profiles of a channel are due again: each 1,000 tree frames of a lane that sends (R196). -/
def Device.profilesAgain (d : Device) (c t : Nat) : Prop :=
  d.on (CH.CH_EN c) = true ∧ (d.cfr c).sending = true ∧
    ∃ f, (d.brx c).profileFrom = some f ∧ f < d.treeFrame (treeOf c) t ∧ (d.treeFrame (treeOf c) t - f) % 1000 = 0

theorem burstProfileQueue_off (t : Nat) (off : d.on (TPE.TREE_EN (treeOf c)) = false ∨ d.on (CH.RX_EN c) = false) :
    burstProfileQueue t c d = d.setBrx c { d.brx c with profileDone := false } := by
  unfold burstProfileQueue
  exact if_neg (by simpa [or_iff_not_imp_left] using off)

section Enabled

variable (tree : d.on (TPE.TREE_EN (treeOf c)) = true) (rx : d.on (CH.RX_EN c) = true)
include tree rx

theorem burstProfileQueue_due (t : Nat) (due : (d.brx c).profileDone = false ∨ d.profilesAgain c t) :
    burstProfileQueue t c d = (d.setBrx c { d.brx c with profileDone := true }).burstProfiles c := by
  unfold burstProfileQueue
  simp only [tree, rx, Bool.and_self, if_true]
  refine if_pos ?_
  obtain first | ⟨enabled, sending, f, profiled, before, thousand⟩ := due
  · simp [first]
  · simp [enabled, sending, profiled, before, thousand]

theorem burstProfileQueue_done (t : Nat) (done : (d.brx c).profileDone = true) (h : ¬ d.profilesAgain c t) : burstProfileQueue t c d = d := by
  unfold burstProfileQueue
  simp only [tree, rx, Bool.and_self, if_true]
  refine if_neg fun due => h ?_
  unfold Device.profilesAgain
  cases profiled : (d.brx c).profileFrom <;> simp_all

end Enabled

/-- The queueing of profiles does nothing, is off, or sends both. -/
theorem burstProfileQueue_cases (t c : Nat) (d : Device) : burstProfileQueue t c d = d ∨
    burstProfileQueue t c d = d.setBrx c { d.brx c with profileDone := false } ∨
    burstProfileQueue t c d = (d.setBrx c { d.brx c with profileDone := true }).burstProfiles c := by
  unfold burstProfileQueue
  dsimp only
  split
  · exact (em _).elim (fun due => .inr (.inr (if_pos due))) (fun undue => .inl (if_neg undue))
  · exact .inr (.inl rfl)

/-- The device but for the receivers and framers of its channels. -/
def Device.unannounced (d : Device) : Device := { d with trees := { d.trees with cfr := [] }, bursts := { d.bursts with brx := [] } }

theorem eq_of_unannounced {b : Device} (h : b.unannounced = d.unannounced) :
    b = { d with trees := { d.trees with cfr := b.trees.cfr }, bursts := { d.bursts with brx := b.bursts.brx } } :=
  congrArg (fun e : Device => { e with trees := { e.trees with cfr := b.trees.cfr }, bursts := { e.bursts with brx := b.bursts.brx } }) h

theorem unannounced_ploam (c : Nat) (m : Ploam) (d : Device) : (d.ploam c m).unannounced = d.unannounced := rfl

theorem unannounced_burstProfiles (c : Nat) (d : Device) : (d.burstProfiles c).unannounced = d.unannounced :=
  (unannounced_ploam ..).trans (unannounced_ploam ..)

/-- What the queueing of profiles changes: its channel's receiver and messages. -/
theorem burstProfileQueue_only (t c : Nat) (d : Device) : let b := burstProfileQueue t c d
    (∀ w, w ≠ c → b.cfr w = d.cfr w ∧ b.brx w = d.brx w) ∧ b.unannounced = d.unannounced := by
  obtain same | off | sent := burstProfileQueue_cases t c d
  · rw [same]
    exact ⟨fun _ _ => ⟨rfl, rfl⟩, rfl⟩
  · rw [off]
    exact ⟨fun w other => ⟨rfl, Device.brx_setBrx_ne _ other⟩, rfl⟩
  · rw [sent]
    generalize announced : d.setBrx c { d.brx c with profileDone := true } = e
    refine ⟨fun w other => ⟨(burstProfiles_cfr_ne e other).trans ?_, (burstProfiles_brx c w e).trans ?_⟩, (unannounced_burstProfiles c e).trans ?_⟩ <;>
      subst announced
    exacts [rfl, Device.brx_setBrx_ne _ other, rfl]

end Sys2Proof.Machine

namespace Sys2Proof.Safety

open Sys2Proof.Machine

/-- Settles O24: the load, the pulse and the messages by their cases, and what each leaves alone. -/
theorem burstsArePrepared : Obligations.BurstsArePrepared := by
  unfold Obligations.BurstsArePrepared
  refine ⟨fun t c k ix s hr => ?_, fun t c k ix s hr => ?_, fun t c s hr => ?_⟩
  · refine Makes.intro hr (exec_pegLoad ..) ?_
    generalize s.dev.arrive t = a
    refine ⟨?_, fun i item early => ?_, fun i item rx due => ?_, pegLoad_only ..⟩
    · rintro (none | idle)
      · exact pegLoad_of_no_item _ none
      · cases item : a.item? c.val k ix with
        | none => exact pegLoad_of_no_item _ item
        | some i => rw [pegLoad_of_item _ item, if_neg (by simp [idle])]
    · rw [pegLoad_of_item _ item, if_neg (by omega)]
    · rw [pegLoad_of_item _ item, if_pos ⟨rx, due⟩]
      exact Device.brx_setBrx_same ..
  · refine Makes.intro hr (exec_strobePulse ..) ?_
    generalize s.dev.arrive t = a
    refine ⟨strobePulse_idle _ _, ?_, ?_, ?_, ?_, ?_⟩
    · rintro n rfl none
      exact strobePulse_of_no_item _ none
    · rintro n i rfl item fires
      rw [strobePulse_of_item _ item fires]
      refine ⟨fun grant => ?_, pulse_shows ..⟩
      have leads := pulse_shows c.val (a.strobeLeads c.val (a.slot c.val k) i) (a.wordNs c.val (a.slot c.val k) i i.start) a
      simpa only [Device.strobeLeads, grant] using leads
    · rintro rfl none
      exact strobePulse_of_no_window _ none
    · rintro x l r rfl mapped frame dark before quiet fires
      rw [strobePulse_of_window _ mapped frame dark before quiet fires]
      exact pulse_shows ..
    · obtain same | ⟨lead, start, same⟩ := strobePulse_cases a.now c.val k ix a <;> rw [same]
      exacts [⟨rfl, Kept.refl _ _ _⟩, pulse_only ..]
  · refine Makes.intro hr (exec_burstProfileQueue ..) ?_
    generalize s.dev.arrive t = a
    obtain ⟨others, rest⟩ := burstProfileQueue_only a.now c.val a
    refine ⟨fun off => ?_, fun tree rx => ?_, others, eq_of_unannounced rest⟩
    · rw [burstProfileQueue_off _ off]
      exact ⟨rfl, Device.brx_setBrx_same ..⟩
    · refine ⟨burstProfileQueue_done tree rx _, fun due => ?_⟩
      rw [burstProfileQueue_due tree rx _ due]
      exact ⟨Device.brx_setBrx_same .., waiting_burstProfiles ..⟩

end Sys2Proof.Safety
end

section
/-!
PROOFS. Violations (R216, R217): what one leaves alone, what it counts, and the few readings by which the receiver judges a stamp.
-/

namespace Sys2Proof.Machine

/-! ### What a violation leaves alone -/

/-- Terminals and the count of raised defects, `g` does not see. -/
structure TermBlind {β : Type} (g : Device → β) : Prop where
  defect : ∀ d, g (Device.count 0x1B6 0x870 1 d) = g d
  term : ∀ d x t, g (Device.setTerm x t d) = g d

namespace TermBlind

variable {β : Type} {g : Device → β} (h : TermBlind g) (d : Device) (x : Nat)
include h

theorem raiseDefect (b : Nat) : g (d.raiseDefect x b) = g d := by
  unfold Device.raiseDefect
  split
  · rfl
  · split
    exacts [rfl, (h.defect ..).trans (h.term ..)]

theorem clearDefect (b : Nat) : g (d.clearDefect x b) = g d := by
  unfold Device.clearDefect
  split
  · rfl
  · split
    exacts [h.term .., rfl]

theorem gasp (dg : Bool) : g (d.gasp x dg) = g d := by
  unfold Device.gasp
  split
  exacts [h.raiseDefect .., h.clearDefect ..]

theorem setState (st : Nat) : g (d.setState x st) = g d := by
  unfold Device.setState
  split
  · rfl
  · dsimp only
    split
    exacts [(h.raiseDefect ..).trans (h.term ..), (h.clearDefect ..).trans (h.term ..)]

end TermBlind

/-- What a violation may touch but for its own counter, `g` does not see: the log and its counters, the charges, and what disabling a terminal changes. -/
structure ChargeBlind {β : Type} (g : Device → β) : Prop where
  defect : ∀ d, g (Device.count 0x1B6 0x870 1 d) = g d
  cfr : ∀ d c x, g (Device.setCfr c x d) = g d
  rng : ∀ (d : Device) x, g { d with rng := x } = g d
  logged : ∀ d o n, o ∈ [0x818, 0x820] → g (Device.count 0x000 o n d) = g d
  produced : ∀ d v, g (Device.wr DEV.VLOG_PRODUCED v d) = g d
  vlog : ∀ (d : Device) l, g { d with bursts := { d.bursts with vlog := l } } = g d
  charges : ∀ (d : Device) l, g { d with bursts := { d.bursts with charges := l } } = g d

namespace ChargeBlind

variable {β : Type} {g : Device → β} (h : ChargeBlind g) (d : Device) (c x : Nat)
include h

theorem terms : TermBlind g := ⟨h.defect, fun d _ _ => h.rng d _⟩

theorem gasp (dg : Bool) : g (d.gasp x dg) = g d := h.terms.gasp ..

theorem setState (st : Nat) : g (d.setState x st) = g d := h.terms.setState ..

theorem ploam (m : Ploam) : g (d.ploam c m) = g d := h.cfr d _ _

theorem disableTerm : g (d.disableTerm x) = g d := by
  unfold Device.disableTerm
  split
  · rfl
  · split
    · rfl
    · exact (h.setState ..).trans ((h.rng ..).trans (h.ploam ..))

theorem enableTerm : g (d.enableTerm x) = g d := by
  unfold Device.enableTerm
  split
  · rfl
  · split
    exacts [(h.setState ..).trans (h.ploam ..), rfl]

theorem logEntry (code source port kind answer era : Nat) : g (d.logEntry code source port kind answer era) = g d := by
  unfold Device.logEntry
  dsimp only
  split
  · exact h.vlog d _
  · split
    · exact h.logged d _ _ (by simp)
    · exact (h.logged _ _ _ (by simp)).trans ((h.produced ..).trans (h.vlog d _))

theorem logPon (code source answer : Nat) : g (d.logPon c code source answer) = g d := h.logEntry ..

theorem charge (code : Nat) : g (d.charge c x code) = g d := by
  unfold Device.charge
  extract_lets k blk old n b e lim
  have charged : g e = g d := h.charges d _
  split
  exacts [(h.logPon ..).trans ((h.disableTerm ..).trans charged), charged]

/-- What counting the violation leaves alone, the violation leaves alone. -/
theorem violation {o : Nat} (counted : ∀ d, g (Device.count (chanPage c) o 1 d) = g d) (code answer : Nat) : g (d.violation c x code o answer) = g d := by
  unfold Device.violation
  split
  exacts [(h.charge ..).trans ((h.logPon ..).trans (counted d)), rfl]

theorem overrun (counted : ∀ d, g (Device.count (chanPage c) 0x980 1 d) = g d) (t : Nat) : g (d.overrun c t) = g d := by
  unfold Device.overrun
  split
  · rfl
  · dsimp only
    split
    · rfl
    · split
      exacts [(h.logPon ..).trans (counted d), h.violation d c _ counted ..]

end ChargeBlind

/-! ### What sees no violation -/

section
variable (w n c : Nat)

theorem chargeBlind_brx : ChargeBlind (fun d : Device => d.brx w) :=
  ⟨fun _ => rfl, fun _ _ _ => rfl, fun _ _ => rfl, fun _ _ _ _ => rfl, fun _ _ => rfl, fun _ _ => rfl, fun _ _ => rfl⟩

theorem chargeBlind_peg : ChargeBlind (fun d : Device => d.peg w n) :=
  ⟨fun _ => rfl, fun _ _ _ => rfl, fun _ _ => rfl, fun _ _ _ _ => rfl, fun _ _ => rfl, fun _ _ => rfl, fun _ _ => rfl⟩

theorem chargeBlind_core : ChargeBlind (fun d : Device => d.core) :=
  ⟨fun _ => rfl, fun _ _ _ => rfl, fun _ _ => rfl, fun _ _ _ _ => rfl, fun _ _ => rfl, fun _ _ => rfl, fun _ _ => rfl⟩

theorem chargeBlind_fret : ChargeBlind (fun d : Device => d.fret) :=
  ⟨fun _ => rfl, fun _ _ _ => rfl, fun _ _ => rfl, fun _ _ _ _ => rfl, fun _ _ => rfl, fun _ _ => rfl, fun _ _ => rfl⟩

/-- The parts in which no burst shows. -/
def Device.elsewhere (d : Device) := (d.cells, d.svc, d.pkt, d.hif, d.net, d.mru)

theorem chargeBlind_elsewhere : ChargeBlind Device.elsewhere :=
  ⟨fun _ => rfl, fun _ _ _ => rfl, fun _ _ => rfl, fun _ _ _ _ => rfl, fun _ _ => rfl, fun _ _ => rfl, fun _ _ => rfl⟩

/-- A field of another page than the DEV keeps clear of the log's producer index. -/
theorem fkey_ne_vlogProduced {f : Fld} (h : 0 < f.page) : fkey f ≠ fkey DEV.VLOG_PRODUCED := by
  have : fkey DEV.VLOG_PRODUCED < 0x8000 := by decide
  have : 0x8000 ≤ fkey f := by unfold fkey; omega
  omega

theorem fkeyA_ne_vlogProduced (f : Fld) : fkeyA f ≠ fkey DEV.VLOG_PRODUCED := by
  have : fkey DEV.VLOG_PRODUCED < 0x1000 := by decide
  unfold fkeyA
  omega

theorem chargeBlind_rd {f : Fld} (h : 0 < f.page) : ChargeBlind (fun d : Device => d.rd f) :=
  ⟨fun _ => rfl, fun _ _ _ => rfl, fun _ _ => rfl, fun _ _ _ _ => rfl, fun d v => d.rd_wr_ne v (fkey_ne_vlogProduced h), fun _ _ => rfl, fun _ _ => rfl⟩

theorem chargeBlind_rdA (f : Fld) : ChargeBlind (fun d : Device => d.rdA f) :=
  ⟨fun _ => rfl, fun _ _ _ => rfl, fun _ _ => rfl, fun _ _ _ _ => rfl, fun d v => d.rdA_wr_ne v (fkeyA_ne_vlogProduced f), fun _ _ => rfl, fun _ _ => rfl⟩

/-- Counters of a channel's page keep clear of those that a violation may count beside its own. -/
theorem chanCtr_ne {o p r : Nat} (small : o < 0x1000) (small' : r < 0x1000) (h : r ≠ o) : ctrKey (chanPage c) o ≠ ctrKey p r := by
  unfold ctrKey
  omega

theorem chargeBlind_ctr {o : Nat} (small : o < 0x1000) (h : o ∉ [0x818, 0x820, 0x870]) : ChargeBlind (fun d : Device => d.ctr (chanPage c) o) := by
  simp only [List.mem_cons, List.not_mem_nil, or_false, not_or] at h
  obtain ⟨written, full, raised⟩ := h
  refine ⟨fun d => d.ctr_count_ne 1 (chanCtr_ne c small (by decide) (Ne.symm raised)), fun _ _ _ => rfl, fun _ _ => rfl, fun d r n hr => d.ctr_count_ne n ?_,
    fun _ _ => rfl, fun _ _ => rfl, fun _ _ => rfl⟩
  simp only [List.mem_cons, List.not_mem_nil, or_false] at hr
  exact chanCtr_ne c small (by omega) (by omega)

end

/-- A violation that is detected counts. -/
theorem violation_counts {o : Nat} (c x code answer : Nat) {d : Device} (detects : d.detects = true) (small : o < 0x1000) (h : o ∉ [0x818, 0x820, 0x870]) :
    (d.violation c x code o answer).ctr (chanPage c) o = (d.ctr (chanPage c) o + 1) % 2 ^ 64 := by
  have blind := chargeBlind_ctr c small h
  unfold Device.violation
  rw [if_pos detects]
  exact (blind.charge ..).trans ((blind.logPon ..).trans (d.ctr_count_same ..))

theorem violation_undetected (c x code o answer : Nat) {d : Device} (h : d.detects = false) : d.violation c x code o answer = d := if_neg (by simp [h])

/-! ### The readings by which a stamp is judged -/

/-- The registers by which the receiver of a tree's channel judges a stamp (R134, R167, R168, R656). -/
structure Gauge where
  offset : Nat
  delay : Nat
  tolerance : Nat
  lateSpan : Nat
  capo : Nat

/-- Those registers as they read. -/
def Device.gauge (t : Nat) (d : Device) : Gauge :=
  ⟨d.rd (TPE.OFFSET_NS t), d.rd (GEN.UPF_DELAY_NS t), d.rdA GEN.ARRIVAL_TOL_NS, d.rdA GEN.LATE_SPAN_NS, d.rd MRU.CAPO⟩

theorem chargeBlind_gauge (t : Nat) : ChargeBlind (Device.gauge t) := by
  refine ⟨fun _ => rfl, fun _ _ _ => rfl, fun _ _ => rfl, fun _ _ _ _ => rfl, fun d v => ?_, fun _ _ => rfl, fun _ _ => rfl⟩
  unfold Device.gauge
  rw [d.rd_wr_ne v (fkey_ne_vlogProduced (Nat.add_pos_left (by decide) _)), d.rd_wr_ne v (fkey_ne_vlogProduced (Nat.succ_pos _)), d.rdA_wr_ne v (fkeyA_ne_vlogProduced _),
    d.rdA_wr_ne v (fkeyA_ne_vlogProduced _), d.rd_wr_ne v (fkey_ne_vlogProduced (Nat.succ_pos _))]

section
variable {a b : Device} {c : Nat}

theorem gauge_eq_iff {t : Nat} : b.gauge t = a.gauge t ↔ b.rd (TPE.OFFSET_NS t) = a.rd (TPE.OFFSET_NS t) ∧ b.rd (GEN.UPF_DELAY_NS t) = a.rd (GEN.UPF_DELAY_NS t) ∧
    b.rdA GEN.ARRIVAL_TOL_NS = a.rdA GEN.ARRIVAL_TOL_NS ∧ b.rdA GEN.LATE_SPAN_NS = a.rdA GEN.LATE_SPAN_NS ∧ b.rd MRU.CAPO = a.rd MRU.CAPO := by
  simp [Device.gauge]

variable (h : b.gauge (treeOf c) = a.gauge (treeOf c))
include h

theorem detects_of_gauge : b.detects = a.detects := by
  obtain ⟨-, -, -, -, capo⟩ := gauge_eq_iff.1 h
  simp only [Device.detects, Device.capo, Device.on, capo]

theorem slotUpf_of_gauge (s : Slot) : b.slotUpf c s = a.slotUpf c s := by
  obtain ⟨offset, -⟩ := gauge_eq_iff.1 h
  simp only [Device.slotUpf, Device.treeFrameStart, offset]

theorem windowX_of_gauge (s : Slot) (i : Item) : b.windowX c s i = a.windowX c s i := by
  obtain ⟨offset, -, tolerance, -⟩ := gauge_eq_iff.1 h
  simp only [Device.windowX, Device.expectX, Device.wordAtX, slotUpf_of_gauge h, Device.treeFrameStart, offset, tolerance]

theorem suspension_of_gauge (t : Nat) (s : Slot) (i : Item) : b.suspension c t s i = a.suspension c t s i := by
  simp only [Device.suspension, windowX_of_gauge h, Device.wordNsUp, slotUpf_of_gauge h]

theorem addDelim_of_gauge (x : Delim) (s : Slot) : b.addDelim c x s = a.addDelim c x s := by
  obtain ⟨-, -, -, late, -⟩ := gauge_eq_iff.1 h
  simp only [Device.addDelim, windowX_of_gauge h, late]

theorem upFrame_of_gauge (t : Nat) : b.upFrame (treeOf c) t = a.upFrame (treeOf c) t := by
  obtain ⟨offset, delay, -⟩ := gauge_eq_iff.1 h
  simp only [Device.upFrame, offset, delay]

variable (same : b.fret = a.fret)
include same

theorem matchWindow_of_gauge (t : Nat) : b.matchWindow c t = a.matchWindow c t := by
  simp only [Device.matchWindow, Device.ringSlots, same, windowX_of_gauge h]

theorem isLate_of_gauge (t x : Nat) : b.isLate c t x = a.isLate c t x := by
  obtain ⟨-, -, -, late, -⟩ := gauge_eq_iff.1 h
  simp only [Device.isLate, Device.ringSlots, same, windowX_of_gauge h, late]

theorem inUnmapped_of_gauge (t : Nat) : b.inUnmapped c t = a.inUnmapped c t := by
  simp only [Device.inUnmapped, Device.ringSlots, same, upFrame_of_gauge h]

end

end Sys2Proof.Machine
end

section
/-!
PROOFS. Delimiters (R198 to R200, R216, R542): what an accepted header counts, where it is kept and whom it is charged to, and the statement
`Obligations.DelimitersAreAccepted`.
-/

namespace Sys2Proof.Tbl

/-- What a table reads after its values were changed key by key. -/
theorem get?_mapKey {α : Type} (g : Nat → α → α) (t : Tbl α) (k : Nat) : get? (t.map fun p => (p.1, g p.1 p.2)) k = (get? t k).map (g k) := by
  induction t with
  | nil => rfl
  | cons p r ih =>
    obtain ⟨j, v⟩ := p
    simp only [List.map_cons, get?]
    split
    · rename_i e
      rw [e]
      rfl
    · exact ih

end Sys2Proof.Tbl

namespace Sys2Proof.Machine

open Sys2Proof.Safety

/-! ### The delimiter on the items -/

/-- The slots of a device in which the maps that channel `c` holds know a delimiter (R199). -/
def Device.delimSlots (c : Nat) (x : Delim) (d : Device) : Tbl Slot :=
  d.fret.slots.map (fun q => if q.1 / 8 = c ∧ Slot.holds q.2 then (q.1, d.addDelim c x q.2) else q)

/-- The device with the delimiter on its items, and kept by a standby (R199, R526). -/
def Device.noteDelim (c : Nat) (x : Delim) (d : Device) : Device := ({ d with fret := { d.fret with slots := d.delimSlots c x } }).keepBurst c x

section
variable {d : Device} {c w n : Nat} {x : Delim}

theorem get?_delimSlots (c : Nat) (x : Delim) (d : Device) (k : Nat) : Tbl.get? (d.delimSlots c x) k =
    (Tbl.get? d.fret.slots k).map fun s => if k / 8 = c ∧ Slot.holds s then d.addDelim c x s else s := by
  rw [← Tbl.get?_mapKey (fun k s => if k / 8 = c ∧ Slot.holds s then d.addDelim c x s else s)]
  unfold Device.delimSlots
  congr 1
  refine List.map_congr_left fun q _ => ?_
  split <;> rfl

theorem getD_delimSlots (c : Nat) (x : Delim) (d : Device) (k : Nat) : Tbl.getD (d.delimSlots c x) k {} =
    if k / 8 = c ∧ Slot.holds (Tbl.getD d.fret.slots k {}) then d.addDelim c x (Tbl.getD d.fret.slots k {}) else Tbl.getD d.fret.slots k {} := by
  unfold Tbl.getD
  rw [get?_delimSlots]
  cases Tbl.get? d.fret.slots k with
  | none => simp [Slot.holds]
  | some s => rfl

theorem keepBurst_eq (c : Nat) (x : Delim) (d : Device) : d.keepBurst c x = { d with bursts := { d.bursts with kept := (d.keepBurst c x).bursts.kept } } := by
  unfold Device.keepBurst
  split <;> rfl

theorem noteDelim_eq (c : Nat) (x : Delim) (d : Device) : d.noteDelim c x =
    { d with fret := { d.fret with slots := d.delimSlots c x }, bursts := { d.bursts with kept := (d.noteDelim c x).bursts.kept } } :=
  keepBurst_eq ..

theorem slot_noteDelim (c : Nat) (x : Delim) (d : Device) (w n : Nat) : (d.noteDelim c x).slot w n =
    if w = c ∧ Slot.holds (d.slot w n) then d.addDelim c x (d.slot w n) else d.slot w n := by
  rw [noteDelim_eq]
  have chan : slotKey w n / 8 = w := by unfold slotKey; omega
  have read := getD_delimSlots c x d (slotKey w n)
  rw [chan] at read
  exact read

/-- A delimiter leaves it open of which frame a slot's map is, and whether it holds one. -/
theorem ringSlots_noteDelim (c : Nat) (x : Delim) (d : Device) :
    ((d.noteDelim c x).ringSlots c).map (fun s => (s.mapped, s.frame)) = (d.ringSlots c).map (fun s => (s.mapped, s.frame)) := by
  rw [noteDelim_eq]
  unfold Device.ringSlots
  simp only [List.map_map]
  refine List.map_congr_left fun n _ => ?_
  simp only [Function.comp, getD_delimSlots]
  split <;> rfl

end

section
variable {a b : Device} {c : Nat}

theorem inUnmapped_of_ring (h : b.gauge (treeOf c) = a.gauge (treeOf c)) (first : b.fret.firstOwn = a.fret.firstOwn) (took : b.fret.took = a.fret.took)
    (ring : (b.ringSlots c).map (fun s => (s.mapped, s.frame)) = (a.ringSlots c).map (fun s => (s.mapped, s.frame))) (t : Nat) :
    b.inUnmapped c t = a.inUnmapped c t := by
  have same (q : Bool × Nat → Bool) : (b.ringSlots c).any (fun s => q (s.mapped, s.frame)) = (a.ringSlots c).any (fun s => q (s.mapped, s.frame)) := by
    have anys := congrArg (·.any q) ring
    simp only [List.any_map] at anys
    exact anys
  unfold Device.inUnmapped
  simp only [first, took, upFrame_of_gauge h]
  exact congrArg (fun r => _ && !r) (same fun p =>
    p.1 && !(match Tbl.get? a.fret.firstOwn c with | some g => decide (g ≤ p.2) | none => false) && decide (a.upFrame (treeOf c) t ≤ p.2))

end

/-! ### DELIMITER_ACCEPT -/

/-- Whether an item is a discovery grant. -/
def Item.isDisc (i : Item) : Bool := match i.kind with | .discovery _ _ => true | _ => false

theorem isDisc_hit (hit : Option (Slot × Item)) : (match hit with | some (_, i) => (match i.kind with | .discovery _ _ => true | _ => false) | none => false) =
    hit.any (fun p => Item.isDisc p.2) := by
  cases hit <;> rfl

/-- Whether a candidate is ignored (R191, R198, R200). -/
def Device.ignores (t c errs : Nat) (d : Device) : Prop :=
  d.receiving c = false ∨ (d.brx c).light = false ∨ d.rdA (CH.DELIM_MAX_ERR c) < errs ∨ Brx.suspended (d.brx c) t = true

/-- A header that can be read is counted, after an overrun of the burst before it (R199, R216). -/
def Device.headerCounted (t c : Nat) (hec : Hec) (d : Device) : Device :=
  ((d.overrun c t).count (chanPage c) 0x900 1).countIf (decide (hec = .corrected)) (chanPage c) 0x910

/-- The device once the items know the delimiter `x`, and its terminal's dying gasp is heard where it is no answer to a discovery. -/
def Device.delimHeard (t c : Nat) (hec : Hec) (dg : Bool) (x : Delim) (d : Device) : Device :=
  (if ((d.headerCounted t c hec).matchWindow c t).any (fun p => Item.isDisc p.2) then d.headerCounted t c hec
    else (d.headerCounted t c hec).gasp x.term dg).noteDelim c x

/-- What the receiver remembers of a burst stamped `t`: the terminal of the window it hit, and until when the search rests (R200). -/
def Device.attributed (t c : Nat) (hit : Option (Slot × Item)) (d : Device) : Brx :=
  match hit with
  | some (s, i) => { d.brx c with identified := true, lastTerm := some i.term, suspend := d.suspension c t s i }
  | none => { d.brx c with identified := true, lastTerm := none, suspendDark := true }

/-- The violation a burst of terminal `x` stamped `t` comes to, with its counter (R216). -/
def Device.blame (t c x : Nat) (hit : Option (Slot × Item)) (late : Bool) (d : Device) : Option (Nat × Nat) :=
  match hit with
  | some (_, i) => if Item.isDisc i || decide (i.term = x) then none else some (0x09, 0x9C8)
  | none => if late || d.inUnmapped c t then none else some (0x01, 0x968)

section
variable {t c errs n : Nat} {hec : Hec} {dg sn : Bool} {d : Device}

theorem delimiterAccept_ignored (h : d.ignores t c errs) : delimiterAccept t c errs hec n dg sn d = d := by
  unfold delimiterAccept
  exact if_pos (by simpa [Device.ignores, or_assoc] using h)

section
variable (heeded : ¬ d.ignores t c errs)
include heeded

theorem delimiterAccept_bad : delimiterAccept t c errs .bad n dg sn d = d.count (chanPage c) 0x908 1 := by
  unfold delimiterAccept
  exact (if_neg (by simpa [Device.ignores, or_assoc] using heeded)).trans (if_pos rfl)

theorem delimiterAccept_good (good : hec ≠ .bad) : delimiterAccept t c errs hec n dg sn d =
    let x := 512 * treeOf c + n
    let e := d.headerCounted t c hec
    let f := d.delimHeard t c hec dg ⟨t, x, decide (hec = .clean), sn⟩
    (f.setBrx c (f.attributed t c (e.matchWindow c t))).whenSome (f.blame t c x (e.matchWindow c t) (e.isLate c t x))
      (fun v d => d.violation c x v.1 v.2 0) := by
  unfold delimiterAccept
  refine (if_neg (by simpa [Device.ignores, or_assoc] using heeded)).trans ((if_neg good).trans ?_)
  extract_lets x e hit late disc gasped dl slots held f b missed e' f'
  have discovery : disc = hit.any (fun p => Item.isDisc p.2) := isDisc_hit hit
  have heard : f = f' := by
    change gasped.noteDelim c dl = f'
    unfold f' Device.delimHeard gasped
    rw [discovery]
    rfl
  change _ = (f'.setBrx c (f'.attributed t c hit)).whenSome (f'.blame t c x hit late) (fun v d => d.violation c x v.1 v.2 0)
  rw [← heard]
  unfold missed b
  clear_value hit disc late f
  subst discovery
  cases hit with
  | none =>
    simp only [Device.attributed, Device.blame]
    split
    · rw [if_pos (by assumption)]
      rfl
    · rw [if_neg (by assumption)]
      rfl
  | some p =>
    obtain ⟨s, i⟩ := p
    simp only [Device.attributed, Device.blame, Option.any_some]
    split
    · rfl
    · rfl

end

/-! ### What a readable header leaves alone -/

theorem ChargeBlind.headerCounted {β : Type} {g : Device → β} (h : ChargeBlind g) (counted : ∀ o ∈ [0x980, 0x900, 0x910], ∀ d, g (Device.count (chanPage c) o 1 d) = g d)
    (t : Nat) (hec : Hec) (d : Device) : g (d.headerCounted t c hec) = g d := by
  have overran := h.overrun d c (counted _ (by simp)) t
  unfold Device.headerCounted Device.countIf
  split
  · exact (counted _ (by simp) _).trans ((counted _ (by simp) _).trans overran)
  · exact (counted _ (by simp) _).trans overran

theorem ChargeBlind.delimHeard {β : Type} {g : Device → β} (h : ChargeBlind g) (noted : ∀ x d, g (Device.noteDelim c x d) = g d) (x : Delim) (d : Device) :
    g (d.delimHeard t c hec dg x) = g (d.headerCounted t c hec) := by
  unfold Device.delimHeard
  rw [noted]
  split
  exacts [rfl, h.gasp ..]

theorem blame_code {x : Nat} {hit : Option (Slot × Item)} {late : Bool} {v : Nat × Nat} (h : d.blame t c x hit late = some v) : v.2 ∈ [0x9C8, 0x968] := by
  unfold Device.blame at h
  split at h <;> split at h
  · cases h
  · cases h
    simp
  · cases h
  · cases h
    simp

theorem ChargeBlind.blamed {β : Type} {g : Device → β} (h : ChargeBlind g) (counted : ∀ o ∈ [0x9C8, 0x968], ∀ d, g (Device.count (chanPage c) o 1 d) = g d)
    (e : Device) (x y : Nat) (hit : Option (Slot × Item)) (late : Bool) :
    g (d.whenSome (e.blame t c x hit late) (fun v d => d.violation c y v.1 v.2 0)) = g d := by
  unfold Device.whenSome
  split
  · rename_i v blamed
    exact h.violation d c y (counted _ (blame_code blamed)) ..
  · rfl

theorem gauge_headerCounted (k : Nat) (d : Device) : (d.headerCounted t c hec).gauge k = d.gauge k :=
  (chargeBlind_gauge k).headerCounted (fun _ _ _ => rfl) ..

theorem fret_headerCounted (d : Device) : (d.headerCounted t c hec).fret = d.fret := chargeBlind_fret.headerCounted (fun _ _ _ => rfl) ..

theorem gauge_noteDelim (k c : Nat) (x : Delim) (d : Device) : (d.noteDelim c x).gauge k = d.gauge k := by
  rw [noteDelim_eq]
  rfl

theorem gauge_delimHeard (k : Nat) (x : Delim) (d : Device) : (d.delimHeard t c hec dg x).gauge k = d.gauge k :=
  ((chargeBlind_gauge k).delimHeard (fun x d => gauge_noteDelim k c x d) x d).trans (gauge_headerCounted ..)

theorem brx_noteDelim (w c : Nat) (x : Delim) (d : Device) : (d.noteDelim c x).brx w = d.brx w := by
  rw [noteDelim_eq]
  rfl

theorem brx_delimHeard (w : Nat) (x : Delim) (d : Device) : (d.delimHeard t c hec dg x).brx w = d.brx w :=
  ((chargeBlind_brx w).delimHeard (fun x d => brx_noteDelim w c x d) x d).trans ((chargeBlind_brx w).headerCounted (fun _ _ _ => rfl) ..)

theorem elsewhere_delimHeard (x : Delim) (d : Device) : (d.delimHeard t c hec dg x).elsewhere = d.elsewhere :=
  (chargeBlind_elsewhere.delimHeard (fun x d => by rw [noteDelim_eq]; rfl) x d).trans (chargeBlind_elsewhere.headerCounted (fun _ _ _ => rfl) ..)

theorem ctr_delimHeard {o : Nat} (small : o < 0x1000) (h : o ∉ [0x818, 0x820, 0x870]) (x : Delim) (d : Device) :
    (d.delimHeard t c hec dg x).ctr (chanPage c) o = (d.headerCounted t c hec).ctr (chanPage c) o :=
  (chargeBlind_ctr c small h).delimHeard (fun x d => by rw [noteDelim_eq]; rfl) x d

/-- The device before the delimiter is noted, its terminal's dying gasp heard. -/
theorem delimHeard_eq (x : Delim) (d : Device) : ∃ e : Device, d.delimHeard t c hec dg x = e.noteDelim c x ∧ e.fret = d.fret ∧ ∀ k, e.gauge k = d.gauge k := by
  refine ⟨_, rfl, ?_, fun k => ?_⟩ <;> split
  exacts [fret_headerCounted _, (chargeBlind_fret.gasp ..).trans (fret_headerCounted _), gauge_headerCounted .., ((chargeBlind_gauge k).gasp ..).trans (gauge_headerCounted ..)]

theorem slot_delimHeard (x : Delim) (w k : Nat) (d : Device) : (d.delimHeard t c hec dg x).slot w k =
    if w = c ∧ Slot.holds (d.slot w k) then d.addDelim c x (d.slot w k) else d.slot w k := by
  obtain ⟨e, heard, fret, gauge⟩ := delimHeard_eq (t := t) (c := c) (hec := hec) (dg := dg) x d
  have slot : e.slot w k = d.slot w k := congrArg (fun f : Fret => Tbl.getD f.slots (slotKey w k) {}) fret
  rw [heard, slot_noteDelim, slot, addDelim_of_gauge (gauge _)]

theorem inUnmapped_delimHeard (x : Delim) (d : Device) (u : Nat) : (d.delimHeard t c hec dg x).inUnmapped c u = d.inUnmapped c u := by
  obtain ⟨e, heard, fret, gauge⟩ := delimHeard_eq (t := t) (c := c) (hec := hec) (dg := dg) x d
  rw [heard, inUnmapped_of_ring (gauge_noteDelim _ c x e) (by rw [noteDelim_eq]) (by rw [noteDelim_eq]) (ringSlots_noteDelim c x e) u,
    inUnmapped_of_gauge (gauge _) fret]

theorem attributed_delimHeard (x : Delim) (hit : Option (Slot × Item)) (d : Device) : (d.delimHeard t c hec dg x).attributed t c hit = d.attributed t c hit := by
  unfold Device.attributed
  simp only [brx_delimHeard, suspension_of_gauge (gauge_delimHeard _ x d)]

theorem blame_delimHeard (x : Delim) (y : Nat) (hit : Option (Slot × Item)) (late : Bool) (d : Device) :
    (d.delimHeard t c hec dg x).blame t c y hit late = d.blame t c y hit late := by
  unfold Device.blame
  simp only [inUnmapped_delimHeard]

/-- The delimiter that DELIMITER_ACCEPT notes. -/
def delimOf (t c : Nat) (hec : Hec) (n : Nat) (sn : Bool) : Delim := ⟨t, 512 * treeOf c + n, decide (hec = .clean), sn⟩

/-- A readable header is heard, remembered by the window that holds its stamp, and charged where it belongs to no terminal's window or span. -/
theorem delimiterAccept_heard (heeded : ¬ d.ignores t c errs) (good : hec ≠ .bad) : delimiterAccept t c errs hec n dg sn d =
    ((d.delimHeard t c hec dg (delimOf t c hec n sn)).setBrx c (d.attributed t c (d.matchWindow c t))).whenSome
      (d.blame t c (512 * treeOf c + n) (d.matchWindow c t) (d.isLate c t (512 * treeOf c + n))) (fun v d => d.violation c (512 * treeOf c + n) v.1 v.2 0) := by
  rw [delimiterAccept_good heeded good]
  dsimp only
  rw [attributed_delimHeard, blame_delimHeard, matchWindow_of_gauge (gauge_headerCounted ..) (fret_headerCounted d),
    isLate_of_gauge (gauge_headerCounted ..) (fret_headerCounted d)]
  rfl

theorem headerCounted_counts (hec : Hec) (d : Device) : let b := d.headerCounted t c hec
    Counts (chanPage c) 0x900 1 d b ∧ (if hec = .corrected then Counts (chanPage c) 0x910 1 d b else b.ctr (chanPage c) 0x910 = d.ctr (chanPage c) 0x910) := by
  have overran {o : Nat} (small : o < 0x1000) (h : o ∉ [0x818, 0x820, 0x870]) (other : o ≠ 0x980) : (d.overrun c t).ctr (chanPage c) o = d.ctr (chanPage c) o :=
    (chargeBlind_ctr c small h).overrun d c (fun e => e.ctr_count_ne 1 (chanCtr_ne c small (by decide) (Ne.symm other))) t
  have bursts : ((d.overrun c t).count (chanPage c) 0x900 1).ctr (chanPage c) 0x900 = (d.ctr (chanPage c) 0x900 + 1) % 2 ^ 64 := by
    rw [Device.ctr_count_same, overran (by decide) (by decide) (by decide)]
  have corrected : ((d.overrun c t).count (chanPage c) 0x900 1).ctr (chanPage c) 0x910 = d.ctr (chanPage c) 0x910 := by
    rw [Device.ctr_count_ne _ _ (chanCtr_ne c (by decide) (by decide) (by decide)), overran (by decide) (by decide) (by decide)]
  unfold Device.headerCounted Device.countIf Counts
  by_cases h : hec = .corrected
  · simp only [h, decide_true, if_true]
    exact ⟨(Device.ctr_count_ne _ _ (chanCtr_ne c (by decide) (by decide) (by decide))).trans bursts, (Device.ctr_count_same ..).trans (by rw [corrected])⟩
  · simp only [h, decide_false, Bool.false_eq_true, if_false]
    exact ⟨bursts, corrected⟩

/-- A violation's counter stands as it was until the violation is counted. -/
theorem ctr_unblamed {o : Nat} (h : o ∈ [0x9C8, 0x968]) (x : Delim) (d : Device) :
    (d.delimHeard t c hec dg x).ctr (chanPage c) o = d.ctr (chanPage c) o := by
  have small : o < 0x1000 := by simp at h; omega
  have apart : o ∉ [0x818, 0x820, 0x870] := by simp at h ⊢; omega
  refine (ctr_delimHeard small apart x d).trans ((chargeBlind_ctr c small apart).headerCounted (fun r hr e => e.ctr_count_ne 1 ?_) ..)
  refine chanCtr_ne c small ?_ ?_ <;> simp at h hr <;> omega

theorem detects_setBrx (c : Nat) (x : Brx) (d : Device) : (d.setBrx c x).detects = d.detects := rfl

/-- What no violation touches: what DELIMITER_ACCEPT makes of it, it makes as it notes the delimiter and remembers the terminal. -/
theorem ChargeBlind.accepted {β : Type} {g : Device → β} (h : ChargeBlind g) (counted : ∀ o ∈ [0x9C8, 0x968], ∀ d, g (Device.count (chanPage c) o 1 d) = g d)
    (heeded : ¬ d.ignores t c errs) (good : hec ≠ .bad) : g (delimiterAccept t c errs hec n dg sn d) =
      g ((d.delimHeard t c hec dg (delimOf t c hec n sn)).setBrx c (d.attributed t c (d.matchWindow c t))) := by
  rw [delimiterAccept_heard heeded good]
  exact h.blamed counted ..

theorem ChargeBlind.accepted_past_brx {β : Type} {g : Device → β} (h : ChargeBlind g)
    (counted : ∀ o ∈ [0x9C8, 0x968], ∀ d, g (Device.count (chanPage c) o 1 d) = g d) (brx : ∀ x d, g (Device.setBrx c x d) = g d)
    (heeded : ¬ d.ignores t c errs) (good : hec ≠ .bad) : g (delimiterAccept t c errs hec n dg sn d) = g (d.delimHeard t c hec dg (delimOf t c hec n sn)) :=
  (h.accepted counted heeded good).trans (brx ..)

section
variable (heeded : ¬ d.ignores t c errs) (good : hec ≠ .bad)
include heeded good

theorem accepted_counts : let b := delimiterAccept t c errs hec n dg sn d
    Counts (chanPage c) 0x900 1 d b ∧ (if hec = .corrected then Counts (chanPage c) 0x910 1 d b else b.ctr (chanPage c) 0x910 = d.ctr (chanPage c) 0x910) := by
  have past {o : Nat} (small : o < 0x1000) (apart : o ∉ [0x818, 0x820, 0x870]) (other : o ∉ [0x9C8, 0x968]) :
      (delimiterAccept t c errs hec n dg sn d).ctr (chanPage c) o = (d.headerCounted t c hec).ctr (chanPage c) o :=
    ((chargeBlind_ctr c small apart).accepted_past_brx
      (fun r hr e => e.ctr_count_ne 1 (chanCtr_ne c small (by simp at hr; omega) (fun same => other (same ▸ hr)))) (fun _ _ => rfl) heeded good).trans (ctr_delimHeard small apart _ d)
  have counted := headerCounted_counts (t := t) (c := c) hec d
  unfold Counts at counted ⊢
  dsimp only at counted ⊢
  rw [past (by decide) (by decide) (by decide), past (by decide) (by decide) (by decide)]
  exact counted

theorem accepted_brx : (delimiterAccept t c errs hec n dg sn d).brx c = d.attributed t c (d.matchWindow c t) :=
  ((chargeBlind_brx c).accepted (fun _ _ _ => rfl) heeded good).trans (Device.brx_setBrx_same ..)

theorem accepted_brx_ne {w : Nat} (other : w ≠ c) : (delimiterAccept t c errs hec n dg sn d).brx w = d.brx w :=
  ((chargeBlind_brx w).accepted (fun _ _ _ => rfl) heeded good).trans ((Device.brx_setBrx_ne _ other).trans (brx_delimHeard ..))

theorem accepted_slot (w k : Nat) : (delimiterAccept t c errs hec n dg sn d).slot w k =
    if w = c ∧ Slot.holds (d.slot w k) then d.addDelim c (delimOf t c hec n sn) (d.slot w k) else d.slot w k :=
  (congrArg (fun f : Fret => Tbl.getD f.slots (slotKey w k) {})
    (chargeBlind_fret.accepted_past_brx (fun _ _ _ => rfl) (fun _ _ => rfl) heeded good)).trans (slot_delimHeard ..)

theorem accepted_elsewhere : (delimiterAccept t c errs hec n dg sn d).elsewhere = d.elsewhere :=
  (chargeBlind_elsewhere.accepted_past_brx (fun _ _ _ => rfl) (fun _ _ => rfl) heeded good).trans (elsewhere_delimHeard ..)

/-- A violation's counter: it counts where the burst is charged with that violation by a device that detects it, and else stands. -/
theorem accepted_blame {o : Nat} (h : o ∈ [0x9C8, 0x968]) : let b := delimiterAccept t c errs hec n dg sn d
    let blamed := d.blame t c (512 * treeOf c + n) (d.matchWindow c t) (d.isLate c t (512 * treeOf c + n))
    (∀ code, blamed = some (code, o) → d.detects = true → Counts (chanPage c) o 1 d b) ∧
    (blamed = none ∨ d.detects = false → b.ctr (chanPage c) o = d.ctr (chanPage c) o) := by
  have small : o < 0x1000 := by simp at h; omega
  have apart : o ∉ [0x818, 0x820, 0x870] := by simp at h ⊢; omega
  have before := ctr_unblamed (t := t) (c := c) (hec := hec) (dg := dg) h (delimOf t c hec n sn) d
  dsimp only
  rw [delimiterAccept_heard heeded good]
  generalize heard : (d.delimHeard t c hec dg (delimOf t c hec n sn)).setBrx c (d.attributed t c (d.matchWindow c t)) = e
  have detects : e.detects = d.detects := by
    rw [← heard, detects_setBrx]
    exact detects_of_gauge (c := c) (gauge_delimHeard (treeOf c) _ d)
  have stands : e.ctr (chanPage c) o = d.ctr (chanPage c) o := by
    rw [← heard, Device.setBrx_ctr, before]
  refine ⟨fun code blamed does => ?_, fun spared => ?_⟩
  · rw [blamed]
    exact (violation_counts c _ code 0 (detects.trans does) small apart).trans (by rw [stands])
  · refine Eq.trans ?_ stands
    obtain none | undetected := spared
    · rw [none]
      rfl
    · unfold Device.whenSome
      split
      · exact congrArg (fun d : Device => d.ctr (chanPage c) o) (violation_undetected _ _ _ _ _ (detects.trans undetected))
      · rfl

end

end

end Sys2Proof.Machine

namespace Sys2Proof.Safety

open Sys2Proof.Machine

/-- Settles O25: an ignored candidate, a bad header, and a readable one by the window that holds its stamp. -/
theorem delimitersAreAccepted : Obligations.DelimitersAreAccepted := by
  unfold Obligations.DelimitersAreAccepted
  intro t c errs hec n dg sn s hr
  refine Makes.intro hr (exec_delimiterAccept ..) ?_
  generalize s.dev.arrive t = a
  refine ⟨delimiterAccept_ignored, ?_, fun heeded good => ?_, ?_⟩
  · rintro heeded rfl
    rw [delimiterAccept_bad heeded]
    exact ⟨a.ctr_count_same .., (Only.refl _ _ a).count _ (List.mem_cons_self ..)⟩
  · obtain ⟨bursts, corrected⟩ := accepted_counts (n := n.val) (dg := dg) (sn := sn) heeded good
    have brx := accepted_brx (n := n.val) (dg := dg) (sn := sn) heeded good
    refine ⟨bursts, corrected, ?_, fun k holds => (accepted_slot heeded good c.val k).trans (if_pos ⟨rfl, holds⟩), fun m i hit => ?_, fun missed => ?_⟩
    · rw [brx]
      unfold Device.attributed
      split <;> rfl
    · obtain ⟨counts, stands⟩ := accepted_blame (n := n.val) (dg := dg) (sn := sn) heeded good (o := 0x9C8) (by simp)
      rw [hit] at brx counts stands
      rw [brx]
      refine ⟨rfl, rfl, fun grant other detects => counts 0x09 ?_ detects, fun spared => stands (spared.imp_left fun own => ?_)⟩
      · simp [Device.blame, Item.isDisc, grant, other]
      · simp [Device.blame, own]
    · obtain ⟨counts, stands⟩ := accepted_blame (n := n.val) (dg := dg) (sn := sn) heeded good (o := 0x968) (by simp)
      rw [missed] at brx counts stands
      rw [brx]
      refine ⟨rfl, rfl, ?_⟩
      split
      · rename_i astray
        obtain ⟨early, mapped, detects⟩ := astray
        exact counts 0x01 (by simp [Device.blame, early, mapped]) detects
      · rename_i spared
        refine stands ?_
        cases detects : a.detects with
        | false => exact .inr rfl
        | true =>
          refine .inl (if_pos ?_)
          simp only [detects, and_true, not_and, Bool.not_eq_false] at spared
          rw [Bool.or_eq_true, or_iff_not_imp_left, Bool.not_eq_true]
          exact spared
  · by_cases ignored : a.ignores a.now c.val errs
    · rw [delimiterAccept_ignored ignored]
      exact ⟨fun _ _ => ⟨rfl, fun _ => rfl⟩, rfl, rfl, rfl, rfl, rfl, rfl⟩
    · by_cases bad : hec = .bad
      · rw [bad, delimiterAccept_bad ignored]
        exact ⟨fun _ _ => ⟨rfl, fun _ => rfl⟩, rfl, rfl, rfl, rfl, rfl, rfl⟩
      · refine ⟨fun w other => ⟨accepted_brx_ne ignored bad other, fun k => (accepted_slot ignored bad w k).trans (if_neg fun own => other own.1)⟩, ?_⟩
        simpa [Device.elsewhere] using accepted_elsewhere (n := n.val) (dg := dg) (sn := sn) ignored bad

end Sys2Proof.Safety
end

section
/-!
PROOFS. Why `Obligations.LightIsWatched` fails: of an upstream frame that is not loud it says that code 0x02 counts 0, which makes the counter's value that
value modulo two to the 64; but the counter is left alone, and no premise keeps it below two to the 64.
-/

namespace Sys2Proof.Safety

open Sys2Proof.Machine

/-- Channel 0 receives, and its count of loud frames stands past the 64 bits of a counter. -/
def overloud : State := { dev := { regs := [(fkey (CH.CH_EN 0), 1), (fkey (CH.RX_EN 0), 1)], ctrs := [(ctrKey (chanPage 0) 0x970, 2 ^ 64)] } }

theorem overloud_receives : (overloud.dev.arrive 0).receiving 0 = true := by decide

/-- No light was seen, so that the frame is not loud. -/
theorem overloud_dark : ((overloud.dev.arrive 0).brx 0).light = false ∧ ((overloud.dev.arrive 0).brx 0).outside = 0 := by decide

theorem overloud_before : (overloud.dev.arrive 0).ctr (chanPage 0) 0x970 = 2 ^ 64 := by decide

/-- The end of a frame that is not loud leaves the count alone. -/
theorem overloud_after : (upstreamFrameEnd (overloud.dev.arrive 0).now 0 0 (overloud.dev.arrive 0)).ctr (chanPage 0) 0x970 = 2 ^ 64 := by decide

/-- Refutes O26: where channel 0 receives, no light was seen and code 0x02 has been counted 2^64 times (which no counter does: the statement admits every
state), UPSTREAM_FRAME_END leaves the count at 2^64, and the statement's "counts 0" makes it 0. -/
theorem not_lightIsWatched : ¬ Obligations.LightIsWatched := by
  unfold Obligations.LightIsWatched
  rintro ⟨-, -, ends⟩
  obtain ⟨b, ⟨-, ended, -⟩, stands⟩ := (ends 0 0 0 overloud rfl).counts rfl (exec_upstreamFrameEnd ..) (p := chanPage 0) (o := 0x970)
    (by unfold followCtr followPage ctrKey chanPage; decide)
  obtain ⟨-, -, -, -, counted, -⟩ := ended overloud_receives
  obtain ⟨dark, outside⟩ := overloud_dark
  have quiet : b.ctr (chanPage 0) 0x970 = ((overloud.dev.arrive 0).ctr (chanPage 0) 0x970 + 0) % 2 ^ 64 := by
    simpa [Counts, dark, outside, b2n] using counted
  rw [overloud_before] at quiet
  have kept : b.ctr (chanPage 0) 0x970 = 2 ^ 64 := stands.trans overloud_after
  omega

end Sys2Proof.Safety
end

section
/-!
PROOFS. Rogue isolation (R222 to R226): what disabling and enabling make of a terminal, how an isolation goes on and ends, and the statement
`Obligations.RoguesAreIsolated`.
-/

namespace Sys2Proof.Machine

open Sys2Proof.Safety

/-! ### The state of a terminal (R241, R260) -/

section
variable {x z st : Nat} {t : Term} {d : Device}

theorem term_raiseDefect (b : Nat) (h : d.term? x = some t) : ∃ n, (d.raiseDefect x b).term? x = some { t with defects := n } := by
  unfold Device.raiseDefect
  simp only [h]
  split
  exacts [⟨_, h⟩, ⟨_, Device.term_setTerm_same ..⟩]

theorem term_clearDefect (b : Nat) (h : d.term? x = some t) : ∃ n, (d.clearDefect x b).term? x = some { t with defects := n } := by
  unfold Device.clearDefect
  simp only [h]
  split
  exacts [⟨_, Device.term_setTerm_same ..⟩, ⟨_, h⟩]

/-- A terminal's new state, with the defects that go with it. -/
theorem term_setState (st : Nat) (h : d.term? x = some t) : ∃ n, (d.setState x st).term? x = some { t with state := st, defects := n } := by
  unfold Device.setState
  simp only [h]
  split
  exacts [term_raiseDefect 5 (Device.term_setTerm_same ..), term_clearDefect 5 (Device.term_setTerm_same ..)]

theorem term_raiseDefect_ne (b : Nat) (d : Device) (h : z ≠ x) : (d.raiseDefect x b).term? z = d.term? z := by
  unfold Device.raiseDefect
  split
  · rfl
  · split
    exacts [rfl, d.term_setTerm_ne _ h]

theorem term_clearDefect_ne (b : Nat) (d : Device) (h : z ≠ x) : (d.clearDefect x b).term? z = d.term? z := by
  unfold Device.clearDefect
  split
  · rfl
  · split
    exacts [d.term_setTerm_ne _ h, rfl]

theorem term_setState_ne (st : Nat) (d : Device) (h : z ≠ x) : (d.setState x st).term? z = d.term? z := by
  unfold Device.setState
  split
  · rfl
  · dsimp only
    split
    exacts [(term_raiseDefect_ne 5 _ h).trans (d.term_setTerm_ne _ h), (term_clearDefect_ne 5 _ h).trans (d.term_setTerm_ne _ h)]

theorem term_disableTerm_ne (d : Device) (h : z ≠ x) : (d.disableTerm x).term? z = d.term? z := by
  unfold Device.disableTerm
  split
  · rfl
  · split
    exacts [rfl, term_setState_ne 4 _ h]

theorem term_enableTerm_ne (d : Device) (h : z ≠ x) : (d.enableTerm x).term? z = d.term? z := by
  unfold Device.enableTerm
  split
  · rfl
  · split
    exacts [term_setState_ne 1 _ h, rfl]

/-- A terminal in operation, or disabled already, is disabled. -/
theorem term_disableTerm (h : d.term? x = some t) (runs : t.state = 3 ∨ t.state = 4) : ∃ q, (d.disableTerm x).term? x = some q ∧ q.state = 4 := by
  unfold Device.disableTerm
  simp only [h]
  rw [if_neg (by omega)]
  obtain ⟨n, disabled⟩ := term_setState (d := { d.ploam (d.ploamChan x) (.disableSerial x) with
    rng := { d.rng with wants := d.rng.wants.filter (fun r => r.term ≠ x) } }) 4 h
  exact ⟨_, disabled, rfl⟩

/-- A disabled terminal returns to AWAITING_SN. -/
theorem term_enableTerm (h : d.term? x = some t) (disabled : t.state = 4) : ∃ q, (d.enableTerm x).term? x = some q ∧ q.state = 1 := by
  unfold Device.enableTerm
  simp only [h, disabled, if_true]
  obtain ⟨n, enabled⟩ := term_setState (d := d.ploam (d.ploamChan x) (.enableSerial x)) 1 h
  exact ⟨_, enabled, rfl⟩

theorem term_disableAll_ne (l : List Nat) (d : Device) (h : z ∉ l) : (forEach l Device.disableTerm d).term? z = d.term? z :=
  forEach_keeps_mem (fun d => d.term? z) l _ (fun _ hx d => term_disableTerm_ne d fun same => h (same ▸ hx)) d

/-- Every terminal of a list that is in operation is disabled with the list. -/
theorem term_disableAll (l : List Nat) {d : Device} (h : d.term? z = some t) (runs : t.state = 4 ∨ t.state = 3 ∧ z ∈ l) :
    ∃ q, (forEach l Device.disableTerm d).term? z = some q ∧ q.state = 4 := by
  induction l generalizing d t with
  | nil => exact ⟨t, h, runs.elim id fun r => absurd r.2 List.not_mem_nil⟩
  | cons x r ih =>
    rw [forEach_cons]
    by_cases own : z = x
    · subst own
      obtain ⟨q, disabled, state⟩ := term_disableTerm h (by omega)
      exact ih disabled (.inl state)
    · exact ih ((term_disableTerm_ne d own).trans h) (runs.imp_right fun s => ⟨s.1, (List.mem_cons.1 s.2).resolve_left own⟩)

end

/-! ### How an isolation goes on and ends (R223, R225, R226) -/

/-- What an isolation on channel `c` may touch, `g` does not see: terminals and the log, its receiver and ROGUE_ACTIVE. -/
structure IsoBlind {β : Type} (c : Nat) (g : Device → β) : Prop extends ChargeBlind g where
  brx : ∀ d x, g (Device.setBrx c x d) = g d
  active : ∀ d v, g (Device.wr (CH.ROGUE_ACTIVE c) v d) = g d

namespace IsoBlind

variable {β : Type} {g : Device → β} {c : Nat} (h : IsoBlind c g) (d : Device)
include h

theorem endIsolation (en : List Nat) : g (d.endIsolation c en) = g d := (h.active ..).trans (h.brx ..)

theorem isoUnresolved (en : List Nat) : g (d.isoUnresolved c en) = g d :=
  (h.brx ..).trans ((h.endIsolation ..).trans (h.logPon ..))

theorem isoRound (sus en : List Nat) : g (d.isoRound c sus en) = g d := by
  unfold Device.isoRound
  dsimp only
  split
  · exact h.isoUnresolved ..
  · exact (h.brx ..).trans (h.disableTerm ..)
  · exact (h.brx ..).trans (forEach_keeps' g _ _ (fun _ _ => h.disableTerm ..) d)

theorem isoVerdict (iso : Isolation) (lit : Bool) : g (d.isoVerdict c iso lit) = g d := by
  unfold Device.isoVerdict
  split
  · split
    exacts [h.isoRound .., h.endIsolation ..]
  · exact (h.isoRound ..).trans (forEach_keeps' g _ _ (fun _ _ => h.enableTerm ..) d)
  · split
    exacts [(h.isoUnresolved ..).trans (h.enableTerm ..), (h.endIsolation ..).trans (h.logPon ..)]

end IsoBlind

/-- Two fields on different pages have different keys. -/
theorem fkey_ne_of_page {f g : Fld} (h : f.page ≠ g.page) (hf : f.off * 8 + f.lo < 0x8000) (hg : g.off * 8 + g.lo < 0x8000) : fkey f ≠ fkey g := by
  unfold fkey
  omega

/-- The tree's offset keeps clear of the fields of its channels. -/
theorem offset_ne_channel {f : Fld} {c : Nat} (page : f.page = 0x80 + c) (h : f.off * 8 + f.lo < 0x8000) : fkey (TPE.OFFSET_NS (treeOf c)) ≠ fkey f := by
  refine fkey_ne_of_page ?_ (by simp [TPE.OFFSET_NS]) h
  rw [page]
  unfold TPE.OFFSET_NS treeOf
  dsimp only
  omega

section
variable {c : Nat} {d : Device}

theorem treeFrame_wr {f : Fld} (v : Nat) (t x : Nat) (h : fkey (TPE.OFFSET_NS t) ≠ fkey f) : (d.wr f v).treeFrame t x = d.treeFrame t x := by
  unfold Device.treeFrame
  rw [d.rd_wr_ne v h]

theorem isoBlind_treeFrame (c : Nat) : IsoBlind c (fun d : Device => d.treeFrame (treeOf c) d.now) where
  defect _ := rfl
  cfr _ _ _ := rfl
  rng _ _ := rfl
  logged _ _ _ _ := rfl
  produced _ _ := treeFrame_wr _ _ _ (fkey_ne_vlogProduced (Nat.add_pos_left (by decide) _))
  vlog _ _ := rfl
  charges _ _ := rfl
  brx _ _ := rfl
  active _ _ := treeFrame_wr _ _ _ (offset_ne_channel rfl (by simp [CH.ROGUE_ACTIVE]))

theorem isoBlind_brx {w : Nat} (other : w ≠ c) : IsoBlind c (fun d : Device => d.brx w) where
  toChargeBlind := chargeBlind_brx w
  brx _ _ := Device.brx_setBrx_ne _ other
  active _ _ := rfl

theorem isoBlind_quietLight (c : Nat) : IsoBlind c (fun d : Device => d.rd (CH.QW_LIGHT_NS c)) where
  toChargeBlind := chargeBlind_rd (Nat.add_pos_left (by decide) _)
  brx _ _ := rfl
  active d v := d.rd_wr_on_page v rfl (by simp [CH.QW_LIGHT_NS, CH.ROGUE_ACTIVE])

theorem isoBlind_parts (c : Nat) : IsoBlind c (fun d : Device => (d.cells, d.svc, d.fret, d.pkt)) where
  defect _ := rfl
  cfr _ _ _ := rfl
  rng _ _ := rfl
  logged _ _ _ _ := rfl
  produced _ _ := rfl
  vlog _ _ := rfl
  charges _ _ := rfl
  brx _ _ := rfl
  active _ _ := rfl

theorem rng_logPon (c code source answer : Nat) (d : Device) : (d.logPon c code source answer).rng = d.rng :=
  Device.logPon_keeps (fun d => d.rng) (fun _ _ _ _ => rfl) (fun _ _ => rfl) (fun _ _ => rfl) ..

theorem on_wr_zero {f : Fld} (d : Device) : (d.wr f 0).on f = false := by
  simp [Device.on]

/-- The end of an isolation: no suspect is left, the extra discovery windows follow, and no terminal changes. -/
theorem endIsolation_ends (c : Nat) (en : List Nat) (d : Device) : let b := d.endIsolation c en
    b.brx c = { d.brx c with iso := none, extraWindows := 16, extraNext := 0, extraFor := ((d.brx c).extraFor ++ en).eraseDups } ∧
    b.on (CH.ROGUE_ACTIVE c) = false ∧ b.rng = d.rng :=
  ⟨Device.brx_setBrx_same .., on_wr_zero _, rfl⟩

/-- An end without a culprit asks for a quiet window 1,000 tree frames on. -/
theorem isoUnresolved_ends (c : Nat) (en : List Nat) (d : Device) : let b := d.isoUnresolved c en
    (b.brx c).iso = none ∧ (b.brx c).checkUnresolved = some (d.treeFrame (treeOf c) d.now + 1000) ∧ b.on (CH.ROGUE_ACTIVE c) = false ∧ b.rng = d.rng := by
  have logged := rng_logPon c 0x11 0 0 d
  unfold Device.isoUnresolved
  dsimp only
  obtain ⟨brx, active, rng⟩ := endIsolation_ends c en (d.logPon c 0x11 0 0)
  have frame : ((d.logPon c 0x11 0 0).endIsolation c en).treeFrame (treeOf c) ((d.logPon c 0x11 0 0).endIsolation c en).now = d.treeFrame (treeOf c) d.now :=
    ((isoBlind_treeFrame c).endIsolation ..).trans ((isoBlind_treeFrame c).logPon ..)
  rw [Device.brx_setBrx_same, frame, brx]
  exact ⟨rfl, rfl, active, rng.trans logged⟩

theorem isoRound_halves {sus : List Nat} (en : List Nat) (h : 2 ≤ sus.length) : d.isoRound c sus en =
    (forEach (sus.take ((sus.length + 1) / 2)) Device.disableTerm d).setBrx c
      { d.brx c with iso := some { suspects := sus, step := .half (sus.take ((sus.length + 1) / 2)), enabled := en }, quietAsk := some (d.now + 125000) } := by
  match sus, h with
  | _ :: _ :: _, _ => rfl

/-- An isolation leaves the fixed quiet window alone. -/
theorem qw_endIsolation (c : Nat) (en : List Nat) (d : Device) : ((d.endIsolation c en).brx c).qw = (d.brx c).qw :=
  congrArg (·.qw) (endIsolation_ends c en d).1

theorem qw_isoUnresolved (c : Nat) (en : List Nat) (d : Device) : ((d.isoUnresolved c en).brx c).qw = (d.brx c).qw := by
  unfold Device.isoUnresolved
  dsimp only
  rw [Device.brx_setBrx_same]
  exact (qw_endIsolation ..).trans (congrArg (·.qw) ((chargeBlind_brx c).logPon ..))

theorem qw_isoRound (c : Nat) (sus en : List Nat) (d : Device) : ((d.isoRound c sus en).brx c).qw = (d.brx c).qw := by
  unfold Device.isoRound
  dsimp only
  split
  · exact qw_isoUnresolved ..
  · rw [Device.brx_setBrx_same]
  · rw [Device.brx_setBrx_same]

theorem qw_isoVerdict (c : Nat) (iso : Isolation) (lit : Bool) (d : Device) : ((d.isoVerdict c iso lit).brx c).qw = (d.brx c).qw := by
  unfold Device.isoVerdict
  split
  · split
    exacts [qw_isoRound .., qw_endIsolation ..]
  · exact (qw_isoRound ..).trans (congrArg (·.qw) (forEach_keeps' (fun d => d.brx c) _ _ (fun x d => (chargeBlind_brx c).enableTerm d x) d))
  · split
    exacts [(qw_isoUnresolved ..).trans (congrArg (·.qw) ((chargeBlind_brx c).enableTerm ..)),
      (qw_endIsolation ..).trans (congrArg (·.qw) ((chargeBlind_brx c).logPon ..))]

section
variable {iso : Isolation} {z : Nat}

theorem isoVerdict_first_lit (first : iso.step = .first) : d.isoVerdict c iso true = d.isoRound c iso.suspects iso.enabled := by
  simp [Device.isoVerdict, first]

theorem isoVerdict_first_dark (first : iso.step = .first) : d.isoVerdict c iso false = d.endIsolation c iso.enabled := by
  simp [Device.isoVerdict, first]

theorem isoVerdict_last_lit (last : iso.step = .last z) : d.isoVerdict c iso true = (d.enableTerm z).isoUnresolved c ((iso.enabled ++ [z]).eraseDups) := by
  simp [Device.isoVerdict, last]

theorem isoVerdict_last_dark (last : iso.step = .last z) : d.isoVerdict c iso false =
    (d.logPon c 0x10 (d.termHandle z) 2).endIsolation c (iso.enabled.filter (fun y => y ≠ z)) := by
  simp [Device.isoVerdict, last]

end

end

/-! ### QUIET_WINDOW_RESULT -/

/-- The light of channel `c` in a quiet window, in ns (R223). -/
def Device.quietLight (d : Device) (c o e : Nat) : Nat := ((d.lightSpans c).map (overlapNs o e)).sum

/-- The window has passed and its light is shown. -/
def Device.quietShown (c o e : Nat) (d : Device) : Device := (d.setBrx c { d.brx c with qw := none }).wr (CH.QW_LIGHT_NS c) (d.quietLight c o e)

/-- Whether the light of a quiet window counts as light. -/
def Device.quietLit (d : Device) (c o e : Nat) : Bool := decide (d.rdA (CH.UNSOL_LIGHT_NS c) < d.quietLight c o e)

section
variable {t c o e : Nat} {check : Bool} {d : Device}

theorem quietWindowResult_of_none (t : Nat) (h : (d.brx c).qw = none) : quietWindowResult t c d = d := by
  simp [quietWindowResult, h]

section
variable (window : (d.brx c).qw = some (o, e, check))
include window

theorem quietWindowResult_early (early : t < e) : quietWindowResult t c d = d := by
  simp [quietWindowResult, window, early]

theorem quietWindowResult_unseen (passed : e ≤ t) (blind : d.receiving c = false) : quietWindowResult t c d =
    d.setBrx c (if check then { d.brx c with qw := none, checkAsk := some t } else { d.brx c with qw := none, quietAsk := (d.brx c).iso.map (fun _ => t) }) := by
  simp [quietWindowResult, window, passed.not_gt, blind]

theorem quietWindowResult_seen (passed : e ≤ t) (rx : d.receiving c = true) : quietWindowResult t c d =
    if check then ((d.quietShown c o e).setBrx c { (d.quietShown c o e).brx c with checkUnresolved := if d.quietLit c o e then (d.brx c).checkUnresolved else none }).wr
      (CH.ROGUE_UNRESOLVED c) (b2n (d.quietLit c o e))
    else match (d.brx c).iso with
      | none => d.quietShown c o e
      | some iso => (d.quietShown c o e).isoVerdict c iso (d.quietLit c o e) := by
  unfold quietWindowResult
  simp only [window, passed.not_gt, rx, Bool.not_true, Bool.false_eq_true, if_false]
  rfl

end

theorem quietShown_brx (c o e : Nat) (d : Device) : (d.quietShown c o e).brx c = { d.brx c with qw := none } := Device.brx_setBrx_same ..

theorem quietShown_light (c o e : Nat) (d : Device) : (d.quietShown c o e).rd (CH.QW_LIGHT_NS c) = d.quietLight c o e % 2 ^ (CH.QW_LIGHT_NS c).width :=
  Device.rd_wr_same ..

theorem quietShown_treeFrame (c o e : Nat) (d : Device) :
    (d.quietShown c o e).treeFrame (treeOf c) (d.quietShown c o e).now = d.treeFrame (treeOf c) d.now :=
  treeFrame_wr _ _ _ (offset_ne_channel rfl (by simp [CH.QW_LIGHT_NS]))

section
variable (passed : e ≤ t) (rx : d.receiving c = true)
include passed rx

/-- The result of a window of R226. -/
theorem quietWindowResult_checked (window : (d.brx c).qw = some (o, e, true)) : let b := quietWindowResult t c d; let lit := d.quietLit c o e
    b.rd (CH.QW_LIGHT_NS c) = d.quietLight c o e % 2 ^ (CH.QW_LIGHT_NS c).width ∧ b.rd (CH.ROGUE_UNRESOLVED c) = b2n lit ∧
    b.brx c = { d.brx c with qw := none, checkUnresolved := if lit then (d.brx c).checkUnresolved else none } ∧ b.rng = d.rng := by
  dsimp only
  rw [quietWindowResult_seen window passed rx, if_pos rfl, quietShown_brx]
  refine ⟨?_, (Device.rd_wr_same ..).trans ?_, Device.brx_setBrx_same .., rfl⟩
  · rw [Device.rd_wr_on_page (f := CH.ROGUE_UNRESOLVED c) (k := CH.QW_LIGHT_NS c) _ rfl (by simp [CH.QW_LIGHT_NS, CH.ROGUE_UNRESOLVED]), Device.setBrx_rd,
      quietShown_light]
  · cases d.quietLit c o e <;> rfl

theorem quietWindowResult_idle (window : (d.brx c).qw = some (o, e, false)) (none : (d.brx c).iso = none) : quietWindowResult t c d = d.quietShown c o e := by
  rw [quietWindowResult_seen window passed rx, none]
  rfl

theorem quietWindowResult_verdict {iso : Isolation} (window : (d.brx c).qw = some (o, e, false)) (some : (d.brx c).iso = some iso) :
    quietWindowResult t c d = (d.quietShown c o e).isoVerdict c iso (d.quietLit c o e) := by
  rw [quietWindowResult_seen window passed rx, some]
  rfl

end

/-- What the result of a quiet window leaves alone. -/
theorem quietWindowResult_keeps {β : Type} {g : Device → β} (h : IsoBlind c g) (light : ∀ d v, g (Device.wr (CH.QW_LIGHT_NS c) v d) = g d)
    (unresolved : ∀ d v, g (Device.wr (CH.ROGUE_UNRESOLVED c) v d) = g d) (t : Nat) (d : Device) : g (quietWindowResult t c d) = g d := by
  unfold quietWindowResult
  dsimp only
  split
  · rfl
  · split
    · rfl
    · split
      · exact h.brx ..
      · have shown (x : Brx) (v : Nat) : g ((d.setBrx c x).wr (CH.QW_LIGHT_NS c) v) = g d := (light ..).trans (h.brx ..)
        split
        · exact (unresolved ..).trans ((h.brx ..).trans (shown ..))
        · split
          exacts [shown .., (h.isoVerdict ..).trans (shown ..)]

end

end Sys2Proof.Machine

namespace Sys2Proof.Safety

open Sys2Proof.Machine

section
variable {c k n : Nat}

/-- An isolation that is due starts. -/
theorem isolationStarts (t c : Nat) (a : Device) : let b := rogueIsolationStart t c a; let x := a.brx c
    if x.isoDue = true ∧ a.on (CH.ROGUE_AUTO c) = true ∧ x.iso = none ∧ a.detects = true then
      b.brx c = { x with isoDue := false, unsolRun := 0, iso := some { suspects := a.operatingOn c, step := .first }, quietAsk := some a.now } ∧
      b.on (CH.ROGUE_ACTIVE c) = true ∧ Counts (chanPage c) 0x9B8 1 a b ∧ (∀ w, w ≠ c → b.brx w = a.brx w) ∧
      b = { a with regs := b.regs, ctrs := b.ctrs, bursts := { a.bursts with brx := b.bursts.brx } } ∧ Kept [CH.ROGUE_ACTIVE c] [(chanPage c, 0x9B8)] a b
    else b = a := by
  have due : ((a.brx c).isoDue && a.on (CH.ROGUE_AUTO c) && (a.brx c).iso.isNone && a.detects) = true ↔
      (a.brx c).isoDue = true ∧ a.on (CH.ROGUE_AUTO c) = true ∧ (a.brx c).iso = none ∧ a.detects = true := by
    simp [and_assoc]
  unfold rogueIsolationStart
  simp only [due]
  split
  · refine ⟨Device.brx_setBrx_same .., ?_, Device.ctr_count_same .., fun w other => Device.brx_setBrx_ne _ other, rfl, ?_⟩
    · exact Device.on_wr_b2n (f := CH.ROGUE_ACTIVE c) true rfl
    · exact ((((Kept.refl _ _ a).same rfl rfl : Kept _ _ a (a.setBrx c _))).wr 1 ⟨_, List.mem_cons_self .., rfl⟩).count 1 (List.mem_cons_self ..)
  · rfl

/-- What an isolation's window on channel `c`, measured as light or as darkness, makes of the isolation. -/
theorem isolationVerdict {e b : Device} {iso : Isolation} {lit : Bool} (hb : e.isoVerdict c iso lit = b) (frame : e.treeFrame (treeOf c) e.now = k) (now : e.now = n) :
    (iso.step = .first → lit = false → (b.brx c).iso = none ∧ b.on (CH.ROGUE_ACTIVE c) = false ∧ b.rng = e.rng) ∧
    (iso.step = .first → lit = true → iso.suspects = [] → (b.brx c).iso = none ∧ (b.brx c).checkUnresolved = some (k + 1000)) ∧
    (iso.step = .first → lit = true → 2 ≤ iso.suspects.length → let h := iso.suspects.take ((iso.suspects.length + 1) / 2)
      (b.brx c).iso = some { suspects := iso.suspects, step := .half h, enabled := iso.enabled } ∧ (b.brx c).quietAsk = some (n + 125000) ∧
      (∀ z ∈ h, ∀ y, e.term? z = some y → y.state = 3 → ∃ q, b.term? z = some q ∧ q.state = 4) ∧ ∀ z, z ∉ h → b.term? z = e.term? z) ∧
    (∀ z, iso.step = .last z → lit = true → (b.brx c).iso = none ∧ b.on (CH.ROGUE_ACTIVE c) = false ∧
      (b.brx c).checkUnresolved = some (k + 1000) ∧ (∀ y, e.term? z = some y → y.state = 4 → ∃ q, b.term? z = some q ∧ q.state = 1)) ∧
    (∀ z, iso.step = .last z → lit = false → (b.brx c).iso = none ∧ b.on (CH.ROGUE_ACTIVE c) = false ∧ b.rng = e.rng ∧
      (b.brx c).extraFor = ((e.brx c).extraFor ++ iso.enabled.filter (fun y => y ≠ z)).eraseDups ∧ (b.brx c).extraWindows = 16) := by
  subst hb now frame
  refine ⟨?_, ?_, ?_, ?_, ?_⟩
  · rintro first rfl
    rw [isoVerdict_first_dark first]
    obtain ⟨brx, active, rng⟩ := endIsolation_ends c iso.enabled e
    exact ⟨by rw [brx], active, rng⟩
  · rintro first rfl none
    rw [isoVerdict_first_lit first, none]
    obtain ⟨ended, check, -⟩ := isoUnresolved_ends c iso.enabled e
    exact ⟨ended, check⟩
  · rintro first rfl two
    rw [isoVerdict_first_lit first, isoRound_halves _ two, Device.brx_setBrx_same]
    exact ⟨rfl, rfl, fun z half y stands runs => term_disableAll _ stands (.inr ⟨runs, half⟩), fun z other => term_disableAll_ne _ e other⟩
  · rintro z last rfl
    rw [isoVerdict_last_lit last]
    obtain ⟨ended, check, active, rng⟩ := isoUnresolved_ends c ((iso.enabled ++ [z]).eraseDups) (e.enableTerm z)
    have frame : (e.enableTerm z).treeFrame (treeOf c) (e.enableTerm z).now = e.treeFrame (treeOf c) e.now := (isoBlind_treeFrame c).enableTerm ..
    refine ⟨ended, active, by rw [check, frame], fun y stands disabled => ?_⟩
    unfold Device.term?
    rw [rng]
    exact term_enableTerm stands disabled
  · rintro z last rfl
    rw [isoVerdict_last_dark last]
    obtain ⟨brx, active, rng⟩ := endIsolation_ends c (iso.enabled.filter (fun y => y ≠ z)) (e.logPon c 0x10 (e.termHandle z) 2)
    rw [brx, (chargeBlind_brx c).logPon]
    exact ⟨rfl, active, rng.trans (rng_logPon ..), rfl, rfl⟩

end

/-- Settles O28: the isolation's start, the verdicts of its windows by its step, and the windows of R226. -/
theorem roguesAreIsolated : Obligations.RoguesAreIsolated := by
  unfold Obligations.RoguesAreIsolated
  refine ⟨fun t c s hr => ?_, fun t c s hr => ?_, fun t c s hr => ?_⟩
  · exact Makes.intro hr (exec_rogueIsolationStart ..) (isolationStarts ..)
  · refine Makes.intro hr (exec_quietWindowResult ..) ?_
    generalize s.dev.arrive t = a
    have keeps {β : Type} {g : Device → β} (h : IsoBlind c.val g) (light : ∀ d v, g (Device.wr (CH.QW_LIGHT_NS c.val) v d) = g d)
        (unresolved : ∀ d v, g (Device.wr (CH.ROGUE_UNRESOLVED c.val) v d) = g d) := quietWindowResult_keeps h light unresolved a.now a
    have parts := keeps (isoBlind_parts c.val) (fun _ _ => rfl) (fun _ _ => rfl)
    refine ⟨quietWindowResult_of_none _, fun o e check window => ⟨quietWindowResult_early window, fun passed blind => ?_, fun passed rx => ?_⟩,
      fun w other => keeps (isoBlind_brx other) (fun _ _ => rfl) (fun _ _ => rfl), by simpa using parts⟩
    · rw [quietWindowResult_unseen window passed blind]
      exact ⟨rfl, Device.brx_setBrx_same ..⟩
    · cases check with
      | true =>
        obtain ⟨light, unresolved, brx, rng⟩ := quietWindowResult_checked passed rx window
        rw [brx]
        exact ⟨light, rfl, fun _ => ⟨unresolved, rfl, rfl, rng⟩, nofun, nofun⟩
      | false =>
        obtain none | ⟨iso, some⟩ := Option.eq_none_or_eq_some (a.brx c.val).iso
        · rw [quietWindowResult_idle passed rx window none, quietShown_brx]
          exact ⟨quietShown_light .., rfl, nofun, fun _ _ => ⟨rfl, rfl⟩, fun iso _ some => absurd (none.symm.trans some) nofun⟩
        · rw [quietWindowResult_verdict passed rx window some]
          refine ⟨((isoBlind_quietLight c.val).isoVerdict ..).trans (quietShown_light ..), (qw_isoVerdict ..).trans (congrArg (·.qw) (quietShown_brx ..)),
            nofun, fun _ none => absurd (none.symm.trans some) nofun, ?_⟩
          rintro iso' - same
          obtain rfl := Option.some.inj (some.symm.trans same)
          have verdict := isolationVerdict (iso := iso) (lit := a.quietLit c.val o e) rfl (quietShown_treeFrame c.val o e a) (show _ = a.now from rfl)
          rw [quietShown_brx] at verdict
          exact verdict
  · refine Makes.intro hr (exec_rogueUnresolvedCheck ..) ?_
    generalize s.dev.arrive t = a
    refine ⟨fun none => by simp [rogueUnresolvedCheck, none], fun k due => ?_⟩
    unfold rogueUnresolvedCheck
    simp only [due]
    split
    · exact ⟨Device.brx_setBrx_same .., fun w other => Device.brx_setBrx_ne _ other, rfl⟩
    · rfl

end Sys2Proof.Safety
end

section
/-!
PROOFS. Serial numbers heard in a discovery window (R225, R246, R247, R257, R268): the discovery list, the start of ranging, and the statement
`Obligations.SerialNumbersAreHeard`.
-/

namespace Sys2Proof.Machine

open Sys2Proof.Safety

/-! ### No isolation waits for a terminal that was heard (R225) -/

/-- On one channel no isolation waits for terminal `x` any more. -/
def Device.heardOn (tree x w : Nat) (d : Device) : Device :=
  d.setBrx (4 * tree + w) { d.brx (4 * tree + w) with extraFor := (d.brx (4 * tree + w)).extraFor.filter (fun y => y ≠ x) }

theorem heardAgain_eq_forEach (tree x : Nat) (d : Device) : d.heardAgain tree x = forEach (List.range 4) (Device.heardOn tree x) d := rfl

theorem heardOn_extraFor (tree x w : Nat) (l : List Nat) (d : Device) : ((forEach l (Device.heardOn tree x) d).brx (4 * tree + w)).extraFor =
    if w ∈ l then (d.brx (4 * tree + w)).extraFor.filter (fun y => y ≠ x) else (d.brx (4 * tree + w)).extraFor := by
  induction l generalizing d with
  | nil => rfl
  | cons a r ih =>
    rw [forEach_cons, ih]
    by_cases own : w = a
    · subst own
      simp [Device.heardOn]
    · have other : ((d.heardOn tree x a).brx (4 * tree + w)) = d.brx (4 * tree + w) := Device.brx_setBrx_ne _ (by omega)
      simp [other, own]

theorem heardAgain_extraFor (tree x : Nat) (w : Fin 4) (d : Device) :
    ((d.heardAgain tree x).brx (4 * tree + w.val)).extraFor = (d.brx (4 * tree + w.val)).extraFor.filter (fun y => y ≠ x) :=
  (heardOn_extraFor tree x w.val _ d).trans (if_pos (List.mem_range.2 w.isLt))

/-- The device but for its counters and its burst receivers. -/
def Device.unheard (d : Device) : Device := { d with ctrs := [], bursts := { d.bursts with brx := [] } }

theorem unheard_heardAgain (tree x : Nat) (d : Device) : (d.heardAgain tree x).unheard = d.unheard :=
  forEach_keeps' Device.unheard (List.range 4) (Device.heardOn tree x) (fun _ _ => rfl) d

theorem ctrs_heardAgain (tree x : Nat) (d : Device) : (d.heardAgain tree x).ctrs = d.ctrs :=
  forEach_keeps' (·.ctrs) (List.range 4) (Device.heardOn tree x) (fun _ _ => rfl) d

/-- What sees neither counters nor receivers reads alike. -/
theorem eq_of_unheard {β : Type} {a e : Device} (h : e.unheard = a.unheard) (g : Device → β) (blind : ∀ d, g d.unheard = g d) : g e = g a :=
  (blind e).symm.trans ((congrArg g h).trans (blind a))

/-! ### The discovery list (R246, R268) -/

/-- The unconsumed entries of the discovery list. -/
def Device.discLive (d : Device) : List Nat := unreadIdx (d.rd RGU.DISC_PRODUCED) (d.rd RGU.DISC_CONSUMED) 512

/-- Whether entry `e` of the discovery list holds a serial number. -/
def Device.discLists (d : Device) (v n e : Nat) : Prop := ∃ z, Tbl.get? d.rng.disc e = some z ∧ z.vendor = v ∧ z.serial = n

section
variable {c v n q : Nat} {d : Device}

/-- The same as a test. -/
def Device.discMatches (d : Device) (v n e : Nat) : Bool :=
  match Tbl.get? d.rng.disc e with | some z => decide (z.vendor = v ∧ z.serial = n) | none => false

/-- The search for a serial number among the unconsumed entries. -/
def Device.discFind (d : Device) (v n : Nat) : Option Nat := d.discLive.find? (d.discMatches v n)

theorem discMatches_iff (d : Device) (v n e : Nat) : d.discMatches v n e = true ↔ d.discLists v n e := by
  unfold Device.discMatches Device.discLists
  cases Tbl.get? d.rng.disc e <;> simp

theorem discFind_none (h : ∀ e ∈ d.discLive, ¬ d.discLists v n e) : d.discFind v n = none :=
  List.find?_eq_none.2 fun e he listed => h e he ((discMatches_iff d v n e).1 listed)

theorem discFind_some (h : ∃ e ∈ d.discLive, d.discLists v n e) : ∃ e ∈ d.discLive, d.discLists v n e ∧ d.discFind v n = some e := by
  obtain ⟨e, he, listed⟩ := h
  have hit : (d.discFind v n).isSome = true := List.find?_isSome.2 ⟨e, he, (discMatches_iff d v n e).2 listed⟩
  obtain ⟨f, found⟩ := Option.isSome_iff_exists.1 hit
  exact ⟨f, List.mem_of_find?_eq_some found, (discMatches_iff d v n f).1 (List.find?_some (show d.discLive.find? (d.discMatches v n) = some f from found)), found⟩

/-- The entry of a serial number heard for the first time (R268). -/
def Device.discEntry (c v n q : Nat) (d : Device) : DiscEntry :=
  { vendor := v, serial := n, frame := d.frame % 2 ^ 32, chan := c, q := q, treeFrame := d.treeFrame (treeOf c) d.now }

theorem discover_eq (c v n q : Nat) (d : Device) : d.discover c v n q =
    match d.discFind v n with
    | some e => { d with rng := { d.rng with disc := Tbl.modify d.rng.disc e (fun z => { z with seen := min 15 (z.seen + 1) }) } }
    | none =>
      if d.discLive.length = 512 then d.count 0x1B6 0x820 1
      else ({ d with rng := { d.rng with disc := Tbl.set d.rng.disc (d.rd RGU.DISC_PRODUCED % 512) (d.discEntry c v n q) } } : Device).wr RGU.DISC_PRODUCED
        (d.rd RGU.DISC_PRODUCED + 1) := rfl

theorem discover_full (q : Nat) (new : ∀ e ∈ d.discLive, ¬ d.discLists v n e) (full : d.discLive.length = 512) :
    d.discover c v n q = d.count 0x1B6 0x820 1 := by
  rw [discover_eq, discFind_none new]
  exact if_pos full

theorem discover_new (new : ∀ e ∈ d.discLive, ¬ d.discLists v n e) (room : d.discLive.length ≠ 512) : let b := d.discover c v n q
    b.rd RGU.DISC_PRODUCED = (d.rd RGU.DISC_PRODUCED + 1) % 1024 ∧ Tbl.get? b.rng.disc (d.rd RGU.DISC_PRODUCED % 512) = some (d.discEntry c v n q) := by
  dsimp only
  rw [discover_eq, discFind_none new]
  dsimp only
  rw [if_neg room]
  exact ⟨Device.rd_wr_same .., Tbl.get?_set_same ..⟩

theorem discover_seen (again : ∃ e ∈ d.discLive, d.discLists v n e) : let b := d.discover c v n q
    b.rd RGU.DISC_PRODUCED = d.rd RGU.DISC_PRODUCED ∧ ∃ e ∈ d.discLive, ∃ z, Tbl.get? d.rng.disc e = some z ∧ z.vendor = v ∧ z.serial = n ∧
      Tbl.get? b.rng.disc e = some { z with seen := min 15 (z.seen + 1) } := by
  obtain ⟨e, he, ⟨z, stands, vendor, serial⟩, found⟩ := discFind_some again
  dsimp only
  rw [discover_eq, found]
  exact ⟨rfl, e, he, z, stands, vendor, serial, Tbl.get?_modify_same _ stands⟩

/-- What the discovery list, its producer index and its overflow counter are not, a heard serial number leaves alone. -/
theorem discover_keeps {β : Type} {g : Device → β} (full : ∀ d, g (Device.count 0x1B6 0x820 1 d) = g d) (produced : ∀ d v, g (Device.wr RGU.DISC_PRODUCED v d) = g d)
    (disc : ∀ (d : Device) l, g { d with rng := { d.rng with disc := l } } = g d) (c v n q : Nat) (d : Device) : g (d.discover c v n q) = g d := by
  rw [discover_eq]
  split
  · exact disc ..
  · split
    exacts [full d, (produced ..).trans (disc ..)]

end

/-! ### The start of ranging (R241, R246, R247) -/

/-- A terminal with its home channel taken from a hearing on channel `c`. -/
def Term.homed (c : Nat) (t : Term) : Term := { t with homeWc := c % 4, homeSet := true, rangeFails := 0 }

/-- The terminal has its home and is in RANGING, and its messages wait. -/
def Device.activated (x c : Nat) (t : Term) (d : Device) : Device :=
  (((d.setTerm x (Term.homed c t)).setState x 2).ploam c (.assignOnuId x)).burstProfiles c

/-- The wish to range a terminal's home channel within the randomized span of a hearing at `q` (R246, R247). -/
def Device.homeWish (x c q : Nat) (d : Device) : RangeReq :=
  { term := x, chan := (d.home x).getD c, lo := q - 2000 - d.rdA RGU.RAND_SPAN_US * 1000, hi := q + 2000 }

section
variable {x c : Nat} {t : Term} {d : Device}

theorem startRanging_of_term (q : Nat) (h : d.term? x = some t) : d.startRanging x c q =
    (d.activated x c t).wantRange ((d.activated x c t).homeWish x c q) := by
  unfold Device.startRanging
  simp only [h]
  rfl

/-- What ranging's start leaves alone: all but terminals, messages and wishes to range. -/
theorem TermBlind.activated {β : Type} {g : Device → β} (h : TermBlind g) (ploam : ∀ m d, g (Device.ploam c m d) = g d) (x : Nat) (t : Term) (d : Device) :
    g (d.activated x c t) = g d :=
  ((ploam ..).trans (ploam ..)).trans ((ploam ..).trans ((h.setState ..).trans (h.term ..)))

theorem TermBlind.startRanging {β : Type} {g : Device → β} (h : TermBlind g) (ploam : ∀ m d, g (Device.ploam c m d) = g d)
    (wants : ∀ (d : Device) l, g { d with rng := { d.rng with wants := l } } = g d) (x q : Nat) (d : Device) : g (d.startRanging x c q) = g d := by
  cases stands : d.term? x with
  | none => simp [Device.startRanging, stands]
  | some t =>
    rw [startRanging_of_term q stands]
    exact (wants ..).trans (h.activated ploam ..)

theorem rng_activated (x c : Nat) (t : Term) (d : Device) : (d.activated x c t).rng = ((d.setTerm x (Term.homed c t)).setState x 2).rng :=
  (Device.ploam_rng ..).trans ((Device.ploam_rng ..).trans (Device.ploam_rng ..))

theorem term_activated (x c : Nat) (t : Term) (d : Device) :
    ∃ n, (d.activated x c t).term? x = some { Term.homed c t with state := 2, defects := n } := by
  unfold Device.term?
  rw [rng_activated]
  exact term_setState 2 (Device.term_setTerm_same ..)

theorem term_activated_ne {u : Nat} (t : Term) (d : Device) (other : u ≠ x) : (d.activated x c t).term? u = d.term? u := by
  unfold Device.term?
  rw [rng_activated]
  exact (term_setState_ne 2 _ other).trans (d.term_setTerm_ne _ other)

theorem waiting_activated (x c : Nat) (t : Term) (d : Device) :
    Cfr.waiting ((d.activated x c t).cfr c) = Cfr.waiting (d.cfr c) ++ .assignOnuId x :: d.profileMessages c := by
  have cfr : TermBlind (fun d : Device => d.cfr c) := ⟨fun _ => rfl, fun _ _ _ => rfl⟩
  have profiles : TermBlind (fun d : Device => d.profileMessages c) := ⟨fun _ => rfl, fun _ _ _ => rfl⟩
  have told : (((d.setTerm x (Term.homed c t)).setState x 2).ploam c (.assignOnuId x)).profileMessages c = d.profileMessages c :=
    (profiles.setState ..).trans (profiles.term ..)
  have before : ((d.setTerm x (Term.homed c t)).setState x 2).cfr c = d.cfr c := (cfr.setState ..).trans (cfr.term ..)
  unfold Device.activated
  rw [waiting_burstProfiles, waiting_ploam, told, before, List.append_assoc]
  rfl

end

/-! ### SERIAL_NUMBER_RECEIVED -/

/-- The round trip of a serial number stamped `t` in the discovery window of item `i` (R246). -/
def Device.roundTrip (t c k : Nat) (i : Item) (d : Device) : Nat :=
  let w := wordsPerFrame (d.slot c k).rate
  (nearest ((t : Int) * w - ((d.treeFrameStart (treeOf c) k : Int) * w + (i.start : Int) * 125000)) w).toNat

/-- The first terminal listed with a serial number. -/
def Device.snOwner (d : Device) (v n : Nat) : Option (Nat × Term) := d.rng.terms.find? (fun p => decide (p.2.vendor = v) && decide (p.2.serial = n))

/-- Whether terminal `x` is activated by a hearing on channel `c` (R241, R246). -/
def Device.activates (d : Device) (c x : Nat) (y : Term) : Prop := y.state = 1 ∧ termTree x = treeOf c ∧ ¬ d.moveBreaks x c = true

/-- The serial number is counted. -/
def Device.snCounted (d : Device) : Device := d.count 0x1B6 0x818 1

theorem moveBreaks_of_unheard {a e : Device} (h : e.unheard = a.unheard) (x c : Nat) : e.moveBreaks x c = a.moveBreaks x c :=
  eq_of_unheard h (fun d => d.moveBreaks x c) (fun _ => rfl)

theorem unheard_snCounted (d : Device) : d.snCounted.unheard = d.unheard := rfl

section
variable {t c k v n : Nat} {d : Device}

theorem serialNumberReceived_unheard (h : (d.slot c k).items.find? Item.isDisc = none ∨ (d.slot c k).mapped = false ∨ (d.slot c k).frame ≠ k ∨ d.receiving c = false) :
    serialNumberReceived t c k v n d = d := by
  unfold serialNumberReceived
  dsimp only
  change (match (d.slot c k).items.find? Item.isDisc with | none => d | some i => _) = d
  cases found : (d.slot c k).items.find? Item.isDisc with
  | none => rfl
  | some i =>
    refine if_pos ?_
    obtain none | unmapped | other | deaf := h
    · exact absurd (found.symm.trans none) nofun
    · exact .inl (by simp [unmapped])
    · exact .inl (by simp [other])
    · exact .inr (by simp [deaf])

section
variable {i : Item} (found : (d.slot c k).items.find? Item.isDisc = some i) (mapped : (d.slot c k).mapped = true) (frame : (d.slot c k).frame = k)
  (rx : d.receiving c = true)
include found mapped frame rx

theorem serialNumberReceived_eq : serialNumberReceived t c k v n d =
    match d.snOwner v n with
    | some (x, y) =>
      let e := d.snCounted.heardAgain (treeOf c) x
      if y.state = 1 ∧ termTree x = treeOf c ∧ ¬ e.moveBreaks x c = true then e.startRanging x c (d.roundTrip t c k i) else e.discover c v n (d.roundTrip t c k i)
    | none => d.snCounted.discover c v n (d.roundTrip t c k i) := by
  unfold serialNumberReceived
  dsimp only
  change (match (d.slot c k).items.find? Item.isDisc with | none => d | some i => _) = _
  rw [found]
  exact if_neg (by simp [mapped, frame, rx])

theorem serialNumberReceived_of_none (owner : d.snOwner v n = none) :
    serialNumberReceived t c k v n d = d.snCounted.discover c v n (d.roundTrip t c k i) := by
  rw [serialNumberReceived_eq found mapped frame rx, owner]

section
variable {x : Nat} {y : Term} (owner : d.snOwner v n = some (x, y))
include owner

theorem serialNumberReceived_of_waiting (waits : d.activates c x y) :
    serialNumberReceived t c k v n d = (d.snCounted.heardAgain (treeOf c) x).startRanging x c (d.roundTrip t c k i) := by
  rw [serialNumberReceived_eq found mapped frame rx, owner]
  dsimp only
  rw [moveBreaks_of_unheard ((unheard_heardAgain ..).trans (unheard_snCounted d))]
  exact if_pos waits

theorem serialNumberReceived_of_other (waits : ¬ d.activates c x y) :
    serialNumberReceived t c k v n d = (d.snCounted.heardAgain (treeOf c) x).discover c v n (d.roundTrip t c k i) := by
  rw [serialNumberReceived_eq found mapped frame rx, owner]
  dsimp only
  rw [moveBreaks_of_unheard ((unheard_heardAgain ..).trans (unheard_snCounted d))]
  exact if_neg waits

end

/-- A heard serial number is listed, or starts the ranging of its terminal, once no isolation of the tree waits for the terminal. -/
theorem serialNumberReceived_cases : ∃ e : Device, (e = d.snCounted ∨ ∃ x, e = d.snCounted.heardAgain (treeOf c) x) ∧
    (serialNumberReceived t c k v n d = e.discover c v n (d.roundTrip t c k i) ∨
      ∃ x, serialNumberReceived t c k v n d = e.startRanging x c (d.roundTrip t c k i)) := by
  cases owner : d.snOwner v n with
  | none => exact ⟨_, .inl rfl, .inl (serialNumberReceived_of_none found mapped frame rx owner)⟩
  | some p =>
    obtain ⟨x, y⟩ := p
    by_cases waits : d.activates c x y
    · exact ⟨_, .inr ⟨x, rfl⟩, .inr ⟨x, serialNumberReceived_of_waiting found mapped frame rx owner waits⟩⟩
    · exact ⟨_, .inr ⟨x, rfl⟩, .inl (serialNumberReceived_of_other found mapped frame rx owner waits)⟩

/-- What a heard serial number leaves alone, once it is counted. -/
theorem serialNumberReceived_keeps {β : Type} {g : Device → β} (h : TermBlind g) (ploam : ∀ m d, g (Device.ploam c m d) = g d)
    (brx : ∀ w x d, g (Device.setBrx w x d) = g d) (rng : ∀ (d : Device) r, g { d with rng := r } = g d) (full : ∀ d, g (Device.count 0x1B6 0x820 1 d) = g d)
    (produced : ∀ d v, g (Device.wr RGU.DISC_PRODUCED v d) = g d) : g (serialNumberReceived t c k v n d) = g d.snCounted := by
  obtain ⟨e, heard, made⟩ := serialNumberReceived_cases (t := t) (v := v) (n := n) found mapped frame rx
  have before : g e = g d.snCounted := by
    obtain rfl | ⟨x, rfl⟩ := heard
    exacts [rfl, forEach_keeps' g (List.range 4) (Device.heardOn (treeOf c) x) (fun _ _ => brx ..) _]
  refine Eq.trans ?_ before
  obtain listed | ⟨x, ranged⟩ := made
  · rw [listed]
    exact discover_keeps full produced (fun d _ => rng d _) ..
  · rw [ranged]
    exact h.startRanging ploam (fun d _ => rng d _) ..

end

end

end Sys2Proof.Machine

namespace Sys2Proof.Safety

open Sys2Proof.Machine

/-- What a serial number makes of the discovery list of a device `e` that differs from `a` in counters and receivers alone. -/
theorem discovery_effect {a e : Device} {c v n q : Nat} (same : e.unheard = a.unheard) (overflow : e.ctr 0x1B6 0x820 = a.ctr 0x1B6 0x820) : let b := e.discover c v n q
    b.rng.terms = a.rng.terms ∧ b.trees = a.trees ∧
    (a.discLive.length = 512 → (∀ f ∈ a.discLive, ¬ a.discLists v n f) → Counts 0x1B6 0x820 1 a b ∧ b.rng = a.rng) ∧
    (a.discLive.length ≠ 512 → (∀ f ∈ a.discLive, ¬ a.discLists v n f) → b.rd RGU.DISC_PRODUCED = (a.rd RGU.DISC_PRODUCED + 1) % 1024 ∧
      Tbl.get? b.rng.disc (a.rd RGU.DISC_PRODUCED % 512) = some (a.discEntry c v n q)) ∧
    ((∃ f ∈ a.discLive, a.discLists v n f) → b.rd RGU.DISC_PRODUCED = a.rd RGU.DISC_PRODUCED ∧ ∃ f ∈ a.discLive, ∃ z, Tbl.get? a.rng.disc f = some z ∧
      z.vendor = v ∧ z.serial = n ∧ Tbl.get? b.rng.disc f = some { z with seen := min 15 (z.seen + 1) }) := by
  have live : e.discLive = a.discLive := eq_of_unheard same _ (fun _ => rfl)
  have lists : e.discLists v n = a.discLists v n := eq_of_unheard same (fun d => d.discLists v n) (fun _ => rfl)
  have rng : e.rng = a.rng := eq_of_unheard same (·.rng) (fun _ => rfl)
  have produced : e.rd RGU.DISC_PRODUCED = a.rd RGU.DISC_PRODUCED := eq_of_unheard same (·.rd RGU.DISC_PRODUCED) (fun _ => rfl)
  have entry : e.discEntry c v n q = a.discEntry c v n q := eq_of_unheard same (fun d => d.discEntry c v n q) (fun _ => rfl)
  have trees : e.trees = a.trees := eq_of_unheard same (·.trees) (fun _ => rfl)
  rw [← live, ← lists, ← rng, ← produced, ← entry, ← trees]
  refine ⟨discover_keeps (g := fun d => d.rng.terms) (fun _ => rfl) (fun _ _ => rfl) (fun _ _ => rfl) ..,
    discover_keeps (g := fun d => d.trees) (fun _ => rfl) (fun _ _ => rfl) (fun _ _ => rfl) .., fun full new => ?_, fun room new => discover_new new room, discover_seen⟩
  rw [discover_full q new full]
  exact ⟨(Device.ctr_count_same ..).trans (by rw [overflow]), rfl⟩

/-- What the start of ranging makes of a device `e` that differs from `a` in counters and receivers alone. -/
theorem ranging_effect {a e : Device} {c x q : Nat} {y : Term} (same : e.unheard = a.unheard) (stands : a.term? x = some y) : let b := e.startRanging x c q
    (∃ z, b.term? x = some z ∧ z.state = 2 ∧ z.homeSet = true ∧ z.homeWc = c % 4 ∧ z.rangeFails = 0 ∧ z.handle = y.handle) ∧
    (∀ u, u ≠ x → b.term? u = a.term? u) ∧
    b.rng.wants = a.rng.wants ++ [{ term := x, chan := (b.home x).getD c, lo := q - 2000 - a.rdA RGU.RAND_SPAN_US * 1000, hi := q + 2000 }] ∧
    b.rng.disc = a.rng.disc ∧
    Cfr.waiting (b.cfr c) = Cfr.waiting (a.cfr c) ++ [.assignOnuId x, .burstProfile 0 (a.timing c).short (a.rd (CH.DELIM_LO c)) (a.rd (CH.DELIM_HI c)),
      .burstProfile 1 (a.timing c).long (a.rd (CH.DELIM_LO c)) (a.rd (CH.DELIM_HI c))] := by
  have term : e.term? = a.term? := eq_of_unheard same _ (fun _ => rfl)
  have wants : e.rng.wants = a.rng.wants := eq_of_unheard same (·.rng.wants) (fun _ => rfl)
  have disc : e.rng.disc = a.rng.disc := eq_of_unheard same (·.rng.disc) (fun _ => rfl)
  have span : e.rdA RGU.RAND_SPAN_US = a.rdA RGU.RAND_SPAN_US := eq_of_unheard same (·.rdA RGU.RAND_SPAN_US) (fun _ => rfl)
  have cfr : e.cfr c = a.cfr c := eq_of_unheard same (·.cfr c) (fun _ => rfl)
  have profiles : e.profileMessages c = a.profileMessages c := eq_of_unheard same (·.profileMessages c) (fun _ => rfl)
  have spanned : (e.activated x c y).rdA RGU.RAND_SPAN_US = e.rdA RGU.RAND_SPAN_US :=
    TermBlind.activated (g := fun d => d.rdA RGU.RAND_SPAN_US) ⟨fun _ => rfl, fun _ _ _ => rfl⟩ (fun _ _ => rfl) x y e
  have wished : (e.activated x c y).rng.wants = e.rng.wants :=
    TermBlind.activated (g := fun d => d.rng.wants) ⟨fun _ => rfl, fun _ _ _ => rfl⟩ (fun _ _ => rfl) x y e
  have listed : (e.activated x c y).rng.disc = e.rng.disc :=
    TermBlind.activated (g := fun d => d.rng.disc) ⟨fun _ => rfl, fun _ _ _ => rfl⟩ (fun _ _ => rfl) x y e
  have waiting := waiting_activated x c y e
  obtain ⟨n, homed⟩ := term_activated x c y e
  have others (u : Nat) (other : u ≠ x) := term_activated_ne (c := c) y e other
  dsimp only
  rw [startRanging_of_term q ((congrFun term x).trans stands), ← wants, ← span, ← disc, ← wished, ← spanned, ← listed]
  rw [cfr, profiles] at waiting
  rw [term] at others
  generalize e.activated x c y = f at waiting homed others
  exact ⟨⟨_, homed, rfl, rfl, rfl, rfl, rfl⟩, others, rfl, rfl, waiting⟩

/-- What a heard serial number counts, and the parts it leaves alone. -/
theorem serialNumber_frame {t c k v n : Nat} {a : Device} {i : Item} (found : (a.slot c k).items.find? Item.isDisc = some i) (mapped : (a.slot c k).mapped = true)
    (frame : (a.slot c k).frame = k) (rx : a.receiving c = true) : let b := serialNumberReceived t c k v n a
    Counts 0x1B6 0x818 1 a b ∧ b.elsewhere = a.elsewhere ∧ b.fret = a.fret := by
  refine ⟨?_, serialNumberReceived_keeps (g := Device.elsewhere) found mapped frame rx ⟨fun _ => rfl, fun _ _ _ => rfl⟩ (fun _ _ => rfl) (fun _ _ _ => rfl)
      (fun _ _ => rfl) (fun _ => rfl) (fun _ _ => rfl),
    serialNumberReceived_keeps (g := fun d => d.fret) found mapped frame rx ⟨fun _ => rfl, fun _ _ _ => rfl⟩ (fun _ _ => rfl) (fun _ _ _ => rfl)
      (fun _ _ => rfl) (fun _ => rfl) (fun _ _ => rfl)⟩
  refine (serialNumberReceived_keeps (g := fun d => d.ctr 0x1B6 0x818) found mapped frame rx ⟨fun d => d.ctr_count_ne 1 (by decide), fun _ _ _ => rfl⟩
    (fun _ _ => rfl) (fun _ _ _ => rfl) (fun _ _ => rfl) (fun d => d.ctr_count_ne 1 (by decide)) (fun _ _ => rfl)).trans ?_
  exact a.ctr_count_same ..

/-- Settles O29: nothing without the window; in it the owner of the serial number, where it waits, starts ranging, and any other serial number is listed. -/
theorem serialNumbersAreHeard : Obligations.SerialNumbersAreHeard := by
  unfold Obligations.SerialNumbersAreHeard
  intro t c k v n s hr
  refine Makes.intro hr (exec_serialNumberReceived ..) ?_
  generalize s.dev.arrive t = a
  refine ⟨serialNumberReceived_unheard, fun i found mapped frame rx => ?_⟩
  replace found : (a.slot c.val k).items.find? Item.isDisc = some i := found
  obtain ⟨counted, elsewhere, fret⟩ := serialNumber_frame (t := a.now) (v := v.toNat) (n := n.toNat) found mapped frame rx
  have again (x : Nat) : (a.snCounted.heardAgain (treeOf c.val) x).unheard = a.unheard := (unheard_heardAgain ..).trans (unheard_snCounted a)
  have overflow : a.snCounted.ctr 0x1B6 0x820 = a.ctr 0x1B6 0x820 := a.ctr_count_ne 1 (by decide)
  have overflowAgain (x : Nat) : (a.snCounted.heardAgain (treeOf c.val) x).ctr 0x1B6 0x820 = a.ctr 0x1B6 0x820 := by
    unfold Device.ctr
    rw [ctrs_heardAgain]
    exact overflow
  refine ⟨counted, fun x y owner w => ?_, fun x y owner stands waits tree fits => ?_, fun other => ?_, ?_⟩
  · replace owner : a.snOwner v.toNat n.toNat = some (x, y) := owner
    have heard := heardAgain_extraFor (treeOf c.val) x w a.snCounted
    by_cases waits : a.activates c.val x y
    · rw [serialNumberReceived_of_waiting found mapped frame rx owner waits]
      exact (congrArg (·.extraFor) (TermBlind.startRanging (g := fun d => d.brx _) ⟨fun _ => rfl, fun _ _ _ => rfl⟩ (fun _ _ => rfl) (fun _ _ => rfl) ..)).trans heard
    · rw [serialNumberReceived_of_other found mapped frame rx owner waits]
      exact (congrArg (·.extraFor) (discover_keeps (g := fun d => d.brx _) (fun _ => rfl) (fun _ _ => rfl) (fun _ _ => rfl) ..)).trans heard
  · rw [serialNumberReceived_of_waiting found mapped frame rx owner ⟨waits, tree, by simp [fits]⟩]
    exact ranging_effect (again x) stands
  · cases owner : a.snOwner v.toNat n.toNat with
    | none =>
      rw [serialNumberReceived_of_none found mapped frame rx owner]
      exact discovery_effect (unheard_snCounted a) overflow
    | some p =>
      obtain ⟨x, y⟩ := p
      have bars : ¬ a.activates c.val x y := by
        rintro ⟨waits, tree, fits⟩
        obtain away | elsewhere | full := other x y owner
        exacts [away waits, elsewhere tree, fits full]
      rw [serialNumberReceived_of_other found mapped frame rx owner bars]
      exact discovery_effect (again x) (overflowAgain x)
  · simp only [Device.elsewhere, Prod.mk.injEq] at elsewhere
    obtain ⟨cells, svc, pkt, hif, net, -⟩ := elsewhere
    exact ⟨cells, svc, fret, pkt, hif, net⟩

end Sys2Proof.Safety
end

section
/-!
PROOFS. The end of a burst (R201 to R211): what the walk of a burst leaves alone, what its decode counts, how it moves the peg, and the statement
`Obligations.BurstsEnd`.
-/

namespace Sys2Proof.Machine

open Sys2Proof.Safety

/-! ### The frames and messages of a burst (R203 to R205, R216, R228) -/

/-- What the frames and messages of a burst on channel `c` may touch, `g` does not see: what a violation may, and their counters. -/
structure WalkBlind {β : Type} (c : Nat) (g : Device → β) : Prop extends ChargeBlind g where
  walked : ∀ d o, o ∈ [0x928, 0x930, 0x988, 0x990, 0x998, 0x9A0, 0x9B0] → g (Device.count (chanPage c) o 1 d) = g d
  closed : ∀ d, g (Device.count 0x001 0x938 1 d) = g d

section
variable {c x port : Nat} {use : Nat → PortUse} {h : XgemHdr} {d : Device}

theorem passXgem_eq (c x : Nat) (use : Nat → PortUse) (d : Device) (named : h.port = some port) : passXgem c x use h d =
    if (use port).closed then d.count 0x001 0x938 1
    else if !(use port).known || !d.onCourse x c then d.violation c x 0x05 0x988 0
    else if !h.room then d.count (chanPage c) 0x9B0 1
    else if d.capo && !d.fenced then d.count (chanPage c) 0x928 1 else d := by
  simp only [passXgem, named]

theorem passXgem_closed (named : h.port = some port) (closed : (use port).closed = true) : passXgem c x use h d = d.count 0x001 0x938 1 := by
  rw [passXgem_eq c x use d named, if_pos closed]

section
variable (named : h.port = some port) (opened : (use port).closed = false)
include named opened

theorem passXgem_unknown (stray : (use port).known = false ∨ d.onCourse x c = false) : passXgem c x use h d = d.violation c x 0x05 0x988 0 := by
  rw [passXgem_eq c x use d named, if_neg (by simp [opened]), if_pos (by simpa using stray)]

variable (known : (use port).known = true) (course : d.onCourse x c = true)
include known course

theorem passXgem_dropped (full : h.room = false) : passXgem c x use h d = d.count (chanPage c) 0x9B0 1 := by
  simp [passXgem_eq c x use d named, opened, known, course, full]

theorem passXgem_forwarded (room : h.room = true) (capo : d.capo = true) (free : d.fenced = false) : passXgem c x use h d = d.count (chanPage c) 0x928 1 := by
  simp [passXgem_eq c x use d named, opened, known, course, room, capo, free]

end

end

namespace WalkBlind

variable {β : Type} {c : Nat} {g : Device → β} (h : WalkBlind c g)
include h

theorem violated {o : Nat} (ho : o ∈ [0x988, 0x990, 0x9A0]) (d : Device) (x code answer : Nat) : g (d.violation c x code o answer) = g d :=
  h.violation d c x (fun d => h.walked d o (by simp at ho ⊢; omega)) ..

theorem passXgem (x : Nat) (use : Nat → PortUse) (f : XgemHdr) (d : Device) : g (Machine.passXgem c x use f d) = g d := by
  cases named : f.port with
  | none => simp [Machine.passXgem, named]
  | some port =>
    rw [passXgem_eq c x use d named]
    split
    · exact h.closed d
    · split
      · exact h.violated (by simp) ..
      · split
        · exact h.walked d _ (by simp)
        · split
          exacts [h.walked d _ (by simp), rfl]

theorem walkInterval (m x len : Nat) (ws : List Codeword) (use : Nat → PortUse) (hs : List XgemHdr) (pos : Nat) (hunt : Bool) (d : Device) :
    g (Machine.walkInterval m c x len ws use hs pos hunt d) = g d := by
  induction hs generalizing pos hunt d with
  | nil => rfl
  | cons f r ih =>
    unfold Machine.walkInterval
    dsimp only
    split
    · exact ih ..
    · split
      · exact ih ..
      · split
        · exact (ih ..).trans (h.walked d _ (by simp))
        · split
          · exact h.violated (by simp) ..
          · split
            exacts [ih .., (ih ..).trans (h.passXgem ..)]

theorem ploamUp (x : Nat) (asked good : Bool) (d : Device) : g (Machine.ploamUp c x asked good d) = g d := by
  unfold Machine.ploamUp
  extract_lets d1 d2 tries d3 n
  have counted : g d1 = g d := h.walked d _ (by simp)
  have expected : g d2 = g d := by
    unfold d2
    split
    exacts [counted, (h.violated (by simp) ..).trans counted]
  have malformed : g d3 = g d := (h.violated (by simp) ..).trans expected
  split
  · exact (h.rng d2 _).trans expected
  · split
    exacts [(h.rng ..).trans ((h.rng d3 _).trans malformed), malformed]

theorem walkBurst (m : Nat) (r : BurstRx) (disc : Bool) (use : List Nat → Nat → PortUse) (is : List (Item × GrantDecode)) (d : Device) :
    g (Machine.walkBurst m c r disc use is d) = g d := by
  unfold Machine.walkBurst
  extract_lets asked d1 grants
  have told : g d1 = g d := by
    unfold d1 Device.whenSome
    split
    · split
      exacts [h.walked d _ (by simp), h.ploamUp ..]
    · rfl
  exact (forEach_keeps' g _ _ (fun _ _ => h.walkInterval ..) d1).trans told

theorem shadowSample (s : Slot) (i : Item) (stamp : Nat) (d : Device) : g (d.shadowSample c s i stamp) = g d := by
  unfold Device.shadowSample
  dsimp only
  split
  exacts [h.rng d _, rfl]

end WalkBlind

/-! ### What sees no frame -/

theorem walkBlind_peg (c w n : Nat) : WalkBlind c (fun d : Device => d.peg w n) := ⟨chargeBlind_peg w n, fun _ _ _ => rfl, fun _ => rfl⟩

theorem walkBlind_fret (c : Nat) : WalkBlind c (fun d : Device => d.fret) := ⟨chargeBlind_fret, fun _ _ _ => rfl, fun _ => rfl⟩

theorem walkBlind_elsewhere (c : Nat) : WalkBlind c Device.elsewhere := ⟨chargeBlind_elsewhere, fun _ _ _ => rfl, fun _ => rfl⟩

/-- The counters of the decode and of the pegs count no frame. -/
theorem walkBlind_ctr (c : Nat) {o : Nat} (h : o ∈ [0x918, 0x920, 0x9C0, 0x938]) : WalkBlind c (fun d : Device => d.ctr (chanPage c) o) := by
  simp only [List.mem_cons, List.not_mem_nil, or_false] at h
  refine ⟨chargeBlind_ctr c (by omega) (by simp; omega), fun d r hr => d.ctr_count_ne 1 ?_, fun d => d.ctr_count_ne 1 ?_⟩
  · simp only [List.mem_cons, List.not_mem_nil, or_false] at hr
    exact chanCtr_ne c (by omega) (by omega) (by omega)
  · unfold ctrKey chanPage
    omega

/-! ### The peg (R209 to R211) -/

section
variable {c w n x res : Nat} {p : Peg} {r : BurstRx} {d : Device} {m : Slot} {i : Item}

theorem peg_setPeg_same (c n : Nat) (p : Peg) (d : Device) : (d.setPeg c n p).peg c n = p := Tbl.getD_put_same ..

theorem peg_setPeg_ne (p : Peg) (d : Device) (h : 512 * w + n ≠ 512 * c + x) : (d.setPeg c x p).peg w n = d.peg w n := Tbl.getD_put_ne _ _ _ _ h

theorem ctr_setPeg (q o c n : Nat) (p : Peg) (d : Device) : (d.setPeg c n p).ctr q o = d.ctr q o := rfl

/-- The peg that a well received burst leaves (R211): the state its receiver converged to, with the frame and the temperature. -/
def Device.converged (c : Nat) (r : BurstRx) (res : Nat) (d : Device) : Peg :=
  { w0 := r.w0 % 2 ^ 30, w1 := bits r.w1 0 18 + bits r.w1 18 8 * 2 ^ 18, phase := r.phase % 128, captured := true, forceStale := false,
    frame := d.frame % 2 ^ 32, temp := d.pegTemp c, residual := res }

theorem updatePeg_captures (lit : Bool) (small : res ≤ d.rdA (CH.PEG_MAX_RESIDUAL c)) :
    d.updatePeg c x r .received res lit = (d.setPeg c (x % 512) (d.converged c r res)).count (chanPage c) 0x938 1 := if_pos small

theorem updatePeg_stores (lit : Bool) (large : d.rdA (CH.PEG_MAX_RESIDUAL c) < res) :
    d.updatePeg c x r .received res lit = d.setPeg c (x % 512) { d.peg c (x % 512) with residual := res } := if_neg (Nat.not_le.2 large)

theorem updatePeg_damaged (lit : Bool) : d.updatePeg c x r .damaged res lit = d.setPeg c (x % 512) { d.peg c (x % 512) with residual := res } := rfl

/-- An end moves one peg at most, and counts nothing but a capture. -/
theorem updatePeg_cases (c x : Nat) (r : BurstRx) (k : RecKind) (res : Nat) (lit : Bool) (d : Device) : d.updatePeg c x r k res lit = d ∨
    ∃ p, d.updatePeg c x r k res lit = d.setPeg c (x % 512) p ∨ d.updatePeg c x r k res lit = (d.setPeg c (x % 512) p).count (chanPage c) 0x938 1 := by
  cases k with
  | received =>
    rcases Nat.lt_or_ge (d.rdA (CH.PEG_MAX_RESIDUAL c)) res with large | small
    exacts [.inr ⟨_, .inl (updatePeg_stores lit large)⟩, .inr ⟨_, .inr (updatePeg_captures lit small)⟩]
  | damaged => exact .inr ⟨_, .inl rfl⟩
  | noShow =>
    unfold Device.updatePeg
    dsimp only
    split
    exacts [.inr ⟨_, .inl rfl⟩, .inl rfl]
  | _ => exact .inl rfl

/-- The items of a map that a burst came in. -/
def rxItems (r : BurstRx) (m : Slot) : List Item := r.grants.filterMap (fun g => m.items[g.1]?)

/-- What a burst came to by its items: DAMAGED where any is, else as the first (R211). -/
def Device.burstOutcome (c : Nat) (r : BurstRx) (m : Slot) (d : Device) : RecKind :=
  let kinds := (rxItems r m).map (fun i => d.burstKind c m i r)
  if kinds.contains .damaged then .damaged else kinds.headD .noShow

/-- The residual of a burst in its items (R202). -/
def rxResidual (n : Nat) (r : BurstRx) (m : Slot) : Nat := residualOf n (r.grants.flatMap (fun g => g.2.words)) (((rxItems r m).map (·.line)).sum)

/-- The map of a burst with what was decoded of it (R201). -/
def Device.burstMap (c : Nat) (r : BurstRx) (d : Device) : Slot := Slot.decoded (d.rdA (CH.LDPC_MAX_ITER c)) (d.slot c r.frame) r.grants

/-- The peg of a burst's terminal at its end, where it is no answer to a discovery (R211). -/
def Device.pegEnd (c : Nat) (r : BurstRx) (m : Slot) (d : Device) : Device :=
  match rxItems r m with
  | [] => d
  | i :: _ => if Item.isDisc i then d else d.updatePeg c i.term r (d.burstOutcome c r m) (rxResidual (d.rdA (CH.LDPC_MAX_ITER c)) r m) (d.preambleLit c m i)

theorem pegEnd_of_grant (head : (rxItems r m).head? = some i) (grant : i.kind = .grant) :
    d.pegEnd c r m = d.updatePeg c i.term r (d.burstOutcome c r m) (rxResidual (d.rdA (CH.LDPC_MAX_ITER c)) r m) (d.preambleLit c m i) := by
  obtain ⟨l, items⟩ := List.head?_eq_some_iff.1 head
  unfold Device.pegEnd
  rw [items]
  exact if_neg (by simp [Item.isDisc, grant])

/-- Only the peg of an item's terminal moves, and nothing but captures counts. -/
theorem pegEnd_cases (c : Nat) (r : BurstRx) (m : Slot) (d : Device) : d.pegEnd c r m = d ∨ ∃ i ∈ rxItems r m, ∃ p,
    d.pegEnd c r m = d.setPeg c (i.term % 512) p ∨ d.pegEnd c r m = (d.setPeg c (i.term % 512) p).count (chanPage c) 0x938 1 := by
  unfold Device.pegEnd
  split
  · exact .inl rfl
  · rename_i items
    rw [items]
    split
    · exact .inl rfl
    · exact (updatePeg_cases ..).imp_right fun moved => ⟨_, List.mem_cons_self .., moved⟩

theorem pegEnd_keeps {β : Type} {g : Device → β} (peg : ∀ n p d, g (Device.setPeg c n p d) = g d) (captures : ∀ d, g (Device.count (chanPage c) 0x938 1 d) = g d)
    (r : BurstRx) (m : Slot) (d : Device) : g (d.pegEnd c r m) = g d := by
  obtain h | ⟨i, -, p, h | h⟩ := pegEnd_cases c r m d
  · rw [h]
  · rw [h, peg]
  · rw [h, captures, peg]

theorem pegEnd_peg_ne (small : n < 512) (other : w = c → ∀ i ∈ rxItems r m, i.term % 512 ≠ n) : (d.pegEnd c r m).peg w n = d.peg w n := by
  have apart : ∀ i ∈ rxItems r m, 512 * w + n ≠ 512 * c + i.term % 512 := fun i hi same => other (by omega) i hi (by omega)
  obtain h | ⟨i, hi, p, h | h⟩ := pegEnd_cases c r m d
  · rw [h]
  · rw [h, peg_setPeg_ne p d (apart i hi)]
  · rw [h]
    exact peg_setPeg_ne p d (apart i hi)

section
variable (ranked : d.rd MRU.ROLE ≠ 2)
include ranked

theorem burstKind_of_active (i : Item) : d.burstKind c m i r = (d.judge c m i).1 := if_neg ranked

theorem burstOutcome_received (head : (rxItems r m).head? = some i) (all : ∀ j ∈ rxItems r m, (d.judge c m j).1 = .received) :
    d.burstOutcome c r m = .received := by
  have kinds : (rxItems r m).map (fun j => d.burstKind c m j r) = (rxItems r m).map (fun _ => .received) :=
    List.map_congr_left fun j hj => (burstKind_of_active ranked j).trans (all j hj)
  obtain ⟨l, items⟩ := List.head?_eq_some_iff.1 head
  unfold Device.burstOutcome
  rw [kinds, items]
  simp

theorem burstOutcome_damaged (any : ∃ j ∈ rxItems r m, (d.judge c m j).1 = .damaged) : d.burstOutcome c r m = .damaged := by
  obtain ⟨j, hj, damaged⟩ := any
  exact if_pos (List.contains_iff_mem.2 (List.mem_map.2 ⟨j, hj, (burstKind_of_active ranked j).trans damaged⟩))

end

end

/-! ### The end of a mapped burst (R201 to R205, R211, R252) -/

/-- The items of a burst with what was decoded of each (R201). -/
def rxDecoded (r : BurstRx) (m : Slot) : List (Item × GrantDecode) := r.grants.filterMap (fun g => (m.items[g.1]?).map (fun i => (i, g.2)))

theorem rxItems_eq_map (r : BurstRx) (m : Slot) : rxItems r m = (rxDecoded r m).map (·.1) := by
  unfold rxItems rxDecoded
  rw [List.map_filterMap]
  congr 1
  funext g
  cases m.items[g.1]? <;> rfl

/-- The walk of a burst's frames and the standby's sample, after its peg. -/
def Device.heardEnd (c : Nat) (r : BurstRx) (use : List Nat → Nat → PortUse) (m : Nat) (s : Slot) (i0 : Item) (k : RecKind) (is : List (Item × GrantDecode)) (d : Device) : Device :=
  let disc := Item.isDisc i0
  let mine := match k with | .received => true | .damaged => true | _ => false
  let inTime := match r.stamp with | some t => i0.delims.any (fun x => decide (x.stamp = t)) | none => false
  let d := match r.stamp with
    | some t => if d.rd MRU.ROLE = 2 ∧ mine then d.shadowSample c s i0 t else d
    | none => d
  if mine || (inTime && (disc || (decide (r.term ≠ i0.term) && decide (k = .noShow)))) then walkBurst m c r disc use is d else d

theorem WalkBlind.heardEnd {β : Type} {c : Nat} {g : Device → β} (h : WalkBlind c g) (r : BurstRx) (use : List Nat → Nat → PortUse) (m : Nat) (s : Slot) (i0 : Item)
    (k : RecKind) (is : List (Item × GrantDecode)) (d : Device) : g (d.heardEnd c r use m s i0 k is) = g d := by
  unfold Device.heardEnd
  extract_lets disc mine inTime e
  have sampled : g e = g d := by
    unfold e
    split
    · split
      exacts [h.shadowSample .., rfl]
    · rfl
  split
  exacts [(h.walkBurst ..).trans sampled, sampled]

/-- A mapped burst is kept on its items, moves its peg, and then has its frames walked. -/
theorem mappedEnd_eq (c : Nat) (r : BurstRx) (use : List Nat → Nat → PortUse) (d : Device) : let s := d.burstMap c r; let e := d.setSlot c r.frame s
    d.mappedEnd c r use = match rxDecoded r s with
      | [] => e.pegEnd c r s
      | p :: _ => (e.pegEnd c r s).heardEnd c r use (d.rdA (CH.LDPC_MAX_ITER c)) s p.1 (e.burstOutcome c r s) (rxDecoded r s) := by
  intro s e
  have outcome : e.burstOutcome c r s = if ((rxDecoded r s).map (fun p => e.burstKind c s p.1 r)).contains .damaged then .damaged
      else ((rxDecoded r s).map (fun p => e.burstKind c s p.1 r)).headD .noShow := by
    simp only [Device.burstOutcome, rxItems_eq_map, List.map_map, Function.comp_def]
  have moved : e.pegEnd c r s = match rxDecoded r s with
      | [] => e
      | p :: _ => if Item.isDisc p.1 then e else e.updatePeg c p.1.term r (e.burstOutcome c r s) (residualOf (d.rdA (CH.LDPC_MAX_ITER c))
          (r.grants.flatMap (fun g => g.2.words)) (((rxDecoded r s).map (fun p => p.1.line)).sum)) (e.preambleLit c s p.1) := by
    unfold Device.pegEnd rxResidual
    rw [rxItems_eq_map, List.map_map]
    cases rxDecoded r s <;> rfl
  rw [moved, outcome]
  unfold Device.mappedEnd
  extract_lets m s' e' is
  have decoded : rxDecoded r s = is := rfl
  rw [decoded]
  clear_value is
  cases is <;> rfl

/-- What the frames of a burst do not touch, the end of a mapped burst makes as its decode and the peg make it. -/
theorem WalkBlind.mappedEnd {β : Type} {c : Nat} {g : Device → β} (h : WalkBlind c g) (r : BurstRx) (use : List Nat → Nat → PortUse) (d : Device) :
    g (d.mappedEnd c r use) = g ((d.setSlot c r.frame (d.burstMap c r)).pegEnd c r (d.burstMap c r)) := by
  rw [mappedEnd_eq]
  split
  exacts [rfl, h.heardEnd ..]

/-! ### The end of a burst (R201, R177) -/

/-- The codewords and the trailer of a burst counted (R201). -/
def Device.burstCounted (c : Nat) (r : BurstRx) (d : Device) : Device :=
  let m := d.rdA (CH.LDPC_MAX_ITER c)
  let ws := r.grants.flatMap (fun g => g.2.words) ++ r.loose
  ((d.count (chanPage c) 0x918 (correctedOf m ws)).count (chanPage c) 0x920 (uncorrectableOf m ws)).countIf (!r.bip) (chanPage c) 0x9C0

/-- Whether a burst is matched to the map of its frame. -/
def Device.matched (d : Device) (c : Nat) (r : BurstRx) : Prop := (d.slot c r.frame).mapped = true ∧ (d.slot c r.frame).frame = r.frame ∧ r.grants ≠ []

section
variable {c : Nat} {r : BurstRx} {use : List Nat → Nat → PortUse} {d : Device}

/-- The count touches nothing but counters. -/
theorem burstCounted_eq (c : Nat) (r : BurstRx) (d : Device) : ∃ l, d.burstCounted c r = { d with ctrs := l } := by
  unfold Device.burstCounted Device.countIf
  dsimp only
  split
  exacts [⟨_, rfl⟩, ⟨_, rfl⟩]

theorem burstCounted_ctr_ne {o : Nat} (small : o < 0x1000) (h : o ∉ [0x918, 0x920, 0x9C0]) : (d.burstCounted c r).ctr (chanPage c) o = d.ctr (chanPage c) o := by
  have apart {q : Nat} (e : Device) (n : Nat) (hq : q ∈ [0x918, 0x920, 0x9C0]) : (e.count (chanPage c) q n).ctr (chanPage c) o = e.ctr (chanPage c) o := by
    refine e.ctr_count_ne n (chanCtr_ne c small ?_ ?_)
    · simp at hq
      omega
    · rintro rfl
      exact h hq
  unfold Device.burstCounted Device.countIf
  dsimp only
  split <;> simp [apart]

/-- What the decoder found is counted, each count on its own counter. -/
theorem burstCounted_counts (c : Nat) (r : BurstRx) (d : Device) : let b := d.burstCounted c r; let m := d.rdA (CH.LDPC_MAX_ITER c)
    let ws := r.grants.flatMap (fun g => g.2.words) ++ r.loose
    Counts (chanPage c) 0x918 (correctedOf m ws) d b ∧ Counts (chanPage c) 0x920 (uncorrectableOf m ws) d b ∧
    (if r.bip then b.ctr (chanPage c) 0x9C0 = d.ctr (chanPage c) 0x9C0 else Counts (chanPage c) 0x9C0 1 d b) := by
  intro b m ws
  have apart (e : Device) {o q : Nat} (n : Nat) (small : o < 0x1000) (small' : q < 0x1000) (h : q ≠ o) :
      (e.count (chanPage c) q n).ctr (chanPage c) o = e.ctr (chanPage c) o := e.ctr_count_ne n (chanCtr_ne c small small' h)
  unfold b Device.burstCounted Device.countIf Counts
  cases r.bip <;> simp [apart, Device.ctr_count_same, m, ws]

theorem burstEnd_unreceived (blind : d.receiving c = false) : burstEnd c r use d = d := if_pos (by simp [blind])

theorem burstEnd_matched (rx : d.receiving c = true) (h : d.matched c r) : burstEnd c r use d = (d.burstCounted c r).mappedEnd c r use := by
  obtain ⟨l, counted⟩ := burstCounted_eq c r d
  have still : (d.burstCounted c r).matched c r := by
    rw [counted]
    exact h
  exact (if_neg (by simp [rx])).trans (if_pos still)

/-- What is blind to the record of an unmapped burst and to the bursts kept for it reads the counts only. -/
theorem burstEnd_unmatched {β : Type} {g : Device → β} (rx : d.receiving c = true) (h : ¬ d.matched c r)
    (counted : ∀ o ∈ [0x840, 0x870, 0x868], ∀ n d, g (Device.count 0x1B5 o n d) = g d) (produced : ∀ d v, g (Device.wr GEN.RING_PRODUCED v d) = g d)
    (ring : ∀ (d : Device) t, g { d with fret := { d.fret with ring := t } } = g d)
    (kept : ∀ (d : Device) l, g { d with bursts := { d.bursts with kept := l } } = g d) :
    g (burstEnd c r use d) = g (d.burstCounted c r) := by
  have posted (t x unc words : Nat) (e : Device) : g (e.postUnmapped c t x unc words) = g e :=
    (Device.ringWrite_keeps g (counted _ (by simp) 1) produced ring _ _).trans ((counted _ (by simp) ..).trans (counted _ (by simp) ..))
  obtain ⟨l, same⟩ := burstCounted_eq c r d
  have still : ¬ (d.burstCounted c r).matched c r := by
    rw [same]
    exact h
  unfold burstEnd
  rw [if_neg (by simp [rx])]
  refine (congrArg g (if_neg still)).trans ?_
  split
  · rfl
  · split
    exacts [posted .., kept ..]

/-- What the frames of a burst, its peg, its map and its record do not touch reads the counts only. -/
theorem WalkBlind.burstEnd {β : Type} {g : Device → β} (h : WalkBlind c g) (rx : d.receiving c = true)
    (counted : ∀ o ∈ [0x840, 0x870, 0x868], ∀ n d, g (Device.count 0x1B5 o n d) = g d) (produced : ∀ d v, g (Device.wr GEN.RING_PRODUCED v d) = g d)
    (fret : ∀ (d : Device) f, g { d with fret := f } = g d) (kept : ∀ (d : Device) l, g { d with bursts := { d.bursts with kept := l } } = g d)
    (pegs : ∀ e, g (Device.pegEnd c r (d.burstMap c r) e) = g e) (use : List Nat → Nat → PortUse) :
    g (Machine.burstEnd c r use d) = g (d.burstCounted c r) := by
  by_cases mapped : d.matched c r
  · obtain ⟨l, same⟩ := burstCounted_eq c r d
    have map : (d.burstCounted c r).burstMap c r = d.burstMap c r := by
      rw [same]
      rfl
    rw [burstEnd_matched rx mapped, h.mappedEnd, map, pegs]
    exact fret ..
  · exact burstEnd_unmatched rx mapped counted produced (fun d _ => fret d _) kept

/-- The device as the peg of a matched burst's terminal is judged: counted, with the decode on its map. -/
def Device.rxDecode (c : Nat) (r : BurstRx) (d : Device) : Device := (d.burstCounted c r).setSlot c r.frame (d.burstMap c r)

/-- What sees neither counters nor maps reads alike in both. -/
theorem rxDecode_keeps {β : Type} {g : Device → β} (blind : ∀ (d : Device) l k s, g (({ d with ctrs := l } : Device).setSlot c k s) = g d) (r : BurstRx) (d : Device) :
    g (d.rxDecode c r) = g d := by
  obtain ⟨l, same⟩ := burstCounted_eq c r d
  rw [Device.rxDecode, same]
  exact blind ..

theorem rdA_rxDecode (f : Fld) (c : Nat) (r : BurstRx) (d : Device) : (d.rxDecode c r).rdA f = d.rdA f :=
  rxDecode_keeps (g := fun d => d.rdA f) (fun _ _ _ _ => rfl) r d

theorem peg_rxDecode (w n c : Nat) (r : BurstRx) (d : Device) : (d.rxDecode c r).peg w n = d.peg w n :=
  rxDecode_keeps (g := fun d => d.peg w n) (fun _ _ _ _ => rfl) r d

theorem outcome_rxDecode (m : Slot) (c : Nat) (r : BurstRx) (d : Device) : (d.rxDecode c r).burstOutcome c r m = d.burstOutcome c r m :=
  rxDecode_keeps (g := fun d => d.burstOutcome c r m) (fun _ _ _ _ => rfl) r d

theorem converged_rxDecode (res c : Nat) (r : BurstRx) (d : Device) : (d.rxDecode c r).converged c r res = d.converged c r res :=
  rxDecode_keeps (g := fun d => d.converged c r res) (fun _ _ _ _ => rfl) r d

theorem WalkBlind.matchedEnd {β : Type} {g : Device → β} (h : WalkBlind c g) (rx : d.receiving c = true) (mapped : d.matched c r) (use : List Nat → Nat → PortUse) :
    g (Machine.burstEnd c r use d) = g ((d.rxDecode c r).pegEnd c r (d.burstMap c r)) := by
  obtain ⟨l, same⟩ := burstCounted_eq c r d
  have map : (d.burstCounted c r).burstMap c r = d.burstMap c r := by
    rw [same]
    rfl
  rw [burstEnd_matched rx mapped, h.mappedEnd, map]
  rfl

theorem burstEnd_slot (rx : d.receiving c = true) (mapped : d.matched c r) : (burstEnd c r use d).slot c r.frame = d.burstMap c r := by
  have fret : (burstEnd c r use d).fret = (d.rxDecode c r).fret := ((walkBlind_fret c).matchedEnd rx mapped use).trans
    (pegEnd_keeps (g := fun d => d.fret) (fun _ _ _ => rfl) (fun _ => rfl) ..)
  exact (congrArg (fun f : Fret => Tbl.getD f.slots (slotKey c r.frame) {}) fret).trans (Device.slot_setSlot_same ..)

section
variable {i : Item} (rx : d.receiving c = true) (mapped : (d.slot c r.frame).mapped = true) (frame : (d.slot c r.frame).frame = r.frame)
  (head : (rxItems r (d.burstMap c r)).head? = some i)
include mapped frame head

theorem matched_of_head : d.matched c r := ⟨mapped, frame, fun none => by simp [rxItems, none] at head⟩

variable (grant : i.kind = .grant)
include rx grant

/-- The peg of a matched burst's terminal is updated by the outcome and the residual, before any frame is walked. -/
theorem burstEnd_updates {β : Type} {g : Device → β} (h : WalkBlind c g) (use : List Nat → Nat → PortUse) : ∃ lit, g (burstEnd c r use d) =
    g ((d.rxDecode c r).updatePeg c i.term r ((d.rxDecode c r).burstOutcome c r (d.burstMap c r)) (rxResidual (d.rdA (CH.LDPC_MAX_ITER c)) r (d.burstMap c r)) lit) := by
  refine ⟨(d.rxDecode c r).preambleLit c (d.burstMap c r) i, ?_⟩
  rw [h.matchedEnd rx (matched_of_head mapped frame head), pegEnd_of_grant head grant, rdA_rxDecode]

variable (ranked : d.rd MRU.ROLE ≠ 2)
include ranked

/-- A well received burst with a small residual captures the peg anew (R211). -/
theorem burstEnd_captures (use : List Nat → Nat → PortUse) (all : ∀ j ∈ rxItems r (d.burstMap c r), (d.judge c (d.burstMap c r) j).1 = .received)
    (small : rxResidual (d.rdA (CH.LDPC_MAX_ITER c)) r (d.burstMap c r) ≤ d.rdA (CH.PEG_MAX_RESIDUAL c)) : let b := burstEnd c r use d
    Counts (chanPage c) 0x938 1 d b ∧ b.peg c (i.term % 512) = d.converged c r (rxResidual (d.rdA (CH.LDPC_MAX_ITER c)) r (d.burstMap c r)) := by
  obtain ⟨_, count⟩ := burstEnd_updates rx mapped frame head grant (walkBlind_ctr c (o := 0x938) (by simp)) use
  obtain ⟨_, peg⟩ := burstEnd_updates rx mapped frame head grant (walkBlind_peg c c (i.term % 512)) use
  have stands : (d.rxDecode c r).ctr (chanPage c) 0x938 = d.ctr (chanPage c) 0x938 := burstCounted_ctr_ne (d := d) (by decide) (by decide)
  rw [outcome_rxDecode, burstOutcome_received ranked head all, updatePeg_captures _ ((rdA_rxDecode ..).symm ▸ small), converged_rxDecode] at count peg
  refine ⟨count.trans ?_, peg.trans (peg_setPeg_same ..)⟩
  rw [Device.ctr_count_same, ctr_setPeg, stands]

/-- Otherwise the residual alone is stored. -/
theorem burstEnd_stores (use : List Nat → Nat → PortUse) (why : (∃ j ∈ rxItems r (d.burstMap c r), (d.judge c (d.burstMap c r) j).1 = .damaged) ∨
      (∀ j ∈ rxItems r (d.burstMap c r), (d.judge c (d.burstMap c r) j).1 = .received) ∧
        d.rdA (CH.PEG_MAX_RESIDUAL c) < rxResidual (d.rdA (CH.LDPC_MAX_ITER c)) r (d.burstMap c r)) :
    (burstEnd c r use d).peg c (i.term % 512) = { d.peg c (i.term % 512) with residual := rxResidual (d.rdA (CH.LDPC_MAX_ITER c)) r (d.burstMap c r) } := by
  obtain ⟨_, peg⟩ := burstEnd_updates rx mapped frame head grant (walkBlind_peg c c (i.term % 512)) use
  rw [outcome_rxDecode] at peg
  obtain any | ⟨all, large⟩ := why
  · rw [burstOutcome_damaged ranked any, updatePeg_damaged, peg_setPeg_same, peg_rxDecode] at peg
    exact peg
  · rw [burstOutcome_received ranked head all, updatePeg_stores _ ((rdA_rxDecode ..).symm ▸ large), peg_setPeg_same, peg_rxDecode] at peg
    exact peg

end

section
variable (rx : d.receiving c = true)
include rx

/-- The counters of the decode come out as the decode counts them. -/
theorem burstEnd_ctr {o : Nat} (h : o ∈ [0x918, 0x920, 0x9C0]) (use : List Nat → Nat → PortUse) :
    (burstEnd c r use d).ctr (chanPage c) o = (d.burstCounted c r).ctr (chanPage c) o := by
  simp only [List.mem_cons, List.not_mem_nil, or_false] at h
  refine (walkBlind_ctr c (by simp; omega)).burstEnd rx (fun q hq n e => e.ctr_count_ne n ?_) (fun _ _ => rfl) (fun _ _ => rfl) (fun _ _ => rfl)
    (fun e => pegEnd_keeps (g := fun d => d.ctr (chanPage c) o) (fun _ _ _ => rfl) (fun e => e.ctr_count_ne 1 ?_) ..) use
  · simp only [List.mem_cons, List.not_mem_nil, or_false] at hq
    exact chanCtr_ne c (by omega) (by omega) (by omega)
  · exact chanCtr_ne c (by omega) (by omega) (by omega)

theorem burstEnd_peg_ne {w n : Nat} (small : n < 512) (other : w = c → ∀ i ∈ rxItems r (d.burstMap c r), i.term % 512 ≠ n) (use : List Nat → Nat → PortUse) :
    (burstEnd c r use d).peg w n = d.peg w n := by
  obtain ⟨l, same⟩ := burstCounted_eq c r d
  refine ((walkBlind_peg c w n).burstEnd rx (fun _ _ _ _ => rfl) (fun _ _ => rfl) (fun _ _ => rfl) (fun _ _ => rfl) (fun e => pegEnd_peg_ne small other) use).trans ?_
  rw [same]
  rfl

theorem burstEnd_elsewhere (use : List Nat → Nat → PortUse) : (burstEnd c r use d).elsewhere = d.elsewhere := by
  obtain ⟨l, same⟩ := burstCounted_eq c r d
  refine ((walkBlind_elsewhere c).burstEnd rx (fun _ _ _ _ => rfl) (fun _ _ => rfl) (fun _ _ => rfl) (fun _ _ => rfl)
    (fun e => pegEnd_keeps (g := Device.elsewhere) (fun _ _ _ => rfl) (fun _ => rfl) ..) use).trans ?_
  rw [same]
  rfl

end

end

end Sys2Proof.Machine

namespace Sys2Proof.Safety

open Sys2Proof.Machine

/-- Settles O27: the decode counts on its own counters, which no frame, message or record of the burst touches; the map keeps what was decoded; and the
peg is updated by the outcome of the burst's items and the residual before any frame is walked, which no frame undoes. -/
theorem burstsEnd : Obligations.BurstsEnd := by
  unfold Obligations.BurstsEnd
  refine ⟨fun t c r s hr => Makes.intro hr (exec_burstEnd ..) ?_, fun c x use h port d named => ?_⟩
  · generalize s.dev.arrive t = a
    unfold burstEndCmd
    generalize a.portUse r.term = use
    refine ⟨burstEnd_unreceived, fun rx => ?_, ?_⟩
    · obtain ⟨corrected, uncorrectable, trailer⟩ := burstCounted_counts c.val r a
      refine ⟨(burstEnd_ctr rx (by simp) use).trans corrected, (burstEnd_ctr rx (by simp) use).trans uncorrectable, ?_,
        fun mapped frame grants => burstEnd_slot rx ⟨mapped, frame, grants⟩,
        fun i mapped frame head grant ranked => ⟨fun all => ⟨fun small => ?_, fun large => ?_⟩, fun any => ?_⟩⟩
      · unfold Counts at trailer ⊢
        rw [burstEnd_ctr rx (by simp)]
        exact trailer
      · obtain ⟨count, peg⟩ := burstEnd_captures rx mapped frame head grant ranked use all small
        exact ⟨count, _, peg, rfl, rfl, rfl, rfl, rfl, rfl, rfl⟩
      · exact burstEnd_stores rx mapped frame head grant ranked use (.inr ⟨all, large⟩)
      · exact burstEnd_stores rx mapped frame head grant ranked use (.inl any)
    · cases rx : a.receiving c.val with
      | false =>
        rw [burstEnd_unreceived rx]
        exact ⟨fun _ _ _ _ => rfl, rfl, rfl, rfl, rfl, rfl⟩
      | true =>
        have elsewhere := burstEnd_elsewhere (r := r) rx use
        simp only [Device.elsewhere, Prod.mk.injEq] at elsewhere
        obtain ⟨cells, svc, pkt, hif, net, -⟩ := elsewhere
        exact ⟨fun w n other small => burstEnd_peg_ne rx small other use, cells, svc, pkt, hif, net⟩
  · refine ⟨passXgem_closed named, fun opened known course => ⟨passXgem_dropped named opened known course, passXgem_forwarded named opened known course⟩,
      fun opened stray detects => ?_⟩
    rw [passXgem_unknown named opened stray]
    exact violation_counts c x 0x05 0 detects (by decide) (by decide)

end Sys2Proof.Safety
end

section
/-!
PROOFS. Ranging (R239, R247 to R250, R260, R262): what a terminal's ranging leaves alone, what a measured round trip, a correction and a drift sample
make of the terminal and of the messages to it, and the statement `Obligations.RangingMeasures`.
-/

namespace Sys2Proof.Machine

open Sys2Proof.Safety

/-! ### What ranging leaves alone -/

namespace TermBlind

variable {β : Type} {g : Device → β} (h : TermBlind g) (d : Device) (x : Nat)
include h

theorem modWc (w : Nat) (f : TermWc → TermWc) : g (d.modWc x w f) = g d := by
  unfold Device.modWc
  split
  exacts [h.term .., rfl]

theorem markSufi (w : Nat) (on : Bool) : g (d.markSufi x w on) = g d := by
  have marked := h.modWc d x w (fun y => { y with sufi := on })
  unfold Device.markSufi
  dsimp only
  split
  · exact marked
  · split
    exacts [(h.raiseDefect ..).trans marked, (h.clearDefect ..).trans marked]

end TermBlind

/-- What the moves of a terminal may touch, `g` does not see: the tables of the RGU, its count of raised defects, and the messages at the framers. -/
structure MoveBlind {β : Type} (g : Device → β) : Prop where
  defect : ∀ d, g (Device.count 0x1B6 0x870 1 d) = g d
  rng : ∀ (d : Device) r, g { d with rng := r } = g d
  cfr : ∀ d c x, g (Device.setCfr c x d) = g d

namespace MoveBlind

variable {β : Type} {g : Device → β} (h : MoveBlind g) (d : Device) (x : Nat)
include h

theorem terms : TermBlind g := ⟨h.defect, fun d _ _ => h.rng d _⟩

theorem ploam (c : Nat) (m : Ploam) : g (d.ploam c m) = g d := h.cfr ..

theorem setState (st : Nat) : g (d.setState x st) = g d := h.terms.setState ..

theorem rangingTime (c : Nat) (delta : Int) : g (d.rangingTime x c delta) = g d :=
  (h.rng ..).trans ((h.ploam ..).trans (h.terms.modWc ..))

theorem deactivate : g (d.deactivate x) = g d :=
  (h.setState ..).trans ((forEach_keeps' g _ _ (fun _ _ => h.terms.modWc ..) _).trans ((h.rng ..).trans (h.ploam ..)))

end MoveBlind

/-- Every counter but that of raised defects stands. -/
theorem moveBlind_ctr {p o : Nat} (other : ctrKey p o ≠ ctrKey 0x1B6 0x870) : MoveBlind (fun d => d.ctr p o) :=
  ⟨fun d => d.ctr_count_ne 1 other, fun _ _ => rfl, fun _ _ _ => rfl⟩

theorem termBlind_cfr (c : Nat) : TermBlind (fun d => d.cfr c) := ⟨fun _ => rfl, fun _ _ _ => rfl⟩

/-! ### One channel's ranging state of a terminal -/

/-- A terminal with its ranging state on wavelength `w` changed. -/
def Term.modWc (w : Nat) (f : TermWc → TermWc) (t : Term) : Term := { t with wc := t.wc.set w (f (t.wc.getD w {})) }

section
variable {x z w v c : Nat} {f : TermWc → TermWc} {t : Term} {d e : Device}

theorem Term.wc_modWc_same (f : TermWc → TermWc) (has : w < t.wc.length) : (Term.modWc w f t).wc.getD w {} = f (t.wc.getD w {}) := by
  simp [Term.modWc, has]

theorem Term.wc_modWc_ne (f : TermWc → TermWc) (other : v ≠ w) : (Term.modWc w f t).wc.getD v {} = t.wc.getD v {} := by
  simp [Term.modWc, List.getD_eq_getElem?_getD, List.getElem?_set_ne other.symm]

@[simp] theorem Term.length_modWc (w : Nat) (f : TermWc → TermWc) (t : Term) : (Term.modWc w f t).wc.length = t.wc.length := List.length_set ..

theorem term_modWc (w : Nat) (f : TermWc → TermWc) (h : d.term? x = some t) : (d.modWc x w f).term? x = some (Term.modWc w f t) := by
  unfold Device.modWc
  simp only [h]
  exact Device.term_setTerm_same ..

theorem term_modWc_ne (w : Nat) (f : TermWc → TermWc) (d : Device) (other : z ≠ x) : (d.modWc x w f).term? z = d.term? z := by
  unfold Device.modWc
  split
  exacts [d.term_setTerm_ne _ other, rfl]

/-- A terminal with other conditions raised (R260). -/
def Term.flawed (n : Nat) (t : Term) : Term := { t with defects := n }

@[simp] theorem Term.wc_flawed (n : Nat) (t : Term) : (Term.flawed n t).wc = t.wc := rfl

theorem term_markSufi (w : Nat) (on : Bool) (h : d.term? x = some t) :
    ∃ n, (d.markSufi x w on).term? x = some (Term.flawed n (Term.modWc w (fun y => { y with sufi := on }) t)) := by
  have marked := term_modWc w (fun y => { y with sufi := on }) h
  unfold Device.markSufi
  simp only [marked]
  split
  exacts [term_raiseDefect 2 marked, term_clearDefect 2 marked]

/-- A terminal that keeps its course and its own home keeps its home channel (R109). -/
theorem home_same {t' : Term} (courses : e.trees.courses = d.trees.courses) (he : e.term? x = some t') (hd : d.term? x = some t)
    (hasHome : t'.homeSet = t.homeSet) (home : t'.homeWc = t.homeWc) : e.home x = d.home x := by
  unfold Device.home Device.course
  simp only [courses, he, hd, hasHome, home]

/-! ### Ranging_Time (R247 to R249) -/

/-- A channel's ranging state after its Ranging_Time: no sample is kept, and none is taken before tree frame `q`. -/
def TermWc.quieted (q : Nat) (y : TermWc) : TermWc := { y with samples := [], quietUntil := q }

/-- The tree frame at which the quiet time of a Ranging_Time sent now ends. -/
def Device.quietEnd (d : Device) (c : Nat) : Nat := d.treeFrame (treeOf c) d.now + d.quietSpan (treeOf c)

theorem term_rangingTime (c : Nat) (delta : Int) (h : d.term? x = some t) :
    (d.rangingTime x c delta).term? x = some (Term.modWc (c % 4) (TermWc.quieted (d.quietEnd c)) t) := term_modWc _ _ h

/-- The equalization delay of terminal `x` on wavelength `w`, 0 where there is no terminal. -/
def Device.eqdOf (d : Device) (x w : Nat) : Nat :=
  match d.term? x with
  | some y => (y.wc.getD w {}).eqd
  | none => 0

theorem eqdOf_of_term (w : Nat) (h : d.term? x = some t) : d.eqdOf x w = (t.wc.getD w {}).eqd := by simp [Device.eqdOf, h]

theorem waiting_rangingTime (delta : Int) (h : d.term? x = some t) (has : c % 4 < t.wc.length) :
    Cfr.waiting ((d.rangingTime x c delta).cfr c) = Cfr.waiting (d.cfr c) ++ [.rangingTime x (t.wc.getD (c % 4) {}).eqd delta] := by
  have quiet := term_modWc (c % 4) (TermWc.quieted (d.quietEnd c)) h
  have told : Cfr.waiting ((d.rangingTime x c delta).cfr c) = Cfr.waiting ((d.modWc x (c % 4) (TermWc.quieted (d.quietEnd c))).cfr c) ++
      [.rangingTime x ((d.modWc x (c % 4) (TermWc.quieted (d.quietEnd c))).eqdOf x (c % 4)) delta] := waiting_ploam ..
  rw [told, eqdOf_of_term _ quiet, (termBlind_cfr c).modWc, Term.wc_modWc_same _ has]
  rfl

/-! ### A measured round trip (R239, R247) -/

/-- A channel's ranging state with equalization delay `e`, whose acknowledgement is awaited. -/
def TermWc.delayed (e : Nat) (y : TermWc) : TermWc := { y with eqd := e, cum := 0, awaiting := true, fails := 0 }

/-- The round trip is counted, its defects are cleared, and the equalization delay stands. -/
def Device.ranged (x c rho : Nat) (d : Device) : Device :=
  ((((d.count 0x1B6 0x828 1).markSufi x (c % 4) false).clearDefect x 4).clearDefect x 3).modWc x (c % 4)
    (TermWc.delayed (d.upfDelay (treeOf c) - rho))

/-- The ranging state that a measured round trip leaves on its channel. -/
def TermWc.ranged (e : Nat) (y : TermWc) : TermWc := TermWc.delayed e { y with sufi := false }

theorem TermBlind.ranged {β : Type} {g : Device → β} (h : TermBlind g) (x c rho : Nat) (d : Device) :
    g (d.ranged x c rho) = g (Device.count 0x1B6 0x828 1 d) :=
  (h.modWc ..).trans ((h.clearDefect ..).trans ((h.clearDefect ..).trans (h.markSufi ..)))

theorem term_ranged (rho : Nat) (h : d.term? x = some t) (has : c % 4 < t.wc.length) : ∃ n, (d.ranged x c rho).term? x =
    some (Term.flawed n (Term.modWc (c % 4) (TermWc.ranged (d.upfDelay (treeOf c) - rho)) t)) := by
  obtain ⟨n₁, marked⟩ := term_markSufi (d := d.count 0x1B6 0x828 1) (c % 4) false h
  obtain ⟨n₂, settled⟩ := term_clearDefect 4 marked
  obtain ⟨n, cleared⟩ := term_clearDefect 3 settled
  refine ⟨n, (term_modWc _ _ cleared).trans ?_⟩
  unfold Term.modWc
  simp [Term.flawed, has, TermWc.ranged]

/-- A terminal with a round trip kept and no failure to range. -/
def Term.tripped (rho : Nat) (t : Term) : Term := { t with rangeFails := 0, rho := rho }

@[simp] theorem Term.wc_tripped (rho : Nat) (t : Term) : (Term.tripped rho t).wc = t.wc := rfl

/-- The round trip of the home channel is the terminal's. -/
def Device.tripOf (d : Device) (x c rho old : Nat) : Nat := if d.home x = some c then rho else old

theorem measured_fits {t' : Term} {rho : Nat} (h : d.term? x = some t) (fits : rho ≤ d.upfDelay (treeOf c)) (h' : (d.ranged x c rho).term? x = some t') :
    d.measured x c rho = ((d.ranged x c rho).setTerm x (Term.tripped ((d.ranged x c rho).tripOf x c rho t.rho) t')).rangingTime x c
      ((d.upfDelay (treeOf c) : Int) - rho) := by
  have stands : ((((((d.count 0x1B6 0x828 1).markSufi x (c % 4) false).clearDefect x 4).clearDefect x 3).modWc x (c % 4)
      (fun y => { y with eqd := d.upfDelay (treeOf c) - rho, cum := 0, awaiting := true, fails := 0 })).term? x) = some t' := h'
  unfold Device.measured
  simp only [h, Nat.not_lt.2 fits, if_false, stands]
  rfl

/-- The terminal that a measured round trip within the tree's upstream delay leaves. -/
theorem term_measured {rho : Nat} (h : d.term? x = some t) (has : c % 4 < t.wc.length) (fits : rho ≤ d.upfDelay (treeOf c)) :
    ∃ n, (d.measured x c rho).term? x = some (Term.modWc (c % 4) (TermWc.quieted (d.quietEnd c)) (Term.tripped (d.tripOf x c rho t.rho)
      (Term.flawed n (Term.modWc (c % 4) (TermWc.ranged (d.upfDelay (treeOf c) - rho)) t)))) := by
  obtain ⟨n, stands⟩ := term_ranged rho h has
  have home : (d.ranged x c rho).home x = d.home x :=
    home_same (congrArg (·.courses) (TermBlind.ranged (g := fun d => d.trees) ⟨fun _ => rfl, fun _ _ _ => rfl⟩ x c rho d)) stands h rfl rfl
  have blind : TermBlind (fun d : Device => d.quietEnd c) := ⟨fun _ => rfl, fun _ _ _ => rfl⟩
  have quiet (z : Term) : ((d.ranged x c rho).setTerm x z).quietEnd c = d.quietEnd c := (blind.term ..).trans (blind.ranged ..)
  refine ⟨n, ?_⟩
  rw [measured_fits h fits stands, term_rangingTime c _ (Device.term_setTerm_same ..), quiet, Device.tripOf, home]
  rfl

theorem measured_long {rho : Nat} (h : d.term? x = some t) (long : d.upfDelay (treeOf c) < rho) :
    let e := (d.count 0x1B6 0x838 1).raiseDefect x 4
    d.measured x c rho = if t.state = 2 then e.deactivate x else e.modWc x (c % 4) (fun y => { y with stopped := true }) := by
  unfold Device.measured
  simp only [h, long, if_true, decide_eq_true_eq]

/-! ### Corrections and drift samples (R248 to R250, R262) -/

/-- A channel's ranging state with equalization delay `e` after a correction by `m`. -/
def TermWc.corrected (e : Nat) (m : Int) (y : TermWc) : TermWc := { y with eqd := e, cum := y.cum - m }

/-- The correction is made, counted and sent. -/
def Device.corrected (x c e : Nat) (m : Int) (d : Device) : Device :=
  (((d.modWc x (c % 4) (TermWc.corrected e m)).count 0x1B6 0x840 1).clearDefect x 4).rangingTime x c (-m)

theorem correct_fits {m : Int} (h : d.term? x = some t) (fits : m ≤ ((t.wc.getD (c % 4) {}).eqd : Int)) :
    let e := d.corrected x c (((t.wc.getD (c % 4) {}).eqd : Int) - m).toNat m
    d.correct x c m = e ∨ d.correct x c m = e.raiseDefect x 3 := by
  have positive : ¬ ((t.wc.getD (c % 4) {}).eqd : Int) - m < 0 := by omega
  unfold Device.correct
  simp only [h, positive, if_false]
  split
  exacts [.inr rfl, .inl rfl]

/-- What a correction leaves on its channel, and the message that tells of it. -/
theorem corrected_effect (e : Nat) (m : Int) (h : d.term? x = some t) (has : c % 4 < t.wc.length) :
    ∃ z, (d.corrected x c e m).term? x = some z ∧ (z.wc.getD (c % 4) {}).eqd = e ∧
      Cfr.waiting ((d.corrected x c e m).cfr c) = Cfr.waiting (d.cfr c) ++ [.rangingTime x e (-m)] := by
  obtain ⟨n, (cleared : _ = some (Term.flawed n _))⟩ :=
    term_clearDefect (d := (d.modWc x (c % 4) (TermWc.corrected e m)).count 0x1B6 0x840 1) 4 (term_modWc _ _ h)
  have before : ((((d.modWc x (c % 4) (TermWc.corrected e m)).count 0x1B6 0x840 1).clearDefect x 4).cfr c) = d.cfr c :=
    ((termBlind_cfr c).clearDefect ..).trans ((termBlind_cfr c).modWc ..)
  have stays : c % 4 < (Term.flawed n (Term.modWc (c % 4) (TermWc.corrected e m) t)).wc.length := by simpa using has
  have told := waiting_rangingTime (-m) cleared stays
  rw [before, Term.wc_flawed, Term.wc_modWc_same _ has] at told
  refine ⟨_, term_rangingTime c (-m) cleared, ?_, told⟩
  rw [Term.wc_modWc_same _ stays, Term.wc_flawed, Term.wc_modWc_same _ has]
  rfl

theorem driftSample_quiet (off : Int) (h : d.term? x = some t) (quiet : d.treeFrame (treeOf c) d.now < (t.wc.getD (c % 4) {}).quietUntil) (late : Bool) :
    d.driftSample x c off late = if late then d.modWc x (c % 4) (fun y => { y with due := some off }) else d := by
  unfold Device.driftSample
  simp only [h, quiet, if_true]

theorem driftSample_late (off : Int) (h : d.term? x = some t) (loud : (t.wc.getD (c % 4) {}).quietUntil ≤ d.treeFrame (treeOf c) d.now) :
    d.driftSample x c off true = d.correct x c off := by
  unfold Device.driftSample
  simp only [h, Nat.not_lt.2 loud, if_false, if_true]

end

end Sys2Proof.Machine

namespace Sys2Proof.Safety

open Sys2Proof.Machine

section
variable {d : Device} {x c rho : Nat} {y : Term}

theorem measured_sets_delay (h : d.term? x = some y) (has : c % 4 < y.wc.length) (fits : rho ≤ d.upfDelay (treeOf c)) :
    ∃ z, (d.measured x c rho).term? x = some z ∧ (z.wc.getD (c % 4) {}).eqd = d.upfDelay (treeOf c) - rho ∧ (z.wc.getD (c % 4) {}).awaiting = true ∧
      (z.wc.getD (c % 4) {}).quietUntil = d.treeFrame (treeOf c) d.now + horizonOf (d.upfDelay (treeOf c)) + 2 ∧ (z.wc.getD (c % 4) {}).samples = [] ∧
      z.rangeFails = 0 ∧ (z.wc.getD (c % 4) {}).sufi = false ∧ (d.home x = some c → z.rho = rho) := by
  obtain ⟨n, stands⟩ := term_measured h has fits
  refine ⟨_, stands, ?_⟩
  rw [Term.wc_modWc_same _ (by simpa using has), Term.wc_tripped, Term.wc_flawed, Term.wc_modWc_same _ has]
  exact ⟨rfl, rfl, (Nat.add_assoc ..).symm, rfl, rfl, rfl, fun home => if_pos home⟩

theorem measured_counts_fit (h : d.term? x = some y) (has : c % 4 < y.wc.length) (fits : rho ≤ d.upfDelay (treeOf c)) :
    Counts 0x1B6 0x828 1 d (d.measured x c rho) := by
  have blind : MoveBlind (fun d : Device => d.ctr 0x1B6 0x828) := moveBlind_ctr (by decide)
  obtain ⟨n, stands⟩ := term_ranged rho h has
  rw [measured_fits h fits stands]
  exact (blind.rangingTime ..).trans ((blind.rng ..).trans ((blind.terms.ranged ..).trans (d.ctr_count_same ..)))

theorem measured_counts_long (h : d.term? x = some y) (long : d.upfDelay (treeOf c) < rho) : Counts 0x1B6 0x838 1 d (d.measured x c rho) := by
  have blind : MoveBlind (fun d : Device => d.ctr 0x1B6 0x838) := moveBlind_ctr (by decide)
  have raised := (blind.terms.raiseDefect (d.count 0x1B6 0x838 1) x 4).trans (d.ctr_count_same 0x1B6 0x838 1)
  rw [measured_long h long]
  split
  exacts [(blind.deactivate ..).trans raised, (blind.terms.modWc ..).trans raised]

theorem correct_counts {m : Int} (h : d.term? x = some y) (fits : m ≤ ((y.wc.getD (c % 4) {}).eqd : Int)) : Counts 0x1B6 0x840 1 d (d.correct x c m) := by
  have blind : MoveBlind (fun d : Device => d.ctr 0x1B6 0x840) := moveBlind_ctr (by decide)
  have corrected (e : Nat) : (d.corrected x c e m).ctr 0x1B6 0x840 = (d.ctr 0x1B6 0x840 + 1) % 2 ^ 64 := by
    refine (blind.rangingTime ..).trans ((blind.terms.clearDefect ..).trans ((Device.ctr_count_same ..).trans ?_))
    rw [blind.terms.modWc]
  obtain made | raised := correct_fits h fits
  · rw [made]
    exact corrected _
  · rw [raised]
    exact (blind.terms.raiseDefect ..).trans (corrected _)

theorem correct_lowers_delay {m : Int} (h : d.term? x = some y) (has : c % 4 < y.wc.length) (fits : m ≤ ((y.wc.getD (c % 4) {}).eqd : Int)) :
    ∃ z, (d.correct x c m).term? x = some z ∧ ((z.wc.getD (c % 4) {}).eqd : Int) = (y.wc.getD (c % 4) {}).eqd - m ∧
      Cfr.waiting ((d.correct x c m).cfr c) = Cfr.waiting (d.cfr c) ++ [.rangingTime x (z.wc.getD (c % 4) {}).eqd (-m)] := by
  obtain made | raised := correct_fits h fits
  all_goals
    obtain ⟨z, stands, delay, told⟩ := corrected_effect (((y.wc.getD (c % 4) {}).eqd : Int) - m).toNat m h has
    have lowered : ((z.wc.getD (c % 4) {}).eqd : Int) = (y.wc.getD (c % 4) {}).eqd - m := by omega
    generalize (((y.wc.getD (c % 4) {}).eqd : Int) - m).toNat = e at *
    subst delay
  · rw [made]
    exact ⟨z, stands, lowered, told⟩
  · rw [raised]
    obtain ⟨n, same⟩ := term_raiseDefect 3 stands
    exact ⟨_, same, lowered, (congrArg Cfr.waiting ((termBlind_cfr c).raiseDefect ..)).trans told⟩

end

/-- Settles O31: a round trip that fits sets the delay and one that does not is counted, a correction that fits lowers the delay and is sent, and the quiet
time decides about a sample. -/
theorem rangingMeasures : Obligations.RangingMeasures := by
  unfold Obligations.RangingMeasures
  intro d x c y h four
  have has : c % 4 < y.wc.length := by omega
  refine ⟨fun rho fits => ⟨measured_sets_delay h has fits, measured_counts_fit h has fits⟩, fun rho long => measured_counts_long h long,
    fun m fits => ⟨correct_counts h fits, correct_lowers_delay h has fits⟩, fun off quiet => ⟨driftSample_quiet off h quiet false, ?_⟩,
    fun off loud => driftSample_late off h loud⟩
  rw [driftSample_quiet off h quiet true]
  exact ⟨_, term_modWc (c % 4) (fun y => { y with due := some off }) h, Term.wc_modWc_same _ has⟩

end Sys2Proof.Safety
end

section
/-!
PROOFS. The moves of a terminal (R241, R247, R253, R258 to R260): an acknowledged Ranging_Time, a lasting loss and the end of LEAVING, and the statement
`Obligations.TerminalsMove`.
-/

namespace Sys2Proof.Machine

open Sys2Proof.Safety

/-- The device but for its counters, the RGU's tables and the messages at the framers. -/
def Device.unmoved (d : Device) : Device := { d with ctrs := [], rng := {}, trees := { d.trees with cfr := [] } }

theorem moveBlind_unmoved : MoveBlind Device.unmoved := ⟨fun _ => rfl, fun _ _ => rfl, fun _ _ _ => rfl⟩

theorem eq_of_unmoved {a b : Device} (h : b.unmoved = a.unmoved) :
    b = { a with ctrs := b.ctrs, rng := b.rng, trees := { a.trees with cfr := b.trees.cfr } } :=
  calc b = { b.unmoved with ctrs := b.ctrs, rng := b.rng, trees := { b.unmoved.trees with cfr := b.trees.cfr } } := rfl
    _ = { a.unmoved with ctrs := b.ctrs, rng := b.rng, trees := { a.unmoved.trees with cfr := b.trees.cfr } } := by rw [h]
    _ = { a with ctrs := b.ctrs, rng := b.rng, trees := { a.trees with cfr := b.trees.cfr } } := rfl

/-! ### Requests for ranging (R247) -/

/-- The request to range a channel of a terminal within 2 us of its round trip. -/
def rangeNear (x rho c : Nat) : RangeReq := { term := x, chan := c, lo := rho - 2000, hi := rho + 2000 }

/-- A channel's ranging state when its ranging begins anew. -/
def TermWc.anew (y : TermWc) : TermWc := { y with acked := false, stopped := false, fails := 0 }

/-- The ranging of a channel begins anew. -/
def Device.askRange (x rho c : Nat) (d : Device) : Device := (d.modWc x (c % 4) TermWc.anew).wantRange (rangeNear x rho c)

/-- A terminal of the same handle and state, whose ranging state on wavelength `w` is the same. -/
def Term.alike (w : Nat) (t z : Term) : Prop := z.wc.getD w {} = t.wc.getD w {} ∧ z.state = t.state ∧ z.handle = t.handle

section
variable {x rho c w u : Nat} {t : Term} {d : Device}

theorem rangeOn_of_term (cs : List Nat) (h : d.term? x = some t) : d.rangeOn x cs = forEach cs (Device.askRange x t.rho) d := by
  unfold Device.rangeOn
  simp only [h]
  rfl

theorem wants_askRange (x rho c : Nat) (d : Device) : (d.askRange x rho c).rng.wants = d.rng.wants ++ [rangeNear x rho c] := by
  have kept : (d.modWc x (c % 4) TermWc.anew).rng.wants = d.rng.wants :=
    TermBlind.modWc (g := fun d => d.rng.wants) ⟨fun _ => rfl, fun _ _ _ => rfl⟩ ..
  exact congrArg (· ++ _) kept

theorem wants_askEach (x rho : Nat) (cs : List Nat) (d : Device) :
    (forEach cs (Device.askRange x rho) d).rng.wants = d.rng.wants ++ cs.map (rangeNear x rho) := by
  induction cs generalizing d with
  | nil => simp
  | cons c r ih => rw [forEach_cons, ih, wants_askRange, List.append_assoc, List.map_cons, List.singleton_append]

theorem term_askEach {cs : List Nat} (others : ∀ c ∈ cs, c % 4 ≠ w) (h : d.term? x = some t) :
    ∃ z, (forEach cs (Device.askRange x rho) d).term? x = some z ∧ Term.alike w t z := by
  induction cs generalizing d t with
  | nil => exact ⟨t, h, rfl, rfl, rfl⟩
  | cons c r ih =>
    have asked : (d.askRange x rho c).term? x = some (Term.modWc (c % 4) TermWc.anew t) := term_modWc _ _ h
    obtain ⟨z, stands, same, state, handle⟩ := ih (fun e he => others e (List.mem_cons_of_mem _ he)) asked
    exact ⟨z, stands, same.trans (Term.wc_modWc_ne _ (others c (List.mem_cons_self ..)).symm), state, handle⟩

theorem term_askEach_ne (cs : List Nat) (d : Device) (other : u ≠ x) : (forEach cs (Device.askRange x rho) d).term? u = d.term? u :=
  have step (c : Nat) (e : Device) : (e.askRange x rho c).term? u = e.term? u := term_modWc_ne (c % 4) TermWc.anew e other
  forEach_keeps' (fun d => d.term? u) cs _ step d

theorem TermBlind.askEach {β : Type} {g : Device → β} (h : TermBlind g) (rng : ∀ (d : Device) r, g { d with rng := r } = g d) (x rho : Nat) (cs : List Nat)
    (d : Device) : g (forEach cs (Device.askRange x rho) d) = g d :=
  forEach_keeps' g cs _ (fun _ _ => (rng ..).trans (h.modWc ..)) d

/-- The other ranged channels of a terminal have other wavelengths than its home channel. -/
theorem rangeTargets_ne_home (home : d.home x = some c) (tree : termTree x = treeOf c) {e : Nat} (he : e ∈ d.rangeTargets x) (other : e ≠ c) :
    e % 4 ≠ c % 4 := by
  unfold Device.rangeTargets at he
  split at he
  · unfold Device.members at he
    simp only [home] at he
    split at he
    · obtain ⟨w, hw, rfl⟩ := List.mem_map.1 he
      have := List.mem_range.1 (List.mem_filter.1 hw).1
      unfold treeOf at tree
      omega
    · exact absurd (List.mem_singleton.1 he) other
  · rw [home] at he
    exact absurd (List.mem_singleton.1 he) other

/-- Whether a channel of terminal `t` at index `x` is neither ranged nor being ranged. -/
def Device.unranged (d : Device) (x : Nat) (t : Term) (c : Nat) : Bool :=
  let y := t.wc.getD (c % 4) {}
  !y.acked && !y.awaiting && !d.ranging x c

theorem rangeAgain_of_operating (h : d.term? x = some t) (operating : t.state = 3) :
    d.rangeAgain x = d.rangeOn x ((d.rangeTargets x).filter (d.unranged x t)) := by
  unfold Device.rangeAgain
  simp only [h, operating, if_true]
  rfl

theorem rangeAgain_of_other (h : d.term? x = some t) (other : t.state ≠ 3) : d.rangeAgain x = d := by
  unfold Device.rangeAgain
  simp only [h, other, if_false]

/-! ### What a change of ranging state leaves of a terminal's channels (R109, R119, R247) -/

theorem trees_modWc (x w : Nat) (f : TermWc → TermWc) (d : Device) : (d.modWc x w f).trees = d.trees :=
  TermBlind.modWc (g := fun d => d.trees) ⟨fun _ => rfl, fun _ _ _ => rfl⟩ ..

theorem regs_modWc (x w : Nat) (f : TermWc → TermWc) (d : Device) : (d.modWc x w f).regs = d.regs :=
  TermBlind.modWc (g := fun d => d.regs) ⟨fun _ => rfl, fun _ _ _ => rfl⟩ ..

theorem home_modWc (w : Nat) (f : TermWc → TermWc) (h : d.term? x = some t) : (d.modWc x w f).home x = d.home x :=
  home_same (congrArg (·.courses) (trees_modWc ..)) (term_modWc w f h) h rfl rfl

theorem rangeTargets_modWc (w : Nat) (f : TermWc → TermWc) (h : d.term? x = some t) : (d.modWc x w f).rangeTargets x = d.rangeTargets x := by
  unfold Device.rangeTargets Device.courseExt Device.members Device.course Device.on Device.rd
  rw [trees_modWc, regs_modWc, home_modWc w f h]

/-! ### RANGING_TIME_ACK -/

/-- A channel's ranging state once its Ranging_Time is acknowledged. -/
def TermWc.acknowledged (y : TermWc) : TermWc := { y with awaiting := false, acked := true }

/-- The channel is ranged; on its home channel a terminal in RANGING is OPERATING. -/
def Device.acknowledged (x c st : Nat) (d : Device) : Device :=
  let e := d.modWc x (c % 4) TermWc.acknowledged
  if st = 2 ∧ d.home x = some c then e.setState x 3 else e

theorem rangingTimeAck_of_none (n : Nat) (h : d.term? x = none) : rangingTimeAck n x c d = d := by
  unfold rangingTimeAck
  simp only [h]

theorem rangingTimeAck_unawaited (n : Nat) (h : d.term? x = some t) (idle : (t.wc.getD (c % 4) {}).awaiting = false ∨ termTree x ≠ treeOf c) :
    rangingTimeAck n x c d = d := by
  unfold rangingTimeAck
  simp only [h]
  refine if_neg ?_
  rintro ⟨awaits, tree⟩
  obtain calm | elsewhere := idle
  exacts [absurd (awaits.symm.trans calm) (by decide), elsewhere tree]

section
variable (n : Nat) (h : d.term? x = some t) (awaits : (t.wc.getD (c % 4) {}).awaiting = true) (tree : termTree x = treeOf c)
include h awaits tree

theorem rangingTimeAck_eq : rangingTimeAck n x c d =
    let e := d.modWc x (c % 4) TermWc.acknowledged
    if d.home x ≠ some c then e
    else if t.state = 2 then (e.setState x 3).rangeOn x ((d.rangeTargets x).filter (fun w => w ≠ c)) else e.rangeAgain x := by
  rw [← home_modWc (c % 4) TermWc.acknowledged h, ← rangeTargets_modWc (c % 4) TermWc.acknowledged h]
  unfold rangingTimeAck
  simp only [h]
  exact if_pos ⟨awaits, tree⟩

/-- An awaited acknowledgement marks the channel, and asks for the ranging of channels on other wavelengths: on the home channel, of all that are not
ranged. -/
theorem rangingTimeAck_awaited (has : c % 4 < t.wc.length) : ∃ cs,
    rangingTimeAck n x c d = forEach cs (Device.askRange x t.rho) (d.acknowledged x c t.state) ∧
      (∀ e ∈ cs, e % 4 ≠ c % 4) ∧ (t.state = 2 → d.home x = some c → cs = (d.rangeTargets x).filter (fun e => e ≠ c)) ∧
      (t.state < 2 ∨ 3 < t.state ∨ d.home x ≠ some c → cs = []) := by
  have acked := term_modWc (c % 4) TermWc.acknowledged h
  rw [rangingTimeAck_eq n h awaits tree, Device.acknowledged]
  by_cases home : d.home x = some c
  · rw [if_neg (not_not.2 home)]
    by_cases ranging : t.state = 2
    · obtain ⟨m, operating⟩ := term_setState 3 acked
      refine ⟨_, ?_, fun e he => ?_, fun _ _ => rfl, fun away => ?_⟩
      · rw [if_pos ranging, if_pos ⟨ranging, home⟩]
        exact (rangeOn_of_term _ operating :)
      · have other := List.mem_filter.1 he
        exact rangeTargets_ne_home home tree other.1 (of_decide_eq_true other.2)
      · simp [ranging, home] at away
    · rw [if_neg ranging, if_neg (fun both => ranging both.1)]
      by_cases operating : t.state = 3
      · refine ⟨_, (rangeAgain_of_operating acked operating).trans (rangeOn_of_term _ acked :), fun e he => ?_, fun two => absurd two ranging, fun away => ?_⟩
        · obtain ⟨target, unranged⟩ := List.mem_filter.1 he
          rw [rangeTargets_modWc _ _ h] at target
          refine rangeTargets_ne_home home tree target fun same => ?_
          subst same
          unfold Device.unranged at unranged
          rw [Term.wc_modWc_same _ has] at unranged
          exact Bool.false_ne_true unranged
        · simp [operating, home] at away
      · exact ⟨[], rangeAgain_of_other acked operating, nofun, fun two => absurd two ranging, fun _ => rfl⟩
  · rw [if_pos home, if_neg (fun both => home both.2)]
    exact ⟨[], rfl, nofun, fun _ back => absurd back home, fun _ => rfl⟩

end

theorem TermBlind.acknowledged {β : Type} {g : Device → β} (h : TermBlind g) (x c st : Nat) (d : Device) : g (d.acknowledged x c st) = g d := by
  unfold Device.acknowledged
  dsimp only
  split
  exacts [(h.setState ..).trans (h.modWc ..), h.modWc ..]

theorem term_acknowledged_ne (c st : Nat) (d : Device) (other : u ≠ x) : (d.acknowledged x c st).term? u = d.term? u := by
  unfold Device.acknowledged
  dsimp only
  split
  exacts [(term_setState_ne 3 _ other).trans (term_modWc_ne _ _ d other), term_modWc_ne _ _ d other]

theorem term_acknowledged (c st : Nat) (h : d.term? x = some t) :
    ∃ z, (d.acknowledged x c st).term? x = some z ∧ Term.alike (c % 4) { Term.modWc (c % 4) TermWc.acknowledged t with
      state := if st = 2 ∧ d.home x = some c then 3 else t.state } z := by
  have acked := term_modWc (c % 4) TermWc.acknowledged h
  unfold Device.acknowledged
  dsimp only
  split
  · obtain ⟨n, operating⟩ := term_setState 3 acked
    exact ⟨_, operating, rfl, rfl, rfl⟩
  · exact ⟨_, acked, rfl, rfl, rfl⟩

/-! ### The return to AWAITING_SN (R241) -/

/-- A channel's ranging state when its terminal is no longer ranged. -/
def TermWc.lapsed (y : TermWc) : TermWc := { y with acked := false, awaiting := false, stopped := false, fails := 0, due := none }

/-- The ranging of some of a terminal's channels lapses. -/
def Device.lapse (x : Nat) (l : List Nat) (d : Device) : Device := forEach l (fun w d => d.modWc x w TermWc.lapsed) d

/-- A terminal is not ranged any more. -/
def Device.dropWants (x : Nat) (d : Device) : Device := { d with rng := { d.rng with wants := d.rng.wants.filter (fun r => r.term ≠ x) } }

theorem deactivate_eq (x : Nat) (d : Device) :
    d.deactivate x = (((d.ploam (d.ploamChan x) (.deactivate x)).dropWants x).lapse x (List.range 4)).setState x 1 := rfl

theorem TermBlind.lapse {β : Type} {g : Device → β} (h : TermBlind g) (x : Nat) (l : List Nat) (d : Device) : g (d.lapse x l) = g d :=
  forEach_keeps' g l _ (fun _ _ => h.modWc ..) d

theorem term_lapse (l : List Nat) (h : d.term? x = some t) : ∃ z, (d.lapse x l).term? x = some z ∧ z.handle = t.handle ∧ z.state = t.state ∧
    ∀ (i : Nat) (y : TermWc), z.wc[i]? = some y → y.acked = true → i ∉ l ∧ t.wc[i]? = some y := by
  induction l generalizing d t with
  | nil => exact ⟨t, h, rfl, rfl, fun i y at_ _ => ⟨List.not_mem_nil, at_⟩⟩
  | cons w r ih =>
    obtain ⟨z, stands, handle, state, rest⟩ := ih (term_modWc w TermWc.lapsed h)
    refine ⟨z, stands, handle, state, fun i y at_ acked => ?_⟩
    obtain ⟨later, before⟩ := rest i y at_ acked
    by_cases own : i = w
    · subst own
      obtain ⟨_, rfl⟩ := List.getElem?_eq_some_iff.1 before
      simp [Term.modWc, TermWc.lapsed] at acked
    · refine ⟨by simp [own, later], ?_⟩
      unfold Term.modWc at before
      rwa [List.getElem?_set_ne (Ne.symm own)] at before

theorem term_deactivate (h : d.term? x = some t) : ∃ z, (d.deactivate x).term? x = some z ∧ z.state = 1 ∧ z.handle = t.handle ∧
    ∀ y ∈ z.wc, y.acked = true → y ∈ t.wc.drop 4 := by
  obtain ⟨z, lapsed, handle, -, kept⟩ :=
    term_lapse (d := (d.ploam (d.ploamChan x) (.deactivate x)).dropWants x) (List.range 4) h
  obtain ⟨n, waits⟩ := term_setState 1 lapsed
  refine ⟨_, waits, rfl, handle, fun y hy acked => ?_⟩
  obtain ⟨i, at_⟩ := List.mem_iff_getElem?.1 hy
  obtain ⟨late, before⟩ := kept i y at_ acked
  have four : 4 ≤ i := by simpa using late
  refine List.mem_iff_getElem?.2 ⟨i - 4, ?_⟩
  rw [List.getElem?_drop, Nat.add_sub_cancel' four, before]

theorem term_deactivate_ne (d : Device) (other : u ≠ x) : (d.deactivate x).term? u = d.term? u := by
  rw [deactivate_eq, term_setState_ne _ _ other]
  exact forEach_keeps' (fun d => d.term? u) _ _ (fun w d => term_modWc_ne w TermWc.lapsed d other) _

theorem wants_deactivate (x : Nat) (d : Device) : (d.deactivate x).rng.wants = d.rng.wants.filter (fun r => r.term ≠ x) := by
  have blind : TermBlind (fun d : Device => d.rng.wants) := ⟨fun _ => rfl, fun _ _ _ => rfl⟩
  exact (blind.setState ..).trans (blind.lapse ..)

theorem waiting_deactivate (x : Nat) (d : Device) :
    Cfr.waiting ((d.deactivate x).cfr (d.ploamChan x)) = Cfr.waiting (d.cfr (d.ploamChan x)) ++ [.deactivate x] := by
  rw [deactivate_eq, (termBlind_cfr _).setState, (termBlind_cfr _).lapse]
  exact waiting_ploam ..

/-! ### LOST_TIMEOUT -/

/-- Terminal `y` at index `x` has had LOBi for LOST_FRAMES tree frames. -/
def Device.lost (d : Device) (x : Nat) (y : Term) : Prop :=
  y.state = 3 ∧ d.lobi x = true ∧ y.lobSince + d.rdA RGU.LOST_FRAMES ≤ d.treeFrame (termTree x) d.now

theorem lostTimeout_of_none (n : Nat) (h : d.term? x = none) : lostTimeout n x d = d := by
  unfold lostTimeout
  simp only [h]

theorem lostTimeout_of_lost (h : d.term? x = some t) (lost : d.lost x t) : lostTimeout d.now x d = (d.count 0x1B6 0x850 1).deactivate x := by
  unfold lostTimeout
  simp only [h]
  exact if_pos lost

theorem lostTimeout_of_heard (h : d.term? x = some t) (heard : ¬ d.lost x t) : lostTimeout d.now x d = d := by
  unfold lostTimeout
  simp only [h]
  exact if_neg heard

/-! ### TERMINAL_FREE -/

/-- The status with which the destroy of a terminal freed at `n` completes (R304). -/
def Cmd.freed (n : Nat) (k : Cmd) : CmdSt :=
  if n ≤ Cmd.deadline k then .done stOk n true (Cmd.handle k) 0 0 else .done stTimeout (Cmd.deadline k) false (Cmd.handle k) 0 0

/-- A command goes on to the status that `st` gives it. -/
def Device.advance (st : Cmd → CmdSt) (k : Cmd) (d : Device) : Device := d.modCmd k.seq (fun e => { e with st := st k })

/-- A command that no command of the list is stands; one of the list, of a number of its own, has its status. -/
theorem cmds_advance (st : Cmd → CmdSt) {l : List Cmd} (own : l.Pairwise (fun a b => a.seq ≠ b.seq)) {e : Cmd} (he : e ∈ d.svc.cmds) :
    ((∀ k ∈ l, e.seq ≠ k.seq) → e ∈ (forEach l (Device.advance st) d).svc.cmds) ∧
    ∀ k ∈ l, e.seq = k.seq → { e with st := st k } ∈ (forEach l (Device.advance st) d).svc.cmds := by
  induction l generalizing d e with
  | nil => exact ⟨fun _ => he, nofun⟩
  | cons a r ih =>
    obtain ⟨first, rest⟩ := List.pairwise_cons.1 own
    have moved {e' : Cmd} (h : (if e.seq = a.seq then { e with st := st a } else e) = e') : e' ∈ (d.advance st a).svc.cmds :=
      List.mem_map.2 ⟨e, he, h⟩
    refine ⟨fun none => ?_, fun k hk same => ?_⟩
    · exact (ih rest (moved (if_neg (none a (List.mem_cons_self ..))))).1 fun k hk => none k (List.mem_cons_of_mem _ hk)
    · obtain rfl | later := List.mem_cons.1 hk
      · exact (ih rest (moved (if_pos same))).1 fun b hb => same ▸ first b hb
      · exact (ih rest (moved (if_neg fun here => first k later (here.symm.trans same)))).2 k later same

/-- The destroys that wait for a terminal of handle `h`. -/
def Device.destroys (d : Device) (h : Nat) : List Cmd :=
  d.svc.cmds.filter (fun k => Cmd.opcode k = 0x11 && Cmd.isWorking k && Cmd.handle k = h)

/-- Terminal `x` is gone, with what is its own. -/
def Device.withoutTerm (x : Nat) (d : Device) : Device :=
  let r := d.rng
  let tr := d.traffic
  { d.count 0x1B6 0x860 1 with
    rng := { r with terms := r.terms.erase x, shadow := r.shadow.erase x, wants := r.wants.filter (fun q => q.term ≠ x),
                    ploamAsk := r.ploamAsk.filter (· ≠ x), ploamTries := r.ploamTries.erase x }
    traffic := { tr with nodes := tr.nodes.erase (nodeKey 1 x), termBuckets := tr.termBuckets.erase x, omci := tr.omci.erase x }
    fret := { d.fret with allocs := d.fret.allocs.erase (4096 * termTree x + x % 512) }
    bursts := { d.bursts with charges := d.bursts.charges.filter (fun e => !(e.1 % 512 = x % 512 && treeOf (e.1 / 512) = termTree x)) } }

theorem terminalFree_of_none (n : Nat) (h : d.term? x = none) : terminalFree n x d = d := by
  unfold terminalFree
  simp only [h]

theorem terminalFree_of_held (n : Nat) (h : d.term? x = some t) (held : t.state ≠ 5 ∨ d.termBusy x = true) : terminalFree n x d = d := by
  unfold terminalFree
  simp only [h]
  exact if_pos held

theorem terminalFree_freed (n : Nat) (h : d.term? x = some t) (leaves : t.state = 5) (quiet : d.termBusy x = false) :
    terminalFree n x d = forEach (d.destroys t.handle) (Device.advance (Cmd.freed n)) (d.withoutTerm x) := by
  have step : (fun k (d : Device) => if n ≤ Cmd.deadline k then d.okCmd k n 0 0 else d.refuseCmd k stTimeout (Cmd.deadline k)) =
      Device.advance (Cmd.freed n) := by
    funext k d
    unfold Device.advance Cmd.freed
    split <;> rfl
  unfold terminalFree
  simp only [h]
  rw [← step]
  exact if_neg (by simp [leaves, quiet])

/-- The device but for its services. -/
def Device.unserved (d : Device) : Device := { d with svc := {} }

theorem unserved_advance (st : Cmd → CmdSt) (l : List Cmd) (d : Device) : (forEach l (Device.advance st) d).unserved = d.unserved :=
  forEach_keeps' Device.unserved l (Device.advance st) (fun _ _ => rfl) d

end

end Sys2Proof.Machine

namespace Sys2Proof.Safety

open Sys2Proof.Machine

section
variable {x c n : Nat} {y : Term} {a : Device}

theorem acknowledgement_effect (h : a.term? x = some y) (awaits : (y.wc.getD (c % 4) {}).awaiting = true) (tree : termTree x = treeOf c) :
    let b := rangingTimeAck n x c a
    (∃ z, b.term? x = some z ∧ z.wc.getD (c % 4) {} = TermWc.acknowledged (y.wc.getD (c % 4) {}) ∧ z.handle = y.handle ∧
      z.state = (if y.state = 2 ∧ a.home x = some c then 3 else y.state) ∧
      (y.state = 2 → a.home x = some c → b.rng.wants = a.rng.wants ++ ((a.rangeTargets x).filter (fun w => w ≠ c)).map (rangeNear x y.rho))) ∧
    (y.state < 2 ∨ 3 < y.state ∨ a.home x ≠ some c → b.rng.wants = a.rng.wants) ∧ (∀ u, u ≠ x → b.term? u = a.term? u) ∧
    b = { a with ctrs := b.ctrs, rng := b.rng } := by
  have has : c % 4 < y.wc.length := by
    by_contra short
    rw [List.getD_eq_default _ _ (Nat.not_lt.1 short)] at awaits
    exact Bool.false_ne_true awaits
  obtain ⟨cs, made, others, home, none⟩ := rangingTimeAck_awaited n h awaits tree has
  obtain ⟨z₁, acked, wc₁, state₁, handle₁⟩ := term_acknowledged c y.state h
  obtain ⟨z, stands, wc, state, handle⟩ := term_askEach (rho := y.rho) others acked
  have listed : (forEach cs (Device.askRange x y.rho) (a.acknowledged x c y.state)).rng.wants = a.rng.wants ++ cs.map (rangeNear x y.rho) := by
    rw [wants_askEach, TermBlind.acknowledged (g := fun d => d.rng.wants) ⟨fun _ => rfl, fun _ _ _ => rfl⟩]
  have unmoved := (moveBlind_unmoved.terms.askEach moveBlind_unmoved.rng x y.rho cs _).trans (moveBlind_unmoved.terms.acknowledged x c y.state a)
  have blind : TermBlind (fun d : Device => d.trees) := ⟨fun _ => rfl, fun _ _ _ => rfl⟩
  have trees := (blind.askEach (fun _ _ => rfl) x y.rho cs _).trans (blind.acknowledged x c y.state a)
  dsimp only
  rw [made]
  refine ⟨⟨z, stands, wc.trans (wc₁.trans (Term.wc_modWc_same _ has)), handle.trans handle₁, state.trans state₁, fun two back => ?_⟩, fun idle => ?_,
    fun u other => (term_askEach_ne cs _ other).trans (term_acknowledged_ne c y.state a other), (eq_of_unmoved unmoved).trans (by rw [trees])⟩
  · rw [listed, home two back]
  · rw [listed, none idle, List.map_nil, List.append_nil]

theorem loss_effect (h : a.term? x = some y) : let b := (a.count 0x1B6 0x850 1).deactivate x
    Counts 0x1B6 0x850 1 a b ∧ (∃ z, b.term? x = some z ∧ z.state = 1 ∧ z.handle = y.handle ∧ ∀ e ∈ z.wc, e.acked = true → e ∈ y.wc.drop 4) ∧
    b.rng.wants = a.rng.wants.filter (fun r => r.term ≠ x) ∧
    Cfr.waiting (b.cfr (a.ploamChan x)) = Cfr.waiting (a.cfr (a.ploamChan x)) ++ [.deactivate x] ∧
    (∀ u, u ≠ x → b.term? u = a.term? u) ∧ b = { a with ctrs := b.ctrs, rng := b.rng, trees := { a.trees with cfr := b.trees.cfr } } :=
  have blind : MoveBlind (fun d : Device => d.ctr 0x1B6 0x850) := moveBlind_ctr (by decide)
  ⟨(blind.deactivate ..).trans (a.ctr_count_same ..), term_deactivate h, wants_deactivate .., waiting_deactivate x (a.count 0x1B6 0x850 1),
    fun _ other => term_deactivate_ne _ other, eq_of_unmoved (moveBlind_unmoved.deactivate (a.count 0x1B6 0x850 1) x)⟩

theorem freed_frame {b : Device} (same : b.unserved = (a.withoutTerm x).unserved) :
    Counts 0x1B6 0x860 1 a b ∧ b.term? x = none ∧ (∀ u, u ≠ x → b.term? u = a.term? u) ∧ Tbl.get? b.fret.allocs (4096 * termTree x + x % 512) = none ∧
    Tbl.get? b.traffic.nodes (nodeKey 1 x) = none ∧ Tbl.get? b.traffic.omci x = none ∧ (∀ r ∈ b.rng.wants, r.term ≠ x) ∧
    Tbl.get? b.rng.shadow x = none ∧ b.cells = a.cells ∧ b.regs = a.regs ∧
    (∀ p o, ctrKey p o ≠ ctrKey 0x1B6 0x860 → b.ctr p o = a.ctr p o) ∧ b.pkt = a.pkt := by
  have ctr (p o : Nat) : b.ctr p o = (a.count 0x1B6 0x860 1).ctr p o := congrArg (·.ctr p o) same
  have term (u : Nat) : b.term? u = Tbl.get? (a.rng.terms.erase x) u := congrArg (·.term? u) same
  have allocs : b.fret.allocs = a.fret.allocs.erase (4096 * termTree x + x % 512) := congrArg (·.fret.allocs) same
  have nodes : b.traffic.nodes = a.traffic.nodes.erase (nodeKey 1 x) := congrArg (·.traffic.nodes) same
  have omci : b.traffic.omci = a.traffic.omci.erase x := congrArg (·.traffic.omci) same
  have shadow : b.rng.shadow = a.rng.shadow.erase x := congrArg (·.rng.shadow) same
  have wants : b.rng.wants = a.rng.wants.filter (fun q => q.term ≠ x) := congrArg (·.rng.wants) same
  rw [allocs, nodes, omci, shadow, wants]
  refine ⟨(ctr ..).trans (a.ctr_count_same ..), (term x).trans (Tbl.get?_erase_same ..), fun u other => (term u).trans (Tbl.get?_erase_ne _ other),
    Tbl.get?_erase_same .., Tbl.get?_erase_same .., Tbl.get?_erase_same .., fun r hr => of_decide_eq_true (List.mem_filter.1 hr).2,
    Tbl.get?_erase_same .., ?_, ?_, fun p o other => (ctr ..).trans (a.ctr_count_ne 1 other), ?_⟩
  exacts [congrArg (·.cells) same, congrArg (·.regs) same, congrArg (·.pkt) same]

/-- A destroy that waits for the terminal completes, in time or past its deadline. -/
theorem freed_destroy (numbered : Numbered a) {k : Cmd} (hk : k ∈ a.svc.cmds) (opcode : Cmd.opcode k = 0x11) (works : Cmd.isWorking k = true)
    (handle : Cmd.handle k = y.handle) :
    { k with st := Cmd.freed n k } ∈ (forEach (a.destroys y.handle) (Device.advance (Cmd.freed n)) (a.withoutTerm x)).svc.cmds := by
  have mine : k ∈ a.destroys y.handle := List.mem_filter.2 ⟨hk, by simp [opcode, works, handle]⟩
  exact (cmds_advance (d := a.withoutTerm x) (Cmd.freed n) (numbered.2.filter _) hk).2 k mine rfl

end

/-- Settles O30: an acknowledgement that is awaited, a loss that lasted, and a LEAVING terminal without an outstanding item each have their effect;
without them nothing changes. -/
theorem terminalsMove : Obligations.TerminalsMove := by
  unfold Obligations.TerminalsMove
  refine ⟨fun t x c s hr => Makes.intro hr (exec_rangingTimeAck ..) ?_, fun t x s hr => Makes.intro hr (exec_lostTimeout ..) ?_,
    fun t x s hr => Makes.intro hr (exec_terminalFree ..) ?_⟩
  all_goals generalize s.dev.arrive t = a
  case refine_1 =>
    refine ⟨rangingTimeAck_of_none _, fun y h => ⟨rangingTimeAck_unawaited _ h, fun awaits tree => (acknowledgement_effect h awaits tree).1, ?_⟩⟩
    by_cases awaited : (y.wc.getD (c.val % 4) {}).awaiting = true ∧ termTree x.val = treeOf c.val
    · exact (acknowledgement_effect h awaited.1 awaited.2).2
    · rw [rangingTimeAck_unawaited _ h (by simpa [or_iff_not_imp_left] using awaited)]
      exact ⟨fun _ => rfl, fun _ _ => rfl, rfl⟩
  case refine_2 =>
    refine ⟨lostTimeout_of_none _, fun y h => ?_⟩
    split
    · next lost =>
      rw [lostTimeout_of_lost h lost]
      exact loss_effect h
    · next heard => exact lostTimeout_of_heard h heard
  case refine_3 =>
    refine ⟨terminalFree_of_none _, fun y h => ⟨terminalFree_of_held _ h, fun leaves quiet => ?_⟩⟩
    rw [terminalFree_freed _ h leaves quiet]
    obtain ⟨counted, gone, others, allocs, nodes, omci, wants, shadow, cells, regs, ctrs, pkt⟩ :=
      freed_frame (unserved_advance (Cmd.freed a.now) (a.destroys y.handle) (a.withoutTerm x.val))
    refine ⟨counted, gone, others, allocs, nodes, omci, wants, shadow, fun numbered k hk opcode works handle => ?_, cells, regs, ctrs, pkt⟩
    have done := freed_destroy (x := x.val) (n := a.now) numbered hk opcode works handle
    exact ⟨fun inTime => ⟨_, done, rfl, _, _, _, _, if_pos inTime⟩, fun past => ⟨_, done, rfl, _, _, _, _, if_neg (Nat.not_le.2 past)⟩⟩

end Sys2Proof.Safety
end

section
/-!
PROOFS. TERMINAL_CREATE, TERMINAL_DESTROY, TERMINAL_DISABLE and TERMINAL_ENABLE (R241, R256 to R259, R657): each command by its cases, and the statement
`Obligations.TerminalCommands`.
-/

namespace Sys2Proof.Machine

open Sys2Proof.Safety

/-- A free index found lies among those searched. -/
theorem firstFree_range {free : Nat → Bool} {n i x : Nat} (found : firstFree free n i = some x) : i ≤ x ∧ x < i + n := by
  induction n generalizing i with
  | zero => cases found
  | succ n ih =>
    unfold firstFree at found
    split at found
    · obtain rfl := Option.some.inj found
      omega
    · have := ih found
      omega

section
variable {a d : Device} {n x w u h : Nat} {c : Cmd} {t : Term}

theorem termOf_stands (found : d.termOf h = some x) : ∃ y, d.term? x = some y ∧ y.handle = h := by
  unfold Device.termOf at found
  split at found
  · next y stands =>
    split at found
    · next same =>
      obtain rfl := Option.some.inj found
      exact ⟨y, stands, same⟩
    · cases found
  · cases found

/-! ### What a new terminal gets (R241, R257, R259) -/

/-- The peg entry of terminal `x` on wavelength `w` returns to reset. -/
def Device.resetPeg (x w : Nat) (d : Device) : Device := d.setPeg (4 * termTree x + w) (x % 512) {}

theorem resetPegs_eq (x : Nat) (d : Device) : d.resetPegs x = forEach (List.range 4) (Device.resetPeg x) d := rfl

theorem peg_resetEach (l : List Nat) (d : Device) (reset : w ∈ l ∨ d.peg (4 * termTree x + w) (x % 512) = {}) :
    (forEach l (Device.resetPeg x) d).peg (4 * termTree x + w) (x % 512) = {} := by
  induction l generalizing d with
  | nil => exact reset.resolve_left List.not_mem_nil
  | cons v r ih =>
    refine ih _ ?_
    by_cases own : w = v
    · subst own
      exact .inr (peg_setPeg_same ..)
    · exact reset.imp (fun mem => (List.mem_cons.1 mem).resolve_left own) fun old => (peg_setPeg_ne _ d (by omega)).trans old

theorem peg_resetPegs (w : Fin 4) (d : Device) : (d.resetPegs x).peg (4 * termTree x + w.val) (x % 512) = {} :=
  peg_resetEach _ d (.inl (List.mem_range.2 w.isLt))

theorem resetPegs_keeps {β : Type} (g : Device → β) (peg : ∀ i j p d, g (Device.setPeg i j p d) = g d) (x : Nat) (d : Device) : g (d.resetPegs x) = g d :=
  forEach_keeps' g _ (Device.resetPeg x) (fun _ _ => peg ..) d

/-- A terminal of a new handle, in AWAITING_SN. -/
def Device.newTerm (x v s : Nat) (d : Device) : Term := { handle := (d.issue .terminal x).1, state := 1, vendor := v, serial := s }

/-- The terminal of a new handle stands, and is counted. -/
def Device.withNewTerm (x v s : Nat) (d : Device) : Device := ((d.issue .terminal x).2.setTerm x (d.newTerm x v s)).count 0x1B6 0x858 1

/-- The new terminal with its default allocation and its pegs. -/
def Device.furnished (x v s : Nat) (d : Device) : Device := ((d.withNewTerm x v s).addDefault x).2.resetPegs x

/-- A terminal heard of late is ranged (R257). -/
def Device.rangeHeard (x : Nat) (hit : Option DiscEntry) (d : Device) : Device := d.whenSome hit fun e => Device.startRanging x e.chan e.q

/-- The state of a terminal, 0 where there is none. -/
def Device.stateAt (d : Device) (x : Nat) : Nat :=
  match d.term? x with
  | some y => y.state
  | none => 0

theorem stateAt_of_term (stands : d.term? x = some t) : d.stateAt x = t.state := by simp [Device.stateAt, stands]

/-! ### The start of ranging -/

theorem rangeHeard_some (x : Nat) (e : DiscEntry) (d : Device) : d.rangeHeard x (some e) = d.startRanging x e.chan e.q := rfl

theorem MoveBlind.rangeHeard {β : Type} {g : Device → β} (h : MoveBlind g) (x : Nat) (hit : Option DiscEntry) (d : Device) : g (d.rangeHeard x hit) = g d := by
  cases hit with
  | none => rfl
  | some e => exact h.terms.startRanging (fun _ _ => h.ploam ..) (fun d _ => h.rng d _) x e.q d

theorem ctrs_clearDefect (x b : Nat) (d : Device) : (d.clearDefect x b).ctrs = d.ctrs := by
  unfold Device.clearDefect
  split
  · rfl
  · split <;> rfl

theorem ctrs_setState {st : Nat} (enabled : st ≠ 4) (x : Nat) (d : Device) : (d.setState x st).ctrs = d.ctrs := by
  unfold Device.setState
  split
  · rfl
  · dsimp only
    rw [if_neg enabled]
    exact ctrs_clearDefect ..

theorem ctrs_wantRange (r : RangeReq) (d : Device) : (d.wantRange r).ctrs = d.ctrs := rfl

theorem term_wantRange (r : RangeReq) (d : Device) (u : Nat) : (d.wantRange r).term? u = d.term? u := rfl

theorem ctrs_activated (x c : Nat) (t : Term) (d : Device) : (d.activated x c t).ctrs = d.ctrs :=
  (Device.ploam_ctrs ..).trans ((Device.ploam_ctrs ..).trans ((Device.ploam_ctrs ..).trans (ctrs_setState (by decide) x (d.setTerm x (Term.homed c t)))))

theorem ctrs_rangeHeard (x : Nat) (hit : Option DiscEntry) (d : Device) : (d.rangeHeard x hit).ctrs = d.ctrs := by
  cases hit with
  | none => rfl
  | some e =>
    rw [rangeHeard_some]
    cases stands : d.term? x with
    | none => simp [Device.startRanging, stands]
    | some t =>
      rw [startRanging_of_term _ stands, ctrs_wantRange, ctrs_activated]

theorem term_rangeHeard (hit : Option DiscEntry) (stands : d.term? x = some t) :
    ∃ z, (d.rangeHeard x hit).term? x = some z ∧ z.handle = t.handle ∧ z.vendor = t.vendor ∧ z.serial = t.serial ∧
      z.state = if hit.isSome then 2 else t.state := by
  cases hit with
  | none => exact ⟨t, stands, rfl, rfl, rfl, rfl⟩
  | some e =>
    obtain ⟨n, active⟩ := term_activated x e.chan t d
    rw [rangeHeard_some, startRanging_of_term _ stands, term_wantRange]
    exact ⟨_, active, rfl, rfl, rfl, rfl⟩

theorem term_rangeHeard_ne (hit : Option DiscEntry) (stands : d.term? x = some t) (other : u ≠ x) : (d.rangeHeard x hit).term? u = d.term? u := by
  cases hit with
  | none => rfl
  | some e =>
    rw [rangeHeard_some, startRanging_of_term _ stands, term_wantRange, term_activated_ne t d other]

/-! ### TERMINAL_CREATE -/

/-- A terminal has this serial number. -/
def Device.snUsed (d : Device) (v s : Nat) : Prop := ∃ e ∈ d.rng.terms, e.2.vendor = v ∧ e.2.serial = s

section
variable (runs : Runs a 0x10 n c)
include runs

theorem terminalCreate_of_used (used : a.snUsed (Cmd.arg c 0) (Cmd.arg c 1)) : terminalCreate a.now n a = a.refuseCmd c stArg a.now := by
  have any : (a.rng.terms.any fun e => e.2.vendor = Cmd.arg c 0 && e.2.serial = Cmd.arg c 1) = true :=
    List.any_eq_true.2 (by simpa [Device.snUsed] using used)
  unfold terminalCreate
  rw [run_of_runs runs]
  exact if_pos any

variable (unused : ¬ a.snUsed (Cmd.arg c 0) (Cmd.arg c 1)) (room : a.svc.chans.length + a.rng.terms.length < 524288)
include unused room

/-- A new serial number, where the limit of channels and terminals leaves room, takes the lowest free index of its tree. -/
theorem terminalCreate_picks : terminalCreate a.now n a =
    match firstFree (fun x => (a.term? x).isNone && !a.termBusy x) 512 (512 * (Cmd.arg c 2 % 64)) with
    | none => a.refuseCmd c stLimit a.now
    | some x => a.commit c fun d =>
      let r := (d.furnished x (Cmd.arg c 0) (Cmd.arg c 1)).rangeHeard x (d.heard (Cmd.arg c 2 % 64) (Cmd.arg c 0) (Cmd.arg c 1))
      r.createdCmd c a.now (d.issue .terminal x).1 (r.stateAt x) ((d.withNewTerm x (Cmd.arg c 0) (Cmd.arg c 1)).addDefault x).1 := by
  have any : (a.rng.terms.any fun e => e.2.vendor = Cmd.arg c 0 && e.2.serial = Cmd.arg c 1) = false :=
    List.any_eq_false.2 (by simpa [Device.snUsed] using unused)
  unfold terminalCreate
  rw [run_of_runs runs]
  simp only [any, Nat.not_le.2 room, Bool.false_eq_true, if_false]
  cases firstFree (fun x => (a.term? x).isNone && !a.termBusy x) 512 (512 * (Cmd.arg c 2 % 64)) with
  | none => rfl
  | some x =>
    refine congrArg (fun f => a.commit c f) (funext fun d => ?_)
    cases d.heard (Cmd.arg c 2 % 64) (Cmd.arg c 0) (Cmd.arg c 1) <;> rfl

end

/-! ### What a new terminal stands on -/

/-- The default allocation of terminal `x` that `d` makes with its next handle (R259). -/
def Device.defaultAlloc (x : Nat) (d : Device) : Alloc :=
  { handle := (d.addDefault x).1, allocId := x % 512, term := x, bornFrame := d.treeFrame (termTree x) d.now }

section
variable (x v s : Nat) (d : Device)

theorem rng_furnished : (d.furnished x v s).rng = (d.withNewTerm x v s).rng :=
  resetPegs_keeps (·.rng) (fun _ _ _ _ => rfl) x ((d.withNewTerm x v s).addDefault x).2

theorem term_furnished : (d.furnished x v s).term? x = some (d.newTerm x v s) := by
  unfold Device.term?
  rw [rng_furnished]
  exact Tbl.get?_set_same ..

theorem term_furnished_ne (other : u ≠ x) : (d.furnished x v s).term? u = d.term? u := by
  unfold Device.term?
  rw [rng_furnished]
  exact Tbl.get?_set_ne _ _ other

theorem allocs_furnished : (d.furnished x v s).fret.allocs =
    Tbl.set d.fret.allocs (4096 * termTree x + x % 512) ((d.withNewTerm x v s).defaultAlloc x) :=
  resetPegs_keeps (·.fret.allocs) (fun _ _ _ _ => rfl) x ((d.withNewTerm x v s).addDefault x).2

theorem ctrs_furnished : (d.furnished x v s).ctrs = (d.count 0x1B6 0x858 1).ctrs :=
  resetPegs_keeps (·.ctrs) (fun _ _ _ _ => rfl) x ((d.withNewTerm x v s).addDefault x).2

theorem svc_furnished : (d.furnished x v s).svc = d.svc :=
  resetPegs_keeps (·.svc) (fun _ _ _ _ => rfl) x ((d.withNewTerm x v s).addDefault x).2

theorem cells_furnished : (d.furnished x v s).cells = d.cells :=
  resetPegs_keeps (·.cells) (fun _ _ _ _ => rfl) x ((d.withNewTerm x v s).addDefault x).2

theorem regs_furnished : (d.furnished x v s).regs = d.regs :=
  resetPegs_keeps (·.regs) (fun _ _ _ _ => rfl) x ((d.withNewTerm x v s).addDefault x).2

end

/-! ### TERMINAL_DESTROY (R241, R258) -/

/-- A terminal in state `st` goes to LEAVING. -/
def Device.leave (x st : Nat) (d : Device) : Device :=
  if st = 5 then d else if st = 4 then d.setState x 5 else (d.deactivate x).setState x 5

theorem MoveBlind.leave {β : Type} {g : Device → β} (h : MoveBlind g) (x st : Nat) (d : Device) : g (d.leave x st) = g d := by
  unfold Device.leave
  split
  · rfl
  · split
    exacts [h.setState .., (h.setState ..).trans (h.deactivate ..)]

theorem term_leave (stands : d.term? x = some t) : ∃ z, (d.leave x t.state).term? x = some z ∧ z.state = 5 ∧ z.handle = t.handle := by
  unfold Device.leave
  split
  · next leaves => exact ⟨t, stands, leaves, rfl⟩
  · split
    · obtain ⟨n, left⟩ := term_setState 5 stands
      exact ⟨_, left, rfl, rfl⟩
    · obtain ⟨z, waits, -, handle, -⟩ := term_deactivate stands
      obtain ⟨n, left⟩ := term_setState 5 waits
      exact ⟨_, left, rfl, handle⟩

theorem term_leave_ne (st : Nat) (d : Device) (other : u ≠ x) : (d.leave x st).term? u = d.term? u := by
  unfold Device.leave
  split
  · rfl
  · split
    exacts [term_setState_ne 5 d other, (term_setState_ne 5 _ other).trans (term_deactivate_ne d other)]

section
variable (runs : Runs a 0x11 n c)
include runs

theorem terminalDestroy_of_stale (stale : a.termOf (Cmd.handle c) = none) : terminalDestroy a.now n a = a.staleTerm c a.now := by
  unfold terminalDestroy
  rw [run_of_runs runs]
  simp only [stale]

theorem terminalDestroy_of_depending (found : a.termOf (Cmd.handle c) = some x) (depends : a.termDepends x = true) :
    terminalDestroy a.now n a = a.refuseCmd c stBusy a.now := by
  unfold terminalDestroy
  rw [run_of_runs runs]
  simp only [found, depends, if_true]

theorem terminalDestroy_taken (found : a.termOf (Cmd.handle c) = some x) (free : a.termDepends x = false) (stands : a.term? x = some t) :
    terminalDestroy a.now n a = (a.leave x t.state).workCmd c := by
  unfold terminalDestroy
  rw [run_of_runs runs]
  simp only [found, free, stands, Bool.false_eq_true, if_false]
  rfl

end

/-! ### TERMINAL_DISABLE (R241, R657) -/

theorem disableTerm_of_live (stands : d.term? x = some t) (live : ¬ (t.state = 0 ∨ t.state = 5)) :
    d.disableTerm x = ((d.ploam (d.ploamChan x) (.disableSerial x)).dropWants x).setState x 4 := by
  unfold Device.disableTerm
  simp only [stands]
  exact if_neg live

theorem MoveBlind.disableTerm {β : Type} {g : Device → β} (h : MoveBlind g) (x : Nat) (d : Device) : g (d.disableTerm x) = g d := by
  unfold Device.disableTerm
  split
  · rfl
  · split
    exacts [rfl, (h.setState ..).trans ((h.rng ..).trans (h.ploam ..))]

theorem term_disableTerm_live (stands : d.term? x = some t) (live : ¬ (t.state = 0 ∨ t.state = 5)) :
    ∃ z, (d.disableTerm x).term? x = some z ∧ z.state = 4 := by
  rw [disableTerm_of_live stands live]
  obtain ⟨n, disabled⟩ := term_setState (d := (d.ploam (d.ploamChan x) (.disableSerial x)).dropWants x) 4 stands
  exact ⟨_, disabled, rfl⟩

theorem wants_disableTerm (stands : d.term? x = some t) (live : ¬ (t.state = 0 ∨ t.state = 5)) :
    (d.disableTerm x).rng.wants = d.rng.wants.filter (fun r => r.term ≠ x) := by
  rw [disableTerm_of_live stands live]
  exact TermBlind.setState (g := fun d => d.rng.wants) ⟨fun _ => rfl, fun _ _ _ => rfl⟩ ((d.ploam (d.ploamChan x) (.disableSerial x)).dropWants x) x 4

section
variable (runs : Runs a 0x12 n c)
include runs

theorem terminalDisable_of_stale (stale : a.termOf (Cmd.handle c) = none) : terminalDisable a.now n a = a.staleTerm c a.now := by
  unfold terminalDisable
  rw [run_of_runs runs]
  simp only [stale]

variable (found : a.termOf (Cmd.handle c) = some x) (stands : a.term? x = some t)
include found stands

theorem terminalDisable_eq : terminalDisable a.now n a =
    if t.state = 5 then a.refuseCmd c stBusy a.now
    else if t.state = 4 then a.endCmd c stOk a.now false (Cmd.handle c) 0 0
    else a.commit c fun d => (d.disableTerm x).okCmd c a.now 0 0 := by
  unfold terminalDisable
  rw [run_of_runs runs]
  simp only [found, stands]

end

/-! ### TERMINAL_ENABLE (R241, R657) -/

theorem MoveBlind.enableTerm {β : Type} {g : Device → β} (h : MoveBlind g) (x : Nat) (d : Device) : g (d.enableTerm x) = g d := by
  unfold Device.enableTerm
  split
  · rfl
  · split
    exacts [(h.setState ..).trans (h.ploam ..), rfl]

section
variable (runs : Runs a 0x13 n c)
include runs

theorem terminalEnable_of_stale (stale : a.termOf (Cmd.handle c) = none) : terminalEnable a.now n a = a.staleTerm c a.now := by
  unfold terminalEnable
  rw [run_of_runs runs]
  simp only [stale]

variable (found : a.termOf (Cmd.handle c) = some x) (stands : a.term? x = some t)
include found stands

theorem terminalEnable_eq : terminalEnable a.now n a =
    if t.state = 5 then a.refuseCmd c stBusy a.now
    else if t.state ≠ 4 then a.endCmd c stOk a.now false (Cmd.handle c) 0 0
    else a.commit c fun d => (d.enableTerm x).okCmd c a.now 0 0 := by
  unfold terminalEnable
  rw [run_of_runs runs]
  simp only [found, stands]

end

end

end Sys2Proof.Machine

namespace Sys2Proof.Safety

open Sys2Proof.Machine

section
variable {a : Device} {n x : Nat} {c : Cmd} {y : Term}

/-- A command on a stale terminal handle is STALE and counted (R256). -/
theorem staleTerm_effect (c : Cmd) (a : Device) :
    Ended c stStale a.now false (Cmd.handle c) 0 0 a (a.staleTerm c a.now) ∧ Counts 0x1B6 0x868 1 a (a.staleTerm c a.now) :=
  ⟨ended_of_svc _ _ _ _ _ _ _ rfl, a.ctr_count_same _ _ _⟩

/-- What a move of terminals leaves alone besides its command. -/
theorem parts_of_unmoved {a b : Device} (same : b.unmoved = a.unmoved) : b.svc = a.svc ∧ b.fret = a.fret ∧ b.cells = a.cells ∧ b.regs = a.regs ∧ b.bursts = a.bursts :=
  ⟨congrArg (·.svc) same, congrArg (·.fret) same, congrArg (·.cells) same, congrArg (·.regs) same, congrArg (·.bursts) same⟩

theorem destroy_effect (runs : Runs a 0x11 n c) (found : a.termOf (Cmd.handle c) = some x) (free : a.termDepends x = false) :
    let b := terminalDestroy a.now n a
    (∃ y, b.term? x = some y ∧ y.state = 5 ∧ y.handle = Cmd.handle c) ∧ (∀ u, u ≠ x → b.term? u = a.term? u) ∧ Works c a b ∧
    b.cells = a.cells ∧ b.fret = a.fret ∧ b.regs = a.regs := by
  obtain ⟨y, stands, handle⟩ := termOf_stands found
  obtain ⟨z, left, state, kept⟩ := term_leave stands
  have others (u : Nat) (other : u ≠ x) := term_leave_ne y.state a other
  obtain ⟨svc, fret, cells, regs, -⟩ := parts_of_unmoved (moveBlind_unmoved.leave x y.state a)
  dsimp only
  rw [terminalDestroy_taken runs found free stands]
  generalize a.leave x y.state = e at left others svc fret cells regs
  exact ⟨⟨z, left, state, kept.trans handle⟩, others, congrArg (fun s : Service => s.cmds.map _) svc, cells, fret, regs⟩

theorem disable_effect (runs : Runs a 0x12 n c) (found : a.termOf (Cmd.handle c) = some x) (stands : a.term? x = some y)
    (live : y.state = 1 ∨ y.state = 2 ∨ y.state = 3) (epoch : Room a c) : let b := terminalDisable a.now n a
    (∃ z, b.term? x = some z ∧ z.state = 4) ∧ (∀ r ∈ b.rng.wants, r.term ≠ x) ∧ (∀ u, u ≠ x → b.term? u = a.term? u) ∧
    Ended c stOk a.now true (Cmd.handle c) 0 0 a b ∧ b.fret = a.fret ∧ b.cells = a.cells ∧ b.regs = a.regs := by
  obtain ⟨m, commits⟩ := commit_of_room epoch
  have here : ({ a with mru := m } : Device).term? x = some y := stands
  obtain ⟨svc, fret, cells, regs, -⟩ := parts_of_unmoved (moveBlind_unmoved.disableTerm x { a with mru := m })
  have disabled := term_disableTerm_live here (by omega)
  have wants := wants_disableTerm here (by omega)
  have others (u : Nat) (other : u ≠ x) := term_disableTerm_ne { a with mru := m } other
  dsimp only
  rw [terminalDisable_eq runs found stands, if_neg (by omega), if_neg (by omega), commits]
  generalize Device.disableTerm x { a with mru := m } = e at *
  refine ⟨disabled, fun r hr => ?_, others, ended_of_svc _ _ _ _ _ _ _ svc, fret, cells, regs⟩
  have listed : r ∈ e.rng.wants := hr
  rw [wants] at listed
  exact of_decide_eq_true (List.mem_filter.1 listed).2

theorem enable_effect (runs : Runs a 0x13 n c) (found : a.termOf (Cmd.handle c) = some x) (stands : a.term? x = some y)
    (disabled : y.state = 4) (epoch : Room a c) : let b := terminalEnable a.now n a
    (∃ z, b.term? x = some z ∧ z.state = 1) ∧ (∀ u, u ≠ x → b.term? u = a.term? u) ∧
    Ended c stOk a.now true (Cmd.handle c) 0 0 a b ∧ b.fret = a.fret ∧ b.cells = a.cells ∧ b.regs = a.regs := by
  obtain ⟨m, commits⟩ := commit_of_room epoch
  have here : ({ a with mru := m } : Device).term? x = some y := stands
  obtain ⟨svc, fret, cells, regs, -⟩ := parts_of_unmoved (moveBlind_unmoved.enableTerm x { a with mru := m })
  have enabled := term_enableTerm here disabled
  have others (u : Nat) (other : u ≠ x) := term_enableTerm_ne { a with mru := m } other
  dsimp only
  rw [terminalEnable_eq runs found stands, if_neg (by omega), if_neg (not_not.2 disabled), commits]
  generalize Device.enableTerm x { a with mru := m } = e at *
  exact ⟨enabled, others, ended_of_svc _ _ _ _ _ _ _ svc, fret, cells, regs⟩

/-- What a TERMINAL_CREATE makes of the device `e`, which differs from `a` in the mirror's note of the change alone. -/
theorem create_effect {v s : Nat} (hit : Option DiscEntry) (e : Device) : let r := (e.furnished x v s).rangeHeard x hit
    (∃ z, r.term? x = some z ∧ z.handle = (e.issue .terminal x).1 ∧ z.vendor = v ∧ z.serial = s ∧ z.state = if hit.isSome then 2 else 1) ∧
    (∀ u, u ≠ x → r.term? u = e.term? u) ∧ (∀ w : Fin 4, r.peg (4 * termTree x + w.val) (x % 512) = {}) ∧
    Tbl.get? r.fret.allocs (4096 * termTree x + x % 512) = some ((e.withNewTerm x v s).defaultAlloc x) ∧
    r.svc = e.svc ∧ r.cells = e.cells ∧ r.regs = e.regs ∧ r.ctrs = (e.count 0x1B6 0x858 1).ctrs := by
  have stands := term_furnished x v s e
  obtain ⟨svc, fret, cells, regs, bursts⟩ := parts_of_unmoved (moveBlind_unmoved.rangeHeard x hit (e.furnished x v s))
  have pegs (w : Fin 4) : (e.furnished x v s).peg (4 * termTree x + w.val) (x % 512) = {} := peg_resetPegs w _
  have others (u : Nat) (other : u ≠ x) := (term_rangeHeard_ne hit stands other).trans (term_furnished_ne x v s e other)
  have ranged := term_rangeHeard hit stands
  have ctrs := (ctrs_rangeHeard x hit (e.furnished x v s)).trans (ctrs_furnished ..)
  rw [svc_furnished] at svc
  rw [cells_furnished] at cells
  rw [regs_furnished] at regs
  dsimp only
  generalize (e.furnished x v s).rangeHeard x hit = r at *
  refine ⟨ranged, others, fun w => ?_, ?_, svc, cells, regs, ctrs⟩
  · unfold Device.peg at pegs ⊢
    rw [bursts]
    exact pegs w
  · rw [fret, allocs_furnished]
    exact Tbl.get?_set_same ..

theorem create_made (runs : Runs a 0x10 n c) (unused : ¬ a.snUsed (Cmd.arg c 0) (Cmd.arg c 1))
    (room : a.svc.chans.length + a.rng.terms.length < 524288) (epoch : Room a c)
    (pick : firstFree (fun x => (a.term? x).isNone && !a.termBusy x) 512 (512 * (Cmd.arg c 2 % 64)) = some x) :
    let tree := Cmd.arg c 2 % 64; let v := Cmd.arg c 0; let sn := Cmd.arg c 1; let b := terminalCreate a.now n a
    let st := if (a.heard tree v sn).isSome then 2 else 1
    (∃ y, b.term? x = some y ∧ y.handle = (a.issue .terminal x).1 ∧ y.vendor = v ∧ y.serial = sn ∧ y.state = st) ∧ (∀ u, u ≠ x → b.term? u = a.term? u) ∧
    (∀ w : Fin 4, b.peg (4 * tree + w.val) (x % 512) = {}) ∧
    ∃ al, Tbl.get? b.fret.allocs (4096 * tree + x % 512) = some al ∧ al.term = x ∧ al.allocId = x % 512 ∧ al.cls = 3 ∧
      Ended c stOk a.now true (a.issue .terminal x).1 st al.handle a b ∧ b.cells = a.cells ∧ b.regs = a.regs ∧ Counts 0x1B6 0x858 1 a b ∧
      Kept [] [(0x1B6, 0x858)] a b := by
  have tree : Cmd.arg c 2 % 64 = termTree x := by
    have := firstFree_range pick
    unfold termTree
    omega
  obtain ⟨m, commits⟩ := commit_of_room epoch
  obtain ⟨⟨z, stands, handle, vendor, serial, state⟩, others, pegs, alloc, svc, cells, regs, ctrs⟩ :=
    create_effect (x := x) (v := Cmd.arg c 0) (s := Cmd.arg c 1) (a.heard (Cmd.arg c 2 % 64) (Cmd.arg c 0) (Cmd.arg c 1)) { a with mru := m }
  have shown := stateAt_of_term stands
  have kept : Kept [] [(0x1B6, 0x858)] a (a.count 0x1B6 0x858 1) := (Kept.refl _ _ a).count 1 (List.mem_singleton.2 rfl)
  dsimp only
  rw [terminalCreate_picks runs unused room, pick]
  dsimp only
  rw [commits]
  have same : ({ a with mru := m } : Device).heard (Cmd.arg c 2 % 64) (Cmd.arg c 0) (Cmd.arg c 1) = a.heard (Cmd.arg c 2 % 64) (Cmd.arg c 0) (Cmd.arg c 1) := rfl
  rw [same]
  generalize a.heard (Cmd.arg c 2 % 64) (Cmd.arg c 0) (Cmd.arg c 1) = hit at *
  generalize Device.rangeHeard x hit (Device.furnished x (Cmd.arg c 0) (Cmd.arg c 1) { a with mru := m }) = r at *
  rw [tree, shown, state]
  exact ⟨⟨z, stands, handle, vendor, serial, state⟩, others, pegs, _, alloc, rfl, rfl, rfl, ended_of_svc _ _ _ _ _ _ _ svc, cells, regs,
    (congrArg (fun k => Tbl.getD k _ 0) ctrs).trans (a.ctr_count_same 0x1B6 0x858 1), kept.same regs ctrs⟩

end

/-- Settles O39: each of the four commands by its causes, in their order, and by what it makes. -/
theorem terminalCommands : Obligations.TerminalCommands := by
  unfold Obligations.TerminalCommands
  refine ⟨fun t n s hr => Makes.intro hr (exec_terminalCreate ..) ?_, fun t n s hr => Makes.intro hr (exec_terminalDestroy ..) ?_,
    fun t n s hr => Makes.intro hr (exec_terminalDisable ..) ?_, fun t n s hr => Makes.intro hr (exec_terminalEnable ..) ?_⟩
  all_goals
    generalize s.dev.arrive t = a
    intro c runs
  case refine_1 =>
    refine ⟨fun used => ?_, fun unused room full => ?_, fun x unused room pick epoch => create_made runs unused room epoch pick⟩
    · rw [terminalCreate_of_used runs used]
      exact refusedAs ..
    · rw [terminalCreate_picks runs unused room, full]
      exact refusedAs ..
  case refine_2 =>
    refine ⟨fun stale => ?_, fun x found => ⟨fun depends => ?_, fun free => destroy_effect runs found free⟩⟩
    · rw [terminalDestroy_of_stale runs stale]
      exact staleTerm_effect ..
    · rw [terminalDestroy_of_depending runs found depends]
      exact refusedAs ..
  case refine_3 =>
    refine ⟨fun stale => ?_, fun x y found stands => ⟨fun leaves => ?_, fun disabled => ?_, fun live epoch => disable_effect runs found stands live epoch⟩⟩
    · rw [terminalDisable_of_stale runs stale]
      exact staleTerm_effect ..
    · rw [terminalDisable_eq runs found stands, if_pos leaves]
      exact refusedAs ..
    · rw [terminalDisable_eq runs found stands, if_neg (by omega), if_pos disabled]
      exact ⟨rfl, rfl⟩
  case refine_4 =>
    refine ⟨fun stale => ?_, fun x y found stands => ⟨fun leaves => ?_, fun stays enabled => ?_, fun disabled epoch => enable_effect runs found stands disabled epoch⟩⟩
    · rw [terminalEnable_of_stale runs stale]
      exact staleTerm_effect ..
    · rw [terminalEnable_eq runs found stands, if_pos leaves]
      exact refusedAs ..
    · rw [terminalEnable_eq runs found stands, if_neg stays, if_pos enabled]
      exact ⟨rfl, rfl⟩

end Sys2Proof.Safety
end

section
/-!
PROOFS. Sensors and trips (R106, R269 to R272, R276, R282, R283, R285, R373): what a fence leaves alone and that no lane sends after it, the three steps
of the thresholds, a sample, the erasure of the keys by a rail alarm, and the statement `Obligations.SensorsActOnThresholds`.
-/

namespace Sys2Proof.Tbl

/-- A value found stands in the table under its key. -/
theorem mem_of_get? {α : Type} {t : Tbl α} {k : Nat} {v : α} (h : get? t k = some v) : (k, v) ∈ t := by
  induction t with
  | nil => cases h
  | cons p t ih =>
    obtain ⟨j, x⟩ := p
    unfold get? at h
    split at h
    case isTrue same =>
      cases h
      exact same ▸ List.mem_cons_self
    case isFalse => exact List.mem_cons_of_mem _ (ih h)

end Sys2Proof.Tbl

namespace Sys2Proof.Machine

/-! ### The steps of a fence, of the thresholds and of a sample -/

/-- One sending lane put into electrical idle (R106). -/
def Device.fenceLane (p : Nat × Cfr) (d : Device) : Device :=
  (d.setCfr p.1 { p.2 with sending := false, fenceIdle := true }).count (chanPage p.1) 0x848 1

theorem Device.fenceLanes_eq (d : Device) : d.fenceLanes = forEach (d.trees.cfr.filter fun p => p.2.sending) Device.fenceLane d := rfl

/-- The counters on which a fence counts: its own and those of the lanes. -/
def Device.fenceCtrs (d : Device) : List (Nat × Nat) := (0x005, 0x880) :: d.trees.cfr.map fun p => (chanPage p.1, 0x848)

/-- The fields that a fence writes. -/
def fenceFields : List Fld := [MRU.ROLE, MRU.CAPO]

/-- What a trip does where the device was not tripped: no lane sends and a holder becomes FENCED (R285). -/
def Device.Trips (a b : Device) : Prop := (∀ c, (b.cfr c).sending = false) ∧ (a.rd MRU.ROLE = 1 → b.rd MRU.ROLE = 3 ∧ b.capo = false)

/-- The warning (R282). -/
def Device.warned (d : Device) : Device := d.wr PTM.WARN (b2n (decide (quarter (d.rdA PTM.WARN_C) ≤ d.tHot)))

/-- The emergency (R283). -/
def Device.heated (d : Device) : Device := if decide (quarter (d.rdA PTM.LIMIT_C) ≤ d.tHot) || d.on PTM.EMERG_FORCE then d.raiseEmergency else d

/-- The trip (R285). -/
def Device.guarded (d : Device) : Device := if d.tripCond && !d.on PTM.TRIPPED then d.trip 0x840 else d

theorem Device.thresholds_eq (d : Device) : d.thresholds = d.warned.heated.guarded := rfl

/-- Whether an emergency is to start (R283). -/
def Device.limited (d : Device) : Prop := quarter (d.rdA PTM.LIMIT_C) ≤ d.tHot ∨ d.on PTM.EMERG_FORCE = true

/-- The readings taken and shown (R269 to R271). -/
def Device.sensed (ts : List Int) (pace : List Nat) (d : Device) : Device :=
  let d := { d with pow := { d.pow with temps := ts, pace := pace } }
  let d := (d.wr PTM.T_HOT (unsign 12 (hotOf ts))).wr PTM.T_COLD (unsign 12 (coldOf ts))
  let d := d.wr PTM.HOT_SENSOR (ts.findIdx (fun x => x = hotOf ts))
  d.wr PTM.PACE_SUM ((d.slices.map (fun s => d.pow.pace.getD s 0)).sum)

theorem ptmSample_eq (t : Nat) (temps : List Int) (pace : List Nat) (d : Device) :
    ptmSample t temps pace d = (d.sensed (temps.take 72) (pace.take 36)).thresholds.paceCheck := rfl

/-- What a sample leaves alone beyond registers, counters and framers. -/
def Device.indoors (d : Device) := (d.cells, d.svc, d.fret, d.pkt, d.rng)

/-- A view that no trip changes: it shows neither registers nor counters nor framers. -/
structure TripBlind {β : Type} (g : Device → β) : Prop where
  wr : ∀ d f v, g (Device.wr f v d) = g d
  count : ∀ d p o n, g (Device.count p o n d) = g d
  setCfr : ∀ d c x, g (Device.setCfr c x d) = g d

/-- A view that no step after a reading changes: of the power it shows no more than the readings. -/
structure HeatBlind {β : Type} (g : Device → β) : Prop extends TripBlind g where
  pow : ∀ (d : Device) x, x.temps = d.pow.temps → x.pace = d.pow.pace → g { d with pow := x } = g d
  emit : ∀ d o, g (Device.emit o d) = g d

theorem TripBlind.trip {β : Type} {g : Device → β} (h : TripBlind g) (o : Nat) (d : Device) : g (d.trip o) = g d := by
  have fenced (d : Device) : g d.fenceNow = g d := by
    refine (forEach_keeps' g _ Device.fenceLane (fun p e => (h.count ..).trans (h.setCfr ..)) _).trans ?_
    unfold Device.becomeFenced
    split
    · rw [h.count, h.wr, h.wr]
    · rfl
  unfold Device.trip
  dsimp only
  split
  · exact h.count ..
  · rw [fenced, h.wr, h.count]

namespace HeatBlind

variable {β : Type} {g : Device → β} (h : HeatBlind g)

include h

theorem thresholds (d : Device) : g d.thresholds = g d := by
  have heated (d : Device) : g d.heated = g d := by
    unfold Device.heated Device.raiseEmergency
    split
    · split
      · rfl
      · exact (h.count ..).trans ((h.wr ..).trans (h.pow _ _ rfl rfl))
    · rfl
  have guarded (d : Device) : g d.guarded = g d := by
    unfold Device.guarded
    split
    exacts [h.trip .., rfl]
  rw [d.thresholds_eq, guarded, heated]
  exact h.wr ..

theorem command (mv : Nat) (d : Device) : g (d.command mv) = g d := (h.emit ..).trans ((h.wr ..).trans (h.pow _ _ rfl rfl))

theorem paceCheck (d : Device) : g d.paceCheck = g d := by
  unfold Device.paceCheck
  split
  · rfl
  · dsimp only
    split
    · refine (h.pow _ _ ?_ ?_).trans ((h.command ..).trans ((h.count ..).trans (h.wr ..)))
      · rfl
      · rfl
    · exact h.wr ..

end HeatBlind

theorem heatBlind_indoors : HeatBlind Device.indoors :=
  { wr := fun _ _ _ => rfl, count := fun _ _ _ _ => rfl, setCfr := fun _ _ _ => rfl, pow := fun _ _ _ _ => rfl, emit := fun _ _ => rfl }

theorem heatBlind_readings : HeatBlind (fun d => (d.pow.temps, d.pow.pace)) :=
  { wr := fun _ _ _ => rfl, count := fun _ _ _ _ => rfl, setCfr := fun _ _ _ => rfl, pow := fun _ _ temps pace => Prod.ext temps pace,
    emit := fun _ _ => rfl }

end Sys2Proof.Machine

namespace Sys2Proof.Safety

open Sys2Proof.Machine

variable {a b c d : Device} {fs : List Fld} {cs : List (Nat × Nat)} {f : Fld} {p o n : Nat}

/-! ### Reading past what is kept -/

theorem Kept.on (h : Kept fs cs a b) (apart : ∀ g ∈ fs, fkey f ≠ fkey g) : b.on f = a.on f := by
  unfold Device.on
  rw [h.1 f apart]

/-- An applied copy reads as the field 0x200 further on (R58). -/
theorem Kept.rdA (h : Kept fs cs a b) (apart : ∀ g ∈ fs, fkeyA f ≠ fkey g) : b.rdA f = a.rdA f := by
  have key : fkey { f with off := f.off + 0x200 } = fkeyA f := by simp only [fkey, fkeyA]; omega
  have shows (d : Device) : d.rdA f = d.rd { f with off := f.off + 0x200 } := by
    unfold Device.rd Device.rdA
    rw [key]
  rw [shows, shows]
  exact h.1 _ fun g hg => by rw [key]; exact apart g hg

theorem Kept.tHot (h : Kept fs cs a b) (apart : ∀ g ∈ fs, fkey PTM.T_HOT ≠ fkey g) : b.tHot = a.tHot := congrArg (signed 12) (h.1 _ apart)

theorem Kept.tCold (h : Kept fs cs a b) (apart : ∀ g ∈ fs, fkey PTM.T_COLD ≠ fkey g) : b.tCold = a.tCold := congrArg (signed 12) (h.1 _ apart)

theorem Counts.after (h : Counts p o n b c) (same : b.ctr p o = a.ctr p o) : Counts p o n a c := by
  unfold Counts at *
  rwa [← same]

theorem Counts.before (h : Counts p o n a b) (same : c.ctr p o = b.ctr p o) : Counts p o n a c := same.trans h

theorem on_wr_one (d : Device) (hf : f.width = 1) : (d.wr f 1).on f = true := Device.on_wr_b2n true hf

/-! ### Fences (R106, R285, R534) -/

theorem kept_fenceLane {l : List (Nat × Cfr)} (h : ∀ p ∈ l, (chanPage p.1, 0x848) ∈ cs) (start : Kept fs cs a d) :
    Kept fs cs a (forEach l Device.fenceLane d) := by
  induction l generalizing d with
  | nil => exact start
  | cons p l ih =>
    have lane : Kept fs cs a (d.setCfr p.1 { p.2 with sending := false, fenceIdle := true }) := start.same rfl rfl
    exact ih (fun q hq => h q (List.mem_cons_of_mem _ hq)) (lane.count 1 (h p List.mem_cons_self))

theorem dark_fenceLane {l : List (Nat × Cfr)} {c : Nat} (h : (d.cfr c).sending = false ∨ c ∈ l.map (·.1)) :
    ((forEach l Device.fenceLane d).cfr c).sending = false := by
  induction l generalizing d with
  | nil => exact h.resolve_right List.not_mem_nil
  | cons p l ih =>
    refine ih ?_
    by_cases same : c = p.1
    · subst same
      exact .inl (congrArg Cfr.sending (Device.cfr_setCfr_same ..))
    · refine h.imp (fun dark => ?_) fun listed => (List.mem_cons.1 listed).resolve_left same
      exact (congrArg Cfr.sending (Device.cfr_setCfr_ne _ _ same)).trans dark

/-- After a fence no lane sends: a lane that sent was listed as sending. -/
theorem dark_fenceLanes (d : Device) (c : Nat) : (d.fenceLanes.cfr c).sending = false := by
  rw [d.fenceLanes_eq]
  refine dark_fenceLane ?_
  unfold Device.cfr Tbl.getD
  cases found : Tbl.get? d.trees.cfr c with
  | none => exact .inl rfl
  | some x =>
    cases sends : x.sending with
    | false => exact .inl sends
    | true => exact .inr (List.mem_map.2 ⟨(c, x), List.mem_filter.2 ⟨Tbl.mem_of_get? found, sends⟩, rfl⟩)

theorem becomeFenced_trees (d : Device) : d.becomeFenced.trees = d.trees := by
  unfold Device.becomeFenced
  split <;> rfl

theorem kept_becomeFenced (d : Device) : Kept fenceFields d.fenceCtrs d d.becomeFenced := by
  have start := Kept.refl fenceFields d.fenceCtrs d
  unfold Device.becomeFenced
  split
  · exact ((start.wr 3 ⟨MRU.ROLE, by decide, rfl⟩).wr 0 ⟨MRU.CAPO, by decide, rfl⟩).count 1 List.mem_cons_self
  · exact start

theorem kept_fenceNow (d : Device) : Kept fenceFields d.fenceCtrs d d.fenceNow := by
  refine kept_fenceLane (fun p hp => ?_) (kept_becomeFenced d)
  rw [becomeFenced_trees] at hp
  exact List.mem_cons_of_mem _ (List.mem_map.2 ⟨p, (List.mem_filter.1 hp).1, rfl⟩)

/-- The holder becomes FENCED without the Capo: the lanes' part of a fence writes no field. -/
theorem fenceNow_holder (holds : d.rd MRU.ROLE = 1) : d.fenceNow.rd MRU.ROLE = 3 ∧ d.fenceNow.capo = false := by
  have lanes : Kept [] d.becomeFenced.fenceCtrs d.becomeFenced d.fenceNow :=
    kept_fenceLane (fun p hp => List.mem_cons_of_mem _ (List.mem_map.2 ⟨p, (List.mem_filter.1 hp).1, rfl⟩)) (Kept.refl _ _ _)
  have fenced : d.becomeFenced = ((d.wr MRU.ROLE 3).wr MRU.CAPO 0).count 0x005 0x880 1 := if_pos holds
  have role : d.becomeFenced.rd MRU.ROLE = 3 := by
    rw [fenced, Device.count_rd, Device.rd_wr_ne _ _ (by decide), Device.rd_wr_same]
    rfl
  have capo : d.becomeFenced.capo = false := by
    rw [fenced]
    exact on_wr_zero (f := MRU.CAPO) _
  exact ⟨(lanes.1 _ nofun).trans role, (lanes.on nofun).trans capo⟩

/-- A fence leaves the counters of the power page, and off the mirror's page those at another offset than the lanes' own. -/
theorem fenceCtrs_apart (d : Device) (small : o < 0x1000) (other : p = 0x003 ∨ (p ≠ 0x005 ∧ o ≠ 0x848)) : ∀ c ∈ d.fenceCtrs, ctrKey p o ≠ ctrKey c.1 c.2 := by
  refine List.forall_mem_cons.2 ⟨?_, fun c hc => ?_⟩
  · simp only [ctrKey]
    omega
  · obtain ⟨q, -, rfl⟩ := List.mem_map.1 hc
    simp only [ctrKey, chanPage]
    omega

/-! ### Trips (R285) -/

theorem trip_of_tripped (h : d.on PTM.TRIPPED = true) : d.trip o = d.count 0x003 o 1 := if_pos h

theorem trip_of_untripped (h : d.on PTM.TRIPPED = false) : d.trip o = ((d.count 0x003 o 1).wr PTM.TRIPPED 1).fenceNow := if_neg (by simp [h])

theorem kept_trip (o : Nat) (d : Device) : Kept (PTM.TRIPPED :: fenceFields) ((0x003, o) :: d.fenceCtrs) d (d.trip o) := by
  have counted : Kept (PTM.TRIPPED :: fenceFields) ((0x003, o) :: d.fenceCtrs) d (d.count 0x003 o 1) := (Kept.refl _ _ d).count 1 List.mem_cons_self
  cases h : d.on PTM.TRIPPED with
  | true => rwa [trip_of_tripped h]
  | false =>
    rw [trip_of_untripped h]
    exact (counted.wr 1 ⟨_, List.mem_cons_self, rfl⟩).trans ((kept_fenceNow _).weaken (List.subset_cons_self ..) (List.subset_cons_self ..))

theorem trip_stands (d : Device) (small : o < 0x1000) : (d.trip o).on PTM.TRIPPED = true ∧ Counts 0x003 o 1 d (d.trip o) := by
  cases h : d.on PTM.TRIPPED with
  | true =>
    rw [trip_of_tripped h]
    exact ⟨h, Device.ctr_count_same ..⟩
  | false =>
    rw [trip_of_untripped h]
    have fence := kept_fenceNow ((d.count 0x003 o 1).wr PTM.TRIPPED 1)
    exact ⟨(fence.on (by decide)).trans (on_wr_one _ rfl), (fence.2 _ _ (fenceCtrs_apart _ small (.inl rfl))).trans (Device.ctr_count_same ..)⟩

theorem trip_trips (h : d.on PTM.TRIPPED = false) : d.Trips (d.trip o) := by
  rw [trip_of_untripped h]
  exact ⟨dark_fenceLanes _, fun holds => fenceNow_holder ((Device.rd_wr_ne _ _ (by decide)).trans holds)⟩

/-- What a trip does stays true over steps before it that leave the role, and over steps after it that leave role, Capo and framers. -/
theorem trips_between (h : b.Trips c) (role : b.rd MRU.ROLE = a.rd MRU.ROLE) (trees : d.trees = c.trees) (still : d.rd MRU.ROLE = c.rd MRU.ROLE)
    (capo : d.capo = c.capo) : a.Trips d := by
  obtain ⟨dark, fenced⟩ := h
  refine ⟨fun x => ?_, fun holds => ?_⟩
  · unfold Device.cfr at *
    rw [trees]
    exact dark x
  · rw [still, capo]
    exact fenced (role.trans holds)

/-! ### The thresholds (R282, R283, R285) -/

theorem kept_warned (d : Device) : Kept [PTM.WARN] [] d d.warned := (Kept.refl _ _ d).wr _ ⟨_, List.mem_cons_self, rfl⟩

theorem kept_heated (d : Device) : Kept [PTM.EMERGENCY] [(0x003, 0x838)] d d.heated := by
  have start := Kept.refl [PTM.EMERGENCY] [(0x003, 0x838)] d
  unfold Device.heated Device.raiseEmergency
  split
  · split
    · exact start
    · have cleared : Kept [PTM.EMERGENCY] [(0x003, 0x838)] d { d with pow := { d.pow with clearRun := 0 } } := start.same rfl rfl
      exact (cleared.wr 1 ⟨_, List.mem_cons_self, rfl⟩).count 1 List.mem_cons_self
  · exact start

theorem heated_trees (d : Device) : d.heated.trees = d.trees := by
  unfold Device.heated Device.raiseEmergency
  split
  · split <;> rfl
  · rfl

theorem heated_of_limited (h : d.limited) : d.heated = d.raiseEmergency := if_pos (by simpa [Device.limited] using h)

theorem heated_of_not_limited (h : ¬ d.limited) : d.heated = d := if_neg (by simpa [Device.limited] using h)

/-- An emergency stands, and its start is counted once. -/
theorem raiseEmergency_stands (d : Device) : d.raiseEmergency.on PTM.EMERGENCY = true ∧ (d.on PTM.EMERGENCY = false → Counts 0x003 0x838 1 d d.raiseEmergency) := by
  unfold Device.raiseEmergency
  split
  case isTrue stands => exact ⟨stands, fun calm => by simp [calm] at stands⟩
  case isFalse => exact ⟨on_wr_one (f := PTM.EMERGENCY) _ rfl, fun _ => Device.ctr_count_same ..⟩

theorem kept_guarded (d : Device) : Kept (PTM.TRIPPED :: fenceFields) ((0x003, 0x840) :: d.fenceCtrs) d d.guarded := by
  unfold Device.guarded
  split
  exacts [kept_trip 0x840 d, Kept.refl _ _ d]

theorem guarded_of_trips (h : d.tripCond = true) : d.guarded.on PTM.TRIPPED = true ∧
    (d.on PTM.TRIPPED = false → Counts 0x003 0x840 1 d d.guarded ∧ d.Trips d.guarded) := by
  cases tripped : d.on PTM.TRIPPED with
  | true =>
    have stays : d.guarded = d := if_neg (by simp [tripped])
    exact ⟨stays.symm ▸ tripped, nofun⟩
  | false =>
    have trips : d.guarded = d.trip 0x840 := if_pos (by simp [h, tripped])
    rw [trips]
    have ⟨stands, counted⟩ := trip_stands d (o := 0x840) (by decide)
    exact ⟨stands, fun _ => ⟨counted, trip_trips tripped⟩⟩

theorem guarded_of_not_trips (h : d.tripCond = false) : d.guarded = d := if_neg (by simp [h])

/-- The first two steps write two flags and count one event: what the third goes by, they leave. -/
theorem kept_warned_heated (d : Device) : Kept [PTM.WARN, PTM.EMERGENCY] [(0x003, 0x838)] d d.warned.heated :=
  ((kept_warned d).weaken (by simp) (by simp)).trans ((kept_heated _).weaken (by simp) (by simp))

theorem Kept.tripCond (h : Kept fs cs a b) (hot : ∀ g ∈ fs, fkey PTM.T_HOT ≠ fkey g) (cold : ∀ g ∈ fs, fkey PTM.T_COLD ≠ fkey g)
    (high : ∀ g ∈ fs, fkeyA PTM.TRIP_HIGH_C ≠ fkey g) (low : ∀ g ∈ fs, fkeyA PTM.TRIP_LOW_C ≠ fkey g) : b.tripCond = a.tripCond := by
  unfold Device.tripCond
  rw [h.tHot hot, h.tCold cold, h.rdA high, h.rdA low]

theorem tripCond_warned_heated (d : Device) : d.warned.heated.tripCond = d.tripCond :=
  (kept_warned_heated d).tripCond (by decide) (by decide) (by decide) (by decide)

theorem kept_thresholds (d : Device) : Kept (PTM.WARN :: PTM.EMERGENCY :: PTM.TRIPPED :: fenceFields) ((0x003, 0x838) :: (0x003, 0x840) :: d.fenceCtrs) d d.thresholds := by
  have last := kept_guarded d.warned.heated
  have lanes : d.warned.heated.fenceCtrs = d.fenceCtrs := congrArg (fun t => _ :: List.map _ (Trees.cfr t)) (heated_trees d.warned)
  rw [lanes] at last
  exact ((kept_warned_heated d).weaken (by simp) (by simp)).trans (last.weaken (by simp) (by simp))

theorem thresholds_warn (d : Device) : d.thresholds.rd PTM.WARN = if quarter (d.rdA PTM.WARN_C) ≤ d.tHot then 1 else 0 := by
  have shown : d.warned.rd PTM.WARN = b2n (decide (quarter (d.rdA PTM.WARN_C) ≤ d.tHot)) % 2 := Device.rd_wr_same ..
  rw [d.thresholds_eq, (kept_guarded _).1 _ (by decide), (kept_heated _).1 _ (by decide), shown]
  split <;> simp [b2n, *]

theorem limited_warned (d : Device) : d.warned.limited ↔ d.limited := by
  have kept := kept_warned d
  unfold Device.limited
  rw [kept.rdA (by decide), kept.tHot (by decide), kept.on (by decide)]

theorem thresholds_of_limited (h : d.limited) : d.thresholds.on PTM.EMERGENCY = true ∧ (d.on PTM.EMERGENCY = false → Counts 0x003 0x838 1 d d.thresholds) := by
  have ⟨stands, counted⟩ := raiseEmergency_stands d.warned
  rw [← heated_of_limited ((limited_warned d).2 h)] at stands counted
  have last := kept_guarded d.warned.heated
  refine ⟨(last.on (by decide)).trans stands, fun calm => ?_⟩
  refine (Counts.before (counted (((kept_warned d).on (by decide)).trans calm)) (last.2 _ _ ?_)).after rfl
  exact List.forall_mem_cons.2 ⟨by decide, fenceCtrs_apart _ (by decide) (.inl rfl)⟩

theorem thresholds_of_not_limited (h : ¬ d.limited) : d.thresholds.rd PTM.EMERGENCY = d.rd PTM.EMERGENCY := by
  rw [d.thresholds_eq, heated_of_not_limited (mt (limited_warned d).1 h), (kept_guarded _).1 _ (by decide), (kept_warned d).1 _ (by decide)]

theorem thresholds_of_trips (h : d.tripCond = true) : d.thresholds.on PTM.TRIPPED = true ∧
    (d.on PTM.TRIPPED = false → Counts 0x003 0x840 1 d d.thresholds ∧ d.Trips d.thresholds) := by
  have kept := kept_warned_heated d
  have ⟨stands, fresh⟩ := guarded_of_trips ((tripCond_warned_heated d).trans h)
  refine ⟨stands, fun untripped => ?_⟩
  have ⟨counted, trips⟩ := fresh ((kept.on (by decide)).trans untripped)
  exact ⟨counted.after (kept.2 _ _ (by decide)), trips_between trips (kept.1 _ (by decide)) rfl rfl rfl⟩

theorem thresholds_of_not_trips (h : d.tripCond = false) : d.thresholds.rd PTM.TRIPPED = d.rd PTM.TRIPPED ∧ d.thresholds.trees = d.trees ∧
    d.thresholds.rd MRU.ROLE = d.rd MRU.ROLE := by
  have kept := kept_warned_heated d
  rw [d.thresholds_eq, guarded_of_not_trips ((tripCond_warned_heated d).trans h)]
  exact ⟨kept.1 _ (by decide), heated_trees _, kept.1 _ (by decide)⟩

/-! ### A sample (R269 to R271, R276) -/

/-- The fields that show the readings. -/
def senseFields : List Fld := [PTM.T_HOT, PTM.T_COLD, PTM.HOT_SENSOR, PTM.PACE_SUM]

theorem unsign_lt (w : Nat) (x : Int) : unsign w x < 2 ^ w := by
  have pos : (0 : Int) < (2 ^ w : Nat) := by positivity
  have := Int.emod_lt_of_pos x pos
  have := Int.emod_nonneg x pos.ne'
  unfold unsign
  omega

section

variable (ts : List Int) (pace : List Nat) (d : Device)

theorem kept_sensed : Kept senseFields [] d (d.sensed ts pace) := by
  have start : Kept senseFields [] d { d with pow := { d.pow with temps := ts, pace := pace } } := (Kept.refl _ _ d).same rfl rfl
  exact (((start.wr _ ⟨PTM.T_HOT, by decide, rfl⟩).wr _ ⟨PTM.T_COLD, by decide, rfl⟩).wr _ ⟨PTM.HOT_SENSOR, by decide, rfl⟩).wr _
    ⟨PTM.PACE_SUM, by decide, rfl⟩

theorem sensed_hot : (d.sensed ts pace).rd PTM.T_HOT = unsign 12 (hotOf ts) := by
  unfold Device.sensed
  dsimp only
  rw [Device.rd_wr_ne _ _ (by decide), Device.rd_wr_ne _ _ (by decide), Device.rd_wr_ne _ _ (by decide), Device.rd_wr_same]
  exact Nat.mod_eq_of_lt (unsign_lt 12 _)

theorem sensed_cold : (d.sensed ts pace).rd PTM.T_COLD = unsign 12 (coldOf ts) := by
  unfold Device.sensed
  dsimp only
  rw [Device.rd_wr_ne _ _ (by decide), Device.rd_wr_ne _ _ (by decide), Device.rd_wr_same]
  exact Nat.mod_eq_of_lt (unsign_lt 12 _)

theorem sensed_sensor : (d.sensed ts pace).rd PTM.HOT_SENSOR = ts.findIdx (fun x => x = hotOf ts) % 2 ^ PTM.HOT_SENSOR.width :=
  (Device.rd_wr_ne _ _ (by decide)).trans (Device.rd_wr_same ..)

end

theorem kept_command (mv : Nat) (d : Device) : Kept [PTM.VCORE_MV] [] d (d.command mv) := by
  have wanted : Kept [PTM.VCORE_MV] [] d { d with pow := { d.pow with wanted := mv, tries := 0 } } := (Kept.refl _ _ d).same rfl rfl
  exact (wanted.wr mv ⟨_, List.mem_cons_self, rfl⟩).same rfl rfl

theorem kept_paceCheck (d : Device) : Kept [PTM.PACE_SHORT, PTM.VCORE_MV] [(0x003, 0x860)] d d.paceCheck := by
  have start := Kept.refl [PTM.PACE_SHORT, PTM.VCORE_MV] [(0x003, 0x860)] d
  have short (v : Nat) := start.wr (f := PTM.PACE_SHORT) v ⟨_, List.mem_cons_self, rfl⟩
  unfold Device.paceCheck
  split
  · exact start
  · dsimp only
    split
    · exact (((short _).count 1 List.mem_cons_self).trans ((kept_command _ _).weaken (by simp) (by simp))).same rfl rfl
    · exact short _

theorem paceCheck_trees (d : Device) : d.paceCheck.trees = d.trees := by
  unfold Device.paceCheck
  split
  · rfl
  · dsimp only
    split <;> rfl

/-- What a sample does once its readings are shown: the thresholds act, and the pace check after them touches no more than the voltage. -/
theorem sample_effect (ts : List Int) (pace : List Nat) (a : Device) : let e := a.sensed ts pace; let b := e.thresholds.paceCheck
    b.pow.temps = ts ∧ b.pow.pace = pace ∧ b.rd PTM.T_HOT = unsign 12 (hotOf ts) ∧ b.rd PTM.T_COLD = unsign 12 (coldOf ts) ∧
    b.rd PTM.HOT_SENSOR = ts.findIdx (fun x => x = hotOf ts) % 2 ^ PTM.HOT_SENSOR.width ∧
    b.rd PTM.WARN = (if quarter (a.rdA PTM.WARN_C) ≤ e.tHot then 1 else 0) ∧
    (e.limited → b.on PTM.EMERGENCY = true ∧ (a.on PTM.EMERGENCY = false → Counts 0x003 0x838 1 a b)) ∧
    (¬ e.limited → b.rd PTM.EMERGENCY = a.rd PTM.EMERGENCY) ∧
    (e.tripCond = true → b.on PTM.TRIPPED = true ∧ (a.on PTM.TRIPPED = false → Counts 0x003 0x840 1 a b ∧ a.Trips b)) ∧
    (e.tripCond = false → b.rd PTM.TRIPPED = a.rd PTM.TRIPPED ∧ b.trees = a.trees ∧ b.rd MRU.ROLE = a.rd MRU.ROLE) ∧ b.indoors = a.indoors := by
  intro e b
  have sense : Kept senseFields [] a e := kept_sensed ts pace a
  have hot : e.rd PTM.T_HOT = unsign 12 (hotOf ts) := sensed_hot ..
  have cold : e.rd PTM.T_COLD = unsign 12 (coldOf ts) := sensed_cold ..
  have sensor : e.rd PTM.HOT_SENSOR = ts.findIdx (fun x => x = hotOf ts) % 2 ^ PTM.HOT_SENSOR.width := sensed_sensor ..
  have taken : e.pow.temps = ts ∧ e.pow.pace = pace ∧ e.indoors = a.indoors ∧ e.trees = a.trees := ⟨rfl, rfl, rfl, rfl⟩
  clear_value e
  obtain ⟨temps, speeds, beside, framers⟩ := taken
  have acts := kept_thresholds e
  have paced : Kept [PTM.PACE_SHORT, PTM.VCORE_MV] [(0x003, 0x860)] e.thresholds b := kept_paceCheck _
  have trees : b.trees = e.thresholds.trees := paceCheck_trees _
  have readings : (b.pow.temps, b.pow.pace) = (e.pow.temps, e.pow.pace) := (heatBlind_readings.paceCheck _).trans (heatBlind_readings.thresholds e)
  have indoors : b.indoors = e.indoors := (heatBlind_indoors.paceCheck _).trans (heatBlind_indoors.thresholds e)
  clear_value b
  obtain ⟨temps', speeds'⟩ := Prod.mk.inj readings
  have shown {f : Fld} (past : ∀ g ∈ [PTM.PACE_SHORT, PTM.VCORE_MV], fkey f ≠ fkey g)
      (apart : ∀ g ∈ PTM.WARN :: PTM.EMERGENCY :: PTM.TRIPPED :: fenceFields, fkey f ≠ fkey g) : b.rd f = e.rd f :=
    (paced.1 f past).trans (acts.1 f apart)
  refine ⟨temps'.trans temps, speeds'.trans speeds, (shown (by decide) (by decide)).trans hot, (shown (by decide) (by decide)).trans cold,
    (shown (by decide) (by decide)).trans sensor, ?_, fun limited => ?_, fun calm => ?_, fun trips => ?_, fun safe => ?_, indoors.trans beside⟩
  · rw [paced.1 _ (by decide), thresholds_warn, sense.rdA (by decide)]
  · have ⟨stands, counted⟩ := thresholds_of_limited limited
    exact ⟨(paced.on (by decide)).trans stands, fun before =>
      ((counted ((sense.on (by decide)).trans before)).before (paced.2 _ _ (by decide))).after (sense.2 _ _ nofun)⟩
  · rw [paced.1 _ (by decide), thresholds_of_not_limited calm, sense.1 _ (by decide)]
  · have ⟨stands, fresh⟩ := thresholds_of_trips trips
    refine ⟨(paced.on (by decide)).trans stands, fun untripped => ?_⟩
    have ⟨counted, fences⟩ := fresh ((sense.on (by decide)).trans untripped)
    exact ⟨(counted.before (paced.2 _ _ (by decide))).after (sense.2 _ _ nofun),
      trips_between fences (sense.1 _ (by decide)) trees (paced.1 _ (by decide)) (paced.on (by decide))⟩
  · obtain ⟨tripped, lanes, role⟩ := thresholds_of_not_trips safe
    rw [paced.1 _ (by decide), paced.1 _ (by decide), tripped, role, trees, lanes]
    exact ⟨sense.1 _ (by decide), framers, sense.1 _ (by decide)⟩

/-! ### A rail alarm (R272, R373, R374) -/

/-- An erasure leaves the registers and every counter but its three. -/
theorem kept_eraseKeys (o : Nat) (d : Device) : Kept [] [(0x1B4, 0x860), (0x1B4, 0x878), (0x1B4, o)] d (d.eraseKeys o) := by
  have start (e : Device) (regs : e.regs = d.regs) (ctrs : e.ctrs = d.ctrs) : Kept [] [(0x1B4, 0x860), (0x1B4, 0x878), (0x1B4, o)] d e :=
    (Kept.refl _ _ d).same regs ctrs
  exact (((start _ rfl rfl).count _ (by simp)).count 1 (by simp)).count 1 (by simp)

theorem eraseKeys_tables (o : Nat) (d : Device) : let b := d.eraseKeys o
    b.svc.keys = d.svc.keys.map (fun e => (e.1, { e.2 with key := List.replicate e.2.key.length 0, st := .erased })) ∧
    b.pow = d.pow ∧ b.trees = d.trees ∧ b.cells = d.cells ∧ b.fret = d.fret ∧ b.rng = d.rng := ⟨rfl, rfl, rfl, rfl, rfl, rfl⟩

/-- An erasure by a rail alarm is counted in all and by its cause. -/
theorem eraseKeys_counts (d : Device) : Counts 0x1B4 0x878 1 d (d.eraseKeys 0x880) ∧ Counts 0x1B4 0x880 1 d (d.eraseKeys 0x880) := by
  have erased : ∃ (e : Device) (n : Nat), d.eraseKeys 0x880 = ((e.count 0x1B4 0x860 n).count 0x1B4 0x878 1).count 0x1B4 0x880 1 ∧ e.ctrs = d.ctrs := ⟨_, _, rfl, rfl⟩
  obtain ⟨e, n, same, ctrs⟩ := erased
  have reads (o : Nat) : e.ctr 0x1B4 o = d.ctr 0x1B4 o := congrArg (Tbl.getD · _ 0) ctrs
  rw [same]
  constructor
  · rw [Counts, Device.ctr_count_ne _ _ (by decide), Device.ctr_count_same, Device.ctr_count_ne _ _ (by decide), reads]
  · rw [Counts, Device.ctr_count_same, Device.ctr_count_ne _ _ (by decide), Device.ctr_count_ne _ _ (by decide), reads]

theorem railAlarm_effect (t rail : Nat) (a : Device) : let b := railAlarm t rail a
    b.on PTM.TRIPPED = true ∧ Counts 0x003 0x848 1 a b ∧ b.pow.railLow = true ∧ (a.on PTM.TRIPPED = false → a.Trips b) ∧
    b.svc.keys = a.svc.keys.map (fun e => (e.1, { e.2 with key := List.replicate e.2.key.length 0, st := .erased })) ∧
    Counts 0x1B4 0x878 1 a b ∧ Counts 0x1B4 0x880 1 a b ∧ b.cells = a.cells ∧ b.fret = a.fret ∧ b.rng = a.rng := by
  have low : Kept [] [] a { a with pow := { a.pow with railLow := true } } := (Kept.refl _ _ a).same rfl rfl
  have alarmed : ({ a with pow := { a.pow with railLow := true } } : Device).pow.railLow = true ∧
    ({ a with pow := { a.pow with railLow := true } } : Device).indoors = a.indoors := ⟨rfl, rfl⟩
  unfold railAlarm
  generalize ({ a with pow := { a.pow with railLow := true } } : Device) = l at *
  obtain ⟨railLow, beside⟩ := alarmed
  have ⟨stands, counted⟩ := trip_stands l (o := 0x848) (by decide)
  have kept := kept_trip 0x848 l
  have fresh := trip_trips (o := 0x848) (d := l)
  have indoors : (l.trip 0x848).indoors = a.indoors := (heatBlind_indoors.toTripBlind.trip 0x848 l).trans beside
  have power : (l.trip 0x848).pow = l.pow := TripBlind.trip ⟨fun _ _ _ => rfl, fun _ _ _ _ => rfl, fun _ _ _ => rfl⟩ 0x848 l
  generalize l.trip 0x848 = e at *
  have erase := kept_eraseKeys 0x880 e
  have ⟨erasures, alarms⟩ := eraseKeys_counts e
  obtain ⟨keys, pow, trees, cells, fret, rng⟩ := eraseKeys_tables 0x880 e
  generalize e.eraseKeys 0x880 = b at *
  have cipher (o : Nat) (small : o < 0x1000) (other : o ≠ 0x848) : e.ctr 0x1B4 o = a.ctr 0x1B4 o := by
    refine (kept.2 _ _ (List.forall_mem_cons.2 ⟨?_, fenceCtrs_apart l small (.inr ⟨by decide, other⟩)⟩)).trans (low.2 _ _ nofun)
    simp only [ctrKey]
    omega
  simp only [Device.indoors, Prod.mk.injEq] at indoors
  obtain ⟨cells', svc, fret', -, rng'⟩ := indoors
  refine ⟨(erase.on nofun).trans stands, (counted.before (erase.2 _ _ (by decide))).after (low.2 _ _ nofun), ?_, fun untripped => ?_, svc ▸ keys,
    erasures.after (cipher _ (by decide) (by decide)), alarms.after (cipher _ (by decide) (by decide)), cells.trans cells', fret.trans fret', rng.trans rng'⟩
  · rw [pow, power, railLow]
  · exact trips_between (fresh ((low.on nofun).trans untripped)) (low.1 _ nofun) trees (erase.1 _ nofun) (erase.on nofun)

/-- Settles O32: what a sample shows and what its thresholds start, and what a rail alarm trips and erases. -/
theorem sensorsActOnThresholds : Obligations.SensorsActOnThresholds := by
  unfold Obligations.SensorsActOnThresholds
  refine ⟨fun t temps pace s hr => Makes.intro hr ((exec_ptmSample ..).trans (if_neg (by simp [hr]))) ?_,
    fun t rail s hr => Makes.intro hr (exec_railAlarm ..) ?_⟩
  all_goals generalize s.dev.arrive t = a
  · dsimp only
    rw [ptmSample_eq]
    have effect := sample_effect (temps.take 72) (pace.take 36) a
    have sense := kept_sensed (temps.take 72) (pace.take 36) a
    have hot : (a.sensed (temps.take 72) (pace.take 36)).tHot = _ := congrArg (signed 12) (sensed_hot ..)
    have cold : (a.sensed (temps.take 72) (pace.take 36)).tCold = _ := congrArg (signed 12) (sensed_cold ..)
    generalize a.sensed (temps.take 72) (pace.take 36) = e at *
    simp only [Device.limited, Device.tripCond, hot, cold, sense.rdA (f := PTM.LIMIT_C) (by decide), sense.rdA (f := PTM.TRIP_HIGH_C) (by decide),
      sense.rdA (f := PTM.TRIP_LOW_C) (by decide), sense.on (f := PTM.EMERG_FORCE) (by decide)] at effect
    obtain ⟨temps, speeds, shown, coldest, sensor, warn, limited, calm, trips, safe, indoors⟩ := effect
    simp only [Device.indoors, Prod.mk.injEq] at indoors
    obtain ⟨cells, svc, fret, pkt, rng⟩ := indoors
    refine ⟨temps, speeds, shown, coldest, sensor, warn, limited, calm, fun out => trips ?_, fun inside => safe ?_, cells, svc, fret, pkt, rng⟩
    · simpa using out
    · simpa using inside
  · exact railAlarm_effect ..

end Sys2Proof.Safety
end

section
/-!
PROOFS. The writes of the power page (R65, R80, R285 to R288): a trip's release, quiet channels and quiet trees, the lanes of a tree that is no longer
quiet, and the statement `Obligations.TripsAndQuietWrites`.
-/

namespace Sys2Proof.Machine

open Sys2Proof.Safety

variable {d : Device} {m : Master} {railOk : Bool} {i v : Nat}

/-! ### TRIP_RELEASE (R285) -/

/-- The rail alarm as a release leaves it. -/
def Device.railsFound (railOk : Bool) (d : Device) : Device := { d with pow := { d.pow with railLow := d.pow.railLow && !railOk } }

/-- A trip stays: a trip condition, a rail out of range, or a reading not below the threshold by the hysteresis. -/
def Device.staysTripped (railOk : Bool) (d : Device) : Prop :=
  d.tripCond = true ∨ railOk = false ∨ quarter (d.rdA PTM.TRIP_HIGH_C) - quarter (d.rdA PTM.HYST_C) ≤ d.tHot

theorem tripRelease_idle (t : Nat) {v : Bool} (hm : m ≠ .pf1) (h : v = false ∨ d.on PTM.TRIPPED = false) : tripRelease t m v railOk d = d := by
  unfold tripRelease
  rw [Device.asMaster_k1 hm, if_pos (by simpa using h)]

/-- A release is judged with the readings as they are: of the rails it changes the alarm alone. -/
theorem tripRelease_of_tripped (t : Nat) (hm : m ≠ .pf1) (h : d.on PTM.TRIPPED = true) : tripRelease t m true railOk d =
    if d.tripCond || !railOk || decide (quarter (d.rdA PTM.TRIP_HIGH_C) - quarter (d.rdA PTM.HYST_C) ≤ d.tHot) then (d.railsFound railOk).refuse 0x003
    else (d.railsFound railOk).wr PTM.TRIPPED 0 := by
  unfold tripRelease
  rw [Device.asMaster_k1 hm, if_neg (by simp [h])]
  rfl

theorem tripRelease_of_stays (t : Nat) (hm : m ≠ .pf1) (h : d.on PTM.TRIPPED = true) (stays : d.staysTripped railOk) :
    tripRelease t m true railOk d = (d.railsFound railOk).refuse 0x003 := by
  rw [tripRelease_of_tripped t hm h, if_pos (by simpa [Device.staysTripped, or_assoc] using stays)]

theorem tripRelease_of_leaves (t : Nat) (hm : m ≠ .pf1) (h : d.on PTM.TRIPPED = true) (leaves : ¬ d.staysTripped railOk) :
    tripRelease t m true railOk d = (d.railsFound railOk).wr PTM.TRIPPED 0 := by
  rw [tripRelease_of_tripped t hm h, if_neg (by simpa [Device.staysTripped, and_assoc] using leaves)]

/-! ### Quiet modes (R286 to R288) -/

/-- The trees of a word newly set quiet. -/
def newlyQuiet (old v : Nat) : List Nat := (List.range 32).filter fun k => bit v k && !bit old k

/-- Distinct powers of two add up to the number with their bits. -/
theorem testBit_sum_two_pow {l : List Nat} (rising : l.SortedLT) (k : Nat) : (l.map (2 ^ ·)).sum.testBit k = decide (k ∈ l) := by
  rw [Bool.eq_iff_iff, ← Nat.mem_bitIndices, Nat.bitIndices_sum_map_two_pow rising, decide_eq_true_iff]

theorem newlyQuiet_rising (old v : Nat) : (newlyQuiet old v).SortedLT := (List.pairwise_lt_range.filter _).sortedLT

theorem quietTree_of_live (t : Nat) (hm : m ≠ .pf1) (live : ∃ k ∈ newlyQuiet (d.rd (PTM.QUIET_TREE i)) v, d.mayPowerDown (32 * i + k) = false) :
    quietTree t m i v d = d.count 0x003 0x868 1 := by
  unfold quietTree
  rw [Device.asMaster_k1 hm]
  obtain ⟨k, new, serves⟩ := live
  exact if_neg fun all => by simpa [serves] using List.all_eq_true.1 all k new

theorem quietTree_of_idle (t : Nat) (hm : m ≠ .pf1) (idle : ∀ k ∈ newlyQuiet (d.rd (PTM.QUIET_TREE i)) v, d.mayPowerDown (32 * i + k) = true) :
    quietTree t m i v d = (d.wr (PTM.QUIET_TREE i) v).wr (PTM.LANES_DOWN i)
      (d.rd (PTM.LANES_DOWN i) ||| ((newlyQuiet (d.rd (PTM.QUIET_TREE i)) v).map (2 ^ ·)).sum) := by
  unfold quietTree
  rw [Device.asMaster_k1 hm]
  exact if_pos (List.all_eq_true.2 idle)

theorem quietTree_ne_lanesDown (i : Nat) : fkey (PTM.QUIET_TREE i) ≠ fkey (PTM.LANES_DOWN i) := by
  simp only [fkey, PTM.QUIET_TREE, PTM.LANES_DOWN]
  omega

theorem bit_wr_word {f : Fld} (d : Device) (x : Nat) {k : Nat} (width : f.width = 32) (hk : k < 32) : bit ((d.wr f x).rd f) k = x.testBit k := by
  rw [Device.rd_wr_same, width, bit, Nat.testBit_mod_two_pow, decide_eq_true hk, Bool.true_and]

theorem treeLanesReady_idle (t r : Nat) (h : bit (d.rd (PTM.QUIET_TREE (r / 32))) (r % 32) = true ∨ bit (d.rd (PTM.LANES_DOWN (r / 32))) (r % 32) = false) :
    treeLanesReady t r d = d := if_pos (by simpa using h)

theorem treeLanesReady_ready (t r : Nat) (awake : bit (d.rd (PTM.QUIET_TREE (r / 32))) (r % 32) = false)
    (down : bit (d.rd (PTM.LANES_DOWN (r / 32))) (r % 32) = true) :
    treeLanesReady t r d = d.wr (PTM.LANES_DOWN (r / 32)) (d.rd (PTM.LANES_DOWN (r / 32)) - 2 ^ (r % 32)) := if_neg (by simp [awake, down])

end Sys2Proof.Machine

namespace Sys2Proof.Safety

open Sys2Proof.Machine

variable {a : Device} {m : Master} {railOk : Bool}

/-! ### What the writes do -/

theorem release_effect (t : Nat) (hm : m ≠ .pf1) (h : a.on PTM.TRIPPED = true) : let b := tripRelease t m true railOk a
    (a.staysTripped railOk → Counts 0x003 0x808 1 a b ∧ b.rd PTM.TRIPPED = 1) ∧
    (¬ a.staysTripped railOk → b.on PTM.TRIPPED = false ∧ b.ctrs = a.ctrs ∧ Kept [PTM.TRIPPED] [] a b) ∧
    b = { a with regs := b.regs, ctrs := b.ctrs, pow := { a.pow with railLow := a.pow.railLow && !railOk } } := by
  by_cases stays : a.staysTripped railOk
  · rw [tripRelease_of_stays t hm h stays]
    exact ⟨fun _ => ⟨Device.ctr_count_same .., of_decide_eq_true h⟩, fun leaves => absurd stays leaves, rfl⟩
  · rw [tripRelease_of_leaves t hm h stays]
    have found : Kept [PTM.TRIPPED] [] a (a.railsFound railOk) := (Kept.refl _ _ a).same rfl rfl
    exact ⟨fun h => absurd h stays, fun _ => ⟨on_wr_zero _, rfl, found.wr 0 ⟨_, List.mem_cons_self, rfl⟩⟩, rfl⟩

theorem quiet_effect (t v : Nat) {i : Nat} (hv : v < 2 ^ 32) (hm : m ≠ .pf1)
    (idle : ∀ k ∈ newlyQuiet (a.rd (PTM.QUIET_TREE i)) v, a.mayPowerDown (32 * i + k) = true) : let b := quietTree t m i v a
    b.rd (PTM.QUIET_TREE i) = v ∧
    (∀ k : Fin 32, bit (b.rd (PTM.LANES_DOWN i)) k.val = (bit (a.rd (PTM.LANES_DOWN i)) k.val || decide (k.val ∈ newlyQuiet (a.rd (PTM.QUIET_TREE i)) v))) ∧
    Only [PTM.QUIET_TREE i, PTM.LANES_DOWN i] [] a b := by
  rw [quietTree_of_idle t hm idle]
  refine ⟨?_, fun k => ?_, ((Only.refl _ _ a).wr v ⟨_, List.mem_cons_self, rfl⟩).wr _ ⟨_, List.mem_cons_of_mem _ List.mem_cons_self, rfl⟩⟩
  · rw [Device.rd_wr_ne _ _ (quietTree_ne_lanesDown i), Device.rd_wr_same]
    exact Nat.mod_eq_of_lt hv
  · rw [bit_wr_word _ _ rfl k.isLt, Nat.testBit_or, testBit_sum_two_pow (newlyQuiet_rising ..)]
    rfl

theorem ready_effect (t r : Nat) (awake : bit (a.rd (PTM.QUIET_TREE (r / 32))) (r % 32) = false)
    (down : bit (a.rd (PTM.LANES_DOWN (r / 32))) (r % 32) = true) : let b := treeLanesReady t r a
    (∀ j : Fin 32, bit (b.rd (PTM.LANES_DOWN (r / 32))) j.val = (bit (a.rd (PTM.LANES_DOWN (r / 32))) j.val && decide (j.val ≠ r % 32))) ∧
    Only [PTM.LANES_DOWN (r / 32)] [] a b := by
  rw [treeLanesReady_ready t r awake down]
  refine ⟨fun j => ?_, (Only.refl _ _ a).wr _ ⟨_, List.mem_cons_self, rfl⟩⟩
  rw [bit_wr_word _ _ rfl j.isLt, testBit_clear down]
  by_cases same : j.val = r % 32 <;> simp [same, bit]

/-- Settles O34: a trip is released or stays, the quiet words are taken or refused whole, and the lanes of a tree no longer quiet come up. -/
theorem tripsAndQuietWrites : Obligations.TripsAndQuietWrites := by
  unfold Obligations.TripsAndQuietWrites
  refine ⟨fun t m v railOk hw s hr => Makes.intro hr (exec_tripRelease ..) ?_, fun t m i v s hr => Makes.intro hr (exec_quietCh ..) ?_,
    fun t m i v s hr => Makes.intro hr (exec_quietTree ..) ?_, fun t r s hr => Makes.intro hr (exec_treeLanesReady ..) ?_⟩
  all_goals generalize s.dev.arrive t = a
  case refine_1 =>
    refine ⟨?_, ?_, fun hm alone idle => ?_, fun hm alone release tripped => ?_⟩
    · rintro rfl
      exact refused_colliding ..
    · rintro hm rfl
      exact lost_colliding _ _ hm
    · rw [colliding_own _ _ hm (.inl alone)]
      exact tripRelease_idle _ hm idle
    · rw [colliding_own _ _ hm (.inl alone), release]
      exact release_effect _ hm tripped
  case refine_2 =>
    refine ⟨?_, fun hm => ?_⟩
    · rintro rfl
      exact refused_asMaster ..
    · dsimp only [quietCh]
      rw [Device.asMaster_k1 hm]
      exact ⟨(Device.rd_wr_same ..).trans (Nat.mod_eq_of_lt v.isLt), (Only.refl _ _ a).wr _ ⟨_, List.mem_cons_self, rfl⟩⟩
  case refine_3 =>
    refine ⟨?_, fun hm live => ?_, fun hm idle => quiet_effect _ _ v.isLt hm idle⟩
    · rintro rfl
      exact refused_asMaster ..
    · rw [quietTree_of_live _ hm live]
      exact ⟨Device.ctr_count_same .., (Only.refl _ _ a).count 1 List.mem_cons_self⟩
  case refine_4 =>
    dsimp only
    split
    case isTrue ready =>
      obtain ⟨awake, down, -⟩ := ready
      exact ready_effect _ _ awake down
    case isFalse => exact treeLanesReady_idle _ _

end Sys2Proof.Safety
end

section
/-!
PROOFS. When a host command starts (R299, R300, R302, R304, R308, R624): what it is refused for before its own rules decide, and the statement
`Obligations.CommandsStart`.
-/

namespace Sys2Proof.Machine

open Sys2Proof.Safety

variable {a : Device} {op n : Nat} {c : Cmd} (body : Cmd → Device → Device)

/-! ### A command whose turn has not come, and one that is refused at its start -/

theorem run_of_not_starts (idle : ∀ c, ¬ Starts a op n c) : Device.run op a.now n body a = a := by
  unfold Device.run
  split
  · rfl
  · next e found =>
    refine if_pos ?_
    by_contra starts
    simp only [not_or, not_not, Bool.not_eq_true, Bool.not_eq_false', Nat.not_lt] at starts
    exact idle e ⟨found, starts⟩

/-- A command whose turn has come is refused for the first of four causes, or its own rules decide. -/
theorem run_of_starts (h : Starts a op n c) : Device.run op a.now n body a =
    if Cmd.deadline c < a.now then a.refuseCmd c stTimeout (Cmd.deadline c)
    else if !opFree op && !a.capo then a.refuseCmd c stNotActive a.now
    else if Cmd.reserved c then a.refuseCmd c stArg a.now
    else if c.pay = .failed then a.refuseCmd c stDmaError a.now
    else body c a := by
  obtain ⟨found, waiting, opcode, turn, notReading, stamped⟩ := h
  unfold Device.run
  simp only [found]
  exact if_neg (by simp [waiting, opcode, turn, notReading, Nat.not_lt.2 stamped])

/-- Each of the 23 host commands is run by its opcode (R309). -/
theorem hostCommand_runs {t : Nat} {i : Instr} (h : hostCommand op t n = some i) :
    ∃ f, (∀ s, exec i s = onDevice t f s) ∧ ∀ d : Device, ∃ body, f d = Device.run op d.now n body d := by
  unfold hostCommand at h
  split at h <;> cases h
  · exact ⟨_, exec_nop t n, fun _ => ⟨_, rfl⟩⟩
  · exact ⟨_, exec_query t n, fun _ => ⟨_, rfl⟩⟩
  · exact ⟨_, exec_keyZeroizeAll t n, fun _ => ⟨_, rfl⟩⟩
  · exact ⟨_, exec_terminalCreate t n, fun _ => ⟨_, rfl⟩⟩
  · exact ⟨_, exec_terminalDestroy t n, fun _ => ⟨_, rfl⟩⟩
  · exact ⟨_, exec_terminalDisable t n, fun _ => ⟨_, rfl⟩⟩
  · exact ⟨_, exec_terminalEnable t n, fun _ => ⟨_, rfl⟩⟩
  · exact ⟨_, exec_allocCreate t n, fun _ => ⟨_, rfl⟩⟩
  · exact ⟨_, exec_allocDestroy t n, fun _ => ⟨_, rfl⟩⟩
  · exact ⟨_, exec_channelCreate t n, fun _ => ⟨_, rfl⟩⟩
  · exact ⟨_, exec_channelDestroy t n, fun _ => ⟨_, rfl⟩⟩
  · exact ⟨_, exec_queueCreate t n, fun _ => ⟨_, rfl⟩⟩
  · exact ⟨_, exec_queueDestroy t n, fun _ => ⟨_, rfl⟩⟩
  · exact ⟨_, exec_queueFlush t n, fun _ => ⟨_, rfl⟩⟩
  · exact ⟨_, exec_keyCreate t n, fun _ => ⟨_, rfl⟩⟩
  · exact ⟨_, exec_keyDestroy t n, fun _ => ⟨_, rfl⟩⟩
  · exact ⟨_, exec_poolCreate t n, fun _ => ⟨_, rfl⟩⟩
  · exact ⟨_, exec_poolDestroy t n, fun _ => ⟨_, rfl⟩⟩
  · exact ⟨_, exec_shaperCreate t n, fun _ => ⟨_, rfl⟩⟩
  · exact ⟨_, exec_shaperDestroy t n, fun _ => ⟨_, rfl⟩⟩
  · exact ⟨_, exec_gateListInstall t n, fun _ => ⟨_, rfl⟩⟩
  · exact ⟨_, exec_gateListDestroy t n, fun _ => ⟨_, rfl⟩⟩
  · exact ⟨_, exec_omciSend t n, fun _ => ⟨_, rfl⟩⟩

end Sys2Proof.Machine

namespace Sys2Proof.Safety

open Sys2Proof.Machine

/-- Settles O36: a command that does not start leaves the device, and one that starts is refused for the first of its four causes. -/
theorem commandsStart : Obligations.CommandsStart := by
  unfold Obligations.CommandsStart
  intro op t n i s hr host
  obtain ⟨f, runs, body⟩ := hostCommand_runs host
  refine Makes.intro hr (runs s) ?_
  generalize s.dev.arrive t = a
  obtain ⟨body, effect⟩ := body a
  rw [effect]
  refine ⟨run_of_not_starts body, fun c starts => ?_⟩
  rw [run_of_starts body starts]
  refine ⟨fun late => ?_, fun inTime host inactive => ?_, fun inTime allowed reserved => ?_, fun inTime allowed unreserved failed => ?_⟩
  · rw [if_pos late]
    exact ⟨rfl, rfl⟩
  · rw [if_neg (Nat.not_lt.2 inTime), if_pos (by simp [host, inactive])]
    exact refusedAs ..
  all_goals
    have heard : (!opFree op && !a.capo) = false := by rcases allowed with h | h <;> simp [h]
    rw [if_neg (Nat.not_lt.2 inTime), if_neg (by simp [heard])]
  · rw [if_pos reserved]
    exact refusedAs ..
  · rw [if_neg (by simp [unreserved]), if_pos failed]
    exact refusedAs ..

end Sys2Proof.Safety
end

section
/-!
PROOFS. The acceptance of commands (R295 to R297, R300, R302 to R304, R309, R621): the command that a descriptor becomes, what its acceptance changes,
NOP, QUERY and a late command, and the statement `Obligations.CommandsAreAccepted`.
-/

namespace Sys2Proof.Machine

open Sys2Proof.Safety

/-! ### The command that a descriptor becomes -/

/-- The sixteen words of a descriptor as the HIF keeps them; of a failed read it keeps none. -/
def acceptedWords (ws : List Nat) (ok : Bool) : List Nat :=
  if ok then (List.range 16).map (fun i => wordAt ws i % 2 ^ 32) else List.replicate 16 0

theorem wordAt_acceptedWords (ws : List Nat) {i : Nat} (h : i < 16) : wordAt (acceptedWords ws true) i = wordAt ws i % 2 ^ 32 := by
  simp [acceptedWords, wordAt, h]

/-- Whether the descriptor of words `ws` has a payload to read (R309). -/
def readsPayload (ws : List Nat) : Bool := opPayload (wordAt ws 0 % 256) && decide (wordAt ws 14 % 65536 ≠ 0)

theorem readsPayload_acceptedWords (ws : List Nat) : readsPayload (acceptedWords ws true) = readsPayload ws := by
  unfold readsPayload
  rw [wordAt_acceptedWords ws (by decide), wordAt_acceptedWords ws (by decide), Nat.mod_mod_of_dvd _ (by decide), Nat.mod_mod_of_dvd _ (by decide)]

/-- The command that a descriptor becomes, before it is decided what it is to do. -/
def Device.listedCmd (r : Nat) (ws : List Nat) (ok : Bool) (d : Device) : Cmd :=
  { seq := d.svc.seq, stamp := d.now, ring := r, slot := d.rd (HIF.CR_CI r) % 2 ^ d.rd (HIF.CR_SIZE_LOG2 r), cq := d.rd (HIF.CR_CQ r),
    cqSlot := Tbl.getD d.svc.reserved (d.rd (HIF.CR_CQ r)) 0, words := acceptedWords ws ok,
    pay := if ok && readsPayload (acceptedWords ws ok) then .reading else .absent }

/-- The accepted command: a failed read and an unknown opcode have their completion, a destroy may have closed its object. -/
def Device.acceptedCmd (r : Nat) (ws : List Nat) (ok : Bool) (d : Device) : Cmd :=
  let c := d.listedCmd r ws ok
  if !ok then { c with st := .done stDmaError d.now false 0 0 0 }
  else if (opTimeout (Cmd.opcode c)).isNone then { c with st := .done stUnknown d.now false (Cmd.handle c) 0 0 }
  else { c with closer := d.closes c }

section Accepted

variable (r : Nat) (ws : List Nat) (ok : Bool) (d : Device)

/-- Only its state and what it closed are decided beyond the listing. -/
theorem Device.acceptedCmd_eq : d.acceptedCmd r ws ok =
    { d.listedCmd r ws ok with st := (d.acceptedCmd r ws ok).st, closer := (d.acceptedCmd r ws ok).closer } := by
  unfold Device.acceptedCmd
  dsimp only
  split_ifs <;> rfl

theorem Device.acceptedCmd_listed : let c := d.acceptedCmd r ws ok
    c.seq = d.svc.seq ∧ c.stamp = d.now ∧ c.ring = r ∧ c.cq = d.rd (HIF.CR_CQ r) ∧ c.cqSlot = Tbl.getD d.svc.reserved (d.rd (HIF.CR_CQ r)) 0 ∧
    c.slot = d.rd (HIF.CR_CI r) % 2 ^ d.rd (HIF.CR_SIZE_LOG2 r) ∧ c.words = acceptedWords ws ok ∧
    c.pay = if ok && readsPayload (acceptedWords ws ok) then .reading else .absent := by
  rw [d.acceptedCmd_eq]
  exact ⟨rfl, rfl, rfl, rfl, rfl, rfl, rfl, rfl⟩

/-- A destroy is one of the known opcodes. -/
theorem Device.closes_of_unknown {c : Cmd} (h : opTimeout (Cmd.opcode c) = none) : d.closes c = false := by
  unfold Device.closes
  split
  · next op => rw [op] at h; simp [opTimeout] at h
  · next op => rw [op] at h; simp [opTimeout] at h
  · simp

theorem Device.acceptedCmd_closer_listed : (d.acceptedCmd r ws ok).closer = (ok && d.closes (d.listedCmd r ws ok)) := by
  cases ok with
  | false => rfl
  | true =>
    unfold Device.acceptedCmd
    dsimp only
    rw [if_neg (by simp)]
    split
    · next unknown => exact (d.closes_of_unknown (Option.isNone_iff_eq_none.1 unknown)).symm
    · rfl

/-- Whether a destroy closes its object is decided by its words. -/
theorem Device.acceptedCmd_closer : (d.acceptedCmd r ws ok).closer = (ok && d.closes (d.acceptedCmd r ws ok)) := by
  have same : d.closes (d.acceptedCmd r ws ok) = d.closes (d.listedCmd r ws ok) := by
    rw [d.acceptedCmd_eq]
    rfl
  rw [same, d.acceptedCmd_closer_listed]

theorem Device.listedCmd_opcode : Cmd.opcode (d.listedCmd r ws true) = wordAt ws 0 % 256 :=
  (congrArg (· % 256) (wordAt_acceptedWords ws (by decide))).trans (Nat.mod_mod_of_dvd _ (by decide))

theorem Device.acceptedCmd_failed (h : ok = false) : (d.acceptedCmd r ws ok).st = .done stDmaError d.now false 0 0 0 := by
  rw [h]
  rfl

/-- A descriptor that was read waits for its turn, or is at once of an unknown opcode (R302). -/
theorem Device.acceptedCmd_taken (h : ok = true) : let c := d.acceptedCmd r ws ok; let op := wordAt ws 0 % 256
    Cmd.opcode c = op ∧ ((opTimeout op).isSome = true → c.st = .waiting) ∧
    ((opTimeout op).isSome = false → c.st = .done stUnknown d.now false (Cmd.handle c) 0 0) := by
  subst h
  unfold Device.acceptedCmd
  dsimp only
  rw [d.listedCmd_opcode, if_neg (by simp)]
  split
  · next unknown => exact ⟨d.listedCmd_opcode r ws, fun known => by simp_all, fun _ => rfl⟩
  · next known => exact ⟨d.listedCmd_opcode r ws, fun _ => rfl, fun unknown => by simp_all⟩

end Accepted

/-! ### What an acceptance changes -/

/-- The command joins the accepted ones under number `n`, its completion slot reserved, and the turn at the next ring. -/
def Device.enlist (r q n : Nat) (c : Cmd) (d : Device) : Device :=
  { d with svc := { d.svc with cmds := d.svc.cmds ++ [c], seq := n + 1, turn := (r + 1) % 16,
                               reserved := Tbl.put 0 d.svc.reserved q ((Tbl.getD d.svc.reserved q 0 + 1) % 65536) } }

/-- The payload read of command `n` begins at instant `t`. -/
def Device.readPayload (n t : Nat) (d : Device) : Device :=
  { d with hif := { d.hif with reads := d.hif.reads ++ [⟨d.hif.nextRead, n, t⟩], nextRead := d.hif.nextRead + 1 } }

/-- The descriptor is consumed and counted, a failed read apart (R296, R621). -/
def Device.consume (r : Nat) (ok : Bool) (d : Device) : Device :=
  ((d.wr (HIF.CR_CI r) (d.rd (HIF.CR_CI r) + 1)).count 0x001 0x900 1).countIf (!ok) 0x001 0x968

/-- The acceptance at instant `t` of command `c` under number `n` from ring `r`, whose completions go to ring `q`; `pay` tells that it reads a payload. -/
def Device.accept (r q n t : Nat) (c : Cmd) (pay ok : Bool) (d : Device) : Device :=
  (((d.enlist r q n c).when pay (Device.readPayload n t)).consume r ok).dmaServed 0

/-- The object of a destroy that has nothing to refuse is closed (R303). -/
def Device.withClosed (c : Cmd) (d : Device) : Device := d.when c.closer (Device.setClosed c true)

section Accept

variable (r q n t : Nat) (c : Cmd) (pay ok : Bool) (d : Device)

theorem Device.accept_regs : (d.accept r q n t c pay ok).regs = (d.consume r ok).regs := by
  cases pay <;> cases ok <;> rfl

theorem Device.accept_ctrs : (d.accept r q n t c pay ok).ctrs = (d.consume r ok).ctrs := by
  cases pay <;> cases ok <;> rfl

theorem Device.accept_svc : (d.accept r q n t c pay ok).svc = (d.enlist r q n c).svc := by
  cases pay <;> cases ok <;> rfl

theorem Device.accept_reads : (d.accept r q n t c pay ok).hif.reads = if pay then d.hif.reads ++ [⟨d.hif.nextRead, n, t⟩] else d.hif.reads := by
  cases pay <;> cases ok <;> rfl

theorem Device.accept_eq : let b := d.accept r q n t c pay ok
    b = { d with regs := b.regs, ctrs := b.ctrs, svc := b.svc, hif := { d.hif with reads := b.hif.reads, nextRead := b.hif.nextRead, turn := 1 } } := by
  cases pay <;> cases ok <;> rfl

theorem Device.accept_chan? (h : Nat) : (d.accept r q n t c pay ok).chan? h = d.chan? h := by
  unfold Device.chan?
  rw [d.accept_svc]
  rfl

theorem Device.accept_queueIdx (h : Nat) : (d.accept r q n t c pay ok).queueIdx h = d.queueIdx h := by
  rw [d.accept_eq]
  rfl

theorem Device.accept_queue? : (d.accept r q n t c pay ok).queue? = d.queue? := by
  rw [d.accept_eq]
  rfl

theorem Device.accept_consumer : (d.accept r q n t c pay ok).rd (HIF.CR_CI r) = (d.rd (HIF.CR_CI r) + 1) % 2 ^ (HIF.CR_CI r).width := by
  have consumed : (d.consume r ok).rd (HIF.CR_CI r) = (d.rd (HIF.CR_CI r) + 1) % 2 ^ (HIF.CR_CI r).width :=
    (Device.countIf_rd ..).trans (d.rd_wr_same ..)
  rw [← consumed]
  unfold Device.rd
  rw [d.accept_regs]

theorem Device.accept_ctr (o : Nat) : (d.accept r q n t c pay ok).ctr 0x001 o = ((d.count 0x001 0x900 1).countIf (!ok) 0x001 0x968).ctr 0x001 o := by
  unfold Device.ctr
  rw [d.accept_ctrs]
  cases ok <;> rfl

theorem Device.accept_counts : Counts 0x001 0x900 1 d (d.accept r q n t c pay ok) := by
  unfold Counts
  rw [d.accept_ctr]
  unfold Device.countIf
  split
  · rw [Device.ctr_count_ne _ _ (by decide), Device.ctr_count_same]
  · exact d.ctr_count_same ..

theorem Device.accept_counts_failed : Counts 0x001 0x968 1 d (d.accept r q n t c pay false) := by
  unfold Counts
  rw [d.accept_ctr]
  exact (Device.ctr_count_same ..).trans (congrArg (fun x => (x + 1) % 2 ^ 64) (d.ctr_count_ne _ (by decide)))

theorem Device.accept_kept : Safety.Kept [HIF.CR_CI r] [(0x001, 0x900), (0x001, 0x968)] d (d.accept r q n t c pay ok) := by
  have consumed : Safety.Kept [HIF.CR_CI r] [(0x001, 0x900), (0x001, 0x968)] d (d.consume r ok) :=
    (((Safety.Kept.refl _ _ d).wr _ ⟨_, List.mem_singleton_self _, rfl⟩).count 1 List.mem_cons_self).countIf _ (by decide)
  exact consumed.same (d.accept_regs ..) (d.accept_ctrs ..)

end Accept

/-! ### A closed object (R303, R315) -/

theorem Device.setClosed_eq (c : Cmd) (v : Bool) (d : Device) : d.setClosed c v =
    { d with cells := (d.setClosed c v).cells, svc := { d.svc with chans := (d.setClosed c v).svc.chans } } := by
  unfold Device.setClosed
  dsimp only
  split <;> rfl

theorem Device.withClosed_eq (c : Cmd) (d : Device) : d.withClosed c =
    { d with cells := (d.withClosed c).cells, svc := { d.svc with chans := (d.withClosed c).svc.chans } } := by
  unfold Device.withClosed Device.when
  split
  · exact d.setClosed_eq c true
  · rfl

theorem Device.withClosed_of_closer {c : Cmd} (d : Device) (h : c.closer = true) : d.withClosed c = d.setClosed c true := if_pos h

theorem Device.withClosed_of_open {c : Cmd} (d : Device) (h : c.closer = false) : d.withClosed c = d := if_neg (by simp [h])

/-- What an acceptance with a closing changes, beside the object closed. -/
theorem Device.accept_withClosed_svc (r q n t : Nat) (c : Cmd) (pay ok : Bool) (d : Device) : ((d.withClosed c).accept r q n t c pay ok).svc =
    { d.svc with chans := (d.withClosed c).svc.chans, cmds := d.svc.cmds ++ [c], seq := n + 1, turn := (r + 1) % 16,
                 reserved := Tbl.put 0 d.svc.reserved q ((Tbl.getD d.svc.reserved q 0 + 1) % 65536) } := by
  rw [Device.accept_svc]
  conv_lhs => rw [d.withClosed_eq]
  rfl

theorem Device.accept_withClosed_eq (r q n t : Nat) (c : Cmd) (pay ok : Bool) (d : Device) : let b := (d.withClosed c).accept r q n t c pay ok
    b = { d with regs := b.regs, ctrs := b.ctrs, cells := b.cells, svc := b.svc,
                 hif := { d.hif with reads := b.hif.reads, nextRead := b.hif.nextRead, turn := 1 } } := by
  have accepted := (d.withClosed c).accept_eq r q n t c pay ok
  have closed := d.withClosed_eq c
  dsimp only at accepted ⊢
  generalize (d.withClosed c).accept r q n t c pay ok = b at accepted ⊢
  generalize d.withClosed c = e at accepted closed
  rw [accepted, closed]

theorem Device.withClosed_kept (fs : List Fld) (cs : List (Nat × Nat)) (c : Cmd) (d : Device) : Safety.Kept fs cs d (d.withClosed c) := by
  rw [d.withClosed_eq]
  exact (Safety.Kept.refl ..).same rfl rfl

theorem Device.withClosed_rd (c : Cmd) (d : Device) (f : Fld) : (d.withClosed c).rd f = d.rd f :=
  (d.withClosed_kept [] [] c).1 f (by simp)

theorem Device.withClosed_ctr (c : Cmd) (d : Device) (p o : Nat) : (d.withClosed c).ctr p o = d.ctr p o :=
  (d.withClosed_kept [] [] c).2 p o (by simp)

theorem Device.withClosed_hif (c : Cmd) (d : Device) : (d.withClosed c).hif = d.hif := by rw [d.withClosed_eq]

variable {a d : Device} {r i n op hd : Nat} {ws : List Nat} {ok : Bool} {c : Cmd} {x : SvcChan} {y : Queue}

/-- The channel of a handle, changed without its handle, is found by it. -/
theorem Device.chan?_modChan {f : SvcChan → SvcChan} (found : d.chan? hd = some x) (keeps : (f x).handle = x.handle) :
    (d.modChan (handleIdx hd) f).chan? hd = some (f x) := by
  have own := chan?_handle found
  unfold Device.chan? at found
  split at found
  · next z stands =>
    split at found
    · obtain rfl := Option.some.inj found
      have changed : Tbl.get? (d.modChan (handleIdx hd) f).svc.chans (handleIdx hd) = some (f z) := Tbl.get?_modify_same f stands
      unfold Device.chan?
      rw [changed]
      exact if_pos (keeps.trans own)
    · cases found
  · cases found

theorem Device.queueIdx_iff : d.queueIdx hd = some i ↔ i = handleIdx hd ∧ ∃ y, d.queue? i = some y ∧ y.handle = hd := by
  unfold Device.queueIdx Device.queue?
  constructor
  · intro found
    split at found
    · next z stands =>
      split at found
      · next same =>
        obtain rfl := Option.some.inj found
        exact ⟨rfl, z, stands, same⟩
      · cases found
    · cases found
  · rintro ⟨rfl, z, stands, same⟩
    rw [stands]
    exact if_pos same

theorem Device.queue?_modQueue {f : Queue → Queue} (stands : d.queue? i = some y) : (d.modQueue i f).queue? i = some (f y) :=
  Tbl.get?_modify_same f stands

/-- The queue of a handle, changed without its handle, is found by it. -/
theorem Device.queueIdx_modQueue {f : Queue → Queue} (found : d.queueIdx hd = some i) (stands : d.queue? i = some y) (keeps : (f y).handle = y.handle) :
    (d.modQueue i f).queueIdx hd = some i := by
  obtain ⟨idx, z, zStands, own⟩ := Device.queueIdx_iff.1 found
  obtain rfl := Option.some.inj (zStands.symm.trans stands)
  exact Device.queueIdx_iff.2 ⟨idx, f z, Device.queue?_modQueue stands, keeps.trans own⟩

theorem Device.setClosed_channel (op : Cmd.opcode c = 0x31) (closes : d.closes c = true) :
    ((d.setClosed c true).chan? (Cmd.handle c)).any (fun x => x.closed) = true := by
  have stands : ((d.chan? (Cmd.handle c)).any fun x => !x.closed) = true := by
    simp only [Device.closes, op, Bool.and_eq_true] at closes
    exact closes.2
  have closed : d.setClosed c true = d.modChan (handleIdx (Cmd.handle c)) (fun x => { x with closed := true }) := if_pos op
  cases found : d.chan? (Cmd.handle c) with
  | none => simp [found] at stands
  | some x =>
    rw [closed, Device.chan?_modChan found rfl]
    rfl

theorem Device.setClosed_queue (op : Cmd.opcode c = 0x41) (closes : d.closes c = true) :
    (((d.setClosed c true).queueIdx (Cmd.handle c)).bind (d.setClosed c true).queue?).any (fun q => q.closed) = true := by
  have stands : (((d.queueIdx (Cmd.handle c)).bind d.queue?).any fun q => !q.closed) = true := by
    simp only [Device.closes, op, Bool.and_eq_true] at closes
    exact closes.2.1
  cases found : d.queueIdx (Cmd.handle c) with
  | none => simp [found] at stands
  | some i =>
    obtain ⟨idx, y, there, -⟩ := Device.queueIdx_iff.1 found
    have closed : d.setClosed c true = d.modQueue i (fun q => { q with closed := true }) := by
      rw [idx]
      exact if_neg (by rw [op]; decide)
    rw [closed, Device.queueIdx_modQueue found there rfl, Option.bind_some, Device.queue?_modQueue there]
    rfl

/-! ### COMMAND_ACCEPT (R295, R296) -/

/-- A ring has a descriptor and a free slot for its completion (R296, R297). -/
def Device.ringReady (d : Device) (r : Nat) : Prop := d.ringWaits r = true ∧ d.cqFree r = true

theorem commandAccept_idle (h : ¬ a.ringReady r ∨ a.dmaTurn a.now 0 = false) : commandAccept a.now r ws ok a = a := by
  have idle : (a.ringWaits r && a.cqFree r && a.readFree (wordAt ws 0 % 256) && a.dmaTurn a.now 0) = false := by
    rcases h with waits | turn
    · have unready : (a.ringWaits r && a.cqFree r) = false := Bool.eq_false_iff.2 fun h => waits (by simpa [Device.ringReady] using h)
      simp [unready]
    · simp [turn]
  unfold commandAccept
  exact if_pos (by simp [idle])

theorem commandAccept_taken (ready : a.ringReady r) (first : ∀ i, i < (r + 16 - a.svc.turn) % 16 → ¬ a.ringReady ((a.svc.turn + i) % 16))
    (free : a.readFree (wordAt ws 0 % 256) = true) (turn : a.dmaTurn a.now 0 = true) : commandAccept a.now r ws ok a =
      (a.withClosed (a.acceptedCmd r ws ok)).accept r (a.rd (HIF.CR_CQ r)) a.svc.seq a.now (a.acceptedCmd r ws ok) (ok && readsPayload (acceptedWords ws ok)) ok := by
  have none : ((List.range ((r + 16 - a.svc.turn) % 16)).any fun i => a.ringWaits ((a.svc.turn + i) % 16) && a.cqFree ((a.svc.turn + i) % 16)) = false := by
    rw [List.any_eq_false]
    intro i hi
    simpa [Device.ringReady] using first i (List.mem_range.1 hi)
  have closing : (a.acceptedCmd r ws ok).closer = (ok && a.closes (a.listedCmd r ws ok)) := a.acceptedCmd_closer_listed r ws ok
  unfold commandAccept Device.withClosed
  dsimp only
  rw [if_neg (by simp [ready.1, ready.2, free, turn, none]), closing]
  cases ok <;> rfl

/-! ### NOP, QUERY and COMMAND_TIMEOUT (R304, R309) -/

theorem nop_done (h : Runs a 0x01 n c) : nop a.now n a = a.endCmd c stOk a.now false (Cmd.handle c) 0 0 := run_of_runs h _

theorem query_of_stale (h : Runs a 0x02 n c) (stale : a.query (Cmd.handle c) = none) : query a.now n a = a.refuseCmd c stStale a.now := by
  unfold query
  rw [run_of_runs h]
  simp only [stale]

theorem query_done {x y : Nat} (h : Runs a 0x02 n c) (found : a.query (Cmd.handle c) = some (x, y)) :
    query a.now n a = a.endCmd c stOk a.now false (Cmd.handle c) x y := by
  unfold query
  rw [run_of_runs h]
  simp only [found]

theorem commandTimeout_of_no_command (t : Nat) (h : a.cmd? n = none) : commandTimeout t n a = a := by
  simp [commandTimeout, h]

section Listed

variable {t : Nat} (h : a.cmd? n = some c)
include h

theorem commandTimeout_idle (waits : Cmd.isDone c = true ∨ t ≤ Cmd.deadline c) : commandTimeout t n a = a := by
  unfold commandTimeout
  simp only [h]
  exact if_pos waits

variable (open_ : Cmd.isDone c = false) (late : Cmd.deadline c < t)
include open_ late

/-- A late command is refused at its deadline; only a flush under way has a mark of its queue to take back (R412). -/
theorem commandTimeout_late : ∃ x : Cells, commandTimeout t n a = { a.refuseCmd c stTimeout (Cmd.deadline c) with cells := x } ∧ (Cmd.opcode c ≠ 0x42 → x = a.cells) := by
  unfold commandTimeout
  simp only [h]
  rw [if_neg (by simp [open_, late])]
  split
  · next flush =>
    split
    · exact ⟨_, rfl, fun other => absurd flush.1 other⟩
    · exact ⟨_, rfl, fun other => absurd flush.1 other⟩
  · exact ⟨_, rfl, fun _ => rfl⟩

end Listed

end Sys2Proof.Machine

namespace Sys2Proof.Safety

open Sys2Proof.Machine

/-! ### The statement -/

/-- Settles O37: an acceptance by the command it lists and what it advances; NOP, QUERY and a timeout by their completions. -/
theorem commandsAreAccepted : Obligations.CommandsAreAccepted := by
  unfold Obligations.CommandsAreAccepted
  refine ⟨fun t r ws ok s hr => Makes.intro hr (exec_commandAccept ..) ?_, fun t n s hr => Makes.intro hr (exec_nop ..) ?_,
    fun t n s hr => Makes.intro hr (exec_query ..) ?_, fun t n s hr => Makes.intro hr (exec_commandTimeout ..) ?_⟩
  all_goals generalize s.dev.arrive t = a
  case refine_1 =>
    refine ⟨commandAccept_idle, fun ready first free turn => ?_⟩
    rw [commandAccept_taken ready first free turn]
    generalize ws.map (·.toNat) = w at free ⊢
    obtain ⟨seq, stamp, ring, cq, cqSlot, slot, words, pay⟩ := a.acceptedCmd_listed r.val w ok
    have closer := a.acceptedCmd_closer r.val w ok
    have failed := a.acceptedCmd_failed r.val w (ok := ok)
    have taken := a.acceptedCmd_taken r.val w (ok := ok)
    generalize a.acceptedCmd r.val w ok = c at *
    have made := a.accept_withClosed_svc r.val (a.rd (HIF.CR_CQ r.val)) a.svc.seq a.now c (ok && readsPayload (acceptedWords w ok)) ok
    have closes : c.closer = true → ok = true ∧ a.closes c = true := fun h => by simpa [h] using closer.symm
    refine ⟨c, ?_, ?_, seq, stamp, ring, cq, cqSlot, slot, fun read => ?_, closer, fun closed => ?_, fun open_ => ?_, fun closed op => ?_, fun closed op => ?_,
      fun bad => ⟨failed bad, ?_⟩, ?_, ?_, ?_, ?_⟩
    · rw [made]
    · rw [made]
      exact Tbl.getD_put_same ..
    · subst read
      obtain ⟨-, waits, unknown⟩ := taken rfl
      refine ⟨fun i hi => (congrArg (wordAt · i) words).trans (wordAt_acceptedWords w hi), waits, unknown, fun paid bytes => ?_⟩
      have reads : readsPayload (acceptedWords w true) = true := (readsPayload_acceptedWords w).trans (by simp [readsPayload, paid, bytes])
      rw [pay, reads, Device.accept_reads, Device.withClosed_hif]
      exact ⟨rfl, rfl⟩
    · rw [made, Device.withClosed_of_closer a closed]
      exact ⟨rfl, by rw [Device.accept_eq]⟩
    · rw [made, Device.withClosed_of_open a open_]
      exact ⟨rfl, by rw [Device.accept_eq]⟩
    · obtain ⟨read, closing⟩ := closes closed
      rw [Device.accept_chan?, Device.withClosed_of_closer a closed]
      exact Device.setClosed_channel ((taken read).1.trans op) closing
    · obtain ⟨read, closing⟩ := closes closed
      rw [Device.accept_queueIdx, Device.accept_queue?, Device.withClosed_of_closer a closed]
      exact Device.setClosed_queue ((taken read).1.trans op) closing
    · subst bad
      exact (Device.accept_counts_failed ..).after (Device.withClosed_ctr ..)
    · rw [Device.accept_consumer, Device.withClosed_rd]
    · exact (Device.accept_counts ..).after (Device.withClosed_ctr ..)
    · exact a.accept_withClosed_eq ..
    · exact (a.withClosed_kept _ _ c).trans (Device.accept_kept ..)
  case refine_2 =>
    intro c h
    rw [nop_done h]
    exact ⟨rfl, rfl⟩
  case refine_3 =>
    refine fun c h => ⟨fun stale => ?_, fun x y found => ?_⟩
    · rw [query_of_stale h stale]
      exact refusedAs ..
    · rw [query_done h found]
      exact ⟨rfl, rfl⟩
  case refine_4 =>
    refine ⟨commandTimeout_of_no_command _, fun c h => ⟨commandTimeout_idle h, fun open_ late => ?_⟩⟩
    obtain ⟨x, timedOut, keeps⟩ := commandTimeout_late h open_ late
    rw [timedOut]
    refine ⟨rfl, rfl, rfl, fun other => ?_⟩
    rw [keeps other]
    rfl

end Sys2Proof.Safety
end

section
/-!
PROOFS. Why `Obligations.QueueCommands` fails: it says of a QUEUE_DESTROY refused as BUSY that nothing else happens, but the refused destroy opens again the
queue that its acceptance closed (R303), and no premise keeps that case out.
-/

namespace Sys2Proof.Safety

open Sys2Proof.Machine

/-- What follows a command makes the same of what its statement speaks of as of what its effect leaves. -/
theorem Makes.aftermath {c : Instr} {s : State} {t : Nat} {E : Device → Device → Prop} {g : Device → Device} (h : Makes c s t E) (hr : s.inReset = false)
    (hx : exec c s = onDevice t g s) :
    ∃ b, E (s.dev.arrive t) b ∧ Device.after s.dev (s.dev.arrive t) b = Device.after s.dev (s.dev.arrive t) (g (s.dev.arrive t)) := by
  obtain ⟨b, hb, hE⟩ := h
  rw [hx, onDevice_next t g hr] at hb
  exact ⟨b, hE, by simpa using congrArg State.dev (Host.Outcome.next.inj hb).symm⟩

/-- A destroy of the queue of index 1, by a command that closed it when it was accepted. -/
def closingDestroy : Cmd :=
  { seq := 0, stamp := 0, ring := 0, slot := 0, cq := 0, cqSlot := 0, words := [0x41, mkHandle .queue 1 1], closer := true }

/-- The holder of the Capo with that destroy, its closed queue, and a channel made since that names the queue. -/
def namedSince : State :=
  { dev :=
    { regs := [(fkey MRU.CAPO, 1)]
      cells := { queues := [(1, { handle := mkHandle .queue 1 1, pool := 1, maxCells := 64, level := 1, parent := 32768, closed := true })] }
      svc := { chans := [(1, { handle := mkHandle .channel 1 1, term := mkHandle .terminal 1 1, port := 1000, ds := true, us := false,
                               dsQueue := mkHandle .queue 1 1, usQueue := 0, alloc := 0 })]
               cmds := [closingDestroy], seq := 1 } } }

theorem closingDestroy_runs : Runs (namedSince.dev.arrive 0) 0x41 0 closingDestroy := by unfold Runs Starts; decide

theorem namedSince_before : ((namedSince.dev.arrive 0).queue? 1).map (·.closed) = some true := by decide

/-- The refused destroy opens its queue again. -/
theorem namedSince_after : ((queueDestroy (namedSince.dev.arrive 0).now 0 (namedSince.dev.arrive 0)).queue? 1).map (·.closed) = some false := by decide

/-- Refutes O41: a destroy that closed its queue at its acceptance is refused as BUSY for a channel that has come to name the queue; the queue is open again
(R303), and the statement's "nothing else happens" leaves it closed. -/
theorem not_queueCommands : ¬ Obligations.QueueCommands := by
  unfold Obligations.QueueCommands
  rintro ⟨-, destroys, -⟩
  obtain ⟨b, refuses, same⟩ := (destroys 0 0 namedSince rfl).aftermath rfl (exec_queueDestroy ..)
  obtain ⟨q, stands⟩ : ∃ q, (namedSince.dev.arrive 0).queue? 1 = some q := Option.isSome_iff_exists.1 (by decide)
  obtain ⟨-, busy, -⟩ := (refuses closingDestroy closingDestroy_runs).2 1 q (by decide) stands
  obtain ⟨-, nothingElse⟩ := busy (by decide) (by decide)
  have kept : b.cells = (namedSince.dev.arrive 0).cells := (congrArg Device.cells nothingElse).trans rfl
  have left : b.cells = (queueDestroy (namedSince.dev.arrive 0).now 0 (namedSince.dev.arrive 0)).cells := by
    simpa using congrArg Device.cells same
  have opened := namedSince_after
  unfold Device.queue? at opened
  rw [← left, kept] at opened
  exact absurd (namedSince_before.symm.trans opened) (by decide)

end Sys2Proof.Safety
end

section
/-!
PROOFS. Why `Obligations.KeyCommands` fails: it says that a KEY_CREATE for a channel with a free position makes a key, but while the key in position 1
waits for its activation the create is refused as BUSY (R362), and no premise keeps that case out.
-/

namespace Sys2Proof.Safety

open Sys2Proof.Machine

/-- A KEY_CREATE for the channel of index 1. -/
def secondCreate : Cmd :=
  { seq := 0, stamp := 0, ring := 0, slot := 0, cq := 0, cqSlot := 0, words := [0x50, 0, mkHandle .channel 1 1] }

/-- A downstream channel whose position 1 holds key slot 0 and whose position 2 is free. -/
def halfKeyed : SvcChan :=
  { handle := mkHandle .channel 1 1, term := mkHandle .terminal 1 1, port := 1000, ds := true, us := false, dsQueue := mkHandle .queue 1 1, usQueue := 0,
    alloc := 0, keys := [some 0, none] }

/-- The holder of the Capo with that create, that channel, and a key in slot 0 that waits for its activation. -/
def keyWaiting : State :=
  { dev :=
    { regs := [(fkey MRU.CAPO, 1)]
      svc := { chans := [(1, halfKeyed)]
               keys := [(0, { handle := mkHandle .key 1 0, st := .inactive, key := List.replicate 16 7, pos := 1, everBound := true,
                              chan := mkHandle .channel 1 1, activateAt := 8, waiting := true })]
               cmds := [secondCreate], seq := 1 } } }

theorem secondCreate_runs : Runs (keyWaiting.dev.arrive 0) 0x50 0 secondCreate := by unfold Runs Starts; decide

/-- The create is refused as BUSY. -/
theorem keyWaiting_after : (keyCreate (keyWaiting.dev.arrive 0).now 0 (keyWaiting.dev.arrive 0)).svc.cmds =
    [{ secondCreate with st := .done stBusy 0 false 0 0 0 }] := by decide

theorem keyWaiting_capo : (keyCreate (keyWaiting.dev.arrive 0).now 0 (keyWaiting.dev.arrive 0)).capo = true := by decide

/-- Refutes O42: the channel's position 2 and key slot 1 are free, but the key in position 1 waits for its activation; the create is refused as BUSY (R362),
where the statement has it complete as OK. -/
theorem not_keyCommands : ¬ Obligations.KeyCommands := by
  unfold Obligations.KeyCommands
  rintro ⟨creates, -⟩
  obtain ⟨b, made, same⟩ := (creates 0 0 keyWaiting rfl).aftermath rfl (exec_keyCreate ..)
  obtain ⟨-, bound⟩ := (made secondCreate secondCreate_runs).2 (.inr (by decide))
  obtain ⟨-, given⟩ := bound.2 halfKeyed (by decide) (by decide)
  obtain ⟨-, takes⟩ := given (.inl rfl)
  obtain ⟨-, -, -, ended, regs, -⟩ := takes 2 1 (by decide) (by decide) (fun mirrored => absurd mirrored (by decide))
  have capo : b.capo = true := by
    have held : (keyWaiting.dev.arrive 0).capo = true := by decide
    unfold Device.capo Device.on Device.rd at held ⊢
    rwa [regs]
  have left : b.svc.cmds = [{ secondCreate with st := .done stBusy 0 false 0 0 0 }] := by
    rw [← keyWaiting_after, ← Device.after_cmds keyWaiting.dev (keyWaiting.dev.arrive 0) b (by simp [capo]), same,
      Device.after_cmds _ _ _ (by simp [keyWaiting_capo])]
  exact absurd (ended.symm.trans left) (by decide)

end Sys2Proof.Safety
end

section
/-!
PROOFS. Why `Obligations.PuntAndInject` fails: it says that INJECT_DESCRIPTOR takes a descriptor wherever its channel is ready, but inject reads take turns
with the other DMA classes (R621), and no premise gives them the turn.
-/

namespace Sys2Proof.Safety

open Sys2Proof.Machine

/-- A host that is there, inject channel 0 with a descriptor, and a refused command whose completion may be written before it. -/
def completionFirst : State :=
  { dev :=
    { regs := [(fkey HIF.LINK_UP, 1), (fkey HIF.TUNNEL_UP, 1), (fkey HIF.BUS_MASTER, 1), (fkey (HIF.IC_EN 0), 1), (fkey (HIF.IR_PI 0), 1)]
      svc := { cmds := [{ seq := 0, stamp := 0, ring := 0, slot := 0, cq := 0, cqSlot := 0, words := [], st := .done stUnknown 0 false 0 0 0 }], seq := 1 } } }

theorem completionFirst_ready : (completionFirst.dev.arrive 0).injectReady 0 = true := by decide

theorem completionFirst_before : (completionFirst.dev.arrive 0).ctr 0x001 0x960 = 0 := by decide

/-- It is not the turn of inject reads: no descriptor is counted. -/
theorem completionFirst_after :
    (injectDescriptor (completionFirst.dev.arrive 0).now 0 [] false false [] (completionFirst.dev.arrive 0)).ctr 0x001 0x960 = 0 := by decide

/-- Refutes O44: inject channel 0 has a descriptor and room, but a completion comes before it in the order of the DMA classes (R621); the descriptor is not
read, where the statement has its failed read counted. -/
theorem not_puntAndInject : ¬ Obligations.PuntAndInject := by
  unfold Obligations.PuntAndInject
  rintro ⟨injects, -⟩
  obtain ⟨b, ⟨-, takes, -⟩, stands⟩ := (injects 0 0 [] false false [] completionFirst rfl).counts rfl (exec_injectDescriptor ..) (p := 0x001) (o := 0x960)
    (by unfold followCtr followPage ctrKey; decide)
  obtain ⟨-, -, -, counted, -⟩ := takes completionFirst_ready
  have once : b.ctr 0x001 0x960 = ((completionFirst.dev.arrive 0).ctr 0x001 0x960 + 1) % 2 ^ 64 := counted.1
  rw [completionFirst_before] at once
  have kept : b.ctr 0x001 0x960 = 0 := stands.trans completionFirst_after
  omega

end Sys2Proof.Safety
end

section
/-!
PROOFS. Epochs (R297, R440, R517, R518, R523, R524, R527 to R530): what a device frame's start leaves to the mirror, the epoch it writes and the resync it
may start, the marker's turn, acknowledgements, rewinds and resync requests, and the statement `Obligations.EpochsStream`.
-/

namespace Sys2Proof.Machine

open Sys2Proof.Safety

/-! ### What a device frame does before the mirror has its turn (R275, R297, R497) -/

theorem Device.lowerVcore_cases (d : Device) : d.lowerVcore = d ∨ ∃ v, d.lowerVcore = d.command v := by
  unfold Device.lowerVcore
  split
  · exact .inl rfl
  · extract_lets floor v
    split
    · exact .inr ⟨v, rfl⟩
    · exact .inl rfl

/-- Nothing differs that the mirror reads: the voltage, a stalled ring's count and mark, and the slew's count may. -/
structure FrameStarts (a e : Device) : Prop where
  eq : e = { a with core := { a.core with out := e.core.out }, regs := e.regs, ctrs := e.ctrs, pow := e.pow,
                    svc := { a.svc with cqFullFrame := e.svc.cqFullFrame }, tmu := e.tmu }
  kept : Safety.Kept [PTM.VCORE_MV] [(0x001, 0x930), (0x004, 0x848)] a e

namespace FrameStarts

variable {a e : Device}

theorem refl (a : Device) : FrameStarts a a := ⟨rfl, .refl ..⟩

theorem trans {f : Device} (h : FrameStarts a e) (h' : FrameStarts e f) : FrameStarts a f :=
  ⟨by conv_lhs => rw [h'.eq, h.eq], h.kept.trans h'.kept⟩

theorem lowerVcore (a : Device) : FrameStarts a a.lowerVcore := by
  rcases a.lowerVcore_cases with same | ⟨v, commanded⟩
  · exact same.symm ▸ refl a
  · rw [commanded]
    exact ⟨rfl, ((Safety.Kept.refl _ _ a).wr v ⟨_, List.mem_singleton_self _, rfl⟩).same rfl rfl⟩

theorem cqFrame (a : Device) : FrameStarts a a.cqFrame := by
  refine ⟨?_, ((Safety.Kept.refl _ _ a).countIf a.svc.cqFullFrame List.mem_cons_self).same rfl rfl⟩
  unfold Device.cqFrame Device.countIf
  dsimp only
  split <;> rfl

theorem tmuFrame (a : Device) : FrameStarts a a.tmuFrame := by
  unfold Device.tmuFrame
  split
  · exact ⟨rfl, ((Safety.Kept.refl _ _ a).same rfl rfl : Safety.Kept _ _ a { a with tmu := { a.tmu with clamped := false } }).count 1 (by decide)⟩
  · exact refl a

variable (h : FrameStarts a e)
include h

theorem rd (f : Fld) (other : fkey f ≠ fkey PTM.VCORE_MV) : e.rd f = a.rd f := h.kept.1 f (by simpa using other)

theorem on (f : Fld) (other : fkey f ≠ fkey PTM.VCORE_MV) : e.on f = a.on f := by
  unfold Device.on
  rw [h.rd f other]

theorem mru : e.mru = a.mru := by rw [h.eq]

theorem frame : e.frame = a.frame := by rw [h.eq]; rfl

theorem tables : e.tables = a.tables := by rw [h.eq]; rfl

theorem streaming : e.streaming = a.streaming := by
  unfold Device.streaming
  rw [h.on _ (by decide), h.rd _ (by decide)]

theorem rewindMark : e.rewindMark = a.rewindMark := by
  unfold Device.rewindMark
  rw [h.mru]

end FrameStarts

/-- The device as the mirror finds it at a device frame's start. -/
def Device.frameStart (d : Device) : Device := ((d.lowerVcore).cqFrame).tmuFrame

theorem frameStart_starts (d : Device) : FrameStarts d d.frameStart :=
  ((FrameStarts.lowerVcore d).trans (FrameStarts.cqFrame _)).trans (FrameStarts.tmuFrame _)

/-- A stalled completion ring's frame is counted as it ends (R297). -/
theorem frameStart_stalls (d : Device) : if d.svc.cqFullFrame = true then Counts 0x001 0x930 1 d d.frameStart
    else d.frameStart.ctr 0x001 0x930 = d.ctr 0x001 0x930 := by
  have slews : ∀ e : Device, e.tmuFrame.ctr 0x001 0x930 = e.ctr 0x001 0x930 := fun e => by
    unfold Device.tmuFrame
    split
    · exact e.ctr_count_ne 1 (by decide)
    · rfl
  have lowers : d.lowerVcore.ctr 0x001 0x930 = d.ctr 0x001 0x930 ∧ d.lowerVcore.svc.cqFullFrame = d.svc.cqFullFrame := by
    rcases d.lowerVcore_cases with same | ⟨v, commanded⟩
    · rw [same]
      exact ⟨rfl, rfl⟩
    · rw [commanded]
      exact ⟨rfl, rfl⟩
  have counted : d.frameStart.ctr 0x001 0x930 = (d.lowerVcore.countIf d.lowerVcore.svc.cqFullFrame 0x001 0x930).ctr 0x001 0x930 := slews _
  unfold Counts
  rw [counted, lowers.2, ← lowers.1]
  split
  · next stalled =>
    rw [stalled]
    exact Device.ctr_count_same ..
  · next free =>
    rw [Bool.not_eq_true] at free
    rw [free]
    rfl

/-! ### The epoch of the frame before, and a resync (R517, R518, R528, R530) -/

/-- The log is overtaken as epoch `w` comes, an acknowledgement of this instant taken first (R528, R548). -/
def Device.logOvertaken (w : Nat) (ack : Option Nat) (d : Device) : Prop :=
  d.rd MRU.LOG_EPOCHS + max d.rewindMark (ack.elim 0 (· + 1)) ≤ w

/-- A resync that the overtaken log requires, counted and told to the standby. -/
def Device.requireResync (w : Nat) (d : Device) : Device :=
  (((d.countIf (d.on MRU.RESYNC) mruPage 0x850).count mruPage 0x840 1).emit (.soundpost spResyncRequired w)).startResync w

/-- The log takes epoch `w`, and keeps the last `n`. -/
def Device.logEpoch (w n : Nat) (cs qs : List Nat) (d : Device) : Device :=
  { d with mru := { d.mru with
      log := if d.mru.logCells = 0 then [] else Tbl.set (d.mru.log.filter (fun p => decide (w < p.1 + n))) w (d.makeEpoch w cs qs),
      written := w, toSend := some w, zeroized := false } }

/-- The mirror's frame begins: the tables are kept for the next epoch, and nothing has changed yet. -/
def Device.beginEpoch (d : Device) : Device :=
  { d with mru := { d.mru with prev := if d.rd MRU.ROLE = 1 ∨ d.rd MRU.ROLE = 3 then d.tables else d.mru.prev, change := 0, deferred := [] } }

variable {a d e b : Device} {w n : Nat} {cs qs : List Nat} {ack : Option Nat}

theorem epochBoundary_idle (h : d.streaming = false) : d.epochBoundary cs qs ack = d.beginEpoch := by
  unfold Device.epochBoundary
  simp only [h]
  rfl

section Streaming

variable (h : d.streaming = true)
include h

theorem epochBoundary_asked (asked : d.mru.baseAsked = true) : d.epochBoundary cs qs ack =
    ((d.startResync (d.frame - 1)).logEpoch (d.frame - 1) (d.rd MRU.LOG_EPOCHS) cs qs).beginEpoch := by
  unfold Device.epochBoundary
  simp only [h, asked]
  rfl

theorem epochBoundary_overtaken (unasked : d.mru.baseAsked = false) (behind : d.logOvertaken (d.frame - 1) ack) : d.epochBoundary cs qs ack =
    ((d.requireResync (d.frame - 1)).logEpoch (d.frame - 1) (d.rd MRU.LOG_EPOCHS) cs qs).beginEpoch := by
  unfold Device.logOvertaken at behind
  unfold Device.epochBoundary
  simp only [h, unasked, behind]
  rfl

theorem epochBoundary_stays (unasked : d.mru.baseAsked = false) (inTime : ¬ d.logOvertaken (d.frame - 1) ack) : d.epochBoundary cs qs ack =
    (d.logEpoch (d.frame - 1) (d.rd MRU.LOG_EPOCHS) cs qs).beginEpoch := by
  unfold Device.logOvertaken at inTime
  unfold Device.epochBoundary
  simp only [h, unasked, inTime]
  rfl

end Streaming

/-- Nothing differs but what a resync marks: its fields and counters, the outputs, its base, and a replay it ends. -/
structure Resyncs (d r : Device) : Prop where
  eq : r = { d with core := { d.core with out := r.core.out }, regs := r.regs, ctrs := r.ctrs,
                    mru := { d.mru with base := r.mru.base, baseAsked := r.mru.baseAsked, replay := r.mru.replay } }
  kept : Safety.Kept [MRU.RESYNC, MRU.REPLAYING] [(0x005, 0x840), (0x005, 0x850)] d r

namespace Resyncs

variable {d r : Device}

theorem refl (d : Device) : Resyncs d d := ⟨rfl, .refl ..⟩

theorem start (h : Resyncs d r) (w : Nat) : Resyncs d (r.startResync w) :=
  ⟨by conv_lhs => rw [h.eq]
      rfl, ((h.kept.same rfl rfl : Safety.Kept _ _ d { r with mru := { r.mru with base := some w, baseAsked := false, replay := none } }).wr 1
        ⟨_, List.mem_cons_self, rfl⟩).wr 0 ⟨MRU.REPLAYING, by decide, rfl⟩⟩

theorem require (d : Device) (w : Nat) : Resyncs d (d.requireResync w) := by
  have counted : Resyncs d (d.countIf (d.on MRU.RESYNC) mruPage 0x850) :=
    ⟨by unfold Device.countIf; split <;> rfl, (Safety.Kept.refl _ _ d).countIf _ (by decide)⟩
  have told : Resyncs d (((d.countIf (d.on MRU.RESYNC) mruPage 0x850).count mruPage 0x840 1).emit (.soundpost spResyncRequired w)) :=
    ⟨by conv_lhs => rw [counted.eq]
        rfl, (counted.kept.count 1 (by decide)).same rfl rfl⟩
  exact told.start w

end Resyncs

theorem startResync_marks (d : Device) (w : Nat) : let r := d.startResync w
    r.on MRU.RESYNC = true ∧ r.mru.base = some w ∧ r.mru.baseAsked = false ∧ r.mru.replay = none :=
  ⟨(Device.on_wr_ne _ _ (by decide)).trans (Device.on_wr_b2n true rfl), rfl, rfl, rfl⟩

theorem requireResync_counts (d : Device) (w : Nat) : Counts 0x005 0x840 1 d (d.requireResync w) := by
  have first : (d.countIf (d.on MRU.RESYNC) mruPage 0x850).ctr 0x005 0x840 = d.ctr 0x005 0x840 := by
    unfold Device.countIf
    split
    · exact d.ctr_count_ne 1 (by decide)
    · rfl
  exact (Device.ctr_count_same ..).trans (congrArg (fun x => (x + 1) % 2 ^ 64) first)

/-- A streaming device writes the epoch of the frame before, once a resync is started that was asked for or that the log requires (R518, R528, R530). -/
theorem epochBoundary_streams (h : d.streaming = true) : let w := d.frame - 1; ∃ r, Resyncs d r ∧
    d.epochBoundary cs qs ack = (r.logEpoch w (d.rd MRU.LOG_EPOCHS) cs qs).beginEpoch ∧
    (d.mru.baseAsked = true ∨ d.logOvertaken w ack → r.on MRU.RESYNC = true ∧ r.mru.base = some w ∧ r.mru.baseAsked = false ∧ r.mru.replay = none) ∧
    (d.logOvertaken w ack → d.mru.baseAsked = false → Counts 0x005 0x840 1 d r) ∧
    (d.mru.baseAsked = false → ¬ d.logOvertaken w ack → r = d) := by
  intro w
  cases asked : d.mru.baseAsked with
  | true => exact ⟨_, (Resyncs.refl d).start w, epochBoundary_asked h asked, fun _ => startResync_marks d w,
      fun _ unasked => Bool.noConfusion unasked, fun unasked => Bool.noConfusion unasked⟩
  | false =>
    by_cases behind : d.logOvertaken w ack
    · exact ⟨_, Resyncs.require d w, epochBoundary_overtaken h asked behind, fun _ => startResync_marks _ w, fun _ _ => requireResync_counts d w,
        fun _ inTime => absurd behind inTime⟩
    · exact ⟨d, .refl d, epochBoundary_stays h asked behind, fun due => absurd due (by simpa using behind), fun now => absurd now behind, fun _ _ => rfl⟩

/-! ### The epoch in the log -/

theorem logEpoch_entry (stored : d.mru.logCells ≠ 0) : Tbl.get? (d.logEpoch w n cs qs).mru.log w = some (d.makeEpoch w cs qs) := by
  unfold Device.logEpoch
  rw [if_neg stored]
  exact Tbl.get?_set_same ..

/-- What else is in the log is one of the epochs that it keeps. -/
theorem logEpoch_keeps {k : Nat} {x : Epoch} (stored : d.mru.logCells ≠ 0) (other : k ≠ w) (listed : Tbl.get? (d.logEpoch w n cs qs).mru.log k = some x) : w < k + n := by
  unfold Device.logEpoch at listed
  rw [if_neg stored, Tbl.get?_set_ne _ _ other, Tbl.get?_filter _ (fun j => decide (w < j + n))] at listed
  by_contra late
  simp [late] at listed

/-- Nothing differs but the mirror's fields, counters and data and the outputs. -/
theorem epochBoundary_only (d : Device) (cs qs : List Nat) (ack : Option Nat) : let b := d.epochBoundary cs qs ack
    b = { d with core := { d.core with out := b.core.out }, regs := b.regs, ctrs := b.ctrs, mru := b.mru } ∧
    Safety.Kept [MRU.RESYNC, MRU.REPLAYING] [(0x005, 0x840), (0x005, 0x850)] d b := by
  cases h : d.streaming with
  | false =>
    rw [epochBoundary_idle h]
    exact ⟨rfl, (Safety.Kept.refl _ _ d).same rfl rfl⟩
  | true =>
    obtain ⟨r, resyncs, streams, -⟩ := epochBoundary_streams (cs := cs) (qs := qs) (ack := ack) h
    rw [streams]
    refine ⟨?_, resyncs.kept.same rfl rfl⟩
    have logged : ∀ m, { r with mru := m } = { d with core := { d.core with out := r.core.out }, regs := r.regs, ctrs := r.ctrs, mru := m } :=
      fun m => by conv_lhs => rw [resyncs.eq]
    exact logged _

/-- The epoch that begins has no change yet, and goes out from the tables that the device has (R518, R521). -/
theorem epochBoundary_begins (d : Device) (cs qs : List Nat) (ack : Option Nat) : let b := d.epochBoundary cs qs ack
    b.mru.change = 0 ∧ b.mru.deferred = [] ∧ (d.rd MRU.ROLE = 1 ∨ d.rd MRU.ROLE = 3 → b.mru.prev = d.tables) := by
  cases h : d.streaming with
  | false =>
    rw [epochBoundary_idle h]
    exact ⟨rfl, rfl, fun active => if_pos active⟩
  | true =>
    obtain ⟨r, resyncs, streams, -⟩ := epochBoundary_streams (cs := cs) (qs := qs) (ack := ack) h
    rw [streams]
    refine ⟨rfl, rfl, fun active => ?_⟩
    have role : r.rd MRU.ROLE = d.rd MRU.ROLE := resyncs.kept.1 _ (by decide)
    have tables : r.tables = d.tables := by
      rw [resyncs.eq]
      rfl
    exact (if_pos (by rwa [← role] at active)).trans tables

/-! ### FRAME_BOUNDARY (R12, R440) -/

theorem frameBoundary_still (t : Nat) (h : a.running = false) : frameBoundary t cs qs ack a = a := by
  unfold frameBoundary
  rw [h]
  rfl

theorem frameBoundary_running (t : Nat) (h : a.running = true) : frameBoundary t cs qs ack a = (a.frameStart.epochBoundary cs qs ack).sampleQueues := by
  unfold frameBoundary
  rw [h]
  rfl

/-- Every queue is sampled (R440). -/
theorem sampleQueues_queue? (d : Device) (i : Nat) :
    d.sampleQueues.queue? i = (d.queue? i).map fun q => { q with sample := q.cells, delayMax := q.delayRun, delayRun := 0 } :=
  Tbl.get?_map (fun q : Queue => { q with sample := q.cells, delayMax := q.delayRun, delayRun := 0 }) d.cells.queues i

/-- What a device frame's start leaves alone. -/
theorem frameBoundary_frame (a : Device) (cs qs : List Nat) (ack : Option Nat) : let f := a.frameStart.epochBoundary cs qs ack
    f = { a with core := f.core, regs := f.regs, ctrs := f.ctrs, pow := f.pow, svc := { a.svc with cqFullFrame := f.svc.cqFullFrame }, tmu := f.tmu, mru := f.mru } := by
  have mirror := (epochBoundary_only a.frameStart cs qs ack).1
  have starts := (frameStart_starts a).eq
  dsimp only at mirror ⊢
  generalize a.frameStart.epochBoundary cs qs ack = f at mirror ⊢
  generalize a.frameStart = e at mirror starts
  rw [mirror, starts]

theorem logOvertaken_iff : d.logOvertaken w ack ↔ d.rd MRU.LOG_EPOCHS + max d.rewindMark (match ack with | some k => k + 1 | none => 0) ≤ w := by
  cases ack <;> rfl

/-- At a running frame's start the mirror of a streaming device finds what the device was before it. -/
theorem frameBoundary_streams (h : a.streaming = true) : let w := a.frame - 1; ∃ r, Resyncs a.frameStart r ∧
    a.frameStart.epochBoundary cs qs ack = (r.logEpoch w (a.rd MRU.LOG_EPOCHS) cs qs).beginEpoch ∧
    (a.mru.baseAsked = true ∨ a.logOvertaken w ack → r.on MRU.RESYNC = true ∧ r.mru.base = some w ∧ r.mru.baseAsked = false ∧ r.mru.replay = none) ∧
    (a.logOvertaken w ack → a.mru.baseAsked = false → Counts 0x005 0x840 1 a r) ∧
    (a.mru.baseAsked = false → ¬ a.logOvertaken w ack → r.mru.base = a.mru.base ∧ r.rd MRU.RESYNC = a.rd MRU.RESYNC) := by
  have starts := frameStart_starts a
  obtain ⟨r, resyncs, streams, started, counted, stays⟩ := epochBoundary_streams (cs := cs) (qs := qs) (ack := ack) (starts.streaming.trans h)
  have overtaken : a.frameStart.logOvertaken (a.frame - 1) ack ↔ a.logOvertaken (a.frame - 1) ack := by
    unfold Device.logOvertaken
    rw [starts.rd _ (by decide), starts.rewindMark]
  rw [starts.frame, starts.mru] at started counted stays
  rw [starts.frame, starts.rd _ (by decide)] at streams
  rw [overtaken] at started counted stays
  refine ⟨r, resyncs, streams, started, fun behind unasked => (counted behind unasked).after (starts.kept.2 _ _ (by decide)), fun unasked inTime => ?_⟩
  rw [stays unasked inTime]
  exact ⟨congrArg Mru.base starts.mru, starts.rd _ (by decide)⟩

/-- The epoch in the log of a device that stores epochs carries what changed of the tables since the epoch before (R518). -/
theorem frameBoundary_logs {r : Device} (resyncs : Resyncs a.frameStart r) (stored : a.mru.logCells ≠ 0) :
    (∃ x, Tbl.get? (r.logEpoch w n cs qs).mru.log w = some x ∧ x.num = w ∧ x.compat = a.on MRU.COMPAT ∧ x.courses = deltaOf a.mru.prev.courses a.trees.courses) ∧
    ∀ k x, k ≠ w → Tbl.get? (r.logEpoch w n cs qs).mru.log k = some x → w < k + n := by
  have starts := frameStart_starts a
  obtain ⟨cells, prev, trees⟩ : r.mru.logCells = a.mru.logCells ∧ r.mru.prev = a.mru.prev ∧ r.trees = a.trees := by
    rw [resyncs.eq, starts.eq]
    exact ⟨rfl, rfl, rfl⟩
  rw [← cells] at stored
  refine ⟨⟨_, logEpoch_entry stored, rfl, ?_, ?_⟩, fun k x => logEpoch_keeps stored⟩
  · exact (congrArg (decide <| · = 1) (resyncs.kept.1 MRU.COMPAT (by decide))).trans (starts.on _ (by decide))
  · exact congrArg₂ deltaOf (congrArg Tables.courses prev) (congrArg Trees.courses trees)

theorem frameBoundary_keeps_no_log {r : Device} (resyncs : Resyncs a.frameStart r) (none : a.mru.logCells = 0) : (r.logEpoch w n cs qs).mru.log = [] := by
  have cells : r.mru.logCells = a.mru.logCells := by rw [resyncs.eq, (frameStart_starts a).eq]
  exact if_pos (cells.trans none)

/-! ### EPOCH_MARKER_SEND (R44, R523, R529, R530) -/

/-- The live epoch's marker goes out, where it is due, with what it carries of `bytes`. -/
def Device.sendMarker (bytes : Nat) (d : Device) : Device :=
  match d.mru.toSend with
  | some w =>
    let d := { d with mru := { d.mru with toSend := none } }
    (((d.wr MRU.EPOCH_SENT w).wr MRU.LAST_EPOCH_BYTES (min bytes epochMax)).count mruPage 0x810 1).emit (.soundpost spEpoch w)
  | none => d

/-- The marker of the base of `kib` KiB ends the resync. -/
def Device.sendBase (kib : Nat) (d : Device) : Device :=
  (((d.wr MRU.RESYNC 0).wr MRU.BASE_KIB kib).count mruPage 0x848 1).emit (.soundpost spBase (d.mru.base.getD 0))

/-- The next `n` epochs of the replay go out, and REPLAYING shows whether it goes on. -/
def Device.goOnReplaying (n : Nat) (d : Device) : Device := (d.replayN n).wr MRU.REPLAYING (b2n (d.replayN n).mru.replay.isSome)

/-- Nothing is sent: the device does not stream, or Soundpost is down. -/
def Device.silent (d : Device) : Prop := d.streaming = false ∨ d.on MRU.SP_UP = false

theorem silent_iff : d.silent ↔ (!d.streaming || !d.on MRU.SP_UP) = true := by simp [Device.silent]

section Marker

variable (t bytes n : Nat) (base : Option Nat)

theorem epochMarkerSend_idle (idle : a.silent) : epochMarkerSend t bytes n base a = a := if_pos (silent_iff.1 idle)

variable (sends : ¬ a.silent)
include sends

theorem epochMarkerSend_eq : epochMarkerSend t bytes n base a =
    if (a.sendMarker bytes).on MRU.RESYNC then
      match base with
      | some kib => (a.sendMarker bytes).sendBase kib
      | none => a.sendMarker bytes
    else (a.sendMarker bytes).goOnReplaying n := by
  unfold epochMarkerSend
  rw [if_neg (mt silent_iff.2 sends)]
  rfl

end Marker

section SendMarker

variable (d : Device) (bytes : Nat)

/-- Nothing differs but what a marker shows, and that it is no longer due. -/
theorem sendMarker_only : let b := d.sendMarker bytes
    b = { d with core := { d.core with out := b.core.out }, regs := b.regs, ctrs := b.ctrs, mru := { d.mru with toSend := none } } ∧
    Safety.Kept [MRU.EPOCH_SENT, MRU.LAST_EPOCH_BYTES] [(0x005, 0x810)] d b := by
  unfold Device.sendMarker
  split
  · refine ⟨rfl, Safety.Kept.same (b := ((d.wr MRU.EPOCH_SENT _).wr MRU.LAST_EPOCH_BYTES _).count 0x005 0x810 1) ?_ rfl rfl⟩
    exact (((Safety.Kept.refl _ _ d).wr _ ⟨_, List.mem_cons_self, rfl⟩).wr _ ⟨MRU.LAST_EPOCH_BYTES, by decide, rfl⟩).count 1 (by decide)
  · next none =>
    refine ⟨?_, .refl ..⟩
    rw [← none]

theorem sendMarker_out : (d.sendMarker bytes).core.out =
    d.core.out ++ (match d.mru.toSend with | some w => [Out.soundpost spEpoch w] | none => []) := by
  unfold Device.sendMarker
  cases d.mru.toSend with
  | none => exact (List.append_nil _).symm
  | some w => rfl

/-- What the marker shows stands, whatever is sent after it. -/
theorem sendMarker_shows {b : Device} (due : d.mru.toSend = some w)
    (later : Safety.Kept [MRU.RESYNC, MRU.BASE_KIB, MRU.REPLAYING] [(0x005, 0x838), (0x005, 0x848)] (d.sendMarker bytes) b) :
    b.rd MRU.EPOCH_SENT = w % 2 ^ 32 ∧ b.rd MRU.LAST_EPOCH_BYTES = min bytes 12500000 ∧ Counts 0x005 0x810 1 d b := by
  have sent : d.sendMarker bytes = (((({ d with mru := { d.mru with toSend := none } } : Device).wr MRU.EPOCH_SENT w).wr MRU.LAST_EPOCH_BYTES
      (min bytes epochMax)).count mruPage 0x810 1).emit (.soundpost spEpoch w) := by
    unfold Device.sendMarker
    rw [due]
  rw [sent] at later
  refine ⟨(later.1 _ (by decide)).trans ?_, (later.1 _ (by decide)).trans ?_, (later.2 _ _ (by decide)).trans ?_⟩
  · exact (Device.rd_wr_ne _ _ (by decide)).trans (Device.rd_wr_same ..)
  · exact (Device.rd_wr_same ..).trans (Nat.mod_eq_of_lt (lt_of_le_of_lt (Nat.min_le_right ..) (by decide)))
  · exact Device.ctr_count_same ..

end SendMarker

/-! ### A replay goes on (R529) -/

/-- Nothing differs but the replay, its messages and its count. -/
structure Replays (d b : Device) : Prop where
  eq : b = { d with core := { d.core with out := b.core.out }, ctrs := b.ctrs, mru := { d.mru with replay := b.mru.replay } }
  kept : Safety.Kept [] [(0x005, 0x838)] d b

theorem Replays.trans (h : Replays d e) (h' : Replays e b) : Replays d b :=
  ⟨by conv_lhs => rw [h'.eq, h.eq], h.kept.trans h'.kept⟩

/-- The replay is at epoch `e`, or over. -/
theorem replays_to (d : Device) (r : Option Nat) : Replays d { d with mru := { d.mru with replay := r } } := ⟨rfl, (Safety.Kept.refl ..).same rfl rfl⟩

/-- Epoch `k` of a replay goes out, and the replay is at `r` or over. -/
def Device.resend (k : Nat) (r : Option Nat) (d : Device) : Device :=
  (({ d with mru := { d.mru with replay := r } }).count mruPage 0x838 1).emit (.soundpost spReplay k)

theorem replays_resend (k : Nat) (r : Option Nat) (d : Device) : Replays d (d.resend k r) :=
  ⟨rfl, (((replays_to d r).kept).count 1 (by decide)).same rfl rfl⟩

theorem replayN_none (n : Nat) (h : d.mru.replay = none) : d.replayN n = d := by
  cases n with
  | zero => rfl
  | succ n => simp [Device.replayN, h]

/-- The live epoch: the one whose marker is due, or the next one written. -/
def Device.liveEpoch (d : Device) : Nat := match d.mru.toSend with | some w => w | none => d.mru.written + 1

theorem liveEpoch_of_sent (h : d.mru.toSend = none) : d.liveEpoch = d.mru.written + 1 := by
  unfold Device.liveEpoch
  rw [h]

theorem replayN_step (n : Nat) {k : Nat} (h : d.mru.replay = some k) : d.replayN (n + 1) =
    if d.liveEpoch ≤ k then { d with mru := { d.mru with replay := none } }
    else (d.resend k (if d.liveEpoch ≤ k + 1 then none else some (k + 1))).replayN n := by
  conv_lhs => unfold Device.replayN
  simp only [h]
  rfl

/-- With no marker due, `n` epochs of a replay, or those up to the last one written, go out in order from where it stands. -/
theorem replayN_sends (n : Nat) {k : Nat} (h : d.mru.replay = some k) (sent : d.mru.toSend = none) : let b := d.replayN n; Replays d b ∧
    ∃ m, m ≤ n ∧ (m = 0 ∨ k + m ≤ d.mru.written + 1) ∧ b.core.out = d.core.out ++ (List.range m).map (fun i => .soundpost spReplay (k + i)) ∧
      b.ctr 0x005 0x838 % 2 ^ 64 = (d.ctr 0x005 0x838 + m) % 2 ^ 64 := by
  induction n generalizing d k with
  | zero => exact ⟨⟨rfl, .refl ..⟩, 0, le_refl _, .inl rfl, (List.append_nil _).symm, rfl⟩
  | succ n ih =>
    rw [replayN_step n h, liveEpoch_of_sent sent]
    split
    · exact ⟨replays_to d none, 0, Nat.zero_le _, .inl rfl, (List.append_nil _).symm, rfl⟩
    · next more =>
      have counted : (d.resend k (if d.mru.written + 1 ≤ k + 1 then none else some (k + 1))).ctr 0x005 0x838 = (d.ctr 0x005 0x838 + 1) % 2 ^ 64 :=
        Device.ctr_count_same ..
      have shown : (d.resend k (if d.mru.written + 1 ≤ k + 1 then none else some (k + 1))).core.out = d.core.out ++ [.soundpost spReplay k] := rfl
      have resent := replays_resend k (if d.mru.written + 1 ≤ k + 1 then none else some (k + 1)) d
      by_cases last : d.mru.written + 1 ≤ k + 1
      · rw [if_pos last] at *
        rw [replayN_none n rfl]
        exact ⟨resent, 1, by omega, .inr (by omega), shown, by rw [counted, Nat.mod_mod]⟩
      · rw [if_neg last] at *
        obtain ⟨rest, m, le, upTo, out, counts⟩ := ih (d := d.resend k (some (k + 1))) rfl sent
        refine ⟨resent.trans rest, m + 1, by omega, .inr ?_, ?_, ?_⟩
        · have written : (d.resend k (some (k + 1))).mru.written = d.mru.written := rfl
          omega
        · rw [out, shown, List.range_succ_eq_map, List.map_cons, List.map_map, List.append_assoc]
          simp [Function.comp_def, Nat.add_assoc, Nat.add_comm 1]
        · rw [counts, counted]
          omega

theorem replays_replayN (n : Nat) (sent : d.mru.toSend = none) : Replays d (d.replayN n) := by
  cases h : d.mru.replay with
  | none => exact (replayN_none n h).symm ▸ ⟨rfl, .refl ..⟩
  | some k => exact (replayN_sends n h sent).1

/-- What a device is that sent its marker. -/
theorem sendMarker_sent (d : Device) (bytes : Nat) : let b := d.sendMarker bytes
    b.mru.toSend = none ∧ b.mru.replay = d.mru.replay ∧ b.mru.written = d.mru.written ∧ b.mru.base = d.mru.base ∧ b.on MRU.RESYNC = d.on MRU.RESYNC ∧
    b.ctr 0x005 0x838 = d.ctr 0x005 0x838 ∧ b.ctr 0x005 0x848 = d.ctr 0x005 0x848 ∧ b.cells = d.cells ∧ b.svc = d.svc ∧ b.fret = d.fret := by
  obtain ⟨only, kept⟩ := sendMarker_only d bytes
  refine ⟨congrArg (·.mru.toSend) only, congrArg (·.mru.replay) only, congrArg (·.mru.written) only, congrArg (·.mru.base) only, ?_, kept.2 _ _ (by decide),
    kept.2 _ _ (by decide), congrArg (·.cells) only, congrArg (·.svc) only, congrArg (·.fret) only⟩
  exact congrArg (decide <| · = 1) (kept.1 MRU.RESYNC (by decide))

/-- What was sent goes on standing while the replay goes on. -/
theorem goOnReplaying_effect (n : Nat) (sent : d.mru.toSend = none) : let b := d.goOnReplaying n
    b.mru.toSend = none ∧ b.on MRU.REPLAYING = b.mru.replay.isSome ∧ b.cells = d.cells ∧ b.svc = d.svc ∧ b.fret = d.fret ∧
    Safety.Kept [MRU.RESYNC, MRU.BASE_KIB, MRU.REPLAYING] [(0x005, 0x838), (0x005, 0x848)] d b := by
  have goes := replays_replayN n sent
  refine ⟨(congrArg (·.mru.toSend) goes.eq).trans sent, Device.on_wr_b2n _ rfl, congrArg (·.cells) goes.eq, congrArg (·.svc) goes.eq, congrArg (·.fret) goes.eq, ?_⟩
  exact (goes.kept.weaken (List.nil_subset _) (by decide)).wr _ ⟨MRU.REPLAYING, by decide, rfl⟩

/-- The base's marker ends the resync. -/
theorem sendBase_effect (d : Device) (kib : Word32) : let b := d.sendBase kib.toNat
    b.on MRU.RESYNC = false ∧ b.rd MRU.BASE_KIB = kib.toNat ∧ Counts 0x005 0x848 1 d b ∧ b.core.out = d.core.out ++ [.soundpost spBase (d.mru.base.getD 0)] ∧
    Safety.Kept [MRU.RESYNC, MRU.BASE_KIB, MRU.REPLAYING] [(0x005, 0x838), (0x005, 0x848)] d b :=
  ⟨(Device.on_wr_ne _ _ (by decide)).trans (Device.on_wr_b2n false rfl), (Device.rd_wr_same ..).trans (Nat.mod_eq_of_lt kib.isLt), Device.ctr_count_same .., rfl,
    ((((Safety.Kept.refl _ _ d).wr 0 ⟨MRU.RESYNC, by decide, rfl⟩).wr _ ⟨MRU.BASE_KIB, by decide, rfl⟩).count 1 (by decide)).same rfl rfl⟩

/-! ### Acknowledgements, rewinds and resync requests (R524, R528 to R530) -/

theorem hear_present (d : Device) : d.hear.on MRU.PARTNER_PRESENT = true := Device.on_wr_b2n true rfl

section Heard

variable (t k : Nat)

theorem epochAckReceive_idle (idle : a.silent) : epochAckReceive t k a = a := if_pos (silent_iff.1 idle)

theorem rewind_idle (idle : a.silent) : rewind t k a = a := if_pos (silent_iff.1 idle)

theorem resyncRequest_idle (idle : a.silent) : resyncRequest t a = a := if_pos (silent_iff.1 idle)

variable (sends : ¬ a.silent)
include sends

theorem epochAckReceive_eq : epochAckReceive t k a = if a.mru.acked < k ∧ k ≤ a.mru.written then
    ({ a.hear with mru := { a.hear.mru with acked := k, posted := max a.mru.posted k } }).wr MRU.EPOCH_ACKED k else a.hear :=
  if_neg (mt silent_iff.2 sends)

/-- A rewind asks for a base where the epoch is no more in the log, and else starts or lengthens a replay (R529). -/
theorem rewind_eq : rewind t k a =
    let d := a.hear.count 0x005 0x830 1
    if a.hear.on MRU.RESYNC = true ∨ a.liveEpoch ≤ k then d
    else if (Tbl.get? a.mru.log k).isNone then { d with mru := { d.mru with baseAsked := true } }
    else ({ d with mru := { d.mru with replay := some (match a.mru.replay with | some r => min r k | none => k) } }).wr MRU.REPLAYING 1 :=
  if_neg (mt silent_iff.2 sends)

theorem resyncRequest_eq : resyncRequest t a = { a.hear with mru := { a.hear.mru with baseAsked := true } } := if_neg (mt silent_iff.2 sends)

end Heard

end Sys2Proof.Machine

namespace Sys2Proof.Safety

open Sys2Proof.Machine

/-! ### The statement -/

/-- Settles O54: a frame's start by the epoch it writes and the resync it starts, a marker by what follows it, and the partner's three messages by what they
move. -/
theorem epochsStream : Obligations.EpochsStream := by
  unfold Obligations.EpochsStream
  refine ⟨fun t cs qs ack s hr => Makes.intro hr (exec_frameBoundary ..) ?_, fun t bytes n base s hr => Makes.intro hr (exec_epochMarkerSend ..) ?_,
    fun t s hr => ⟨fun k => Makes.intro hr (exec_epochAckReceive ..) ?_, fun e => Makes.intro hr (exec_rewind ..) ?_, Makes.intro hr (exec_resyncRequest ..) ?_⟩⟩
  all_goals generalize s.dev.arrive t = a
  case refine_1 =>
    refine ⟨frameBoundary_still _, fun running => ?_⟩
    rw [frameBoundary_running _ running]
    have starts := frameStart_starts a
    have framed := frameBoundary_frame a cs qs ack
    obtain ⟨change, deferred, prev⟩ := epochBoundary_begins a.frameStart cs qs ack
    have kept := (epochBoundary_only a.frameStart cs qs ack).2
    refine ⟨fun i => ?_, ?_, change, deferred, ?_, ?_, ?_, ?_, ?_, ?_, fun active => ?_, fun idle => ?_, fun streaming => ?_⟩
    · rw [sampleQueues_queue?, framed]
      rfl
    · have same : (a.frameStart.epochBoundary cs qs ack).ctr 0x001 0x930 = a.frameStart.ctr 0x001 0x930 := kept.2 _ _ (by decide)
      have counted := frameStart_stalls a
      unfold Counts at counted ⊢
      rwa [← same] at counted
    · exact (congrArg Device.fret framed).trans rfl
    · exact (congrArg Device.pkt framed).trans rfl
    · exact (congrArg Device.rng framed).trans rfl
    · exact (congrArg (fun d => d.cells.mem) framed).trans rfl
    · exact (congrArg (fun d => d.svc.cmds) framed).trans rfl
    · exact (congrArg (fun d => d.svc.chans) framed).trans rfl
    · rw [← starts.rd _ (by decide)] at active
      exact (prev active).trans starts.tables
    · rw [epochBoundary_idle (starts.streaming.trans idle), ← starts.mru]
      exact ⟨rfl, rfl⟩
    · obtain ⟨r, resyncs, streams, started, counted, stays⟩ := frameBoundary_streams (cs := cs) (qs := qs) (ack := ack) streaming
      rw [streams]
      refine ⟨rfl, rfl, rfl, frameBoundary_keeps_no_log resyncs, frameBoundary_logs resyncs, fun due => ?_, fun behind => ?_, fun unasked inTime => ?_⟩
      · exact started (due.imp_right fun behind => logOvertaken_iff.2 behind.1)
      · exact counted (logOvertaken_iff.2 behind.1) behind.2
      · exact stays unasked fun overtaken => inTime ⟨logOvertaken_iff.1 overtaken, unasked⟩
  case refine_2 =>
    by_cases sends : a.silent
    · rw [epochMarkerSend_idle _ _ _ _ sends]
      exact ⟨fun _ => rfl, fun awake => absurd sends awake, rfl, rfl, rfl⟩
    obtain ⟨sent, replay, written, base', resync, ctr, ctr', cells, svc, fret⟩ := sendMarker_sent a bytes
    have out := sendMarker_out a bytes
    have shows := fun w b due => sendMarker_shows a bytes (w := w) (b := b) due
    rw [epochMarkerSend_eq _ _ _ _ sends, resync]
    generalize a.sendMarker bytes = d at *
    refine ⟨fun idle => absurd idle sends, ?_⟩
    cases resyncing : a.on MRU.RESYNC with
    | false =>
      obtain ⟨sent', shown, cells', svc', fret', later⟩ := goOnReplaying_effect n sent
      refine ⟨fun _ => ⟨sent', fun w due => shows w _ due later, nofun, nofun, fun _ => ⟨shown, fun finished => ?_, fun e from_ => ?_⟩⟩,
        cells'.trans cells, svc'.trans svc, fret'.trans fret⟩
      · exact (congrArg (·.core.out) (replayN_none n (replay.trans finished))).trans out
      · obtain ⟨-, k, le, upTo, told, counted⟩ := replayN_sends n (replay.trans from_) sent
        exact ⟨k, le, written ▸ upTo, told.trans (congrArg (· ++ _) out), ctr ▸ counted⟩
    | true =>
      cases base with
      | none =>
        exact ⟨fun _ => ⟨sent, fun w due => shows w d due (.refl ..), nofun, fun _ _ => ⟨out, resync.trans resyncing⟩, nofun⟩, cells, svc, fret⟩
      | some kib =>
        obtain ⟨ended, size, counted, told, later⟩ := sendBase_effect d kib
        refine ⟨fun _ => ⟨sent, fun w due => shows w _ due later, fun _ k same => ?_, nofun, nofun⟩, cells, svc, fret⟩
        obtain rfl := Option.some.inj same
        exact ⟨ended, size, counted.after ctr', told.trans (congrArg₂ (· ++ [Out.soundpost spBase ·]) out (congrArg (·.getD 0) base'))⟩
  case refine_3 =>
    refine ⟨epochAckReceive_idle _ _, fun sends => ?_⟩
    rw [epochAckReceive_eq _ _ sends]
    split
    · refine ⟨⟨(Device.on_wr_ne _ _ (by decide)).trans (hear_present a), rfl⟩, rfl, rfl, rfl, rfl, Device.rd_wr_same ..⟩
    · exact ⟨⟨hear_present a, rfl⟩, rfl, rfl, rfl, rfl, Device.rd_wr_ne _ _ (by decide)⟩
  case refine_4 =>
    refine ⟨rewind_idle _ _, fun sends => ?_⟩
    have resync : a.hear.on MRU.RESYNC = a.on MRU.RESYNC := Device.on_wr_ne _ _ (by decide)
    rw [rewind_eq _ _ sends, resync]
    have counts : Counts 0x005 0x830 1 a (a.hear.count 0x005 0x830 1) := Device.ctr_count_same ..
    have heard : (a.hear.count 0x005 0x830 1).on MRU.PARTNER_PRESENT = true := hear_present a
    split
    · next waits => exact ⟨⟨heard, rfl⟩, rfl, counts, fun _ => ⟨rfl, rfl⟩, fun going live => absurd waits (not_or.2 ⟨by simp [going], Nat.not_le.2 live⟩)⟩
    · next goes =>
      split
      · next gone =>
        rw [Option.isNone_iff_eq_none] at gone
        exact ⟨⟨heard, rfl⟩, rfl, counts, fun waits => absurd waits goes, fun _ _ => ⟨fun _ => ⟨rfl, rfl⟩, fun listed => absurd gone listed⟩⟩
      · next listed =>
        rw [Option.isNone_iff_eq_none] at listed
        exact ⟨⟨(Device.on_wr_ne _ _ (by decide)).trans heard, rfl⟩, rfl, counts, fun waits => absurd waits goes,
          fun _ _ => ⟨fun gone => absurd gone listed, fun _ => ⟨Device.on_wr_b2n true rfl, rfl⟩⟩⟩
  case refine_5 =>
    refine ⟨resyncRequest_idle _, fun sends => ?_⟩
    rw [resyncRequest_eq _ sends]
    exact ⟨⟨hear_present a, rfl⟩, rfl, rfl, rfl⟩

end Sys2Proof.Safety
end

section
/-!
PROOFS. PACKET_INGRESS (R323 to R328, R564): what the steps of a packet's way through the slices leave alone, and what becomes of a packet at its crossing.
-/

namespace Sys2Proof.Machine

open Sys2Proof.Safety

variable {a d e : Device} {n p o : Nat} {x : Pkt} {fs : List Fld} {cs : List (Nat × Nat)}

/-! ### What sorting a packet leaves alone -/

/-- Of packets, cells, services, the Fretboard and ranging only packet `n` differs, and of registers and counters only those listed. -/
structure Sorts (n : Nat) (fs : List Fld) (cs : List (Nat × Nat)) (a b : Device) : Prop where
  others : ∀ m, m ≠ n → b.pkt? m = a.pkt? m
  cells : b.cells = a.cells
  svc : b.svc = a.svc
  fret : b.fret = a.fret
  rng : b.rng = a.rng
  kept : Safety.Kept fs cs a b

namespace Sorts

theorem refl (n : Nat) (fs : List Fld) (cs : List (Nat × Nat)) (a : Device) : Sorts n fs cs a a := ⟨fun _ _ => rfl, rfl, rfl, rfl, rfl, .refl ..⟩

variable (h : Sorts n fs cs a d)
include h

theorem trans (h' : Sorts n fs cs d e) : Sorts n fs cs a e :=
  ⟨fun m hm => (h'.others m hm).trans (h.others m hm), h'.cells.trans h.cells, h'.svc.trans h.svc, h'.fret.trans h.fret, h'.rng.trans h.rng,
    h.kept.trans h'.kept⟩

/-- A device that differs in other parts only is as good. -/
theorem same (pkts : e.pkt.pkts = d.pkt.pkts) (cells : e.cells = d.cells) (svc : e.svc = d.svc) (fret : e.fret = d.fret) (rng : e.rng = d.rng)
    (regs : e.regs = d.regs) (ctrs : e.ctrs = d.ctrs) : Sorts n fs cs a e :=
  ⟨fun m hm => (congrArg (Tbl.get? · m) pkts).trans (h.others m hm), cells.trans h.cells, svc.trans h.svc, fret.trans h.fret, rng.trans h.rng,
    h.kept.same regs ctrs⟩

theorem count (k : Nat) (listed : (p, o) ∈ cs) : Sorts n fs cs a (d.count p o k) := { h with kept := h.kept.count k listed }

theorem setCtr (v : Nat) (listed : (p, o) ∈ cs) : Sorts n fs cs a (d.setCtr p o v) := { h with kept := h.kept.setCtr v listed }

theorem countIf (i : Bool) (listed : (p, o) ∈ cs) : Sorts n fs cs a (d.countIf i p o) := by
  unfold Device.countIf
  split
  exacts [h.count 1 listed, h]

theorem wr {f : Fld} (v : Nat) (listed : f ∈ fs) : Sorts n fs cs a (d.wr f v) := { h with kept := h.kept.wr v ⟨f, listed, rfl⟩ }

theorem setPkt (y : Pkt) : Sorts n fs cs a (d.setPkt n y) :=
  ⟨fun m hm => (Tbl.get?_set_ne _ _ hm).trans (h.others m hm), h.cells, h.svc, h.fret, h.rng, h.kept.same rfl rfl⟩

theorem dropPkt : Sorts n fs cs a (d.dropPkt n) :=
  ⟨fun m hm => (Tbl.get?_erase_ne _ hm).trans (h.others m hm), h.cells, h.svc, h.fret, h.rng, h.kept.same rfl rfl⟩

theorem traceMod (k : Option Nat) (f : Trace → Trace) : Sorts n fs cs a (d.traceMod k f) := by
  unfold Device.traceMod
  split
  exacts [h.same rfl rfl rfl rfl rfl rfl rfl, h]

theorem tagStep (k : Nat) : Sorts n fs cs a (d.tagStep k).2 := by
  unfold Device.tagStep
  split
  exacts [h.same rfl rfl rfl rfl rfl rfl rfl, h]

theorem traceStart (r : Trace) (listed : (0x007, 0xA10) ∈ cs) : Sorts n fs cs a (d.traceStart r).2 :=
  (h.same (e := { d with mon := (d.traceStart r).2.mon }) rfl rfl rfl rfl rfl rfl rfl).count 1 listed

theorem handledPacket : Sorts n fs cs a d.handledPacket := h.same rfl rfl rfl rfl rfl rfl rfl

theorem traceFate (k : Option Nat) (fate : Nat) (left : Bool) (produced : MON.TRACE_PRODUCED ∈ fs) (ring : (0x007, 0xA18) ∈ cs) (full : (0x007, 0xA20) ∈ cs) :
    Sorts n fs cs a (d.traceFate k fate left) := by
  unfold Device.traceFate
  split
  · exact h
  · split
    · exact h
    · extract_lets monitor off slot words monitor' placed
      have off : Sorts n fs cs a off := h.same rfl rfl rfl rfl rfl rfl rfl
      split
      · exact off.count 1 full
      · exact ((off.same rfl rfl rfl rfl rfl rfl rfl : Sorts n fs cs a placed).wr _ produced).count 1 ring

omit h in
theorem weaken {fs' : List Fld} {cs' : List (Nat × Nat)} (h : Sorts n fs cs a d) (hf : fs ⊆ fs') (hc : cs ⊆ cs') : Sorts n fs' cs' a d :=
  { h with kept := h.kept.weaken hf hc }

end Sorts

theorem Device.traceFate_pkt (k : Option Nat) (fate : Nat) (left : Bool) (d : Device) : (d.traceFate k fate left).pkt = d.pkt := by
  unfold Device.traceFate
  split
  · rfl
  · split
    · rfl
    · dsimp only
      split <;> rfl

theorem Device.traceFate_pkt? (k : Option Nat) (fate : Nat) (left : Bool) (m : Nat) (d : Device) : (d.traceFate k fate left).pkt? m = d.pkt? m := by
  unfold Device.pkt?
  rw [Device.traceFate_pkt]

theorem ctrKey_ne {q r : Nat} (small : o < 0x1000) (small' : r < 0x1000) (other : p ≠ q ∨ o ≠ r) : ctrKey p o ≠ ctrKey q r := by
  unfold ctrKey
  omega

theorem Device.traceFate_ctr {k : Option Nat} {fate : Nat} {left : Bool} (small : o < 0x1000) (other : p ≠ 0x007) :
    (d.traceFate k fate left).ctr p o = d.ctr p o := by
  refine ((Sorts.refl 0 [MON.TRACE_PRODUCED] [(0x007, 0xA18), (0x007, 0xA20)] d).traceFate k fate left (by simp) (by simp) (by simp)).kept.2 _ _ ?_
  simp [ctrKey_ne small _ (.inl other)]

theorem Device.pkt?_dropPkt (n : Nat) (d : Device) : (d.dropPkt n).pkt? n = none := Tbl.get?_erase_same _ _

theorem Device.pkt?_setPkt (n : Nat) (y : Pkt) (d : Device) : (d.setPkt n y).pkt? n = some y := Tbl.get?_set_same _ _ _

/-! ### The crossing (R323 to R328, R564) -/

/-- The trace of a packet that is tagged at its crossing: its number, and the device that keeps it (R564, R565). -/
def Device.tagAt (crossing : Nat) (r : Trace) (d : Device) : Option Nat × Device :=
  let g := d.tagStep crossing
  if g.1 then (some (g.2.traceStart r).1, (g.2.traceStart r).2) else (none, g.2)

theorem Device.tagAt_none_iff (crossing : Nat) (r : Trace) (d : Device) : (d.tagAt crossing r).1 = none ↔ (d.tagStep crossing).1 = false := by
  unfold Device.tagAt
  dsimp only
  split
  · next tagged => simp [tagged]
  · next untagged => simpa using untagged

theorem Device.tagStep_pkt (crossing : Nat) (d : Device) : (d.tagStep crossing).2.pkt = d.pkt := by
  unfold Device.tagStep
  split <;> rfl

theorem Device.tagAt_pkt (crossing : Nat) (r : Trace) (d : Device) : (d.tagAt crossing r).2.pkt = d.pkt := by
  refine Eq.trans ?_ (d.tagStep_pkt crossing)
  unfold Device.tagAt
  dsimp only
  split <;> rfl

theorem Device.tagAt_sorts (n crossing : Nat) (r : Trace) (d : Device) : Sorts n [] [(0x007, 0xA10)] d (d.tagAt crossing r).2 := by
  have stepped := (Sorts.refl n [] [(0x007, 0xA10)] d).tagStep crossing
  unfold Device.tagAt
  dsimp only
  split
  · exact stepped.traceStart r (List.mem_singleton_self _)
  · exact stepped

/-- No packet of a lower number waits at the crossing of packet `n` (R325). -/
theorem Device.crossingBusy_eq_false_iff : d.crossingBusy n x = false ↔
    ∀ e ∈ d.pkt.pkts, e.1 < n → e.2.stage = .crossing → d.crossingOf e.2.src.kind e.2.src.port ≠ d.crossingOf x.src.kind x.src.port := by
  simp [Device.crossingBusy]

theorem packetIngress_none (t : Nat) (gone : d.pkt? n = none) : packetIngress t n d = d := by
  unfold packetIngress
  rw [gone]

theorem packetIngress_waiting (t : Nat) (found : d.pkt? n = some x) (waits : ¬ (x.stage = .crossing ∧ d.crossingBusy n x = false)) :
    packetIngress t n d = d := by
  unfold packetIngress
  rw [found]
  exact if_pos (by simpa [or_iff_not_imp_left] using waits)

/-- The trace a packet starts where it goes to slice `s`. -/
def Pkt.trace (t s : Nat) (x : Pkt) : Trace := { stamp := t, slice := s, port := x.src.port, kind := x.src.kind, length := x.bytes.length }

/-- The packet in the FIFO of slice `s`, as the `o`th that entered one, under flow hash `h` and its trace. -/
def Pkt.enters (t s h o : Nat) (trace : Option Nat) (x : Pkt) : Pkt :=
  { x with stage := .slice s, hash := h, entry := h % 256, tagged := trace, order := o, after := t + 2000 }

/-- A packet the host or the network brought counts toward the forecast; each that enters takes the next place in order. -/
def Device.enter (kind : Nat) (d : Device) : Device :=
  let d := if kind = 0 then d else d.handledPacket
  { d with pkt := { d.pkt with entered := d.pkt.entered + 1 } }

theorem Sorts.enter (h : Sorts n fs cs a d) (kind : Nat) : Sorts n fs cs a (d.enter kind) := by
  unfold Device.enter
  split
  exacts [h.same rfl rfl rfl rfl rfl rfl rfl, h.handledPacket.same rfl rfl rfl rfl rfl rfl rfl]

section Crossing

variable (t : Nat) (found : d.pkt? n = some x) (free : x.stage = .crossing ∧ d.crossingBusy n x = false)
include found free

/-- A packet that crosses finds the FIFO of its slice full or enters it. -/
theorem packetIngress_crossing : packetIngress t n d =
    let h := flowHash x.set (parse x.set x.bytes)
    let s := setRd x.set (spreadField (h % 256))
    let r := d.tagAt (d.crossingOf x.src.kind x.src.port) (Pkt.trace t s x)
    if 512 ≤ (d.fifo s).length then ((r.2.count 0x1B3 0x858 1).dropPkt n).traceFate r.1 5 false
    else (r.2.enter x.src.kind).setPkt n (Pkt.enters t s h d.pkt.entered r.1 x) := by
  extract_lets h s r
  have fifo : r.2.fifo s = d.fifo s := by
    unfold Device.fifo
    rw [Device.tagAt_pkt]
  have entered : (if x.src.kind = 0 then r.2 else r.2.handledPacket).pkt.entered = d.pkt.entered := by
    rw [← Device.tagAt_pkt (d.crossingOf x.src.kind x.src.port) (Pkt.trace t s x) d]
    split <;> rfl
  unfold packetIngress
  rw [found]
  dsimp only
  rw [if_neg (by simp [free]), ← fifo, ← entered]
  rfl

theorem packetIngress_full (full : 512 ≤ (d.fifo (setRd x.set (spreadField (flowHash x.set (parse x.set x.bytes) % 256)))).length) :
    (packetIngress t n d).pkt? n = none ∧ Counts 0x1B3 0x858 1 d (packetIngress t n d) := by
  rw [(packetIngress_crossing t found free).trans (if_pos full)]
  have uncounted := fun c r => (d.tagAt_sorts n c r).kept.2 0x1B3 0x858 (by decide)
  exact ⟨(Device.traceFate_pkt? ..).trans (Device.pkt?_dropPkt ..),
    (Counts.after (Device.ctr_count_same ..) (uncounted ..)).before (Device.traceFate_ctr (by decide) (by decide))⟩

theorem packetIngress_enters : let h := flowHash x.set (parse x.set x.bytes); let s := setRd x.set (spreadField (h % 256)); (d.fifo s).length < 512 →
    (packetIngress t n d).ctr 0x1B3 0x858 = d.ctr 0x1B3 0x858 ∧ (packetIngress t n d).pkt? n =
      some (Pkt.enters t s h d.pkt.entered (d.tagAt (d.crossingOf x.src.kind x.src.port) (Pkt.trace t s x)).1 x) := by
  intro h s room
  rw [(packetIngress_crossing t found free).trans (if_neg (Nat.not_le.2 room))]
  exact ⟨(((d.tagAt_sorts n ..).enter _).setPkt _).kept.2 _ _ (by decide), Device.pkt?_setPkt ..⟩

end Crossing

/-- The counters of a packet that crosses, and of its trace (R328, R565). -/
def crossCtrs : List (Nat × Nat) := [(0x1B3, 0x858), (0x007, 0xA10), (0x007, 0xA18), (0x007, 0xA20)]

/-- Whatever a packet meets at its crossing, only it, its trace and the FIFO's drops differ. -/
theorem packetIngress_sorts (t : Nat) (found : d.pkt? n = some x) : Sorts n [MON.TRACE_PRODUCED] crossCtrs d (packetIngress t n d) := by
  by_cases free : x.stage = .crossing ∧ d.crossingBusy n x = false
  · rw [packetIngress_crossing t found free]
    extract_lets h s r
    have tagged : Sorts n [MON.TRACE_PRODUCED] crossCtrs d r.2 := (d.tagAt_sorts n _ _).weaken (List.nil_subset _) (by decide)
    split
    · exact (tagged.count 1 (by decide)).dropPkt.traceFate _ _ _ (List.mem_singleton_self _) (by decide) (by decide)
    · exact (tagged.enter _).setPkt _
  · rw [packetIngress_waiting t found free]
    exact .refl ..

end Sys2Proof.Machine
end

section
/-!
PROOFS. The classification of a packet (R337 to R343, R560): how a slice ends a packet, what the procedure of R337 reads and counts, and what an act leaves
alone.
-/

namespace Sys2Proof.Machine

open Sys2Proof.Safety

variable {a d : Device} {n s p o : Nat} {x : Pkt} {fs : List Fld} {cs : List (Nat × Nat)}

/-! ### The end of a packet in its slice (R560) -/

theorem slicePage_ne (hs : s < 36) {q : Nat} (other : q < 16 ∨ 52 ≤ q) : slicePage s ≠ q := by
  unfold slicePage
  omega

/-- Where a slice counts the packets it retired and those it wasted a slot for. -/
def decidedCtr (wasted : Bool) : Nat := if wasted then 0x820 else 0x818

theorem decidedCtr_lt (wasted : Bool) : decidedCtr wasted < 0x1000 := by cases wasted <;> decide

/-- The counters of the end of a packet in slice `s`. -/
def endCtrs (s : Nat) (wasted : Bool) : List (Nat × Nat) :=
  [(slicePage s, 0x838), (slicePage s, decidedCtr wasted), (0x007, 0xA18), (0x007, 0xA20)]

theorem endCtrs_apart (small : o < 0x1000) (other : p ≠ 0x007) (other' : p ≠ slicePage s) (wasted : Bool) :
    ∀ c ∈ endCtrs s wasted, ctrKey p o ≠ ctrKey c.1 c.2 := by
  simp [endCtrs, ctrKey_ne small _ (.inl other), ctrKey_ne small _ (.inl other'), decidedCtr_lt]

section Ending

variable (wasted : Bool) (fate : Nat)

theorem Sorts.slotDecided (h : Sorts n fs cs a d) (listed : endCtrs s wasted ⊆ cs) : Sorts n fs cs a (d.slotDecided s wasted) :=
  (h.setCtr _ (listed (by simp [endCtrs]))).count 1 (listed (by cases wasted <;> simp [endCtrs, decidedCtr]))

theorem Sorts.endInSlice (h : Sorts n fs cs a d) (produced : MON.TRACE_PRODUCED ∈ fs) (listed : endCtrs s wasted ⊆ cs) :
    Sorts n fs cs a (d.endInSlice n s x wasted fate) :=
  (h.dropPkt.slotDecided wasted listed).traceFate _ _ _ produced (listed (by simp [endCtrs])) (listed (by simp [endCtrs]))

variable (d)

theorem Device.slotDecided_counts : Counts (slicePage s) (decidedCtr wasted) 1 d (d.slotDecided s wasted) := by
  have other : ctrKey (slicePage s) (decidedCtr wasted) ≠ ctrKey (slicePage s) 0x838 := by
    unfold decidedCtr
    split <;> exact ctrKey_ne (by decide) (by decide) (.inr (by decide))
  exact (Device.ctr_count_same ..).trans (congrArg (fun c => (c + 1) % 2 ^ 64) (Tbl.getD_put_ne _ _ _ _ other))

theorem Device.endInSlice_pkt? : (d.endInSlice n s x wasted fate).pkt? n = none := (Device.traceFate_pkt? ..).trans (d.pkt?_dropPkt n)

theorem Device.slotDecided_ctr (small : o < 0x1000) (other : o ≠ 0x838) (other' : o ≠ decidedCtr wasted) :
    (d.slotDecided s wasted).ctr (slicePage s) o = d.ctr (slicePage s) o :=
  (Device.ctr_count_ne _ _ (ctrKey_ne small (decidedCtr_lt wasted) (.inr other'))).trans (Tbl.getD_put_ne _ _ _ _ (ctrKey_ne small (by decide) (.inr other)))

theorem Device.endInSlice_ctr (small : o < 0x1000) (other : p ≠ 0x007) (other' : p ≠ slicePage s) : (d.endInSlice n s x wasted fate).ctr p o = d.ctr p o :=
  ((Sorts.refl n [MON.TRACE_PRODUCED] (endCtrs s wasted) d).endInSlice wasted fate (by simp) (List.Subset.refl _)).kept.2 _ _
    (endCtrs_apart small other other' wasted)

end Ending

/-! ### What classification reads and counts (R337 to R339, R560) -/

/-- The counters of the classifier that tell what it found, and the edits it skipped. -/
def lookOffs : List Nat := [0x810, 0x818, 0x820, 0x830, 0x838, 0x840, 0x868, 0x880]

/-- The counters a packet's look-up may count in slice `s`. -/
def lookCtrs (s : Nat) : List (Nat × Nat) := (slicePage s, 0x810) :: (slicePage s, 0x838) :: lookOffs.map (0x1B3, ·)

/-- Nothing of `d` differs from `a` that a look-up reads: counts, traces and the slots used do. -/
def Quiet (a d : Device) : Prop := d = { a with ctrs := d.ctrs, mon := d.mon, pkt := { a.pkt with slotUsed := d.pkt.slotUsed } }

namespace Quiet

variable (h : Quiet a d)
include h

theorem count (p o k : Nat) : Quiet a (d.count p o k) := by
  unfold Quiet at h ⊢
  conv_lhs => rw [h]
  rfl

theorem countIf (i : Bool) (p o : Nat) : Quiet a (d.countIf i p o) := by
  unfold Device.countIf
  split
  exacts [h.count p o 1, h]

theorem traceMod (k : Option Nat) (f : Trace → Trace) : Quiet a (d.traceMod k f) := by
  unfold Device.traceMod
  split
  · unfold Quiet at h ⊢
    conv_lhs => rw [h]
  · exact h

/-- Both may count. -/
theorem counts (p o k : Nat) : Quiet (a.count p o k) (d.count p o k) := by
  have right := h.count p o k
  unfold Quiet at right ⊢
  conv_lhs => rw [right]
  rfl

theorem countsIf (i : Bool) (p o : Nat) : Quiet (a.countIf i p o) (d.countIf i p o) := by
  unfold Device.countIf
  split
  exacts [h.counts p o 1, h]

theorem on (f : Fld) : d.on f = a.on f := by rw [h]; rfl
theorem chan? (c : Nat) : d.chan? c = a.chan? c := by rw [h]; rfl
theorem queueIdx (c : Nat) : d.queueIdx c = a.queueIdx c := by rw [h]; rfl
theorem sourceDomain (src : PktSrc) (p : Parsed) : d.sourceDomain src p = a.sourceDomain src p := by rw [h]; rfl
theorem separated (src : PktSrc) (domain : Nat) (w : List Nat) : d.separated src domain w = a.separated src domain w := by rw [h]; rfl
theorem injClosed (src : PktSrc) : d.injClosed src = a.injClosed src := by rw [h]; rfl
theorem action (i : Nat) : d.action i = a.action i := by rw [h]; rfl
theorem exactHit (i : Nat) (k : List Nat) : d.exactHit i k = a.exactHit i k := by rw [h]; rfl
theorem ternary : d.pkt.ternary = a.pkt.ternary := by rw [h]

theorem lagQueue (q hash : Nat) : (d.lagQueue q hash).1 = (a.lagQueue q hash).1 := by
  have pick (g : Nat) : d.lagPick g hash = a.lagPick g hash := by rw [h]; rfl
  have queue? (i : Nat) : d.queue? i = a.queue? i := by rw [h]; rfl
  unfold Device.lagQueue
  rw [h.queueIdx]
  split
  · rfl
  · rw [queue?]
    split
    · rfl
    · rw [pick]
      split
      · rfl
      · split <;> rfl

end Quiet

/-! ### The procedure of R337, step by step -/

/-- The words of the ternary entry, or of the default action. -/
def Device.byTernary (set : Tbl Nat) (kind : Nat) (k : List Nat) (d : Device) : List Nat × Device :=
  match ternaryHit d.pkt.ternary k with
  | some i => (d.action i, d)
  | none => (d.action (setRd set (if kind = 1 then PCL.DEFAULT_ACTION_NET else PCL.DEFAULT_ACTION_PON)), d.count 0x1B3 0x838 1)

/-- A look-up that a ternary entry asks for: the words of the exact entry, or of the profile's MISS_ACTION. -/
def byExact (set : Tbl Nat) (k : List Nat) (r : List Nat × Device) : List Nat × Device :=
  if actType r.1 = 4 ∧ (ternaryHit r.2.pkt.ternary k).isSome then
    let prof := bits (wordAt r.1 0) 4 3
    match r.2.exactHit prof (exactKey set prof k) with
    | some i => (r.2.action i, r.2)
    | none => (r.2.action (setRd set (PCL.MISS_ACTION prof)), r.2.count 0x1B3 0x840 1)
  else r

/-- Any other look-up is misplaced: a drop. -/
def misplaced (deep : Bool) (r : List Nat × Device) : List Nat × Device :=
  if actType r.1 = 4 then ([0, 0, 0, 0], r.2.countIf deep 0x1B3 0x868) else r

/-- DEPTH_ACTION where the parse stopped and the words do not bear it. -/
def byDepth (set : Tbl Nat) (deep : Bool) (r : List Nat × Device) : List Nat × Device :=
  if deep && !actDeep r.1 then
    let w := r.2.action (setRd set PCL.DEPTH_ACTION)
    (if actType w = 4 then [0, 0, 0, 0] else w, r.2.count 0x1B3 0x820 1)
  else r

section Words

variable (set : Tbl Nat) (kind : Nat) (deep : Bool) (k : List Nat)

theorem classify_eq (d : Device) : d.classify set kind deep k = byDepth set deep (misplaced deep (byExact set k (d.byTernary set kind k))) := rfl

/-- Two devices stand alike in the procedure: the same words, and nothing differs that a look-up reads. -/
structure Alike (r r' : List Nat × Device) : Prop where
  words : r'.1 = r.1
  quiet : Quiet r.2 r'.2

variable {r r' : List Nat × Device}

theorem Quiet.byTernary (h : Quiet a d) : Alike (a.byTernary set kind k) (d.byTernary set kind k) := by
  unfold Device.byTernary
  rw [h.ternary]
  split
  · exact ⟨h.action _, h⟩
  · exact ⟨h.action _, h.counts ..⟩

namespace Alike

variable (h : Alike r r')
include h

theorem byExact : Alike (byExact set k r) (byExact set k r') := by
  unfold Machine.byExact
  rw [h.words, h.quiet.ternary]
  split
  · dsimp only
    rw [h.quiet.exactHit]
    split
    · exact ⟨h.quiet.action _, h.quiet⟩
    · exact ⟨h.quiet.action _, h.quiet.counts ..⟩
  · exact h

theorem misplaced : Alike (misplaced deep r) (misplaced deep r') := by
  unfold Machine.misplaced
  rw [h.words]
  split
  · exact ⟨rfl, h.quiet.countsIf ..⟩
  · exact h

theorem byDepth : Alike (byDepth set deep r) (byDepth set deep r') := by
  unfold Machine.byDepth
  rw [h.words]
  split
  · dsimp only
    rw [h.quiet.action]
    exact ⟨rfl, h.quiet.counts ..⟩
  · exact h

end Alike

/-- The words of R337 are those of any device on which a look-up reads the same. -/
theorem Quiet.classify (h : Quiet a d) : (d.classify set kind deep k).1 = (a.classify set kind deep k).1 := by
  rw [classify_eq, classify_eq]
  exact (((h.byTernary set kind k).byExact set k).misplaced deep |>.byDepth set deep).words

theorem byTernary_counts (d : Device) : ∃ i, (d.byTernary set kind k).2 = d.countIf i 0x1B3 0x838 := by
  unfold Device.byTernary
  split
  exacts [⟨false, rfl⟩, ⟨true, rfl⟩]

theorem byExact_counts (r : List Nat × Device) : ∃ i, (byExact set k r).2 = r.2.countIf i 0x1B3 0x840 := by
  unfold byExact
  split
  · dsimp only
    split
    exacts [⟨false, rfl⟩, ⟨true, rfl⟩]
  · exact ⟨false, rfl⟩

theorem misplaced_counts (r : List Nat × Device) : ∃ i, (i = true → deep = true) ∧ (misplaced deep r).2 = r.2.countIf i 0x1B3 0x868 := by
  unfold misplaced
  split
  exacts [⟨deep, id, rfl⟩, ⟨false, nofun, rfl⟩]

theorem byDepth_counts (r : List Nat × Device) : ∃ i, (byDepth set deep r).2 = r.2.countIf i 0x1B3 0x820 := by
  unfold byDepth
  split
  exacts [⟨true, rfl⟩, ⟨false, rfl⟩]

/-- What the procedure counts: a missing ternary entry, a missing exact entry, after a stopped parse a misplaced look-up, and DEPTH_ACTION. -/
theorem classify_counts (d : Device) : ∃ missed lost stray depth, (stray = true → deep = true) ∧
    (d.classify set kind deep k).2 =
      (((d.countIf missed 0x1B3 0x838).countIf lost 0x1B3 0x840).countIf stray 0x1B3 0x868).countIf depth 0x1B3 0x820 := by
  obtain ⟨missed, ternary⟩ := byTernary_counts set kind k d
  obtain ⟨lost, fromExact⟩ := byExact_counts set k (d.byTernary set kind k)
  obtain ⟨stray, deepOnly, plain⟩ := misplaced_counts deep (byExact set k (d.byTernary set kind k))
  obtain ⟨depth, last⟩ := byDepth_counts set deep (misplaced deep (byExact set k (d.byTernary set kind k)))
  exact ⟨missed, lost, stray, depth, deepOnly, by rw [classify_eq, last, plain, fromExact, ternary]⟩

end Words

/-! ### A slice that looks at a packet (R337, R560) -/

/-- Slice `s` of `a` took a packet and looked at it. -/
structure Looked (s : Nat) (a d : Device) : Prop where
  quiet : Quiet a d
  taken : Counts (slicePage s) 0x810 1 a d
  kept : Safety.Kept [] (lookCtrs s) a d

namespace Looked

theorem slotTaken (s : Nat) (a : Device) : Looked s a (a.slotTaken s) := by
  refine ⟨rfl, ?_, ?_⟩
  · have other : ctrKey (slicePage s) 0x810 ≠ ctrKey (slicePage s) 0x838 := ctrKey_ne (by decide) (by decide) (.inr (by decide))
    exact (Tbl.getD_put_ne _ _ _ _ other).trans (Device.ctr_count_same ..)
  · exact (((Safety.Kept.refl _ _ a).same rfl rfl).count 1 (by simp [lookCtrs])).count 1 (by simp [lookCtrs])

variable (h : Looked s a d)
include h

theorem sorts (n : Nat) : Sorts n [] (lookCtrs s) a d := by
  refine ⟨fun m _ => ?_, by rw [h.quiet], by rw [h.quiet], by rw [h.quiet], by rw [h.quiet], h.kept⟩
  rw [h.quiet]
  rfl

theorem traceMod (k : Option Nat) (f : Trace → Trace) : Looked s a (d.traceMod k f) := by
  refine ⟨h.quiet.traceMod k f, ?_, ((h.sorts 0).traceMod k f).kept⟩
  unfold Device.traceMod
  split <;> exact h.taken

variable (hs : s < 36)
include hs

theorem count (k : Nat) (listed : o ∈ lookOffs) : Looked s a (d.count 0x1B3 o k) := by
  have small : o < 0x1000 := (by decide : ∀ o ∈ lookOffs, o < 0x1000) o listed
  have other := ctrKey_ne (by decide : 0x810 < 0x1000) small (.inl (slicePage_ne hs (.inr (by decide : 52 ≤ 0x1B3))))
  exact ⟨h.quiet.count .., h.taken.before (Device.ctr_count_ne _ _ other), h.kept.count k (by simp [lookCtrs, listed])⟩

theorem countIf (i : Bool) (listed : o ∈ lookOffs) : Looked s a (d.countIf i 0x1B3 o) := by
  unfold Device.countIf
  split
  exacts [h.count hs 1 listed, h]

theorem classify (set : Tbl Nat) (kind : Nat) (deep : Bool) (k : List Nat) : Looked s a (d.classify set kind deep k).2 := by
  obtain ⟨missed, lost, stray, depth, -, counts⟩ := classify_counts set kind deep k d
  rw [counts]
  exact (((h.countIf hs missed (by decide)).countIf hs lost (by decide)).countIf hs stray (by decide)).countIf hs depth (by decide)

end Looked

/-! ### Acting on a packet (R315, R339 to R343) -/

/-- The counters of a punt's ends (R318, R625). -/
def puntCtrs : List (Nat × Nat) := [(0x001, 0x830), (0x001, 0x940), (0x001, 0x948), (0x001, 0x950)]

/-- The counters of what becomes of a packet, of an edit that is skipped, and of the slots of a link group that are (R341, R435). -/
def outcomeCtrs : List (Nat × Nat) :=
  [(0x001, 0x938), (0x1B3, 0x848), (0x1B3, 0x850), (0x1B3, 0x868), (0x1B3, 0x870), (0x1B3, 0x880), (0x1B2, 0x858)]

/-- What an act may count: an outcome, a punt's end, and the slot decided. -/
def actCtrs (s : Nat) : List (Nat × Nat) := outcomeCtrs ++ puntCtrs ++ (endCtrs s true ++ endCtrs s false)

/-- The fields of a punt to channel `ch`, and the trace ring's. -/
def actFlds (ch : Nat) : List Fld := [MON.TRACE_PRODUCED, HIF.FB_CI ch, HIF.PR_PI ch]

theorem puntCtrs_subset_actCtrs (s : Nat) : puntCtrs ⊆ actCtrs s := by
  intro c hc
  simp [actCtrs, hc]

theorem endCtrs_subset_actCtrs (s : Nat) (wasted : Bool) : endCtrs s wasted ⊆ actCtrs s := by
  intro c hc
  cases wasted <;> simp [actCtrs, hc]

theorem outcomeCtrs_subset_actCtrs (s : Nat) : outcomeCtrs ⊆ actCtrs s := by
  intro c hc
  simp [actCtrs, hc]

namespace Sorts

theorem puntRate (h : Sorts n fs cs a d) (ch : Nat) : Sorts n fs cs a (d.puntRate ch).2 := by
  unfold Device.puntRate
  extract_lets ms old sent
  split
  exacts [h.same rfl rfl rfl rfl rfl rfl rfl, h]

variable {ch : Nat}

theorem writePunt (h : Sorts n (actFlds ch) cs a d) (returned : Bool) (w0 : Nat) (src : PktSrc) (stamp : Nat) (bs : List Nat) :
    Sorts n (actFlds ch) cs a (d.writePunt ch returned w0 src stamp bs) := by
  unfold Device.writePunt
  extract_lets size fb pi buf flags ws o hif noted
  have noted : Sorts n (actFlds ch) cs a (noted.emit o) := h.same rfl rfl rfl rfl rfl rfl rfl
  exact (noted.wr _ (by simp [actFlds])).wr _ (by simp [actFlds])

theorem punt (h : Sorts n (actFlds ch) cs a d) (listed : puntCtrs ⊆ cs) (reason : Nat) (deep : Bool) (src : PktSrc) (stamp : Nat) (bs : List Nat) :
    Sorts n (actFlds ch) cs a (d.punt ch reason deep src stamp bs).2 := by
  have rated := h.puntRate ch
  unfold Device.punt
  split
  · exact h.count 1 (listed (by decide))
  · split
    · next late => exact (late ▸ rated).count 1 (listed (by decide))
    · next inTime =>
      rw [inTime] at rated
      dsimp only
      split
      · exact rated.count 1 (listed (by decide))
      · exact (rated.writePunt ..).count 1 (listed (by decide))

variable (h : Sorts n (actFlds ch) (actCtrs s) a d)
include h

theorem ends (wasted : Bool) (fate : Nat) (y : Pkt) : Sorts n (actFlds ch) (actCtrs s) a (d.endInSlice n s y wasted fate) :=
  h.endInSlice wasted fate (by simp [actFlds]) (endCtrs_subset_actCtrs s wasted)

theorem handTo (q chan : Nat) (y : Pkt) : Sorts n (actFlds ch) (actCtrs s) a (d.handTo n s q chan y) := by
  have lagged : Sorts n (actFlds ch) (actCtrs s) a (d.lagQueue q y.hash).2 := by
    unfold Device.lagQueue
    split
    · exact h
    · split
      · exact h
      · split
        · exact h
        · split
          · exact h.count _ (outcomeCtrs_subset_actCtrs s (by decide))
          · exact h
  exact lagged.setPkt _

end Sorts

/-- The queue or the channel an act names is gone (R340). -/
def Device.staleAct (w : List Nat) (d : Device) : Bool :=
  (decide (actType w = 1) && (d.queueIdx (wordAt w 1)).isNone) || (decide (actType w = 2) && (d.chan? (wordAt w 1)).isNone)

theorem Device.staleAct_iff (w : List Nat) (d : Device) : d.staleAct w = true ↔
    (actType w = 1 ∧ d.queueIdx (wordAt w 1) = none) ∨ (actType w = 2 ∧ d.chan? (wordAt w 1) = none) := by
  simp [Device.staleAct]

theorem Quiet.staleAct (h : Quiet a d) (w : List Nat) : d.staleAct w = a.staleAct w := by
  unfold Device.staleAct
  rw [h.queueIdx, h.chan?]

/-- A packet goes the way of one whose channel closed (R315). -/
def Device.wasteClosed (n s : Nat) (x : Pkt) (d : Device) : Device := (d.count 0x001 0x938 1).endInSlice n s x true 5

/-- Whether the service channel of handle `c` is there and closed. -/
def Device.chanClosed (c : Nat) (d : Device) : Bool := match d.chan? c with | some c => c.closed | none => false

/-- A packet is punted: it waits for its tag result, or takes a buffer now unless its tag failed or its key is erased (R318, R370, R374). -/
def Device.puntTo (n s ch reason : Nat) (x : Pkt) (d : Device) : Device :=
  if x.needTag && x.tag.isNone then (d.setPkt n { x with stage := .punted ch reason }).slotDecided s false
  else ((if x.tag = some false ∨ x.erased then (false, d) else d.punt ch reason x.deep x.src x.stamp x.bytes).2).endInSlice n s x false 2

/-- A packet goes to the queue of handle `q`, unless its channel closed. -/
def Device.queueTo (n s q : Nat) (x : Pkt) (d : Device) : Device :=
  if d.chanClosed x.src.chan then d.wasteClosed n s x else d.handTo n s q x.src.chan x

/-- A packet goes to the queue of channel `c` in its direction, unless the channel closed. -/
def Device.channelTo (n s c : Nat) (x : Pkt) (d : Device) : Device :=
  match d.chan? c with
  | none => d
  | some y => if y.closed then d.wasteClosed n s x else d.handTo n s (if x.src.kind = 0 then y.usQueue else y.dsQueue) c x

/-- A packet as its edit leaves it (R341). -/
def Pkt.edited (p : Parsed) (w : List Nat) (x : Pkt) : Pkt := { x with bytes := (applyEdit p x.bytes (wordAt w 2)).1 }

/-- The device with a skipped edit of packet `x` counted (R341). -/
def Device.edits (p : Parsed) (w : List Nat) (x : Pkt) (d : Device) : Device := d.countIf (applyEdit p x.bytes (wordAt w 2)).2 0x1B3 0x880

/-- The act itself, on a packet that nothing keeps from it: a drop, a punt, or the way to a queue or a channel. -/
def Device.carriesOut (n s : Nat) (p : Parsed) (w : List Nat) (x : Pkt) (d : Device) : Device :=
  if actType w = 0 then (d.count 0x1B3 0x868 1).endInSlice n s x false 1
  else if actType w = 3 then ((d.edits p w x).count 0x1B3 0x870 1).puntTo n s (bits (wordAt w 0) 16 2) (bits (wordAt w 0) 8 8) (Pkt.edited p w x)
  else if actType w = 1 then (d.edits p w x).queueTo n s (wordAt w 1) (Pkt.edited p w x)
  else (d.edits p w x).channelTo n s (wordAt w 1) (Pkt.edited p w x)

section Acts

variable (n s domain : Nat) (p : Parsed) (w : List Nat) (x : Pkt)

theorem act_eq (d : Device) : d.act n s domain p w x =
    if d.injClosed x.src then d.wasteClosed n s x
    else if d.staleAct w then (d.count 0x1B3 0x850 1).endInSlice n s x true 5
    else if !d.separated x.src domain w then (d.count 0x1B3 0x848 1).endInSlice n s x false 5
    else d.carriesOut n s p w x := rfl

variable {n s x} {ch : Nat}

theorem Sorts.wasteClosed (h : Sorts n (actFlds ch) (actCtrs s) a d) : Sorts n (actFlds ch) (actCtrs s) a (d.wasteClosed n s x) :=
  Sorts.ends (h.count 1 (outcomeCtrs_subset_actCtrs s (by decide))) ..

theorem Sorts.puntTo (h : Sorts n (actFlds ch) cs a d) (punts : puntCtrs ⊆ cs) (ends : endCtrs s false ⊆ cs) (reason : Nat) :
    Sorts n (actFlds ch) cs a (d.puntTo n s ch reason x) := by
  unfold Device.puntTo
  split
  · exact (h.setPkt _).slotDecided false ends
  · split
    exacts [h.endInSlice _ _ (by simp [actFlds]) ends, (h.punt punts ..).endInSlice _ _ (by simp [actFlds]) ends]

theorem Sorts.queueTo (h : Sorts n (actFlds ch) (actCtrs s) a d) (q : Nat) : Sorts n (actFlds ch) (actCtrs s) a (d.queueTo n s q x) := by
  unfold Device.queueTo
  split
  exacts [h.wasteClosed, h.handTo ..]

theorem Sorts.channelTo (h : Sorts n (actFlds ch) (actCtrs s) a d) (c : Nat) : Sorts n (actFlds ch) (actCtrs s) a (d.channelTo n s c x) := by
  unfold Device.channelTo
  split
  · exact h
  · split
    exacts [h.wasteClosed, h.handTo ..]

/-- Whatever the act, only its packet, its counters and the rings of a punt and of the traces differ. -/
theorem act_sorts (d : Device) : Sorts n (actFlds (bits (wordAt w 0) 16 2)) (actCtrs s) d (d.act n s domain p w x) := by
  have start := Sorts.refl n (actFlds (bits (wordAt w 0) 16 2)) (actCtrs s) d
  have edited : Sorts n (actFlds (bits (wordAt w 0) 16 2)) (actCtrs s) d (d.edits p w x) := start.countIf _ (outcomeCtrs_subset_actCtrs s (by decide))
  rw [act_eq]
  split
  · exact start.wasteClosed
  split
  · exact (start.count 1 (outcomeCtrs_subset_actCtrs s (by decide))).ends ..
  split
  · exact (start.count 1 (outcomeCtrs_subset_actCtrs s (by decide))).ends ..
  unfold Device.carriesOut
  split
  · exact (start.count 1 (outcomeCtrs_subset_actCtrs s (by decide))).ends ..
  split
  · exact (edited.count 1 (outcomeCtrs_subset_actCtrs s (by decide))).puntTo (puntCtrs_subset_actCtrs s) (endCtrs_subset_actCtrs s false) _
  split
  · exact edited.queueTo _
  · exact edited.channelTo _

/-- No act counts the packets classified. -/
theorem act_seen (hs : s < 36) (d : Device) : (d.act n s domain p w x).ctr 0x1B3 0x810 = d.ctr 0x1B3 0x810 := by
  refine (act_sorts domain p w d).kept.2 _ _ fun c listed => ?_
  rcases List.mem_append.1 listed with counted | slot
  · exact (by decide : ∀ c ∈ outcomeCtrs ++ puntCtrs, ctrKey 0x1B3 0x810 ≠ ctrKey c.1 c.2) c counted
  · have apart := endCtrs_apart (o := 0x810) (by decide) (by decide : 0x1B3 ≠ 7) (slicePage_ne hs (.inr (by decide))).symm
    exact (List.mem_append.1 slot).elim (apart true c) (apart false c)

end Acts

end Sys2Proof.Machine
end

section
/-!
PROOFS. PACKET_CLASSIFY and TAG_EN (R327, R337, R560, R564): a classification by what ends its packet, an act by its cases, a write of TAG_EN, and the
statement `Obligations.PacketsClassify`.
-/

namespace Sys2Proof.Machine

open Sys2Proof.Safety

variable {a d e : Device} {n s p o : Nat} {x : Pkt} {fs : List Fld} {cs : List (Nat × Nat)}

/-! ### PACKET_CLASSIFY by its cases (R327, R337) -/

/-- Slice `s` takes packet `x` at instant `t`, and its trace notes it. -/
def Device.takes (t s : Nat) (x : Pkt) (d : Device) : Device := (d.slotTaken s).traceMod x.tagged (fun r => { r with dClass := some (t - r.stamp) })

theorem Device.takes_looked (t s : Nat) (x : Pkt) (a : Device) : Looked s a (a.takes t s x) := (Looked.slotTaken s a).traceMod _ _

/-- The device that goes on to classify a packet the parser found to be `p` (R334, R337). -/
def Device.goesOn (t s : Nat) (p : Parsed) (x : Pkt) (d : Device) : Device :=
  (((d.takes t s x).countIf p.deep 0x1B3 0x818).countIf p.bad 0x1B3 0x830).count 0x1B3 0x810 1

theorem Device.goesOn_looked (hs : s < 36) (t : Nat) (p : Parsed) (x : Pkt) (a : Device) : Looked s a (a.goesOn t s p x) :=
  (((a.takes_looked t s x).countIf hs _ (by decide)).countIf hs _ (by decide)).count hs 1 (by decide)

theorem Device.takes_ctr (t : Nat) (x : Pkt) (small : o < 0x1000) (other : p ≠ slicePage s) (d : Device) : (d.takes t s x).ctr p o = d.ctr p o := by
  have traced (k : Option Nat) (f : Trace → Trace) (e : Device) : (e.traceMod k f).ctr p o = e.ctr p o := by
    unfold Device.traceMod
    split <;> rfl
  exact (traced ..).trans ((Device.ctr_count_ne _ _ (ctrKey_ne small (by decide) (.inl other))).trans
    (Device.ctr_count_ne _ _ (ctrKey_ne small (by decide) (.inl other))))

theorem Device.ctr_countIf_ne {q r : Nat} (i : Bool) (d : Device) (other : ctrKey q r ≠ ctrKey p o) : (d.countIf i p o).ctr q r = d.ctr q r := by
  unfold Device.countIf
  split
  exacts [Device.ctr_count_ne _ _ other, rfl]

/-- A packet that goes on is counted. -/
theorem Device.goesOn_counts (hs : s < 36) (t : Nat) (p : Parsed) (x : Pkt) (d : Device) : Counts 0x1B3 0x810 1 d (d.goesOn t s p x) := by
  refine Counts.after (Device.ctr_count_same ..) ?_
  rw [Device.ctr_countIf_ne _ _ (by decide), Device.ctr_countIf_ne _ _ (by decide)]
  exact d.takes_ctr t x (by decide) (slicePage_ne hs (.inr (by decide))).symm

theorem Device.goesOn_misplaced (hs : s < 36) (t : Nat) (p : Parsed) (x : Pkt) (d : Device) : (d.goesOn t s p x).ctr 0x1B3 0x868 = d.ctr 0x1B3 0x868 := by
  refine (Device.ctr_count_ne _ _ (by decide)).trans ?_
  rw [Device.ctr_countIf_ne _ _ (by decide), Device.ctr_countIf_ne _ _ (by decide)]
  exact d.takes_ctr t x (by decide) (slicePage_ne hs (.inr (by decide))).symm

section Counted

variable (set : Tbl Nat) (kind : Nat) (deep : Bool) (k : List Nat) (d)

theorem classify_seen : (d.classify set kind deep k).2.ctr 0x1B3 0x810 = d.ctr 0x1B3 0x810 := by
  obtain ⟨missed, lost, stray, depth, -, counts⟩ := classify_counts set kind deep k d
  rw [counts, Device.ctr_countIf_ne _ _ (by decide), Device.ctr_countIf_ne _ _ (by decide), Device.ctr_countIf_ne _ _ (by decide),
    Device.ctr_countIf_ne _ _ (by decide)]

/-- A misplaced look-up counts only after a stopped parse. -/
theorem classify_misplaced : (d.classify set kind deep k).2.ctr 0x1B3 0x868 = d.ctr 0x1B3 0x868 ∨
    deep = true ∧ Counts 0x1B3 0x868 1 d (d.classify set kind deep k).2 := by
  obtain ⟨missed, lost, stray, depth, deepOnly, counts⟩ := classify_counts set kind deep k d
  have before : ((d.countIf missed 0x1B3 0x838).countIf lost 0x1B3 0x840).ctr 0x1B3 0x868 = d.ctr 0x1B3 0x868 := by
    rw [Device.ctr_countIf_ne _ _ (by decide), Device.ctr_countIf_ne _ _ (by decide)]
  rw [counts, Device.ctr_countIf_ne _ _ (by decide)]
  cases stray with
  | false => exact .inl before
  | true => exact .inr ⟨deepOnly rfl, (Counts.after (Device.ctr_count_same ..) before).before (Device.ctr_countIf_ne _ _ (by decide))⟩

end Counted

/-- The packet with its slot and what the parser says of it. -/
def Pkt.parsed (s : Nat) (p : Parsed) (x : Pkt) : Pkt := { x with slot := some s, deep := p.deep, lenFlag := p.bad }

theorem packetClassify_empty (t : Nat) (empty : (d.fifo s).head? = none) : packetClassify t s d = d := by
  unfold packetClassify
  rw [empty]

theorem Device.spreadWaits_iff (t : Nat) : d.spreadWaits t s x = true ↔ t < x.after ∧ ∃ e ∈ d.pkt.pkts, e.2.order < x.order ∧ e.2.entry = x.entry ∧
    ∃ q, e.2.stage = .slice q ∧ q ≠ s ∧ ∃ m ∈ d.pkt.moving, m.1 = x.entry ∧ m.2.2 = q := by
  have inSlice (y : Pkt) (f : Nat → Bool) : (Pkt.inSlice y).any f = true ↔ ∃ q, y.stage = .slice q ∧ f q = true := by
    unfold Pkt.inSlice
    cases y.stage <;> simp
  simp only [Device.spreadWaits, Bool.and_eq_true, List.any_eq_true, decide_eq_true_eq, inSlice, and_assoc]

theorem Device.injClosed_iff (src : PktSrc) : d.injClosed src = true ↔
    src.kind = 2 ∧ src.chan ≠ 0 ∧ ∀ c, d.chan? src.chan = some c → c.closed = true := by
  unfold Device.injClosed
  cases d.chan? src.chan <;> simp [and_assoc]

section Head

variable (t : Nat) (head : (d.fifo s).head? = some n) (found : d.pkt? n = some x)
include head found

theorem packetClassify_waits (waits : d.spreadWaits t s x = true) : packetClassify t s d = d := by
  unfold packetClassify
  rw [head]
  dsimp only
  rw [found]
  exact if_pos waits

variable (ready : d.spreadWaits t s x = false)
include ready

theorem packetClassify_ready : packetClassify t s d =
    let p := parse x.set x.bytes
    let dom := (d.goesOn t s p x).sourceDomain x.src p
    let r := (d.goesOn t s p x).classify x.set x.src.kind p.deep (keyWords x.set x.src dom p)
    if !(d.takes t s x).on PCL.PCL_EN then ((d.takes t s x).count 0x1B3 0x860 1).endInSlice n s { x with slot := some s } false 5
    else if p.bad ∧ setRd x.set PCL.LEN_POLICY = 0 then
      (((d.takes t s x).countIf p.deep 0x1B3 0x818).count 0x1B3 0x828 1).endInSlice n s { x with slot := some s } false 5
    else r.2.act n s dom p r.1 (Pkt.parsed s p x) := by
  unfold packetClassify
  rw [head]
  dsimp only
  rw [found]
  dsimp only
  rw [if_neg (by simp [ready])]
  rfl

variable (hs : s < 36)
include hs

/-- A packet that is classified is acted on, by the words of R337, after its look-up has counted: a misplaced one only after a stopped parse. -/
theorem packetClassify_goes (enabled : d.on PCL.PCL_EN = true) (fits : ¬ ((parse x.set x.bytes).bad = true ∧ setRd x.set PCL.LEN_POLICY = 0)) :
    let p := parse x.set x.bytes
    let dom := d.sourceDomain x.src p
    let w := (d.classify x.set x.src.kind p.deep (keyWords x.set x.src dom p)).1
    ∃ e, Looked s d e ∧ Counts 0x1B3 0x810 1 d e ∧ (e.ctr 0x1B3 0x868 = d.ctr 0x1B3 0x868 ∨ p.deep = true ∧ Counts 0x1B3 0x868 1 d e) ∧
      packetClassify t s d = e.act n s dom p w (Pkt.parsed s p x) := by
  intro p dom w
  have taken := d.takes_looked t s x
  have looked := d.goesOn_looked hs t p x
  have ready := packetClassify_ready t head found ready
  extract_lets dom' r at ready
  have sameDom : dom' = dom := looked.quiet.sourceDomain ..
  have sameWords : r.1 = w := by
    rw [show w = (d.classify x.set x.src.kind p.deep (keyWords x.set x.src dom' p)).1 from sameDom ▸ rfl]
    exact looked.quiet.classify ..
  rw [taken.quiet.on, enabled, if_neg (by decide), if_neg fits, sameDom, sameWords] at ready
  refine ⟨r.2, looked.classify hs .., (d.goesOn_counts hs t p x).before (classify_seen ..), ?_, ready⟩
  have same := d.goesOn_misplaced hs t p x
  rcases classify_misplaced (d.goesOn t s p x) x.set x.src.kind p.deep (keyWords x.set x.src dom' p) with stays | ⟨deep, counted⟩
  exacts [.inl (stays.trans same), .inr ⟨deep, counted.after same⟩]

end Head

/-! ### How a packet's slot ends (R560) -/

/-- Slice `s` took a packet between `a` and `b`, and retired it or wasted the slot. -/
def Took (s : Nat) (wasted : Bool) (a b : Device) : Prop :=
  Counts (slicePage s) 0x810 1 a b ∧ Counts (slicePage s) (decidedCtr wasted) 1 a b

/-- Packet `n` left slice `s`, where its outcome was counted at offset `o` of page `p`. -/
def Leaves (n s : Nat) (wasted : Bool) (p o : Nat) (a b : Device) : Prop := b.pkt? n = none ∧ Counts p o 1 a b ∧ Took s wasted a b

/-- The pages whose counters tell what became of a packet: the HIF's and the classifier's, among others no slice's. -/
def Outside (p : Nat) : Prop := p < 7 ∨ 52 ≤ p

theorem Outside.ne_slicePage (h : Outside p) (hs : s < 36) : p ≠ slicePage s := by
  unfold Outside slicePage at *
  omega

theorem Outside.ne_trace (h : Outside p) : p ≠ 0x007 := by
  unfold Outside at h
  omega

/-- Where a packet goes from `d`: it ends in its slice after one outcome was counted. -/
theorem Device.ends_counts (hs : s < 36) (small : o < 0x1000) (outside : Outside p) (wasted : Bool) (fate : Nat) (x : Pkt) (d : Device) :
    Counts p o 1 d ((d.count p o 1).endInSlice n s x wasted fate) :=
  Counts.before (Device.ctr_count_same ..) (Device.endInSlice_ctr _ wasted fate small outside.ne_trace (outside.ne_slicePage hs))

namespace Looked

variable (h : Looked s a d) (hs : s < 36)
include h hs

/-- No look-up has counted an outcome. -/
theorem ctr (outside : Outside p) (small : o < 0x1000) (other : p = 0x1B3 → o ∉ lookOffs) : d.ctr p o = a.ctr p o := by
  refine h.kept.2 _ _ fun c listed => ?_
  simp only [lookCtrs, List.mem_cons, List.mem_map] at listed
  rcases listed with rfl | rfl | ⟨r, found, rfl⟩
  · exact ctrKey_ne small (show 0x810 < 0x1000 by decide) (.inl (outside.ne_slicePage hs))
  · exact ctrKey_ne small (show 0x838 < 0x1000 by decide) (.inl (outside.ne_slicePage hs))
  · refine ctrKey_ne small ((by decide : ∀ r ∈ lookOffs, r < 0x1000) r found) ?_
    by_contra same
    obtain ⟨rfl, rfl⟩ := not_or.1 same |>.imp not_not.1 not_not.1
    exact other rfl found

theorem decided_ctr (wasted : Bool) : d.ctr (slicePage s) (decidedCtr wasted) = a.ctr (slicePage s) (decidedCtr wasted) := by
  refine h.kept.2 _ _ fun c listed => ?_
  simp only [lookCtrs, List.mem_cons, List.mem_map] at listed
  rcases listed with rfl | rfl | ⟨r, found, rfl⟩
  · exact ctrKey_ne (decidedCtr_lt _) (show 0x810 < 0x1000 by decide) (.inr (show decidedCtr wasted ≠ 0x810 by cases wasted <;> decide))
  · exact ctrKey_ne (decidedCtr_lt _) (show 0x838 < 0x1000 by decide) (.inr (show decidedCtr wasted ≠ 0x838 by cases wasted <;> decide))
  · exact ctrKey_ne (decidedCtr_lt _) ((by decide : ∀ r ∈ lookOffs, r < 0x1000) r found) (.inl (slicePage_ne hs (.inr (by decide : 52 ≤ 0x1B3))))

variable {wasted : Bool} (goes : Sorts n fs cs d e) (outside : ∀ c ∈ cs, Outside c.1 ∧ c.2 < 0x1000)
include goes outside

theorem decided : Took s wasted a (e.slotDecided s wasted) := by
  have reads {o : Nat} (small : o < 0x1000) : e.ctr (slicePage s) o = d.ctr (slicePage s) o :=
    goes.kept.2 _ _ fun c listed => ctrKey_ne small (outside c listed).2 (.inl ((outside c listed).1.ne_slicePage hs).symm)
  refine ⟨(h.taken.before (reads (by decide))).before (Device.slotDecided_ctr _ _ (by decide) (by decide) ?_),
    (Device.slotDecided_counts ..).after ((reads (decidedCtr_lt _)).trans (h.decided_ctr hs wasted))⟩
  cases wasted <;> decide

theorem took (fate : Nat) (x : Pkt) : Took s wasted a (e.endInSlice n s x wasted fate) := by
  obtain ⟨slot, ended⟩ := h.decided hs (wasted := wasted) goes.dropPkt outside
  exact ⟨slot.before (Device.traceFate_ctr (by decide) (slicePage_ne hs (.inl (by decide)))),
    ended.before (Device.traceFate_ctr (decidedCtr_lt _) (slicePage_ne hs (.inl (by decide))))⟩

omit goes outside in
theorem ends (outside : Outside p) (small : o < 0x1000) (other : p = 0x1B3 → o ∉ lookOffs) (wasted : Bool) (fate : Nat) (x : Pkt) :
    Leaves n s wasted p o a ((d.count p o 1).endInSlice n s x wasted fate) := by
  refine ⟨Device.endInSlice_pkt? .., (d.ends_counts hs small outside wasted fate x).after (h.ctr hs outside small other), ?_⟩
  have counted : Sorts n [] [(p, o)] d (d.count p o 1) := (Sorts.refl ..).count 1 (List.mem_singleton_self _)
  exact h.took hs counted (by simpa using ⟨outside, small⟩) fate x

omit goes outside in
theorem wasteClosed (x : Pkt) : Leaves n s true 0x001 0x938 a (d.wasteClosed n s x) := h.ends hs (.inl (by decide)) (by decide) (by decide) ..

omit goes outside in
/-- The slot of a punted packet is retired, whether the punt goes, fails or waits for a tag result. -/
theorem puntTo_took (ch reason : Nat) (x : Pkt) : Took s false a ((d.count 0x1B3 0x870 1).puntTo n s ch reason x) := by
  have counted : Sorts n (actFlds ch) ((0x1B3, 0x870) :: puntCtrs) d (d.count 0x1B3 0x870 1) := (Sorts.refl ..).count 1 List.mem_cons_self
  have outside : ∀ c ∈ (0x1B3, 0x870) :: puntCtrs, Outside c.1 ∧ c.2 < 0x1000 := by
    unfold Outside
    decide
  unfold Device.puntTo
  split
  · exact h.decided hs (counted.setPkt _) outside
  · split
    · exact h.took hs counted outside ..
    · exact h.took hs (counted.punt (List.subset_cons_self ..) ..) outside ..

end Looked

theorem Device.puntTo_ctr (hs : s < 36) (ch reason : Nat) (x : Pkt) (d : Device) : (d.puntTo n s ch reason x).ctr 0x1B3 0x870 = d.ctr 0x1B3 0x870 := by
  have sorts : Sorts n (actFlds ch) (puntCtrs ++ endCtrs s false) d (d.puntTo n s ch reason x) :=
    (Sorts.refl ..).puntTo (List.subset_append_left ..) (List.subset_append_right ..) reason
  refine sorts.kept.2 _ _ fun c listed => ?_
  rcases List.mem_append.1 listed with punts | slot
  · exact (by decide : ∀ c ∈ puntCtrs, ctrKey 0x1B3 0x870 ≠ ctrKey c.1 c.2) c punts
  · exact endCtrs_apart (by decide) (by decide) (slicePage_ne hs (.inr (by decide))).symm false c slot

/-- A punted packet stays only to wait for its tag result (R318, R370). -/
theorem Device.puntTo_pkt? (ch reason : Nat) (x : Pkt) (d : Device) : (d.puntTo n s ch reason x).pkt? n =
    if x.needTag = true ∧ x.tag = none then some { x with stage := .punted ch reason } else none := by
  unfold Device.puntTo
  split
  · next waits => exact (Device.pkt?_setPkt ..).trans (if_pos (by simpa using waits)).symm
  · next goes => exact (Device.endInSlice_pkt? ..).trans (if_neg (by simpa using goes)).symm

/-- A packet of slice `s` handed to the queue of handle `q` on channel `c`. -/
def Pkt.handedTo (s q c : Nat) (x : Pkt) : Pkt := { x with stage := .handed, slot := some s, queue := q, chan := c }

/-- The queue's link group chooses the queue that a packet is handed to (R407, R435). -/
theorem Device.handTo_pkt? (q c : Nat) (x : Pkt) (d : Device) : (d.handTo n s q c x).pkt? n = some (Pkt.handedTo s (d.lagQueue q x.hash).1 c x) :=
  Device.pkt?_setPkt ..

/-! ### The acts by their cases (R315, R339 to R343) -/

namespace Looked

variable {domain : Nat} {pp : Parsed} {w : List Nat} (h : Looked s a d) (hs : s < 36)
include h

/-- What keeps a packet from its act stands in `a` as in `d`. -/
theorem act : d.act n s domain pp w x =
    if a.injClosed x.src then d.wasteClosed n s x
    else if a.staleAct w then (d.count 0x1B3 0x850 1).endInSlice n s x true 5
    else if !a.separated x.src domain w then (d.count 0x1B3 0x848 1).endInSlice n s x false 5
    else d.carriesOut n s pp w x := by
  rw [act_eq, h.quiet.injClosed, h.quiet.staleAct, h.quiet.separated]

include hs

theorem act_gone (gone : a.injClosed x.src = true) : Leaves n s true 0x001 0x938 a (d.act n s domain pp w x) := by
  rw [h.act, if_pos gone]
  exact h.wasteClosed hs x

variable (there : a.injClosed x.src = false)
include there

theorem act_stale (stale : a.staleAct w = true) : Leaves n s true 0x1B3 0x850 a (d.act n s domain pp w x) := by
  rw [h.act, if_neg (by simp [there]), if_pos stale]
  exact h.ends hs (.inr (by decide)) (by decide) (by decide) ..

variable (fresh : a.staleAct w = false)
include fresh

theorem act_apart (apart : a.separated x.src domain w = false) : Leaves n s false 0x1B3 0x848 a (d.act n s domain pp w x) := by
  rw [h.act, if_neg (by simp [there]), if_neg (by simp [fresh]), if_pos (by simp [apart])]
  exact h.ends hs (.inr (by decide)) (by decide) (by decide) ..

omit hs in
theorem act_meets (meets : a.separated x.src domain w = true) : d.act n s domain pp w x = d.carriesOut n s pp w x := by
  rw [h.act, if_neg (by simp [there]), if_neg (by simp [fresh]), if_neg (by simp [meets])]

omit there fresh

/-- A drop is counted beside what a misplaced look-up counted. -/
theorem drop (drops : actType w = 0) : let b := d.carriesOut n s pp w x; b.pkt? n = none ∧ Took s false a b ∧ Counts 0x1B3 0x868 1 d b := by
  have dropped : Sorts n [] [(0x1B3, 0x868)] d (d.count 0x1B3 0x868 1) := (Sorts.refl ..).count 1 (List.mem_singleton_self _)
  unfold Device.carriesOut
  rw [if_pos drops]
  exact ⟨Device.endInSlice_pkt? .., h.took hs dropped (by unfold Outside; decide) .., d.ends_counts hs (by decide) (.inr (by decide)) ..⟩

theorem edits : Looked s a (d.edits pp w x) := h.countIf hs _ (by decide)

/-- A punt is counted, its slot retired, and its packet stays only to wait for its tag result (R318, R370). -/
theorem punted (punts : actType w = 3) : let b := d.carriesOut n s pp w x
    Counts 0x1B3 0x870 1 a b ∧ Took s false a b ∧ b.pkt? n = if x.needTag = true ∧ x.tag = none
      then some { Pkt.edited pp w x with stage := .punted (bits (wordAt w 0) 16 2) (bits (wordAt w 0) 8 8) } else none := by
  have edited := h.edits (pp := pp) (w := w) (x := x) hs
  unfold Device.carriesOut
  rw [if_neg (by simp [punts]), if_pos punts]
  have before := edited.ctr (p := 0x1B3) (o := 0x870) hs (.inr (by decide)) (by decide) (by decide)
  exact ⟨(Counts.after (Device.ctr_count_same ..) before).before (Device.puntTo_ctr hs ..), edited.puntTo_took hs .., Device.puntTo_pkt? ..⟩

omit hs in
/-- The link group chooses the queue in `a` as in `d` (R435). -/
theorem handTo (q c : Nat) : (d.handTo n s q c x).pkt? n = some (Pkt.handedTo s (a.lagQueue q x.hash).1 c x) := by
  rw [Device.handTo_pkt?, h.quiet.lagQueue]

theorem queued (queues : actType w = 1) : let b := d.carriesOut n s pp w x; let y := Pkt.edited pp w x
    (a.chanClosed x.src.chan = true → Leaves n s true 0x001 0x938 a b) ∧ (a.chanClosed x.src.chan = false →
      b.pkt? n = some (Pkt.handedTo s (a.lagQueue (wordAt w 1) x.hash).1 x.src.chan y)) := by
  intro b y
  have edited := h.edits (pp := pp) (w := w) (x := x) hs
  have closed : (d.edits pp w x).chanClosed y.src.chan = a.chanClosed x.src.chan := by
    unfold Device.chanClosed
    rw [edited.quiet.chan?]
    rfl
  have same : b = if a.chanClosed x.src.chan then (d.edits pp w x).wasteClosed n s y else (d.edits pp w x).handTo n s (wordAt w 1) y.src.chan y := by
    rw [← closed]
    exact (if_neg (by simp [queues])).trans ((if_neg (by simp [queues])).trans (if_pos queues))
  rw [same]
  refine ⟨fun shut => ?_, fun stays => ?_⟩
  · rw [if_pos shut]
    exact edited.wasteClosed hs y
  · rw [if_neg (by simp [stays])]
    exact edited.handTo ..

theorem channelled (channels : actType w = 2) {c : SvcChan} (found : a.chan? (wordAt w 1) = some c) :
    let b := d.carriesOut n s pp w x; let y := Pkt.edited pp w x
    (c.closed = true → Leaves n s true 0x001 0x938 a b) ∧ (c.closed = false →
      b.pkt? n = some (Pkt.handedTo s (a.lagQueue (if x.src.kind = 0 then c.usQueue else c.dsQueue) x.hash).1 (wordAt w 1) y)) := by
  intro b y
  have edited := h.edits (pp := pp) (w := w) (x := x) hs
  have same : b = if c.closed then (d.edits pp w x).wasteClosed n s y
      else (d.edits pp w x).handTo n s (if x.src.kind = 0 then c.usQueue else c.dsQueue) (wordAt w 1) y := by
    refine (if_neg (by simp [channels])).trans ((if_neg (by simp [channels])).trans ((if_neg (by simp [channels])).trans ?_))
    unfold Device.channelTo
    rw [edited.quiet.chan?, found]
    rfl
  rw [same]
  refine ⟨fun shut => ?_, fun stays => ?_⟩
  · rw [if_pos shut]
    exact edited.wasteClosed hs y
  · rw [if_neg (by simp [stays])]
    exact edited.handTo ..

end Looked

/-! ### What an ingress and a classification leave alone -/

theorem Sorts.append {fs' : List Fld} {cs' : List (Nat × Nat)} (h : Sorts n fs cs a d) (h' : Sorts n fs' cs' d e) : Sorts n (fs ++ fs') (cs ++ cs') a e :=
  (h.weaken (List.subset_append_left ..) (List.subset_append_left ..)).trans (h'.weaken (List.subset_append_right ..) (List.subset_append_right ..))

theorem packetClassify_sorts (t : Nat) (head : (d.fifo s).head? = some n) (found : d.pkt? n = some x) (ready : d.spreadWaits t s x = false) (hs : s < 36) :
    ∃ fs cs, Sorts n fs cs d (packetClassify t s d) := by
  have ending (o : Nat) (y : Pkt) (e : Device) : Sorts n [MON.TRACE_PRODUCED] ((0x1B3, o) :: endCtrs s false) e ((e.count 0x1B3 o 1).endInSlice n s y false 5) :=
    ((Sorts.refl ..).count 1 List.mem_cons_self).endInSlice _ _ (List.mem_singleton_self _) (List.subset_cons_self ..)
  rw [packetClassify_ready t head found ready]
  dsimp only
  split
  · exact ⟨_, _, ((d.takes_looked t s x).sorts n).append (ending ..)⟩
  · split
    · exact ⟨_, _, (((d.takes_looked t s x).countIf hs _ (by decide)).sorts n).append (ending ..)⟩
    · exact ⟨_, _, (((d.goesOn_looked hs t _ x).classify hs ..).sorts n).append (act_sorts ..)⟩

section Ended

variable (t : Nat) (head : (d.fifo s).head? = some n) (found : d.pkt? n = some x) (ready : d.spreadWaits t s x = false) (hs : s < 36)
include head found ready hs

theorem packetClassify_off (off : d.on PCL.PCL_EN = false) : Leaves n s false 0x1B3 0x860 d (packetClassify t s d) := by
  have taken := d.takes_looked t s x
  have same := packetClassify_ready t head found ready
  rw [taken.quiet.on, off, if_pos (by decide)] at same
  exact same ▸ taken.ends hs (.inr (by decide)) (by decide) (by decide) ..

theorem packetClassify_bad (enabled : d.on PCL.PCL_EN = true) (bad : (parse x.set x.bytes).bad = true) (policy : setRd x.set PCL.LEN_POLICY = 0) :
    Leaves n s false 0x1B3 0x828 d (packetClassify t s d) := by
  have taken := d.takes_looked t s x
  have same := packetClassify_ready t head found ready
  rw [taken.quiet.on, enabled, if_neg (by decide), if_pos ⟨bad, policy⟩] at same
  exact same ▸ (taken.countIf hs _ (by decide)).ends hs (.inr (by decide)) (by decide) (by decide) ..

end Ended

/-! ### TAG_EN (R564) -/

/-- A write of TAG_EN that is taken: 1 loads the crossings' registers and takes TAG_N. -/
theorem tagEn_taken (t : Nat) {m : Master} (v : Bool) (a : Device) (hm : m ≠ .pf1) : tagEn t m v a =
    { a.wr MON.TAG_EN (b2n v) with
      mon := { a.mon with lfsr := if v then lfsrLoad (a.rd MON.TAG_SEED) else a.mon.lfsr, tagN := if v then a.rd MON.TAG_N else a.mon.tagN } } := by
  have seed : (a.wr MON.TAG_EN (b2n v)).rd MON.TAG_SEED = a.rd MON.TAG_SEED := Device.rd_wr_ne _ _ (by decide)
  have period : (a.wr MON.TAG_EN (b2n v)).rd MON.TAG_N = a.rd MON.TAG_N := Device.rd_wr_ne _ _ (by decide)
  refine (Device.asMaster_k1 hm).trans ?_
  cases v with
  | false => rfl
  | true => simp only [if_true, seed, period, Device.wr_mon]

end Sys2Proof.Machine

namespace Sys2Proof.Safety

open Sys2Proof.Machine

/-! ### The statement -/

/-- Settles O45: an ingress by whether the packet's turn has come and its FIFO has room, a classification by what ends the packet or carries out its act,
and a write of TAG_EN by its master. -/
theorem packetsClassify : Obligations.PacketsClassify := by
  unfold Obligations.PacketsClassify
  refine ⟨fun t n s hr => Makes.intro hr (exec_packetIngress ..) ?_, fun t sl s hr => Makes.intro hr (exec_packetClassify ..) ?_,
    fun t m v s hr => Makes.intro hr (exec_tagEn ..) ?_⟩
  all_goals generalize s.dev.arrive t = a
  case refine_1 =>
    refine ⟨packetIngress_none _, fun x found => ?_⟩
    intro set h sl go
    have free : go ↔ x.stage = .crossing ∧ a.crossingBusy n x = false := and_congr_right fun _ => Device.crossingBusy_eq_false_iff.symm
    have sorts := packetIngress_sorts a.now found
    refine ⟨fun stays => packetIngress_waiting _ found (mt free.2 stays), fun goes full => packetIngress_full _ found (free.1 goes) full, fun goes room => ?_,
      sorts.others, sorts.cells, sorts.svc, sorts.fret, sorts.rng, sorts.kept⟩
    obtain ⟨uncounted, enters⟩ := packetIngress_enters a.now found (free.1 goes) room
    exact ⟨uncounted, _, enters, rfl, rfl, rfl, rfl, rfl, rfl, rfl, Device.tagAt_none_iff ..⟩
  case refine_2 =>
    have hs := sl.isLt
    refine ⟨packetClassify_empty _, fun n x head found => ?_⟩
    intro waits p w target y ty took ends goes stale gone source handed
    refine ⟨fun h => packetClassify_waits _ head found ((Device.spreadWaits_iff _).2 h), fun h => ?_⟩
    have ready : a.spreadWaits a.now sl.val x = false := Bool.eq_false_iff.2 (mt (Device.spreadWaits_iff _).1 h)
    obtain ⟨fs, cs, sorts⟩ := packetClassify_sorts a.now head found ready hs
    have there (h : ¬ gone) : a.injClosed x.src = false := Bool.eq_false_iff.2 (mt (Device.injClosed_iff _).1 h)
    have fresh (h : ¬ stale) : a.staleAct w = false := Bool.eq_false_iff.2 (mt (Device.staleAct_iff ..).1 h)
    have acts (h : goes) : ∃ e, Looked sl.val a e ∧ Counts 0x1B3 0x810 1 a e ∧
        (e.ctr 0x1B3 0x868 = a.ctr 0x1B3 0x868 ∨ p.deep = true ∧ Counts 0x1B3 0x868 1 a e) ∧
        packetClassify a.now sl.val a = e.act n sl.val (a.sourceDomain x.src p) p w (Pkt.parsed sl.val p x) :=
      packetClassify_goes a.now head found ready hs h.1 h.2
    refine ⟨sorts.others, sorts.cells, sorts.svc, sorts.fret, sorts.rng, fun off => ?_, fun enabled bad policy => ?_, fun goes => ?_, fun goes isGone => ?_,
      fun goes notGone isStale => ?_, fun goes notGone notStale apart => ?_, fun goes notGone notStale meets => ?_⟩
    · exact packetClassify_off a.now head found ready hs off
    · exact packetClassify_bad a.now head found ready hs enabled bad policy
    · obtain ⟨e, -, seen, -, same⟩ := acts goes
      rw [same]
      exact seen.before (act_seen _ _ _ hs _)
    · obtain ⟨e, looked, -, -, same⟩ := acts goes
      show Leaves n sl.val true 0x001 0x938 a (packetClassify a.now sl.val a)
      exact same ▸ looked.act_gone hs ((Device.injClosed_iff _).2 isGone)
    · obtain ⟨e, looked, -, -, same⟩ := acts goes
      show Leaves n sl.val true 0x1B3 0x850 a (packetClassify a.now sl.val a)
      exact same ▸ looked.act_stale hs (there notGone) ((Device.staleAct_iff ..).2 isStale)
    · obtain ⟨e, looked, -, -, same⟩ := acts goes
      show Leaves n sl.val false 0x1B3 0x848 a (packetClassify a.now sl.val a)
      exact same ▸ looked.act_apart hs (there notGone) (fresh notStale) apart
    · obtain ⟨e, looked, -, misplaced, same⟩ := acts goes
      have carried := same.trans (looked.act_meets (there notGone) (fresh notStale) meets)
      refine ⟨fun drops => ?_, fun punts => ?_, fun queues => ?_, fun channels c found => ?_⟩
      · obtain ⟨isGone, slot, counted⟩ := looked.drop (n := n) (x := Pkt.parsed sl.val p x) (pp := p) hs drops
        rw [← carried] at isGone slot counted
        refine ⟨isGone, slot, ?_⟩
        rcases misplaced with stays | ⟨deep, stray⟩
        exacts [⟨1, .inl rfl, counted.after stays⟩, ⟨2, .inr ⟨deep, rfl⟩, stray.trans counted⟩]
      · obtain ⟨counted, slot, goesTo⟩ := looked.punted (n := n) (x := Pkt.parsed sl.val p x) (pp := p) hs punts
        rw [← carried] at counted slot goesTo
        refine ⟨counted, slot, ?_⟩
        split
        · next waits => exact ⟨_, goesTo.trans (if_pos waits), rfl, rfl⟩
        · next goes => exact goesTo.trans (if_neg goes)
      · obtain ⟨shut, stays⟩ := looked.queued (n := n) (x := Pkt.parsed sl.val p x) (pp := p) hs queues
        rw [← carried] at shut stays
        exact ⟨shut, fun h => ⟨_, stays h, rfl, rfl, rfl, rfl, rfl, rfl⟩⟩
      · obtain ⟨shut, stays⟩ := looked.channelled (n := n) (x := Pkt.parsed sl.val p x) (pp := p) hs channels found
        rw [← carried] at shut stays
        exact ⟨shut, fun h => ⟨_, stays h, rfl, rfl, rfl, rfl, rfl, rfl⟩⟩
  case refine_3 =>
    refine ⟨fun user => ?_, fun hm => ?_⟩
    · subst user
      exact refused_asMaster _ a .k1
    · rw [tagEn_taken _ v a hm]
      exact ⟨Device.on_wr_b2n v rfl, rfl, ((Kept.refl ..).wr _ ⟨MON.TAG_EN, List.mem_singleton_self _, rfl⟩).same rfl rfl⟩

end Sys2Proof.Safety
end
